-- ==== Sys2Proof/Word.lean ====
section
/-! DEFINITION. The word types of the device and the plainest arithmetic over them. -/

namespace Sys2Proof

/-- A register, operand or memory word: 64 data bits. -/
abbrev W64 := BitVec 64

/-- A byte. -/
abbrev Byte := BitVec 8

/-- A word on a transport bus: 64 data bits and a 4-bit tag (R12). -/
structure TWord where
  data : W64
  tag : BitVec 4
deriving DecidableEq, Repr

/-- A word with tag PLAIN (R12). -/
def TWord.plain (w : W64) : TWord := ⟨w, 0#4⟩

/-- Bits `[hi:lo]` of a word, as a number. -/
def field (w : W64) (hi lo : Nat) : Nat := (w.toNat >>> lo) % 2 ^ (hi + 1 - lo)

/-- The word with bits `[hi:lo]` replaced by the low bits of `v`. -/
def setField (w : W64) (hi lo v : Nat) : W64 :=
  let m := (2 ^ (hi + 1 - lo) - 1) <<< lo
  BitVec.ofNat 64 ((w.toNat &&& (2 ^ 64 - 1 - m)) ||| ((v % 2 ^ (hi + 1 - lo)) <<< lo))

/-- Bit `i` of a word. -/
def bit (w : W64) (i : Nat) : Bool := w.getLsbD i

/-- A Bool as a number, 0 or 1. -/
def b2n (b : Bool) : Nat := if b then 1 else 0

/-- A number as a word, modulo 2^64. -/
def w64 (n : Nat) : W64 := BitVec.ofNat 64 n

end Sys2Proof
end

