-- ==== Sys2Proof/Syntax.lean ====
section
/-! DEFINITION. The commands and events of the device: one constructor of `Instr` for each row of the opcode table,
and the operands they carry. -/

namespace Sys2Proof

/-- Address forms of the LSU (R157, R158). -/
inductive LsuForm where
  | disp | postInc | preDec | indexed
deriving DecidableEq, Repr

/-- How one attempt of an access through port A fares against port B (R246). -/
inductive PortMeet where
  /-- no conflict, or none that tells on either access -/
  | clear
  /-- the access of port B that begins during it is answered BUSY once; a read receives undefined data from it -/
  | ahead
  /-- the access of port B that begins during it is answered BUSY, and again when re-issued -/
  | aheadTwice
  /-- an access of port B began before it: BUSY -/
  | behind
  /-- a write that a read of port B began before: BUSY, and that read receives undefined data -/
  | behindRead
deriving DecidableEq, Repr

/-- The attempt is answered BUSY. -/
def PortMeet.busy (m : PortMeet) : Bool := m == .behind || m == .behindRead

/-- What the dual-port rule answers to an access of one word of Grove memory (R246, R247): its first attempt, done
unless it is answered BUSY, and the one re-issued after that. Any other memory answers `done`. -/
structure PortAnswer where
  first : PortMeet
  again : PortMeet
deriving DecidableEq, Repr

/-- Done, without a conflict. -/
def PortAnswer.done : PortAnswer := ⟨.clear, .clear⟩

/-- Done in its first attempt, which fared so. -/
def PortAnswer.once (m : PortMeet) : PortAnswer := ⟨m, .clear⟩

/-- BUSY answers that the access receives. -/
def PortAnswer.busyCount (p : PortAnswer) : Nat := if p.first.busy then (if p.again.busy then 2 else 1) else 0

/-- The access was answered BUSY again when it was re-issued (R247). -/
def PortAnswer.failed (p : PortAnswer) : Bool := p.first.busy && p.again.busy

/-- The attempt that ended the access. -/
def PortAnswer.last (p : PortAnswer) : PortMeet := if p.first.busy then p.again else p.first

/-- The address form of a store trigger, and what the dual-port rule answers to the words of Grove memory that a
transactional store merges with (R172, R309); `done` for those not listed. -/
structure StoreForm where
  form : LsuForm
  ports : List PortAnswer
deriving DecidableEq, Repr

/-- A Glade that runs an M3 store, and the same answers. -/
structure StoreCore where
  core : Fin 256
  ports : List PortAnswer
deriving DecidableEq, Repr

/-- What a PCIe link trained to: speed code 1 to 5, lanes in use, reversal (R437). -/
structure Trained where
  speed : Fin 8
  width : Fin 17
  reversed : Bool
deriving DecidableEq, Repr

/-- A request that a PCIe device makes of a root complex (R439). -/
inductive InboundReq where
  | read (addr : Nat) (n : Nat)
  | write (addr : Nat) (data : List Byte)
  | other
deriving DecidableEq, Repr

/-- What the boot flash answers to a command of `UST_XSPI_CMD` (R448): bytes read, bytes its own program or erase
changed, and after how many nanoseconds its status is ready, 0 at once; none: not within 10 s. -/
structure FlashReply where
  data : List Byte
  stored : List (Nat × Byte)
  ready : Option Nat
deriving DecidableEq, Repr

/-- The Groves whose logic domain (GROVE_L) or memory domain (GROVE_M) does not wake while a Stand Map is applied
(R70). -/
structure GroveFails where
  logic : BitVec 16
  mem : BitVec 16
deriving DecidableEq, Repr

/-- A write of `HW_PUSH`, and the Groves that do not wake when it has the pushed image applied (R70, R86). -/
structure PushWrite where
  value : W64
  fails : GroveFails
deriving DecidableEq, Repr

/-- How an issue of an NVMe command fails (R348): an error with Do Not Retry, another error, or no completion in time. -/
inductive IoMiss where
  | doNotRetry
  | error
  | timeout
deriving DecidableEq, Repr

/-- A command of an open whose first issue fails, and how its second issue, where it has one, fails; none: it succeeds
(R330, R348). `which`: its number among the open's commands of its list, counted round. -/
structure IoRetry where
  which : Nat
  first : IoMiss
  second : Option IoMiss
deriving DecidableEq, Repr

/-- How a PCIe read fails (R439): Unsupported Request, Completer Abort, a poisoned completion, or none within 50 ms. -/
inductive PcieMiss where
  | unsupported
  | abort
  | poisoned
  | timeout
deriving DecidableEq, Repr

/-- What the devices behind root ports answer to the reads that a command makes of root-port windows, in the order of the
reads (R439): the bytes of those that succeed, one after another. The first read that they do not fill fails with
`miss`. -/
structure PcieReply where
  data : List Byte
  miss : PcieMiss
deriving DecidableEq, Repr

/-- What the board answers to an access that it takes part in: the flash (R448), an I2C device (R449: RESULT and bytes
read), the drive of a journal that is opened (R330, R348: `readOk` and `timely`, the reads of the scan and the other
commands of the open that fail at their first issue), and a root-port window that is read (R439). `fails`: the Groves
that do not wake when the command has a pushed image applied (R70). -/
structure BoardReply where
  flash : FlashReply
  i2cResult : Fin 6
  i2cData : List Byte
  readOk : List IoRetry
  timely : List IoRetry
  pcie : PcieReply
  /-- what the dual-port rule answers to the words of Grove memory that the command accesses through port A, in the
  order of the accesses; `done` for those not listed (R246) -/
  ports : List PortAnswer
  fails : GroveFails
deriving DecidableEq, Repr

/-- What a host TLP to the endpoint names: one of its BARs (R85, R441), or its configuration space (R440, R443). -/
inductive HostBar where
  | config
  | bar0
  | bar2
  | bar4
deriving DecidableEq, Repr

/-- A host TLP (R441). -/
inductive HostReq where
  | read (n : Nat)
  | write (data : List Byte)
deriving DecidableEq, Repr

/-- A signed request of SVC_ENTER (R453). -/
structure SvcRequest where
  slot : Fin 4
  pubkey : BitVec 512
  sigR : BitVec 256
  sigS : BitVec 256
deriving DecidableEq, Repr

/-- What the temperature sensors read, in signed degrees Celsius (R528): the Heartwood's, and one for each Grove. -/
structure TempSensors where
  heartwood : BitVec 16
  groves : List (BitVec 16)
deriving DecidableEq, Repr

/-- What the Lookout sampler reads at one sample (R408): GPIO inputs that read active, the temperature sensors, VSENSE in
µV (R526), signal detects, and the periods of the RC oscillator since Lookout was entered (R410). -/
structure LookoutReading where
  gpio : BitVec 16
  temp : TempSensors
  vsense : Int
  sd : BitVec 96
  elapsed : BitVec 64
deriving DecidableEq, Repr

/-- What a clock monitor sees of a PLL's lock in a window (R426): held throughout; lost and regained; lost, and still so
at the end. -/
inductive LockSeen where
  | held
  | regained
  | lost
deriving DecidableEq, Repr

/-- What a clock monitor sees of one clock in a 4 µs window (R426): its periods, and its PLL's lock. -/
structure ClockWindow where
  count : Nat
  lock : LockSeen
deriving DecidableEq, Repr

/-- Consecutive samples of a trigger input, 10 ns apart, at one level of the pin (R386). -/
structure PinRun where
  high : Bool
  samples : Nat
deriving DecidableEq, Repr

/-- A Rootlink flit as it arrives (R458), its TYPE and, but for MSG, its SUB given by the command: `sub`, the SUB of a
CTRL flit that MSG gives, 0xB or one that R469 does not define; the header's FSEQ, ACK, LIMIT and [63:48]; payload
words 1 to 6; word 7, its CRC; `reserved`, where its TYPE is 7 + k, which R459 reserves, and not the command's. -/
structure Flit where
  sub : BitVec 4
  fseq : BitVec 12
  ack : BitVec 12
  limit : BitVec 16
  top : BitVec 16
  words : List W64
  crc : W64
  reserved : Option (Fin 9)
deriving DecidableEq, Repr

/-- A domain whose wake step times out, and the periods of the RC oscillator since the entry to LOOKOUT (R405, R410). -/
structure StepTimeout where
  domain : Fin 64
  elapsed : W64
deriving DecidableEq, Repr

/-- A BOOT_END flit, and the Groves that do not wake when it has the staged image applied (R70, R87). -/
structure BootEndFlit where
  flit : Flit
  fails : GroveFails
deriving DecidableEq, Repr

/-- What the reads of a CKU block answer: the bytes of a window that its device gives, and the port answers of Grove
memory (R145, R246). -/
structure BlockAnswer where
  bytes : PcieReply
  ports : List PortAnswer
deriving DecidableEq, Repr

/-- How the application of a transaction goes: `refused`, the TXU's own storage is uncorrectable (R322), and the port
answers of its writes (R247). -/
structure ApplyAnswer where
  refused : Bool
  ports : List PortAnswer
deriving DecidableEq, Repr

/-- A TRAIN flit of an attempt (R456), as lane 0 receives it: whether the lanes of the link have block lock and are
deskewed (steps 2 and 3), the flit, and the engine cycle count at its arrival. -/
structure TrainFlit where
  locked : Bool
  flit : Flit
  cycles : W64
deriving DecidableEq, Repr

/-- What the ROM finds on a DDR channel (R257): ranks that train (0: none), and the density and speed codes of
`DDR_CHn_CFG`. -/
structure DramFound where
  ranks : Fin 3
  density : Fin 3
  speed : Fin 3
deriving DecidableEq, Repr

/-- A namespace of an NVMe drive on the board, as the checks of R330 find it. -/
structure Namespace where
  nsid : Nat
  /-- log2 of the LBA data size -/
  lbaShift : Nat
  /-- metadata, or end-to-end protection enabled -/
  metadata : Bool
  /-- capacity in bytes -/
  capacity : Nat
  readOnly : Bool
deriving DecidableEq, Repr

/-- An NVMe controller on the board, as Identify and PCIe enumeration find it (R347). -/
structure Controller where
  /-- it can be enabled and its queues created -/
  ready : Bool
  /-- volatile write cache present, and maximum data transfer size -/
  vwc : Bool
  mdts : BitVec 8
  bus : BitVec 8
  device : BitVec 5
  function : BitVec 3
  /-- its active namespaces -/
  spaces : List Namespace
deriving DecidableEq, Repr

/-- What the board and the silicon show to the ROM while it runs (R75 to R88), and the NVMe controllers that the firmware
then finds, by 8 × complex + CTRL (R347). -/
structure BootWorld where
  /-- BOOT_SRC and ROLE straps -/
  bootSrc : Fin 4
  role : Fin 4
  /-- the one of HEARTWOOD (false) and CANOPY (true) that does not wake, if any -/
  hwFails : Option Bool
  /-- the staging Grove that does not wake, if any -/
  stagingFail : Option (Fin 9)
  /-- Groves that do not wake at application -/
  grovesFail : GroveFails
  /-- size in bytes that the flash's table gives; none: the flash does not answer -/
  flash : Option Nat
  /-- reads of each slot that fail: 0 none, 1 once, 2 twice -/
  readA : Fin 3
  readB : Fin 3
  /-- the DDR channels -/
  dram : List DramFound
  drives : List (Fin 16 × Controller)
deriving DecidableEq, Repr

/-- What became of a PCIe read or configuration request (R439). -/
inductive Completion where
  | data (v : W64)
  | unsupported
  | abort
  | poisoned
deriving DecidableEq, Repr

/-- A wake source outside the device (R403): a GPIO input, or a lane's signal detect. -/
inductive WakeSource where
  | gpio (n : Fin 16)
  | lane (n : Fin 96)
deriving DecidableEq, Repr

/-- How a bit fails (R487, R507): it flips where it is stored, it sticks at a value, or it reads inverted in the next
`n` reads while the stored bit stays good (a passing upset, which the re-read of R242 tells from a lasting fault). -/
inductive FlipHow where
  | flips
  | sticks (v : Bool)
  | reads (n : Nat)
deriving DecidableEq, Repr

/-- A bit that fails: of a word of SRAM by its address, of a burst of DRAM, or of a register of a core (64: its program
counter), which flips, or sticks at the value given (R487). -/
inductive Flip where
  | sram (addr : BitVec 48) (pos : Fin 73) (how : FlipHow)
  | dram (addr : BitVec 48) (pos : Fin 640) (how : FlipHow)
  | glade (c : Fin 257) (n : Fin 65) (pos : Fin 68) (stuckAt : Option Bool)
deriving DecidableEq, Repr

/-- What the two flag bits of a branch slot and its kind say (R100, R182). -/
structure BranchFlags where
  direct : Bool
  annul : Bool
  hint : Bool
deriving DecidableEq, Repr

/-- A command: one constructor for each row of the opcode table, by its mnemonic. -/
inductive Instr where
  | porstNRelease (world : BootWorld)
  | pushGo (v : PushWrite)
  | bar0StagingWrite (off : BitVec 25) (data : List Byte)
  | bootLinkAlternate
  | holdupNRiseInStructure (world : BootWorld)
  | negLockWrite (byHost : Bool)
  | negLockTimeout
  | gladeStart (c : Fin 256)
  | keyprogWord (slot : Fin 4) (word : Fin 4)
  | keyprogRevoke (slot : Fin 4)
  | regrowStart (g : Fin 16) (off : BitVec 32)
  | regrowQuiesceTimeout
  | regrowApply
  | bundleIssue (c : Fin 257) (first : PortAnswer) (second : PortAnswer) (reply : BoardReply)
  | exceptionEntry (c : Fin 257)
  | impreciseEntry (c : Fin 257)
  | eventEntry (c : Fin 257)
  | aluAdd (c : Fin 257) (u : Fin 2) (t : W64)
  | aluSub (c : Fin 257) (u : Fin 2) (t : W64)
  | aluAddc (c : Fin 257) (u : Fin 2) (t : W64)
  | aluSubc (c : Fin 257) (u : Fin 2) (t : W64)
  | aluNeg (c : Fin 257) (u : Fin 2) (t : W64)
  | aluPass (c : Fin 257) (u : Fin 2) (t : W64)
  | aluAnd (c : Fin 257) (u : Fin 2) (t : W64)
  | aluOr (c : Fin 257) (u : Fin 2) (t : W64)
  | aluXor (c : Fin 257) (u : Fin 2) (t : W64)
  | aluAndn (c : Fin 257) (u : Fin 2) (t : W64)
  | aluEq (c : Fin 257) (u : Fin 2) (t : W64)
  | aluNe (c : Fin 257) (u : Fin 2) (t : W64)
  | aluLts (c : Fin 257) (u : Fin 2) (t : W64)
  | aluLtu (c : Fin 257) (u : Fin 2) (t : W64)
  | aluLes (c : Fin 257) (u : Fin 2) (t : W64)
  | aluLeu (c : Fin 257) (u : Fin 2) (t : W64)
  | aluMins (c : Fin 257) (u : Fin 2) (t : W64)
  | aluMinu (c : Fin 257) (u : Fin 2) (t : W64)
  | aluMaxs (c : Fin 257) (u : Fin 2) (t : W64)
  | aluMaxu (c : Fin 257) (u : Fin 2) (t : W64)
  | aluSel (c : Fin 257) (u : Fin 2) (t : W64)
  | aluAbs (c : Fin 257) (u : Fin 2) (t : W64)
  | mulMulu (c : Fin 257) (t : W64)
  | mulMuls (c : Fin 257) (t : W64)
  | mulMulsu (c : Fin 257) (t : W64)
  | divDivu (c : Fin 257) (t : W64)
  | divDivs (c : Fin 257) (t : W64)
  | divRemu (c : Fin 257) (t : W64)
  | divRems (c : Fin 257) (t : W64)
  | divRetire (c : Fin 257)
  | shfSll (c : Fin 257) (t : W64)
  | shfSrl (c : Fin 257) (t : W64)
  | shfSra (c : Fin 257) (t : W64)
  | shfRol (c : Fin 257) (t : W64)
  | shfRor (c : Fin 257) (t : W64)
  | shfBfextu (c : Fin 257) (t : W64)
  | shfBfexts (c : Fin 257) (t : W64)
  | shfBfins (c : Fin 257) (t : W64)
  | shfBrev (c : Fin 257) (t : W64)
  | shfBswap (c : Fin 257) (t : W64)
  | shfClz (c : Fin 257) (t : W64)
  | shfCtz (c : Fin 257) (t : W64)
  | shfPopc (c : Fin 257) (t : W64)
  | ckuC32c (c : Fin 257) (w : Fin 4) (t : W64)
  | ckuC64 (c : Fin 257) (w : Fin 4) (t : W64)
  | ckuC16 (c : Fin 257) (w : Fin 4) (t : W64)
  | ckuPar (c : Fin 257) (t : W64)
  | ckuParb (c : Fin 257) (t : W64)
  | ckuBrev8 (c : Fin 257) (t : W64)
  | ckuBrev16 (c : Fin 257) (t : W64)
  | ckuBrev32 (c : Fin 257) (t : W64)
  | ckuBlk32c (c : Fin 257) (t : W64)
  | ckuBlk64 (c : Fin 257) (t : W64)
  | ckuBlk16 (c : Fin 257) (t : W64)
  | ckuBlockRetire (c : Fin 257) (answer : BlockAnswer)
  | immSet (c : Fin 257) (t : W64)
  | timeNow (c : Fin 257)
  | sysBar (c : Fin 257)
  | sysIfence (c : Fin 257)
  | sysRep (c : Fin 257) (t : W64)
  | sysWait (c : Fin 257) (t : W64)
  | sysEret (c : Fin 257)
  | sysPflush (c : Fin 257)
  | sysPbar (c : Fin 257)
  | sysFeat (c : Fin 257) (t : W64)
  | sysSettag (c : Fin 257) (t : W64)
  | sysGettag (c : Fin 257) (t : TWord)
  | sysRdevec (c : Fin 257)
  | sysWrevec (c : Fin 257) (t : W64)
  | sysRdcnt (c : Fin 257) (t : W64)
  | sysWdog (c : Fin 257)
  | lsuLd (c : Fin 257) (form : LsuForm) (t : W64)
  | lsuLw (c : Fin 257) (form : LsuForm) (t : W64)
  | lsuLws (c : Fin 257) (form : LsuForm) (t : W64)
  | lsuLh (c : Fin 257) (form : LsuForm) (t : W64)
  | lsuLhs (c : Fin 257) (form : LsuForm) (t : W64)
  | lsuLb (c : Fin 257) (form : LsuForm) (t : W64)
  | lsuLbs (c : Fin 257) (form : LsuForm) (t : W64)
  | lsuSt (c : Fin 257) (form : StoreForm) (t : W64)
  | lsuSw (c : Fin 257) (form : StoreForm) (t : W64)
  | lsuSh (c : Fin 257) (form : StoreForm) (t : W64)
  | lsuSb (c : Fin 257) (form : StoreForm) (t : W64)
  | loadAnswer (c : Fin 257) (first : PortAnswer) (second : PortAnswer)
  | storeDrain (c : Fin 257) (n : Fin 8) (answer : PortAnswer) (reply : BoardReply)
  | bruEq (c : Fin 257) (flags : BranchFlags) (t : W64)
  | bruNe (c : Fin 257) (flags : BranchFlags) (t : W64)
  | bruLts (c : Fin 257) (flags : BranchFlags) (t : W64)
  | bruGes (c : Fin 257) (flags : BranchFlags) (t : W64)
  | bruLtu (c : Fin 257) (flags : BranchFlags) (t : W64)
  | bruGeu (c : Fin 257) (flags : BranchFlags) (t : W64)
  | bruJmp (c : Fin 257) (direct : Bool) (t : W64)
  | bruCall (c : Fin 257) (direct : Bool) (t : W64)
  | bruRet (c : Fin 257) (direct : Bool) (t : W64)
  | stkEnter (c : Fin 257) (t : W64)
  | m3Nop (c : Fin 256)
  | m3Drop (c : Fin 256)
  | m3Dup (c : Fin 256)
  | m3Swap (c : Fin 256)
  | m3Over (c : Fin 256)
  | m3Lit8 (c : Fin 256) (imm : BitVec 8)
  | m3Lit16 (c : Fin 256) (imm : BitVec 16)
  | m3Lit32 (c : Fin 256) (imm : BitVec 32)
  | m3Add (c : Fin 256)
  | m3Sub (c : Fin 256)
  | m3And (c : Fin 256)
  | m3Or (c : Fin 256)
  | m3Xor (c : Fin 256)
  | m3Neg (c : Fin 256)
  | m3Mul (c : Fin 256)
  | m3Div (c : Fin 256)
  | m3Rem (c : Fin 256)
  | m3Shl (c : Fin 256)
  | m3Shr (c : Fin 256)
  | m3Sar (c : Fin 256)
  | m3Ld (c : Fin 256) (first : PortAnswer) (second : PortAnswer) (reply : BoardReply)
  | m3Ldb (c : Fin 256) (first : PortAnswer) (second : PortAnswer) (reply : BoardReply)
  | m3St (c : StoreCore)
  | m3Stb (c : StoreCore)
  | m3Jmp (c : Fin 256) (off : BitVec 16)
  | m3Jz (c : Fin 256) (off : BitVec 16)
  | m3Jnz (c : Fin 256) (off : BitVec 16)
  | m3Call (c : Fin 256) (off : BitVec 16)
  | m3Ret (c : Fin 256)
  | m3Ncall (c : Fin 256) (target : BitVec 16)
  | m3Exit (c : Fin 256)
  | m3Unsupported (c : Fin 256) (opcode : Byte)
  | qpuDeq (c : Fin 256) (t : TWord)
  | qpuSkip (c : Fin 256) (t : TWord)
  | qpuPut (c : Fin 256) (t : TWord)
  | qpuPutl (c : Fin 256) (t : TWord)
  | qpuPutt (c : Fin 256) (t : TWord)
  | qpuAbandon (c : Fin 256) (t : TWord)
  | qpuDepth (c : Fin 256) (t : TWord)
  | qpuFlush (c : Fin 256) (t : TWord)
  | qpuRetire (c : Fin 256) (n : Fin 64)
  | qpuStreamWord (c : Fin 256) (k : Fin 4)
  | jauPut (c : Fin 256) (t : TWord)
  | jauPutl (c : Fin 256) (t : TWord)
  | jauPutt (c : Fin 256) (t : TWord)
  | jauClose (c : Fin 256) (t : TWord)
  | jauAbandon (c : Fin 256) (t : TWord)
  | jauSeal (c : Fin 256) (t : TWord)
  | jauSealRetire (c : Fin 256)
  | recordAccept (c : Fin 256)
  | txuBegin (c : Fin 256)
  | txuCommit (c : Fin 256) (t : W64)
  | txuAbort (c : Fin 256) (t : W64)
  | txuPass (c : Fin 256) (t : W64)
  | txuProbe (c : Fin 256)
  | freeDecide (g : Fin 16)
  | ticketDecide (g : Fin 16)
  | txuApply (c : Fin 256) (answer : ApplyAnswer)
  | markerWriteStart (g : Fin 16)
  | lineWriteDone
  | markerSlotRetire (line : Fin 64)
  | scrubWord (g : Fin 17) (skip : Bool)
  | patrolBurst (n : Fin 4)
  | zeroFill (n : Fin 4) (bursts : Nat)
  | retireWrite (g : Fin 16) (n : Fin 64) (v : W64)
  | injectWrite (g : Fin 16) (v : W64)
  | errRecordFree (k : Fin 21) (n : Fin 8)
  | qmConfig (v : W64)
  | qmFlush (v : W64)
  | qmReset (v : W64)
  | qmPin (v : W64)
  | qmUnpin (v : W64)
  | qmRead (v : W64)
  | qmBadOp (v : W64)
  | qmPoolWrite (k : Fin 24) (v : W64)
  | ethFrameReceive (lane : Fin 96) (frame : List Byte) (check : Fin 3) (overrun : Bool) (ago : Nat)
  | egressTake (link : Bool) (port : Fin 96)
  | jwOpen (j : Fin 4096) (readOk : List IoRetry) (timely : List IoRetry)
  | jwSeal (j : Fin 4096)
  | jwFormat (j : Fin 4096)
  | jwPersist (j : Fin 4096)
  | jwReopen (j : Fin 4096) (readOk : List IoRetry) (timely : List IoRetry)
  | jwBadOp (op : Fin 16) (j : Fin 4096)
  | captureTrigger (j : Fin 4096)
  | captureEnd (j : Fin 4096)
  | jrelWrite (j : Fin 4096) (v : W64)
  | nvmeCompletion (ctrl : Fin 16) (status : Fin 3)
  | nvmeTimeout (ctrl : Fin 16)
  | nvmeControllerFatal (ctrl : Fin 16)
  | sbUpdateDirectory (v : W64)
  | sbUpdatePointers (v : W64)
  | sbUpdateLastFault (v : W64)
  | sbBadRecord (v : W64)
  | tlySub (core : Fin 257) (k : Fin 4352) (n : BitVec 16)
  | tlyRaise (who : Fin 258) (v : W64)
  | tlyRouteWrite (who : Fin 258) (k : Fin 4352) (v : W64)
  | tallyDelivery (k : Fin 4352)
  | timerPeriod (t : Fin 8)
  | gpioEdge (n : Fin 16) (run : PinRun)
  | gpioStuck (n : Fin 16)
  | gpiCfgWrite (n : Fin 16) (v : W64)
  | modeReqRun
  | modeReqLean
  | modeReqIdle
  | modeReqDoze
  | modeReqRetain
  | modeReqLookout
  | idleEntry
  | modeTransitionDone (slept : Nat)
  | wakeEvent (source : WakeSource)
  | domainReady (d : Fin 64)
  | wakeStepTimeout (w : StepTimeout)
  | wakeRetry (d : Fin 64)
  | rcOscTimeout
  | lookoutSample (reading : LookoutReading)
  | groveClearingEnter (g : Fin 16)
  | brownout (r : Fin 18) (world : BootWorld)
  | pwrDomWrite (d : Fin 64) (v : W64)
  | pwrRailWrite (r : Fin 17) (v : W64)
  | vsenseSample (uv : Int)
  | holdupNLow
  | holdupReturn (world : BootWorld)
  | clockMonitorWindow (n : Fin 30) (first : ClockWindow) (second : ClockWindow) (reference : Bool)
  | islandRelock (n : Fin 31) (clean : Bool)
  | sideResetRelease (n : Fin 31)
  | timeStepWrite (v : W64)
  | pllLock (o : Fin 12)
  | laneUp (n : Fin 96) (trained : Trained)
  | laneLinkLoss (n : Fin 96)
  | pcieCompletionTimeout (c : Fin 257)
  | pcieCompletion (c : Fin 257) (completion : Completion)
  | pcieInboundRequest (complex : Fin 2) (port : Fin 16) (request : InboundReq)
  | hostBarAccess (bar : HostBar) (off : BitVec 48) (request : HostReq) (reply : BoardReply)
  | endpointReset (linkLoss : Bool)
  | msixSend (n : Fin 32)
  | xspiCmd (v : W64) (reply : FlashReply)
  | xspiReadyTimeout
  | i2cTransfer (v : W64) (result : Fin 6) (bytes : List Byte)
  | uartTx (byte : Byte)
  | uartRxRead
  | uartReceive (byte : Byte) (framing : Bool)
  | ssoWrite (who : Fin 257) (v : W64)
  | idcode
  | samplePreload (pins : List Bool)
  | extest (pins : List Bool)
  | clamp
  | highz
  | svcChal
  | svcEnter (request : SvcRequest)
  | svcAccess (op : Fin 4) (address : BitVec 48) (v : W64) (reply : BoardReply)
  | bypass
  | linkTrainTimeout (l : Fin 24)
  | linkMismatchRetry (l : Fin 24)
  | train (l : Fin 24) (t : TrainFlit)
  | idle (l : Fin 24) (f : Flit)
  | data (l : Fin 24) (f : Flit)
  | blaze (l : Fin 24) (f : Flit)
  | timeSync (l : Fin 24) (f : Flit)
  | timeReq (l : Fin 24) (f : Flit)
  | timeResp (l : Fin 24) (f : Flit)
  | nak (l : Fin 24) (f : Flit)
  | nakRepeat (l : Fin 24)
  | nakTimeout (l : Fin 24)
  | join (l : Fin 24) (f : Flit)
  | assign (l : Fin 24) (f : Flit)
  | bootReq (l : Fin 24) (f : Flit)
  | bootData (l : Fin 24) (f : Flit)
  | bootEnd (l : Fin 24) (f : BootEndFlit)
  | bootResult (l : Fin 24) (f : Flit)
  | negOffer (l : Fin 24) (f : Flit)
  | negSet (l : Fin 24) (f : Flit)
  | blazeReq (l : Fin 24) (f : Flit)
  | blazeDone (l : Fin 24) (f : Flit)
  | msg (l : Fin 24) (f : Flit)
  | joinSend
  | bootReqSend
  | timeSyncSend (l : Fin 24)
  | rtlAssignCmd (v : W64)
  | blazeStart (v : W64)
  | blazeRequest (v : W64)
  | bootSend (v : W64)
  | rtlBootEndCmd (v : W64)
  | rtlNegSetCmd (v : W64)
  | rtlMsgCmd (v : W64)
  | mboxPop (v : W64)
  | blazePeriod
  | blazeSyncEdge
  | blazeInitiate
  | cutPoint
  | blazeComplete
  | blazeDoneTimeout
  | gctlStop (c : Fin 256)
  | gctlStart (c : Fin 256)
  | gviewAccess (byJtag : Bool) (c : Fin 256) (r : Fin 128) (w : Option W64)
  | faultAck (v : W64)
  | safeReq (v : W64)
  | lockstepSeal (c : Fin 256)
  | sealTimer (c : Fin 256)
  | gladeWatchdogExpiry (c : Fin 256)
  | heartwoodWatchdogExpiry
  | supplyOutOfWindow (k : Fin 33)
  | tempSample (t : TempSensors)
  | registerWrite (a : BitVec 48) (v : W64)
  | porstNAssert
  | lossOfSupply
  | modeReqIllegal (m : Fin 16)
  | rtlCmdBadOp (v : W64)
  | registerReadClear (a : BitVec 48)
  | uartByteSent
  | ivrCurrentLimit (r : Fin 17) (mv : BitVec 16)
  | supplyReturn (k : Fin 33)
  | supplyReturnTimeout (k : Fin 33)
  | flippedBit (f : Flip)
deriving DecidableEq, Repr

end Sys2Proof
end

