-- ==== Sys2Proof/Decode.lean ====
section
/-! DEFINITION. Commands spelled by words of the opcode table. -/

namespace Sys2Proof

/-- The opcode table of this part lists steps and gives none of them bits, so no word spells a command (log 1). The
part's own encodings are read where they are used: bundles in `Machine.decodeSlot`, byte code in `Machine.m3Decode`. -/
def decodeTableWord (_nbits _w : Nat) : Option Instr := none

end Sys2Proof
end

