-- ==== Sys2Proof/Machine/Sparse.lean ====
section
/-! DEFINITION. Sparse maps: lists of (key, value) pairs in ONE canonical form (keys strictly rising, no entry equal
to the default), the representation of every memory, register space and array of like things in State. -/

namespace Sys2Proof.Machine

/-- A sparse map from numbers; a key that is not listed holds the default its owner names. -/
abbrev SMap (α : Type) := List (Nat × α)

/-- The value at key `k`; `d` when `k` is not listed. -/
def smGet {α : Type} (d : α) : SMap α → Nat → α
  | [], _ => d
  | (k', v) :: m, k => if k = k' then v else smGet d m k

/-- The map without key `k`. -/
def smErase {α : Type} (m : SMap α) (k : Nat) : SMap α := m.filter (fun p => p.1 != k)

/-- `(k, v)` placed before the first greater key. -/
def smIns {α : Type} : SMap α → Nat → α → SMap α
  | [], k, v => [(k, v)]
  | (k', v') :: m, k, v => if k < k' then (k, v) :: (k', v') :: m else (k', v') :: smIns m k v

/-- The map with key `k` holding `v`; writing the default removes the entry, so equal maps are equal lists. -/
def smSet {α : Type} [DecidableEq α] (d : α) (m : SMap α) (k : Nat) (v : α) : SMap α :=
  if v = d then smErase m k else smIns (smErase m k) k v

/-- The keys rise strictly and all lie above `lo` (when one is given). -/
def smRising {α : Type} : Option Nat → SMap α → Bool
  | _, [] => true
  | none, (k, _) :: m => smRising (some k) m
  | some lo, (k, _) :: m => decide (lo < k) && smRising (some k) m

/-- The canonical form: keys strictly rising and no entry equal to the default. -/
def smWf {α : Type} [DecidableEq α] (d : α) (m : SMap α) : Bool :=
  smRising none m && m.all (fun p => decide (p.2 ≠ d))

end Sys2Proof.Machine
end

