-- ==== Sys2Proof/Machine/Bits.lean ====
section
/-! DEFINITION. Codes and checks over bits and bytes: the CRC families of R141, the (73,65) word code of R235, the
DRAM symbol code of R259, SHA-256 and ECDSA P-256 verification (the standards the manual names for R66 and R535). -/

namespace Sys2Proof.Machine

/-- Byte `i` of a number, little-endian (R6). -/
def byteOf (n i : Nat) : Byte := BitVec.ofNat 8 (n >>> (8 * i))

/-- The low `n` bytes of a number, little-endian (R6). -/
def bytesLE (n v : Nat) : List Byte := (List.range n).map (byteOf v)

/-- Bytes as a number, little-endian (R6). -/
def ofBytesLE : List Byte → Nat
  | [] => 0
  | b :: bs => b.toNat + 256 * ofBytesLE bs

/-- Bytes as a number, most significant first. -/
def ofBytesBE (bs : List Byte) : Nat := bs.foldl (fun a b => a * 256 + b.toNat) 0

/-- `f` applied `n` times. -/
def iter {α : Type} : Nat → (α → α) → α → α
  | 0, _, x => x
  | n + 1, f, x => iter n f (f x)

/-- Number of one bits among bits 0 to `n`-1. -/
def popcount : Nat → Nat → Nat
  | 0, _ => 0
  | n + 1, v => v % 2 + popcount n (v / 2)

/-! ### CRC (R141, R142) -/

/-- The three CRC families of R141. -/
inductive CrcFamily where
  | c32c
  | c64
  | c16
deriving DecidableEq, Repr

/-- Width of the family's register (R141). -/
def CrcFamily.width : CrcFamily → Nat
  | .c32c => 32
  | .c64 => 64
  | .c16 => 16

/-- One reflected bit step of CRC-32C (R142). -/
def crc32cBit (c : Nat) : Nat := if c % 2 = 1 then (c / 2) ^^^ 0x82F63B78 else c / 2

/-- One direct bit step of width `n` and polynomial `p` (R142). -/
def crcDirectBit (n p c : Nat) : Nat :=
  if c.testBit (n - 1) then ((c <<< 1) ^^^ p) % 2 ^ n else (c <<< 1) % 2 ^ n

/-- One byte step of a family on a register value that fits its width (R142). -/
def CrcFamily.stepByte (f : CrcFamily) (crc : Nat) (b : Byte) : Nat :=
  match f with
  | .c32c => iter 8 crc32cBit (crc ^^^ b.toNat)
  | .c64 => iter 8 (crcDirectBit 64 0x42F0E1EBA9EA3693) (crc ^^^ (b.toNat <<< 56))
  | .c16 => iter 8 (crcDirectBit 16 0x1021) (crc ^^^ (b.toNat <<< 8))

/-- The byte steps over a byte list, from register value `crc` (taken modulo the family's width, R143). -/
def CrcFamily.steps (f : CrcFamily) (crc : Nat) (bs : List Byte) : Nat :=
  bs.foldl f.stepByte (crc % 2 ^ f.width)

/-- CRC-32C of a byte string with initial value and final exclusive-OR 0xFFFF_FFFF (R41). -/
def crc32c (bs : List Byte) : Nat := CrcFamily.c32c.steps 0xFFFFFFFF bs ^^^ 0xFFFFFFFF

/-! ### The word code (R235 to R238) -/

/-- The columns of positions 0 to 72: 56 values of weight 3, the first nine of weight 5, then the check bits. -/
def codeColumns : List Nat :=
  (List.range 256).filter (fun v => popcount 8 v == 3)
    ++ ((List.range 256).filter (fun v => popcount 8 v == 5)).take 9
    ++ (List.range 8).map (fun j => 2 ^ j)

/-- Exclusive-OR of the columns of the positions of `w` that read as 1. -/
def columnsXor : Nat → List Nat → Nat
  | _, [] => 0
  | w, c :: cs => (if w % 2 = 1 then c else 0) ^^^ columnsXor (w / 2) cs

/-- A stored SRAM code word: 73 bits, data in [63:0], valid in [64], check bits in [72:65] (R235). -/
abbrev CodeWord := BitVec 73

/-- The syndrome of a code word (R235). -/
def syndrome (c : CodeWord) : Nat := columnsXor c.toNat codeColumns

/-- The code word of `data` with the valid bit as given (R235). -/
def encodeWord (data : W64) (valid : Bool) : CodeWord :=
  let dv := data.toNat + (b2n valid) * 2 ^ 64
  BitVec.ofNat 73 (dv + columnsXor dv (codeColumns.take 65) * 2 ^ 65)

/-- The poisoned code word: zero data, valid, check bits inverted (R238). -/
def poisonWord : CodeWord := encodeWord 0#64 true ^^^ BitVec.ofNat 73 (0xFF * 2 ^ 65)

/-- What a read of a code word decodes to (R236). -/
inductive WordRead where
  | ok (c : CodeWord)
  | corrected (c : CodeWord) (pos : Nat)
  | poisoned
  | uncorrectable
deriving DecidableEq, Repr

/-- The decode of R236 under MEMCODE 0 (correcting) or 1 (detecting). -/
def decodeWord (memcode1 : Bool) (c : CodeWord) : WordRead :=
  let s := syndrome c
  if s = 0 then .ok c
  else if s = 0xFF then .poisoned
  else match codeColumns.findIdx? (· == s) with
    | some p => if memcode1 then .uncorrectable else .corrected (c ^^^ BitVec.ofNat 73 (2 ^ p)) p
    | none => .uncorrectable

/-- The data a decoded code word delivers: zero when its valid bit is clear (R237). -/
def codeData (c : CodeWord) : W64 := if c.getLsbD 64 then BitVec.ofNat 64 c.toNat else 0#64

/-! ### The DRAM symbol code (R259 to R261) -/

/-- Multiplication by α in GF(2^8) with x^8 + x^4 + x^3 + x^2 + 1 (R259). -/
def gfDouble (a : Nat) : Nat := if a ≥ 128 then (2 * a) % 256 ^^^ 0x1D else 2 * a

/-- Product in GF(2^8) (R259). -/
def gfMul (a b : Nat) : Nat :=
  ((List.range 8).foldl (fun (p : Nat × Nat) i =>
    (if b.testBit i then p.1 ^^^ p.2 else p.1, gfDouble p.2)) (0, a)).1

/-- α to the power `n` (R259). -/
def gfPow (n : Nat) : Nat := iter n gfDouble 1

/-- Coefficients of x^3 to x^0 of g(x) = (x − 1)(x − α)(x − α²)(x − α³) (R259); its x^4 coefficient is 1. -/
def gfGen : Nat × Nat × Nat × Nat :=
  let mulRoot := fun (p : List Nat) (r : Nat) =>   -- p highest first, monic; p * (x - r)
    List.zipWith (fun a b => a ^^^ b) (p ++ [0]) (0 :: p.map (gfMul r))
  match [0, 1, 2, 3].foldl (fun p j => mulRoot p (gfPow j)) [1] with
  | [_, a, b, c, d] => (a, b, c, d)
  | _ => (0, 0, 0, 0)

/-- The check symbols S_16 to S_19 of data symbols S_0 to S_15: the remainder modulo g(x) (R259). -/
def rsCheck (data : List Nat) : Nat × Nat × Nat × Nat :=
  let g := gfGen
  data.foldl (fun (r : Nat × Nat × Nat × Nat) s =>
    let f := s ^^^ r.1
    (r.2.1 ^^^ gfMul f g.1, r.2.2.1 ^^^ gfMul f g.2.1, r.2.2.2 ^^^ gfMul f g.2.2.1, gfMul f g.2.2.2))
    (0, 0, 0, 0)

/-- Byte `i` of a burst. -/
def burstByte (bs : List Byte) (i : Nat) : Nat := (bs.getD i 0).toNat

/-- Symbol S_d of codeword `i` of a burst's 64 data bytes, d from 0 to 15 (R259). -/
def burstSymbol (bs : List Byte) (i d : Nat) : Nat :=
  let nib := fun b => (burstByte bs (8 * b + 4 * (d / 8) + d % 8 / 2) >>> (4 * (d % 2))) % 16
  nib (2 * i) + 16 * nib (2 * i + 1)

/-- The check symbols of a burst's 64 bytes: byte 4i + j is S_(16+j) of codeword i (R259). -/
def burstCheck (bs : List Byte) : BitVec 128 :=
  BitVec.ofNat 128 (ofBytesLE ((List.range 4).flatMap (fun i =>
    let r := rsCheck ((List.range 16).map (burstSymbol bs i))
    [r.1, r.2.1, r.2.2.1, r.2.2.2].map (BitVec.ofNat 8))))

/-- All 20 symbols of codeword `i` as stored. -/
def storedSymbols (bs : List Byte) (chk : BitVec 128) (i : Nat) : List Nat :=
  (List.range 16).map (burstSymbol bs i)
    ++ (List.range 4).map (fun j => (byteOf chk.toNat (4 * i + j)).toNat)

/-- c(α^j) of a codeword, highest power first. -/
def rsEval (syms : List Nat) (j : Nat) : Nat :=
  syms.foldl (fun a s => gfMul a (gfPow j) ^^^ s) 0

/-- The codeword's error: none, one symbol (device, value), or more. -/
inductive RsError where
  | clean
  | one (dev val : Nat)
  | many
deriving DecidableEq, Repr

/-- Classification of one codeword (R260): the roots of g(x) are tried for a single symbol in error. -/
def rsClassify (syms : List Nat) : RsError :=
  let s := (List.range 4).map (rsEval syms)
  if s.all (· == 0) then .clean
  else
    let s0 := s.getD 0 0
    match (List.range 20).find? (fun d =>
        s0 ≠ 0 && (List.range 4).all (fun j => s.getD j 0 == gfMul s0 (gfPow ((j * (19 - d)) % 255)))) with
    | some d => .one d s0
    | none => .many

/-- What a burst decodes to (R260). -/
inductive BurstRead where
  | ok (bs : List Byte)
  | corrected (bs : List Byte) (chk : BitVec 128) (dev : Nat)
  | poisoned (mask : BitVec 8) (bs : List Byte)
  | uncorrectable
deriving DecidableEq, Repr

/-- Bytes with nibble corrections of device `dev` applied: `vals` holds the error value of each codeword. -/
def burstFix (bs : List Byte) (dev : Nat) (vals : List Nat) : List Byte :=
  (List.range 64).map (fun k =>
    let beat := k / 8
    let s := k % 8 / 4
    let lane := k % 4
    let v := vals.getD (beat / 2) 0
    let nibv := if beat % 2 = 0 then v % 16 else v / 16
    let x := burstByte bs k
    let d0 := 8 * s + 2 * lane
    if dev = d0 then BitVec.ofNat 8 (x ^^^ nibv)
    else if dev = d0 + 1 then BitVec.ofNat 8 (x ^^^ (nibv * 16))
    else BitVec.ofNat 8 x)

/-- Check symbols as a number of 16 bytes, with those of the poison encoding of R261 exclusive-ORed in. -/
def poisonMaskXor (chk : BitVec 128) (mask : BitVec 8) : BitVec 128 :=
  let one := fun (m : Nat) => 0xA5 * 2 ^ 16 + m * 2 ^ 24
  chk ^^^ BitVec.ofNat 128 (one 0x5A + one 0x5A * 2 ^ 32 + one 0x5A * 2 ^ 64 + one mask.toNat * 2 ^ 96)

/-- The decode of R260 over a burst's data bytes and stored check symbols. -/
def decodeBurst (bs : List Byte) (chk : BitVec 128) : BurstRead :=
  let cls := (List.range 4).map (fun i => rsClassify (storedSymbols bs chk i))
  let good := burstCheck bs
  let diff := good ^^^ chk
  let mask := BitVec.ofNat 8 (diff.toNat >>> 120)
  if cls.all (· == .clean) then .ok bs
  else if mask ≠ 0#8 ∧ poisonMaskXor good mask = chk then .poisoned mask bs
  else
    let devs := cls.filterMap (fun c => match c with | .one d _ => some d | _ => none)
    if cls.any (· == .many) then .uncorrectable
    else match devs with
      | [] => .uncorrectable
      | d :: ds =>
        if ds.all (· == d) then
          let vals := cls.map (fun c => match c with | .one _ v => v | _ => 0)
          let bs' := if d < 16 then burstFix bs d vals else bs
          .corrected bs' (burstCheck bs') d
        else .uncorrectable

/-- The stored form of a burst whose words named by `mask` are poisoned (R261): their data zero, the check symbols
computed and the poison pattern exclusive-ORed in. A mask of zero is an ordinary burst. -/
def encodeBurst (bs : List Byte) (mask : BitVec 8) : List Byte × BitVec 128 :=
  let bs' := (List.range 64).map (fun k => if mask.getLsbD (k / 8) then 0#8 else bs.getD k 0#8)
  (bs', if mask = 0#8 then burstCheck bs' else poisonMaskXor (burstCheck bs') mask)

end Sys2Proof.Machine
end

