-- ==== Sys2Proof/Machine/Flags.lean ====
section
/-! DEFINITION. The carry of the ALUs, the one flag of the move machine (R130, R131). -/

namespace Sys2Proof.Machine

/-- Carry out of A + t + cin: 1 when the exact sum reaches 2^64 (R130 ADD, ADDC). -/
def carryOut (a t : W64) (cin : Nat) : W64 := w64 ((a.toNat + t.toNat + cin) / 2 ^ 64)

/-- Borrow of A − t − cin: 1 when A is less than t + cin as a 65-bit sum (R130 SUB, SUBC). -/
def borrowOut (a t : W64) (cin : Nat) : W64 := if a.toNat < t.toNat + cin then 1#64 else 0#64

end Sys2Proof.Machine
end

