-- ==== Sys2Proof/Machine/Units.lean ====
section
/-! DEFINITION. What the arithmetic, shift and check units compute (R130 to R145), on plain words. -/

namespace Sys2Proof.Machine

/-- QPU triggers (R275). -/
inductive QpuOp where
  | deq | skip | put | putl | putt | abandon | depth | flush
deriving DecidableEq, Repr

/-- A comparison result as a word. -/
def boolWord (b : Bool) : W64 := if b then 1#64 else 0#64

/-- Operations of ALU0 and ALU1, in the order of R130. -/
inductive AluOp where
  | add | sub | addc | subc | neg | pass | and | or | xor | andn | eq | ne
  | lts | ltu | les | leu | mins | minu | maxs | maxu | sel | abs
deriving DecidableEq, Repr

/-- Result and, where the operation changes it, carry (R130, R131). -/
def aluResult (op : AluOp) (a b t : W64) (c : Nat) : W64 × Option W64 :=
  match op with
  | .add => (a + t, some (carryOut a t 0))
  | .sub => (a - t, some (borrowOut a t 0))
  | .addc => (w64 (a.toNat + t.toNat + c), some (carryOut a t c))
  | .subc => (a - t - w64 c, some (borrowOut a t c))
  | .neg => (0#64 - t, none)
  | .pass => (t, none)
  | .and => (a &&& t, none)
  | .or => (a ||| t, none)
  | .xor => (a ^^^ t, none)
  | .andn => (a &&& ~~~t, none)
  | .eq => (boolWord (a == t), none)
  | .ne => (boolWord (a != t), none)
  | .lts => (boolWord (BitVec.slt a t), none)
  | .ltu => (boolWord (BitVec.ult a t), none)
  | .les => (boolWord (BitVec.sle a t), none)
  | .leu => (boolWord (BitVec.ule a t), none)
  | .mins => (if BitVec.slt t a then t else a, none)
  | .minu => (if BitVec.ult t a then t else a, none)
  | .maxs => (if BitVec.slt a t then t else a, none)
  | .maxu => (if BitVec.ult a t then t else a, none)
  | .sel => (if t = 0#64 then b else a, none)
  | .abs => (if BitVec.slt t 0#64 then 0#64 - t else t, none)

/-- Operations of MUL (R133). -/
inductive MulOp where
  | mulu | muls | mulsu
deriving DecidableEq, Repr

/-- Low and high half of the 128-bit product (R133). -/
def mulResult (op : MulOp) (a t : W64) : W64 × W64 :=
  let p : BitVec 128 := match op with
    | .mulu => BitVec.ofNat 128 (a.toNat * t.toNat)
    | .muls => BitVec.ofInt 128 (a.toInt * t.toInt)
    | .mulsu => BitVec.ofInt 128 (a.toInt * (t.toNat : Int))
  (w64 p.toNat, w64 (p.toNat / 2 ^ 64))

/-- Operations of DIV (R134). -/
inductive DivOp where
  | divu | divs | remu | rems
deriving DecidableEq, Repr

def DivOp.code : DivOp → Nat
  | .divu => 0
  | .divs => 1
  | .remu => 2
  | .rems => 3

/-- Quotient and remainder with the edges of R136. -/
def divide (signed : Bool) (a t : W64) : W64 × W64 :=
  if t = 0#64 then (0xFFFFFFFFFFFFFFFF#64, a)
  else if signed ∧ a = 0x8000000000000000#64 ∧ t = 0xFFFFFFFFFFFFFFFF#64 then (0x8000000000000000#64, 0#64)
  else if signed then (BitVec.ofInt 64 (Int.tdiv a.toInt t.toInt), BitVec.ofInt 64 (Int.tmod a.toInt t.toInt))
  else (w64 (a.toNat / t.toNat), w64 (a.toNat % t.toNat))

/-- The result of DIV operation `op` (its code) on A and t (R134, R136). -/
def divResult (op : Nat) (a t : W64) : W64 :=
  match op with
  | 0 => (divide false a t).1
  | 1 => (divide true a t).1
  | 2 => (divide false a t).2
  | _ => (divide true a t).2

/-- Operations of SHF, in the order of R137. -/
inductive ShfOp where
  | sll | srl | sra | rol | ror | bfextu | bfexts | bfins | brev | bswap | clz | ctz | popc
deriving DecidableEq, Repr

/-- The trigger value is a field specification R139 accepts. -/
def fieldSpecOk (t : W64) : Bool := field t 14 8 ≤ 64 && field t 7 6 == 0 && field t 63 15 == 0

/-- Position and width of a field, ended at bit 63 (R139). -/
def fieldSpec (t : W64) : Nat × Nat := (field t 5 0, min (field t 14 8) (64 - field t 5 0))

/-- Bits `[pos + width - 1 : pos]` of `a` (R139). -/
def extractBits (a : W64) (pos width : Nat) : Nat := (a.toNat >>> pos) % 2 ^ width

/-- The bits of each group of `n` reversed (R137, R140). -/
def revBits (n : Nat) (t : W64) : W64 :=
  w64 ((List.range 64).foldl (fun a i =>
    if t.getLsbD i then a + 2 ^ (i / n * n + (n - 1 - i % n)) else a) 0)

/-- Number of leading zero bits (R137). -/
def leadingZeros (t : W64) : Nat :=
  ((List.range 64).find? (fun i => t.getLsbD (63 - i))).getD 64

/-- Number of trailing zero bits (R137). -/
def trailingZeros (t : W64) : Nat := ((List.range 64).find? (fun i => t.getLsbD i)).getD 64

/-- The result of an SHF operation (R137 to R139). -/
def shfResult (op : ShfOp) (a b t : W64) : W64 :=
  match op with
  | .sll => if 64 ≤ t.toNat then 0#64 else a <<< t.toNat
  | .srl => if 64 ≤ t.toNat then 0#64 else a >>> t.toNat
  | .sra => if 64 ≤ t.toNat then (if bit a 63 then 0xFFFFFFFFFFFFFFFF#64 else 0#64) else a.sshiftRight t.toNat
  | .rol => a.rotateLeft (t.toNat % 64)
  | .ror => a.rotateRight (t.toNat % 64)
  | .bfextu => let f := fieldSpec t; w64 (extractBits a f.1 f.2)
  | .bfexts =>
    let f := fieldSpec t
    let v := extractBits a f.1 f.2
    if f.2 = 0 then 0#64
    else if v.testBit (f.2 - 1) then w64 (v + (2 ^ 64 - 2 ^ f.2)) else w64 v
  | .bfins =>
    let f := fieldSpec t
    if f.2 = 0 then a else setField a (f.1 + f.2 - 1) f.1 (extractBits b 0 f.2)
  | .brev => revBits 64 t
  | .bswap => w64 (ofBytesLE (bytesLE 8 t.toNat).reverse)
  | .clz => w64 (leadingZeros t)
  | .ctz => w64 (trailingZeros t)
  | .popc => w64 (popcount 64 t.toNat)

/-- Parity of the low `n` bits. -/
def parity (n v : Nat) : Nat := popcount n v % 2

/-- CKU operations without a CRC (R140). -/
inductive CkuOp where
  | par | parb | brev8 | brev16 | brev32
deriving DecidableEq, Repr

def ckuResult (op : CkuOp) (t : W64) : W64 :=
  match op with
  | .par => w64 (parity 64 t.toNat)
  | .parb => w64 ((List.range 8).foldl (fun a n => a + parity 8 (t.toNat >>> (8 * n)) * 2 ^ n) 0)
  | .brev8 => revBits 8 t
  | .brev16 => revBits 16 t
  | .brev32 => revBits 32 t

/-- A word step of width 8, 16, 32 or 64 bits (`w` = 0 to 3) on the accumulator (R142, R143). -/
def crcStep (f : CrcFamily) (w : Nat) (crc t : W64) : W64 :=
  w64 (f.steps crc.toNat (bytesLE (2 ^ w) t.toNat))

/-- The family a block trigger names by its code (R145). -/
def crcOf : Nat → CrcFamily
  | 0 => .c32c
  | 1 => .c64
  | _ => .c16

/-- Branch conditions (R181). -/
inductive BruOp where
  | eq | ne | lts | ges | ltu | geu | jmp | call | ret
deriving DecidableEq, Repr

/-- The branch is taken (R181). -/
def branchTaken (op : BruOp) (a b : W64) : Bool :=
  match op with
  | .eq => a == b
  | .ne => a != b
  | .lts => BitVec.slt a b
  | .ges => !BitVec.slt a b
  | .ltu => BitVec.ult a b
  | .geu => !BitVec.ult a b
  | .jmp => true
  | .call => true
  | .ret => true

/-- One of the six conditional triggers (R182). -/
def BruOp.conditional : BruOp → Bool
  | .jmp => false
  | .call => false
  | .ret => false
  | _ => true

/-- LSU operations, in the order of R157. -/
inductive LsuOp where
  | ld | lw | lws | lh | lhs | lb | lbs | st | sw | sh | sb
deriving DecidableEq, Repr

def LsuOp.isStore : LsuOp → Bool
  | .st => true
  | .sw => true
  | .sh => true
  | .sb => true
  | _ => false

/-- Bytes of the access (R157). -/
def LsuOp.bytes : LsuOp → Nat
  | .ld => 8
  | .lw => 4
  | .lws => 4
  | .lh => 2
  | .lhs => 2
  | .lb => 1
  | .lbs => 1
  | .st => 8
  | .sw => 4
  | .sh => 2
  | .sb => 1

def LsuOp.signed : LsuOp → Bool
  | .lws => true
  | .lhs => true
  | .lbs => true
  | _ => false

/-- Access address and base afterwards (R158). -/
def lsuAddress (f : LsuForm) (a x t : W64) : W64 × W64 :=
  match f with
  | .disp => (a + t, a)
  | .postInc => (a, a + t)
  | .preDec => (a - t, a - t)
  | .indexed => (a + x * t, a)

/-- Bytes of a load assembled and extended (R162). -/
def extendLoad (bs : List Byte) (signed : Bool) : W64 :=
  let n := 8 * bs.length
  let v := ofBytesLE bs
  if signed ∧ n ≠ 0 ∧ v.testBit (n - 1) then w64 (v + (2 ^ 64 - 2 ^ n)) else w64 v

end Sys2Proof.Machine
end

