-- ==== Sys2Proof/Machine/GladeState.lean ====
section
/-! DEFINITION. The state of one Glade (or of the Heartwood's processor): banked unit state (R117), the register file
and scoreboard (R112, R114), exception registers, control flow, loads and stores in flight, long operations, queue and
journal cursors. -/

namespace Sys2Proof.Machine

/-- Ports of one ALU (R130). -/
structure Alu where
  a : W64
  b : W64
  q : W64
  c : W64
deriving DecidableEq, Repr

/-- A result on its way to a port whose distance is 2 bundles (R110, R126), or not there yet. -/
inductive DueVal where
  | mul (q h : W64)
  | cku (q : W64)
  | time (q stat : W64)
  | lsu (q : W64)
  | qpu (q : TWord)
  /-- DEQ that opened a packet: the word and the header for `QPU.H` (R275) -/
  | qpuOpen (q : TWord) (h : W64)
  | jau (q : W64)
  /-- a load that has not answered yet (R161) -/
  | loadWait
  /-- a journal close not accepted yet (R334) -/
  | jauWait
  /-- a QPU operation that has not taken effect yet (R176, R281) -/
  | qpuWait
  /-- the status of a JAU operation that waits for the drain (R176) -/
  | jauHeld
deriving DecidableEq, Repr

/-- A result and the bundle position from which its port shows it. -/
structure Due where
  pos : Nat
  val : DueVal
deriving DecidableEq, Repr

/-- The unit state that exists twice, in the thread bank and in the handler bank (R117). -/
structure Bank where
  alu0 : Alu
  alu1 : Alu
  mulA : W64
  mulQ : W64
  mulH : W64
  shfA : W64
  shfB : W64
  shfQ : W64
  ckuQ : W64
  ckuCrc : W64
  lsuA : W64
  lsuB : W64
  lsuQ : W64
  lsuAQ : W64
  lsuX : W64
  bruA : W64
  bruB : W64
  bruQ : W64
  acc : W64
  timeQ : W64
  timeStat : W64
  stkQ : W64
  stkNR : W64
  stkSP : W64
  stkSL : W64
  stkSB : W64
  stkMB : W64
  /-- bundle positions issued so far in this bank's code stream (R161) -/
  pos : Nat
  /-- results not yet in their ports -/
  due : List Due
deriving DecidableEq, Repr

/-- `STATE` of `SAF_GCTLi`. -/
inductive RunState where
  | off
  | running
  | clearing
  | stopped
  | fenced
  | held
deriving DecidableEq, Repr

/-- The repeat state that an entry saves (R199 step 4, R218). -/
structure Repeat where
  /-- issues still owed; 0: no repeat -/
  owed : Nat
  interruptible : Bool
  /-- byte code is running (R218) -/
  byteCode : Bool
  /-- entries of the operand stack cached in G56 to G63 (R210) -/
  cached : Nat
deriving DecidableEq, Repr

/-- A load triggered and not answered (R161); `txn`: it is transactional (R309). -/
structure LoadFlight where
  /-- order of the trigger among the Glade's stores and long operations (R167) -/
  seq : Nat
  /-- bundle position of the trigger in its stream -/
  pos : Nat
  /-- triggered from the handler bank -/
  handler : Bool
  /-- global address of the storage -/
  addr : Nat
  /-- the address as the program gave it, for `EADDR` -/
  named : Nat
  bytes : Nat
  signed : Bool
  txn : Bool
  /-- bus of the trigger's slot -/
  bus : Nat
  /-- its Memory Read has been sent to a root-port window (R175, R439) -/
  asked : Bool
  /-- it will end with this detail: its target's island was reset (R428), or its link left UP (R439) -/
  dead : Option Nat
deriving DecidableEq, Repr

/-- One entry of the store buffer (R165): bytes within one word, at the global address of their storage. -/
structure StoreEntry where
  /-- order of the trigger -/
  seq : Nat
  addr : Nat
  data : List Byte
  pos : Nat
  handler : Bool
deriving DecidableEq, Repr

/-- A long operation of DIV or of the CKU block mode in flight (R178). -/
structure LongOp where
  rd : Nat
  /-- order of the trigger, for the reports of a BAR (R180) -/
  seq : Nat
  a : W64
  t : W64
  /-- DIV: 0 DIVU, 1 DIVS, 2 REMU, 3 REMS; CKU: 0 C32C, 1 C64, 2 C16 -/
  op : Nat
  /-- CKU: initial register value -/
  init : W64
  /-- CKU: the Glade stored to the range since the trigger, so the value is undefined (R147) -/
  spoiled : Bool
  /-- CKU: triggered in thread code inside a transaction, whose view its reads of the own Grove memory take (R146,
  R301) -/
  txn : Bool
  /-- that transaction's write set at the trigger, whose words the block sees though the transaction has ended (R147) -/
  view : List (Nat × W64 × Bool)
deriving DecidableEq, Repr

/-- A failed long operation waiting for its report (R123, R180). -/
structure Failure where
  seq : Nat
  rd : Nat
  detail : Nat
  addr : Nat
deriving DecidableEq, Repr

/-- A word of the read buffer of a cursor: data, the error its DEQ reports, or the end of what can be reached behind a
LINK word that failed (R299). -/
inductive BufWord where
  | data (w : W64)
  | bad (detail addr : Nat)
  | gone
deriving DecidableEq, Repr

/-- An open read packet (R279, R281). -/
structure ReadPkt where
  queue : Nat
  header : W64
  /-- cell that holds the next word to stream -/
  cell : Nat
  /-- number of the next data word to stream, from 1 -/
  nextStream : Nat
  /-- number of the next data word a DEQ delivers, from 1 -/
  nextWord : Nat
  /-- cells not yet freed, in chain order -/
  cells : List Nat
  buf : List BufWord
  /-- REGROW closed it: the next DEQ delivers NV (R292) -/
  lost : Bool
deriving DecidableEq, Repr

/-- An open or closed write packet (R282, R285, R289). -/
structure WritePkt where
  queue : Nat
  words : List W64
  cells : List Nat
  /-- close status it is already bound to; 0 while it can still be linked -/
  status : Nat
  /-- it belongs to the Glade's transaction -/
  txn : Bool
deriving DecidableEq, Repr

/-- The open record of the journal cursor (R331, R332). -/
structure OpenRecord where
  journal : Nat
  words : List W64
  txn : Bool
  /-- close status it is already bound to; 0 while it can still be accepted -/
  status : Nat
deriving DecidableEq, Repr

/-- A QPU operation on a DRAM-stored queue, or a SEAL, COMMIT or PASS, in flight (R178). -/
structure NamedOp where
  rd : Nat
  seq : Nat
  result : TWord
  /-- `QPU.H` value a retiring DEQ writes -/
  header : Option W64
  /-- failure detail and address, reported as IMPRECISE -/
  fail : Option (Nat × Nat)
deriving DecidableEq, Repr

/-- A journal SEAL in flight (R338). -/
structure SealOp where
  rd : Nat
  seq : Nat
  journal : Nat
  segment : Bool
  /-- CODE it is bound to; 0 while it can succeed -/
  code : Nat
  /-- SEQ plus 1 of its SYNC record, once written -/
  syncSeq : Nat
deriving DecidableEq, Repr

/-- What an operation of the QPU, the JAU or the TXU port that has not taken effect yet does (R176). -/
inductive PendKind where
  /-- DEQ, SKIP, DEPTH or FLUSH with its queue specification -/
  | op (o : QpuOp) (spec : W64)
  /-- the link of a closed packet (R282) -/
  | link (w : WritePkt)
  /-- the stub of an aborted packet (R290) -/
  | stub (code : Nat) (w : WritePkt)
  /-- the packet of an ABANDON, whose cells become free, and the status of a QPU write, if it has one (R285) -/
  | answer (w : Option WritePkt) (status : Option W64)
  /-- TXU ABORT: its packets, whose cells become free (R308) -/
  | abort (ws : List WritePkt)
  /-- the cells of a packet discarded behind a DEQ that may still fail become free (R120, R285) -/
  | free (w : WritePkt)
  /-- TXU PROBE (R307) -/
  | probe
  /-- the status of a JAU operation that the journal writer has no part in (R333) -/
  | jau (status : W64)
deriving DecidableEq, Repr

/-- A QPU operation triggered and not carried out yet: an earlier store of its Glade has not drained, or the word that
its DEQ delivers is not in the buffer (R176, R281). -/
structure QpuPend where
  /-- order of the trigger -/
  seq : Nat
  /-- bundle position of the trigger in its stream, and that stream -/
  pos : Nat
  handler : Bool
  bus : Nat
  kind : PendKind
  /-- the queue is stored in DRAM: the result goes to G[rd], else to `QPU.Q` (R275) -/
  dram : Bool
  rd : Nat
  /-- its Glade has stopped: its cursor closes after it (R120, R292) -/
  final : Bool
deriving DecidableEq, Repr

/-- What the bundle after a BAR or WAIT waits for (R177, R206). -/
inductive BarWait where
  | none
  | bar
  | waitEnter
  | waitResume
deriving DecidableEq, Repr

/-- An older byte of IMEM that fetch still sees (R173, R174): the byte at offset `off` reads as `old` for bundles
below position `fromPos`; for another agent's write (`agent`) that position is set by an IFENCE, and none before. -/
structure OldCode where
  off : Nat
  old : Byte
  agent : Bool
  fromPos : Option Nat
deriving DecidableEq, Repr

/-- One Glade (or the Heartwood's processor). -/
structure Glade where
  run : RunState
  pc : W64
  grf : SMap TWord
  score : BitVec 64
  thread : Bank
  handler : Bank
  /-- the handler bank is selected (R117) -/
  inHandler : Bool
  /-- events are masked (R199, R202) -/
  masked : Bool
  epc : W64
  ecause : W64
  eaddr : W64
  ebr : W64
  evec : W64
  stopEcause : W64
  stopEpc : W64
  stopEaddr : W64
  /-- redirect pending: target, and bundles to issue before it (R184) -/
  redirect : Option (W64 × Nat)
  /-- annulled delay slots still to pass (R184) -/
  annul : Nat
  /-- delay slots of the last branch still to issue (R209) -/
  delay : Nat
  rep : Repeat
  savedRep : Repeat
  /-- bytes of the repeated bundle, fetched once (R173) -/
  repBundle : Option (List Byte)
  /-- those bytes while a handler runs: the bundle is not fetched again for the issues still owed (R173, R199) -/
  savedBundle : Option (List Byte)
  barWait : BarWait
  /-- a source was routed to the Glade after its WAIT (R206) -/
  woken : Bool
  /-- `barWait`, `woken` and `hasWaited` of the thread's position while a handler runs (R177, R180) -/
  savedBar : BarWait
  savedWoken : Bool
  savedWaited : Bool
  /-- `delay` of the thread's position while a handler runs (R161, R184) -/
  savedDelay : Nat
  /-- no bundle has issued since the last ERET (R204) -/
  resumed : Bool
  divA : W64
  divRD : W64
  divOp : Option LongOp
  ckuA : W64
  ckuB : W64
  ckuRD : W64
  ckuOp : Option LongOp
  sysA : W64
  sysQ : TWord
  qpuA : W64
  qpuQ : TWord
  qpuH : W64
  qpuRD : W64
  reads : SMap (Option ReadPkt)
  writes : SMap (Option WritePkt)
  qpuOps : List NamedOp
  /-- QPU operations that have not taken effect yet, oldest first -/
  qpuPend : List QpuPend
  jauA : W64
  jauB : W64
  jauQ : W64
  jauRD : W64
  record : Option OpenRecord
  sealOp : Option SealOp
  txuQ : W64
  txuRD : W64
  txuOp : Option NamedOp
  /-- number of long operations triggered so far -/
  opSeq : Nat
  failures : List Failure
  wdogPending : Bool
  /-- the watchdog has expired since the last SYS.T.WDOG -/
  wdogFirst : Bool
  /-- device time at which the watchdog count began -/
  wdogSince : Nat
  cntIssued : W64
  cntFetched : W64
  cntWaited : W64
  cntMispredict : W64
  cntBusy : W64
  /-- the bundle due to issue has waited already (R153) -/
  hasWaited : Bool
  /-- the bundle at the position waits for a cell (R287): the wait ends only when one can be taken -/
  cellWait : Bool
  /-- the bundle due to issue has been counted in FETCHED already (R153) -/
  hasFetched : Bool
  loads : List LoadFlight
  stores : List StoreEntry
  /-- return stack, newest first (R188) -/
  retStack : List W64
  /-- targets of the last four taken branches, newest first -/
  path : List W64
  targets : SMap (Option W64)
  /-- prediction barred by PBAR (R191) -/
  barred : Bool
  /-- guesses made and not compared yet: the position and the address guessed (R187) -/
  guesses : List (Nat × W64)
  oldCode : List OldCode
  /-- lockstep signature (R497) -/
  signature : W64
  /-- undo log of local stores since the checkpoint, newest first: word address and code word before (R498) -/
  undo : List (Nat × CodeWord)
  /-- precise bus error of a load, found by a Glade of a pair and not raised yet: detail, address and bus (R498) -/
  loadFault : Option (Nat × Nat × Nat)
  /-- local stores triggered since the checkpoint (R498) -/
  undoCount : Nat
  /-- a held Glade was running, outside Clearing, when the mode held it (R391, R403) -/
  heldRun : Bool
  /-- the Glade has been started since its structure was set -/
  started : Bool
  /-- a stuck bit of its logic: this bit of every ALU result reads so (R487) -/
  stuckBit : Option (Nat × Bool)
deriving DecidableEq, Repr

/-- All ports of an ALU zero. -/
def Alu.reset : Alu := ⟨0#64, 0#64, 0#64, 0#64⟩

/-- A unit bank at reset: the spec gives no values, so zero (log 3). -/
def Bank.reset : Bank where
  alu0 := Alu.reset
  alu1 := Alu.reset
  mulA := 0#64
  mulQ := 0#64
  mulH := 0#64
  shfA := 0#64
  shfB := 0#64
  shfQ := 0#64
  ckuQ := 0#64
  ckuCrc := 0#64
  lsuA := 0#64
  lsuB := 0#64
  lsuQ := 0#64
  lsuAQ := 0#64
  lsuX := 0#64
  bruA := 0#64
  bruB := 0#64
  bruQ := 0#64
  acc := 0#64
  timeQ := 0#64
  timeStat := 0#64
  stkQ := 0#64
  stkNR := 0#64
  stkSP := 0#64
  stkSL := 0#64
  stkSB := 0#64
  stkMB := 0#64
  pos := 0
  due := []

/-- No repeat, native code. -/
def Repeat.none : Repeat := ⟨0, false, false, 0⟩

/-- A Glade at reset: not started; exception registers zero as the spec states; ports and GRF zero (log 3). -/
def Glade.reset : Glade where
  run := .off
  pc := 0#64
  grf := []
  score := 0#64
  thread := Bank.reset
  handler := Bank.reset
  inHandler := false
  masked := false
  epc := 0#64
  ecause := 0#64
  eaddr := 0#64
  ebr := 0#64
  evec := 0#64
  stopEcause := 0#64
  stopEpc := 0#64
  stopEaddr := 0#64
  redirect := none
  annul := 0
  delay := 0
  rep := Repeat.none
  savedRep := Repeat.none
  repBundle := none
  savedBundle := none
  barWait := .none
  woken := false
  savedBar := .none
  savedWoken := false
  savedWaited := false
  savedDelay := 0
  resumed := false
  divA := 0#64
  divRD := 0#64
  divOp := none
  ckuA := 0#64
  ckuB := 0#64
  ckuRD := 0#64
  ckuOp := none
  sysA := 0#64
  sysQ := TWord.plain 0#64
  qpuA := 0#64
  qpuQ := TWord.plain 0#64
  qpuH := 0#64
  qpuRD := 0#64
  reads := []
  writes := []
  qpuOps := []
  qpuPend := []
  jauA := 0#64
  jauB := 0#64
  jauQ := 0#64
  jauRD := 0#64
  record := none
  sealOp := none
  txuQ := 0#64
  txuRD := 0#64
  txuOp := none
  opSeq := 0
  failures := []
  wdogPending := false
  wdogFirst := false
  wdogSince := 0
  cntIssued := 0#64
  cntFetched := 0#64
  cntWaited := 0#64
  cntMispredict := 0#64
  cntBusy := 0#64
  hasWaited := false
  cellWait := false
  hasFetched := false
  loads := []
  stores := []
  retStack := []
  path := []
  targets := []
  barred := false
  guesses := []
  oldCode := []
  signature := 0#64
  undo := []
  loadFault := none
  undoCount := 0
  heldRun := false
  started := false
  stuckBit := none

end Sys2Proof.Machine
end

