-- ==== Sys2Proof/Machine/QmState.lean ====
section
/-! DEFINITION. The state of the queue manager (descriptors, pools, group partitions) and of the transaction units. -/

namespace Sys2Proof.Machine

/-- A queue descriptor (R273). -/
structure Desc where
  head : Nat
  tail : Nat
  packets : Nat
  cells : Nat
  group : Nat
  enabled : Bool
  audit : Bool
  drop : Bool
  broken : Bool
  egress : Bool
  limit : Nat
  seq : Nat
deriving DecidableEq, Repr

/-- All 32 bytes zero: an empty, disabled queue (R273). -/
def Desc.reset : Desc := ⟨0, 0, 0, 0, 0, false, false, false, false, false, 0, 0⟩

/-- A descriptor held by an engine's cache (R274). -/
structure CachedDesc where
  queue : Nat
  desc : Desc
  pinned : Bool
deriving DecidableEq, Repr

/-- One storage pool (R268): the never-used cells are those from index `fresh` upward and the addresses in `skipped`
(ascending), which lay on a retired page when cells above them were taken; freed cells (last freed first), cells in use,
lost cells. -/
structure Pool where
  fresh : Nat
  skipped : List Nat
  freed : List Nat
  used : Nat
  lost : Nat
deriving DecidableEq, Repr

def Pool.reset : Pool := ⟨0, [], [], 0, 0⟩

/-- The queue manager. -/
structure Qm where
  /-- both engines' caches, most recently used first (R274) -/
  cache : List CachedDesc
  /-- Grove pools 0 to 15, then the DRAM pools of partitions 0 to 3 at 16 to 19 -/
  pools : SMap Pool
  /-- notice groups whose partition is fixed (R383), plus one -/
  groupPart : SMap Nat
  /-- last binding served by each egress port at each priority, for the rotation of R298, plus one -/
  rotation : SMap Nat
  /-- queues whose descriptor could not be written back, which are BROKEN (R299) -/
  unwritten : List Nat
  /-- MODEL: cells that each queue holds, as its descriptor last said -/
  cells : SMap Nat
  /-- the FLUSH or RESET of `QM_CMD` that waits for its queue's memory, BUSY (R265) -/
  command : Option W64
deriving DecidableEq, Repr

def Qm.reset : Qm := ⟨[], [], [], [], [], [], none⟩

/-- A closed record waiting for the JW or held in a transaction (R334 to R336). -/
structure Rec where
  journal : Nat
  rtype : Nat
  src : Nat
  payload : List Byte
deriving DecidableEq, Repr

/-- Where a decided durable commit stands in R314. -/
inductive DurStep where
  | volatile
  /-- admitted; records not yet numbered -/
  | admitted
  /-- records numbered and being written -/
  | write
  /-- records written; waits for a marker slot (R316) -/
  | marker
  /-- covered by a marker write in flight -/
  | inMarker
  /-- the marker is complete -/
  | durable
deriving DecidableEq, Repr

/-- A Glade's transaction (R308). -/
inductive TxnState where
  | isOpen
  | doomed
  | committing
  | decided
deriving DecidableEq, Repr

structure Txn where
  state : TxnState
  /-- doom codes so far, one bit per code of R322 -/
  dooms : BitVec 16
  /-- words stored: word address, data, poisoned (R309) -/
  wset : List (Nat × W64 × Bool)
  /-- granules loaded: address divided by 64 -/
  rset : List Nat
  /-- packets closed with PENDING, in close order (R289) -/
  packets : List WritePkt
  /-- packets that belong to the transaction, discarded ones too (R303) -/
  packetCount : Nat
  records : List Rec
  recordCount : Nat
  recordBytes : Nat
  wantDurable : Bool
  /-- a packet of the transaction closed with an error status (R289) -/
  queueFail : Bool
  ticket : Nat
  /-- CNUM of its records (R341) -/
  cnum : Nat
  step : DurStep
  /-- journals that hold its records, with the highest SEQ (R367) -/
  placed : List (Nat × Nat)
  /-- cost in ns the hold-up budget holds for it (R414) -/
  cost : Nat
  /-- it has been counted as waiting for a marker slot (R371) -/
  stalled : Bool
  /-- its place in the order in which commits became ready for a marker (R369) -/
  readied : Nat
  /-- its Glade stopped while it was COMMITTING (R321, R323) -/
  halted : Bool
deriving DecidableEq, Repr

/-- A transaction just opened. -/
def Txn.new : Txn := ⟨.isOpen, 0#16, [], [], [], 0, [], 0, 0, false, false, 0, 0, .volatile, [], 0, false, 0, false⟩

/-- The transaction unit of one Grove (R318 to R321). -/
structure Txu where
  /-- the transaction of each Glade of the Grove -/
  txns : SMap (Option Txn)
  /-- Glades whose commits have been received and not decided, oldest first (R317) -/
  received : List Nat
  /-- decided and not applied, in decision order -/
  decided : List Nat
  /-- ticket decided next (R318), modulo 2^32 -/
  next : Nat
  /-- current members of the rotation -/
  members : BitVec 16
  /-- members that stopped and leave at their next turn (R321) -/
  leaving : BitVec 16
  /-- Glade whose turn it is -/
  turn : Nat
  /-- turns each member has still given up by PASS (R304) -/
  passes : SMap Nat
  /-- length of each PASS in progress, for its status -/
  passLen : SMap Nat
  /-- tickets decided as commits within the window: ticket and words written (R319) -/
  window : List (Nat × List Nat)
  /-- earlier values of words the window's applications wrote: ticket, word address, code word (R318) -/
  versions : List (Nat × Nat × CodeWord)
  /-- PASSes whose last turn was reached: Glade and last ticket (R320) -/
  passDone : List (Nat × Nat)
  quiescing : Bool
  /-- count of commits that append records, in a FREE Grove (R341) -/
  cnum : Nat
  /-- transactions as they stood before a DEQ that may still fail: Glade, order of the DEQ, transaction (R120) -/
  kept : List (Nat × Nat × Option Txn)
deriving DecidableEq, Repr

def Txu.reset : Txu := ⟨[], [], [], 0, 0#16, 0#16, 0, [], [], [], [], [], false, 0, []⟩

end Sys2Proof.Machine
end

