-- ==== Sys2Proof/Machine/JwState.lean ====
section
/-! DEFINITION. The state of the journal writer, of the NVMe drives it writes to, and of the Seedbank keeper. -/

namespace Sys2Proof.Machine

/-- What completes with an NVMe command. -/
inductive Purpose where
  /-- nothing waits for it -/
  | none
  /-- step 2 of R314 for Glade `i`'s commit with CNUM `cnum` -/
  | durable (i cnum : Nat)
  /-- these SYNC records are durable: journal and SEQ -/
  | synced (js : List (Nat × Nat))
  /-- the command of `JW_CMD` in progress -/
  | command
  /-- the records that recovery appended to a journal are durable (R373) -/
  | recovered
  /-- the BLAZE record of Blaze `id` is durable (R345) -/
  | blaze (id : Nat)
  /-- the capture of a ring is durable (R350) -/
  | capture (ring : Nat)
  /-- these journals become SEALED (R351) -/
  | sealed (js : List Nat)
deriving DecidableEq, Repr

inductive NvmeKind where
  | write
  | flush
  | zeroes
deriving DecidableEq, Repr

/-- An NVMe command issued and not completed (R346 to R348). -/
structure NvmeCmd where
  kind : NvmeKind
  journal : Nat
  /-- first byte within the namespace, and the bytes -/
  pos : Nat
  data : List Byte
  /-- bytes of the block that an earlier write filled and this one writes again, at the front of `data` (R346) -/
  head : Nat
  fua : Bool
  /-- it stands in a queue of its controller (R347) -/
  sent : Bool
  /-- issued a second time (R348) -/
  retried : Bool
  /-- cost in ns that the hold-up budget holds for it (R414) -/
  cost : Nat
  purpose : Purpose
  /-- for a Flush: the journals that had blocks written without FUA before it (R346) -/
  serves : List Nat
  /-- its PRP entries (R347) -/
  prps : List Nat
  /-- once sent: the queue pair of its controller, 1 to 4, and the entry there that hold it (R347) -/
  pair : Nat
  entry : Nat
deriving DecidableEq, Repr

/-- A capture of a ring (R350). -/
structure Capture where
  first : Nat
  last : Nat
  /-- next ring SEQ to copy -/
  next : Nat
  target : Nat
  copied : Nat
  lost : Nat
  /-- CAUSE: 0 command, 1 trigger source -/
  cause : Nat
  time : Nat
deriving DecidableEq, Repr

/-- A transaction with a record in a journal after its last durable SYNC record. -/
structure TailTxn where
  grove : Nat
  cnum : Nat
  /-- durable, applied or voided (R344) -/
  settled : Bool
  /-- to be listed in a VOID record: the record is written once `settled` -/
  void : Bool
  /-- SEQ plus 1 of the SYNC record laid behind its records and not yet durable; 0: none -/
  sync : Nat
deriving DecidableEq, Repr

/-- What a journal holds beside its registers. -/
structure Journal where
  segOpen : Bool
  /-- next byte in the open segment -/
  off : Nat
  /-- records in the open segment -/
  records : Nat
  /-- SEG_INDEX and SEQ of the first record of each segment kept, oldest first -/
  segs : List (Nat × Nat)
  /-- SEG_INDEX of the next segment to open -/
  nextSeg : Nat
  /-- transactions with a record after the last durable SYNC record -/
  tail : List TailTxn
  /-- SEQ plus 1 of the last SYNC record written, and of the last one that is durable -/
  lastSync : Nat
  durSync : Nat
  /-- blocks written without FUA since the last Flush (R346) -/
  dirty : Bool
  /-- bytes of the logical block that holds the journal's end, as far as they are filled (R346) -/
  endBlock : List Byte
  capture : Option Capture
  queued : Option Capture
deriving DecidableEq, Repr

def Journal.reset : Journal := ⟨false, 0, 0, [], 0, [], 0, 0, false, [], none, none⟩

/-- A record a Glade closed outside a transaction, waiting to be accepted (R334). -/
structure ClosedRec where
  glade : Nat
  /-- order of the close among the Glade's operations -/
  seq : Nat
  /-- closed in the handler bank -/
  handler : Bool
  record : Rec
deriving DecidableEq, Repr

/-- The command of `JW_CMD` in progress. -/
structure JwCommand where
  op : Nat
  journal : Nat
  /-- its commands are issued; it ends with the one that carries `.command` -/
  issued : Bool
  /-- for a REOPEN that waits for the journal's own commands: how the open's commands will fail (R348, R351) -/
  readOk : List IoRetry
  timely : List IoRetry
deriving DecidableEq, Repr

/-- The journal writer. -/
structure Jw where
  journals : SMap Journal
  closed : List ClosedRec
  /-- commands issued to each controller, oldest first -/
  queues : SMap (List NvmeCmd)
  command : Option JwCommand
  /-- triggers of captures seen and not started: ring, FIRST_SEQ, LAST_SEQ, time -/
  triggers : List (Nat × Nat × Nat × Nat)
  /-- journals whose BLAZE record is durable, for the Blaze in progress: journal and Blaze -/
  blazed : List (Nat × Nat)
  /-- REASON the JW seals with in hold-up or SAFE; 0: it does not (R351) -/
  sealing : Nat
  /-- the persistent journals whose open scan succeeded, and the tails it found: GROVE, CNUM, INDEX of each record
  (R373) -/
  scanned : List Nat
  tails : List (Nat × Nat × Nat)
  /-- scanned journals that recovery has still to decide on -/
  toRecover : List Nat
  /-- the commits that markers covered when recovery ran: the set C of R373 -/
  marked : Option (List (Nat × Nat))
  /-- completion queues that an MSI-X message has named and that the JW has still to serve (R439) -/
  named : SMap Bool
  /-- commands placed in the queues so far: by controller in its four pairs, modulo 1,024, and by 16 + controller in its
  admin queue, modulo 64 (R347) -/
  entries : SMap Nat
  /-- next byte of the staging area to take (R352) -/
  stagePos : Nat
deriving DecidableEq, Repr

def Jw.reset : Jw := ⟨[], [], [], none, [], [], 0, [], [], [], none, [], [], 0⟩

/-- Media bytes of the drives: by controller × 2^96 + NSID × 2^64 + byte; an unlisted byte reads 0. -/
abbrev Media := SMap Byte

/-- Bytes of one logical block that a write not yet flushed replaced (R346): key of the block's first byte, key of the
first replaced byte, and the bytes before. -/
structure OldBlock where
  block : Nat
  first : Nat
  bytes : List Byte
deriving DecidableEq, Repr

/-- What a Seedbank line write is for (R357). -/
inductive LineFor where
  /-- a marker of Grove `g` covering the commits of these Glades -/
  | marker (g : Nat) (glades : List Nat)
  /-- a line of a dual-copy record (0 directory, 1 pointers, 2 last fault), its last, and for `HW_SB_CMD` -/
  | dual (record : Nat) (last cmd : Bool)
  | lookout
deriving DecidableEq, Repr

/-- A line write in progress, or the second one of an update. -/
structure LineWrite where
  line : Nat
  bytes : List Byte
  use_ : LineFor
deriving DecidableEq, Repr

/-- What waits for the Seedbank's port beside markers (R369). Which lines an update or a Lookout record takes is found
when its write starts (R359, R365). -/
inductive LineJob where
  /-- a new 96-byte body of a dual-copy record; asked for by `HW_SB_CMD` -/
  | update (record : Nat) (body : List Byte) (cmd : Bool)
  /-- PART 1 of the update that is under way -/
  | second (w : LineWrite)
  /-- a 48-byte Lookout body -/
  | lookout (body : List Byte)
deriving DecidableEq, Repr

/-- A commit-marker slot. -/
structure Slot where
  inFlight : Bool
  /-- its marker is complete -/
  complete : Bool
  /-- MSEQ of its last marker since recovery -/
  written : Nat
  /-- journals that hold a record of a covered commit, with the highest SEQ of one -/
  needs : List (Nat × Nat)
deriving DecidableEq, Repr

def Slot.reset : Slot := ⟨false, false, 0, []⟩

/-- The Seedbank keeper. -/
structure Keeper where
  port : Option LineWrite
  queue : List LineJob
  /-- by line -/
  slots : SMap Slot
  /-- Groves in a stall episode (R371) -/
  stalled : BitVec 16
  /-- the record of `HW_SB_CMD` being updated, plus 1 -/
  updating : Nat
  /-- splits found and not yet counted in the directory (R360) -/
  splits : Nat
  /-- commits that have become ready for a marker so far (R369) -/
  readied : Nat
  /-- recovery has decided, and its directory is still being written (R373, R375) -/
  recovering : Bool
deriving DecidableEq, Repr

def Keeper.reset : Keeper := ⟨none, [], [], 0#16, 0, 0, 0, false⟩

/-- The hold-up estimator (R412 to R414), in nanoseconds, and its last four codes, newest first. -/
structure Estimator where
  codes : List Nat
  remain : Nat
  budget : Nat
deriving DecidableEq, Repr

def Estimator.reset : Estimator := ⟨[], 0, 0⟩

end Sys2Proof.Machine
end

