-- ==== Sys2Proof/Machine/PlatformState.lean ====
section
/-! DEFINITION. The state of the time base, the pins, the power and safety logic, the ports, the Rootlink engines and
the outputs of the device. -/

namespace Sys2Proof.Machine

/-- The time base (R425): its count, the value it last delivered, and the part of a 4 ns step that `UST_TIME_RATE` has
accumulated, in 10^-9 ns. -/
structure TimeBase where
  count : W64
  delivered : W64
  frac : Int
deriving DecidableEq, Repr

def TimeBase.reset : TimeBase := ⟨0#64, 0#64, 0⟩

/-- The board around the device: what the boot flash holds (an unlisted byte reads 0xFF), the key slots of the part
(R63 to R65), and the levels of pins that no register shows. -/
structure Board where
  flash : SMap Byte
  /-- digest words programmed in each key slot: key 4 × slot + word -/
  keyWords : SMap (Option W64)
  /-- revoked key slots -/
  keyRevoked : BitVec 4
  /-- PORST_N is high (R520) -/
  porst : Bool
  /-- the device drives a pulse on BLAZE_SYNC (R486) -/
  syncOut : Bool
  /-- the ROM boots by push over the PCIe endpoint, which it trains as its boot path (R85, R86) -/
  pushing : Bool
  /-- device time, plus 1, at which the boot flash that is polled becomes ready; 0: it does not (R448) -/
  flashReady : Nat
  /-- VIO33 and VAON are present (R523) -/
  vio33 : Bool
  vaon : Bool
deriving DecidableEq, Repr

def Board.reset : Board := ⟨[], [], 0#4, false, false, false, 0, true, true⟩

/-- The pin sampler (R386 to R388), what the islands hold for the Tally counters (R422), and the Lookout sampler
(R408). -/
structure Sampler where
  /-- inputs whose present stuck episode has been counted (R387) -/
  fired : BitVec 16
  /-- consecutive samples of each input at the level that its filtered level does not have (R386) -/
  pend : SMap Nat
  /-- samples for which each input's filtered level has been active, or since STUCK_US was written (R387) -/
  active : SMap Nat
  /-- increments held until the Tally side can take them, by island and source: 8192 × island + source (R388, R422) -/
  held : SMap Nat
  /-- Lookout sample number since entry (R410) -/
  sample : Nat
  /-- GPIO levels and signal detects of the previous sample -/
  gpio : BitVec 16
  sd : BitVec 96
  /-- temperature and VSENSE code last recorded -/
  temp : Int
  vsense : Nat
deriving DecidableEq, Repr

def Sampler.reset : Sampler := ⟨0#16, [], [], [], 0, 0#16, 0#96, 0, 0⟩

/-- Mode transitions, wakes and hold-up (R393 to R416), beside the registers of the Power block. -/
structure Power where
  /-- the transition in progress is a wake -/
  waking : Bool
  /-- a request for IDLE waits until every started Glade is in Clearing (R394) -/
  idleWait : Bool
  /-- a wake that arrived during an entry (R396): its cause and its target mode -/
  wake : Option (Nat × Nat)
  /-- HOLDUP, or SAFE with its SOURCE (0: none), became due during a transition (R396) -/
  holdupDue : Bool
  safeDue : Nat
  /-- a SERVICE request was granted during a transition (R395, R453): AUTH and SLOT -/
  serviceDue : Option (Bool × Nat)
  /-- consecutive VSENSE samples below the threshold (R413) -/
  low : Nat
  /-- every domain but AON, SEEDBANK and SAMPLER is off (R415, R89) -/
  down : Bool
  /-- domains in the pause before a wake retry (R405) -/
  retry : List Nat
  /-- automatic octets switched off because every lane of them was down (R397) -/
  dead : List Nat
  /-- domains whose contents are gone until their next wake clears them (R399) -/
  lost : BitVec 64
  /-- a SAFE reaction, or SERVICE, drives the outputs to SAFE_OUT until a restart, in HOLDUP and during a transition too
  (R416, R510 to R512) -/
  ssoSafe : Bool
  /-- the levels that the AON pads hold in RETAIN and LOOKOUT (R451) -/
  ssoHeld : Nat
  /-- the last-fault body that step 6 of SAFE entry has still to write (R510); empty: none -/
  faultRecord : List Byte
  /-- consecutive VSENSE samples at least 5 % above VTHRESH_MV (R486) -/
  high : Nat
  /-- the board or another device drives HOLDUP_N low (R486) -/
  extLow : Bool
deriving DecidableEq, Repr

def Power.reset : Power := ⟨false, false, none, false, 0, none, 0, false, [], [], 0#64, false, 0, [], 0, false⟩

/-- The clock monitors (R426, R427), beside `UST_ISLi`. -/
structure Monitors where
  /-- consecutive misses of each island's clocks: 2 × island, and 1 more for the clock of an octet's quad 1 (R432) -/
  misses : SMap Nat
  /-- device time, plus 1, of the last fault of each island -/
  since : SMap Nat
  /-- the 25 MHz reference failed its last check (R426) -/
  refBad : Bool
  /-- consecutive temperature samples above PARAM (R506) -/
  tempHigh : Nat
  /-- temperature faults whose second of observation runs (R506): device time, and ADDR of the record -/
  tempFaults : List (Nat × Nat)
  /-- device time, plus 1, at which each supply last returned (R505), by bit; IVR rails at 16 + r -/
  returned : SMap Nat
  /-- supplies outside their window now, by the same numbers -/
  outside : List Nat
  /-- a temperature has been sampled since PORST_N -/
  tempSeen : Bool
deriving DecidableEq, Repr

def Monitors.reset : Monitors := ⟨[], [], false, 0, [], [], [], false⟩

/-- One value or entry that the leading Glade of a pair obtained for both (R496). -/
inductive Fed where
  /-- a load outside the local memories: its value, or the detail of its bus error -/
  | load (q : W64)
  | loadBad (detail : Nat)
  /-- a TIME sample and its status -/
  | time (count ctl : W64)
  /-- an event entry -/
  | event
deriving DecidableEq, Repr

/-- A lockstep pair (R496 to R499), by its leading Glade. A Glade's position since the last seal is its ISSUED count
less its base. -/
structure Pair where
  /-- the shadow checkpoint of the leading and the trailing Glade -/
  lead : Glade
  trail : Glade
  /-- ISSUED of each Glade at the last seal -/
  leadBase : W64
  trailBase : W64
  /-- what the leading Glade obtained and the trailing one has not taken, oldest first, with the leading Glade's
  position -/
  feed : List (Nat × Fed)
  /-- the seal timer has run out (R498) -/
  timer : Bool
  /-- the seal at the present position matched: its bundle may issue -/
  sealed : Bool
  /-- a divergence is being re-run (R499) -/
  rerun : Bool
deriving DecidableEq, Repr

def Pair.reset : Pair := ⟨Glade.reset, Glade.reset, 0#64, 0#64, [], false, false, false⟩

/-- What software sets in the endpoint's configuration space, and its MSI-X table (R440 to R443). -/
structure Msix where
  /-- address, data and vector control of each entry of the MSI-X table; reset masked (R441) -/
  table : SMap (W64 × BitVec 32 × BitVec 32)
  pending : BitVec 32
  /-- MSI-X Enable and Function Mask of the MSI-X capability -/
  enable : Bool
  masked : Bool
  /-- Command register: bit 1 Memory Space Enable, bit 2 Bus Master Enable -/
  command : BitVec 16
  /-- base address registers 0, 2 and 4 -/
  bars : W64 × W64 × W64
  /-- the function is in D3hot -/
  d3 : Bool
  /-- Uncorrectable Error Status of the AER capability -/
  aer : BitVec 32
deriving DecidableEq, Repr

def Msix.reset : Msix := ⟨[], 0#32, false, false, 0#16, (0#64, 0#64, 0#64), false, 0#32⟩

/-- What enumeration sets in the configuration space of a root port's bridge (R438): Command; primary, secondary and
subordinate bus number and secondary latency timer; memory base and limit; prefetchable base and limit, and their upper
words; Device Control, Link Control and Device Control 2 of its PCI Express capability; and Uncorrectable Error Status,
Mask and Severity of its AER capability. -/
structure Bridge where
  command : BitVec 16
  buses : BitVec 32
  memory : BitVec 32
  prefetch : BitVec 32
  baseUpper : BitVec 32
  limitUpper : BitVec 32
  control : BitVec 16
  linkControl : BitVec 16
  control2 : BitVec 16
  aer : BitVec 32
  aerMask : BitVec 32
  aerSeverity : BitVec 32
deriving DecidableEq, Repr

def Bridge.reset : Bridge :=
  ⟨0#16, 0#32, 0#32, 0#32, 0#32, 0#32, 0x2810#16, 0#16, 0#16, 0#32, 0#32, 0x00462030#32⟩

/-- The UART FIFOs (R450): bytes to send; bytes received with their framing error; bytes lost since the last read. -/
structure Uart where
  tx : List Byte
  rx : List (Byte × Bool)
  overrun : Bool
deriving DecidableEq, Repr

def Uart.reset : Uart := ⟨[], [], false⟩

/-- The JTAG port (R452 to R454). -/
structure Jtag where
  /-- instruction code; IDCODE at test-logic reset -/
  ir : Nat
  /-- boundary register -/
  boundary : List Bool
  /-- the pins follow the boundary register (EXTEST, CLAMP) or float (HIGHZ) -/
  pins : Nat
  /-- challenge captured and not yet used -/
  challenge : Option (BitVec 256)
  /-- DATA and STATUS that the next Capture-DR of SVC_ACCESS loads -/
  data : W64
  status : Nat
  /-- access of SVC_ACCESS still in progress: OP, address, data (R454) -/
  access : Option (Nat × Nat × W64)
deriving DecidableEq, Repr

def Jtag.reset : Jtag := ⟨1, [], 0, none, 0#64, 0, none⟩

/-- A flit to send (R458): TYPE, SUB, bits [63:48] of its header, and payload words 1 to 6. -/
structure OutFlit where
  ty : Nat
  sub : Nat
  top : Nat
  words : List W64
deriving DecidableEq, Repr

/-- A DATA flit in a link's receive buffer (R463): FIRSTP and LASTP, its packet words, whether it arrived during a cut
(R478), and whether it still holds a slot of the buffer. -/
structure RxFlit where
  first : Bool
  last : Bool
  words : List W64
  cut : Bool
  slot : Bool
deriving DecidableEq, Repr

/-- Where a packet for this device goes, as the classifier said when it began (R296, R300): to queue `q`, the classifier
entry and the cells it has so far (R287); to a drop counter; refused at a Firebreak; or nowhere, its drop being counted.
-/
inductive RxDest where
  | queue (q index : Nat) (cells : List Nat)
  | drop (k : Nat)
  | firebreak
  | gone
deriving DecidableEq, Repr

/-- What becomes of the packet whose flits a link is passing on (R467): discarded; handed to the QM, its words and
flits so far and where they go; or forwarded on link `k`, its LENGTH, and its words and flits so far. -/
inductive RxPkt where
  | drop
  | own (words : List W64) (flits : Nat) (dest : RxDest)
  | forward (k len words flits : Nat)
deriving DecidableEq, Repr

/-- A packet that a link sends or has still to send (R466, R468): the link that forwards it, none for one of the link's
own egress queues; that queue (R274); its flits not yet sent, each with whether it holds a buffer slot of that link; all its flits are
there; some have been sent. -/
structure OutPkt where
  src : Option Nat
  queue : Option Nat
  flits : List (OutFlit × Bool)
  whole : Bool
  begun : Bool
deriving DecidableEq, Repr

/-- A Rootlink link beside its registers (R461 to R464). -/
structure Link where
  /-- CTRL and BLAZE flits that wait for credit or for the retry buffer, and the packet being sent (R468) -/
  ctrl : List OutFlit
  data : Option OutPkt
  /-- packets to forward that wait behind `data`, oldest first; whether the link's own egress queues are served next when
  both wait (R468) -/
  fwd : List OutPkt
  ownTurn : Bool
  /-- flits sent since the last IDLE flit (R457) -/
  streak : Nat
  /-- sent and not acknowledged, oldest first, with their FSEQ -/
  retry : List (Nat × OutFlit)
  /-- sequenced flits sent since the link came UP -/
  sent : Nat
  /-- LIMIT last received -/
  limit : Nat
  /-- FSEQ expected next -/
  expect : Nat
  /-- sequenced flits freed since the link came UP -/
  freed : Nat
  /-- a flit has failed and its expected FSEQ has not been accepted yet (R462) -/
  failing : Bool
  /-- DATA flits received and not passed on, oldest first, and the packet of the oldest -/
  rx : List RxFlit
  cur : Option RxPkt
  /-- word 2 of the last TRAIN flit received, and the engine's cycle count at its arrival; this attempt's TRAIN flits have
  been sent (R456) -/
  peerCount : W64
  peerAt : Option W64
  trained : Bool
  /-- t1, t2 and t3 of the time exchange in progress (R475) -/
  exchange : Option (W64 × W64 × W64)
deriving DecidableEq, Repr

def Link.reset : Link := ⟨[], none, [], false, 0, [], 0, 0, 0, 0, false, [], none, 0#64, none, false, none⟩

/-- A message of the mailbox (R470): SUB, arrival link, and words 1 to 6 of its flit. -/
structure Mail where
  sub : Nat
  link : Nat
  words : List W64
deriving DecidableEq, Repr

/-- A Blaze that this device has cut and that is not complete (R482). -/
structure BlazeRun where
  id : Nat
  /-- journals that received its record and have not reported it durable -/
  journals : List Nat
  /-- links from which its BLAZE flit has not arrived -/
  flits : List Nat
  /-- downstream links that have not answered with BLAZE_DONE -/
  answers : List Nat
  devices : Nat
  missing : Nat
  /-- its BLAZE source has been raised -/
  raised : Bool
deriving DecidableEq, Repr

/-- An ingress that a Blaze holds back until the cut point (R478). -/
inductive HeldIn where
  /-- frame on a lane, its MAC timestamp, and the queue and classifier entry that took it when it arrived (R300) -/
  | frame (lane : Nat) (data : List Byte) (time queue index : Nat)
deriving DecidableEq, Repr

/-- The Rootlink engines and the Blaze. -/
structure Rootlink where
  links : SMap Link
  mailbox : List Mail
  /-- the Blaze being cut, and the links from which its flit has arrived -/
  cutting : Option (Nat × List Nat)
  /-- flits of later Blazes that arrived during the cut: ID and link -/
  later : List (Nat × Nat)
  /-- whole frames held by the cut -/
  held : List HeldIn
  runs : List BlazeRun
  /-- device time, plus 1, of the last initiation (R476) -/
  lastStart : Nat
  /-- the last 58 bits that each lane's scrambler sent (R457); unlisted: 0 (log 126) -/
  scramblers : SMap (BitVec 58)
  /-- link on which flits of the command of `RTL_CMD` in progress wait (log 31) -/
  command : Option Nat
  /-- NEG_OFFER has been sent since the device was last without an ID, out of RUN, or without its upstream link (R474) -/
  offered : Bool
deriving DecidableEq, Repr

def Rootlink.reset : Rootlink := ⟨[], [], none, [], [], [], 0, [], none, false⟩

/-- A REGROW in progress (R72): the Grove and the fragment's sections (TYPE and body). -/
structure Regrow where
  grove : Nat
  sections : List (Nat × List Byte)
deriving DecidableEq, Repr

/-- Admin commands to an NVMe controller (R347). -/
inductive NvmeAdmin where
  /-- Identify with a CNS, of a namespace -/
  | identify (cns nsid : Nat)
  /-- Create I/O Completion Queue, Submission Queue `q`, of 256 entries -/
  | createCq (q : Nat)
  | createSq (q : Nat)
  /-- Delete I/O Submission Queue, Completion Queue `q` -/
  | deleteSq (q : Nat)
  | deleteCq (q : Nat)
  /-- Set Features: Number of Queues, and Get Features of the same -/
  | numberOfQueues (n : Nat)
  | getNumberOfQueues
  /-- Get Features: Volatile Write Cache, and Set Features of the same -/
  | volatileWriteCache
  | setVolatileWriteCache (on : Bool)
  | asyncEvent
  /-- Get Log Page: Error Information, and SMART / Health Information -/
  | errorLog
  | smartLog
deriving DecidableEq, Repr

/-- Bytes of data that an admin command transfers (log 122). -/
def NvmeAdmin.bytes : NvmeAdmin → Nat
  | .identify _ _ => 4096
  | .errorLog => 64
  | .smartLog => 512
  | _ => 0

/-- I/O commands to an NVMe controller (R347). -/
inductive NvmeIo where
  | write (fua : Bool)
  | read
  | flush
  | writeZeroes
deriving DecidableEq, Repr

/-- What the device sends to the outside. -/
inductive Out where
  /-- a posted Memory Write of root complex `c`, bus address and bytes (R439) -/
  | pcieWrite (c addr : Nat) (data : List Byte)
  /-- a Memory Read or configuration request of root complex `c` (R439) -/
  | pcieRead (c addr n : Nat)
  /-- an MSI-X message of the endpoint (R442) -/
  | msix (v : Nat) (addr : W64) (data : BitVec 32)
  /-- an Ethernet frame on lane `l` (R445) -/
  | frame (l : Nat) (data : List Byte)
  /-- a Rootlink flit on link `l`: its eight words (R458) -/
  | flit (l : Nat) (words : List W64)
  /-- the scrambled 66-bit blocks of a flit on lane `n`: sync header and payload of each (R457) -/
  | blocks (n : Nat) (bs : List (BitVec 2 × W64))
  /-- a UART byte (R450) -/
  | uart (b : Byte)
  /-- an I2C transfer: address, bytes written, bytes to read (R449) -/
  | i2c (addr : Nat) (data : List Byte) (rlen : Nat)
  /-- a command to the boot flash: opcode, address, bytes written (R448) -/
  | flash (op : Nat) (addr : Option Nat) (data : List Byte)
  /-- the answer to a host read (R441): 0 and data, 1 Unsupported Request, 2 Completer Abort -/
  | host (code : Nat) (data : List Byte)
  /-- the value that a read of a control register returned, or the detail of its bus error -/
  | reg (v : W64)
  | refused (detail : Nat)
  /-- bits shifted out of the JTAG port -/
  | jtag (bits : Nat)
  /-- a posted write that the endpoint refused, reported through its AER capability (R85) -/
  | aer
  /-- Abort of controller `i`'s oldest command, and a reset of the controller (R347, R348) -/
  | nvmeAbort (i : Nat)
  | nvmeReset (i : Nat)
  /-- an admin command to controller `i` with its PRP entries, and an I/O command of its queue pair `q` to its namespace
  `nsid`: first byte, bytes and PRP entries (R347) -/
  | nvmeAdmin (i : Nat) (c : NvmeAdmin) (prps : List Nat)
  | nvmeIo (i q : Nat) (c : NvmeIo) (nsid pos n : Nat) (prps : List Nat)
  /-- Unsupported Request to an inbound PCIe request of complex `c` (R439) -/
  | pcieUr (c : Nat)
  /-- the data of a completion to an inbound read of complex `c` (R439); empty when the bytes could not be read -/
  | pcieReply (c : Nat) (data : List Byte)
deriving DecidableEq, Repr

end Sys2Proof.Machine
end

