-- ==== Sys2Proof/Config.lean ====
section
/-! DEFINITION. What one part fixes (its grade) and the FREE VALUES: constants without a body for every value the
spec leaves open. Nothing in Lean can evaluate one; a claim about a step that uses one holds whatever its value. -/

namespace Sys2Proof.Config

/-- The part is a CH-2560-X, not a CH-2560-I (R2, R4). -/
opaque gradeX : Bool

/-- Free value number `n`: a word the spec leaves undefined (log 20 lists the places that draw one). -/
opaque freeWord : Nat → W64

/-- Free value number `n`: a yes or no the spec leaves open (log 20). -/
opaque freeBool : Nat → Bool

/-- The fold of the last four branch targets into 6 bits (R188), which the spec does not give (log 21). -/
opaque foldPath : List W64 → BitVec 6

end Sys2Proof.Config
end

