-- ==== Sys2Proof/Machine/Regs.lean ====
section
/-! DEFINITION. The control registers of the device: the address of each register (block base of R26 plus its
offset), its access codes (R10) as bit masks, its reset value, and the agents besides the Heartwood that may write
it (R18). One row per register introduction of the spec. -/

namespace Sys2Proof.Machine

/-- One register introduction of the spec: `n` instances at `stride` from `base`, repeated `n2` times at `stride2`;
the masks say which bits have each access code of R10; a bit in no mask is RO or reserved. -/
structure RegRow where
  name : String
  base : Nat
  n : Nat
  stride : Nat
  n2 : Nat
  stride2 : Nat
  rw : Nat
  w1c : Nat
  w1s : Nat
  rc : Nat
  wo : Nat
  /-- every bit the register's table names a field for -/
  used : Nat
  reset : Nat
  /-- Glades may write it (an exception to R18) -/
  byGlade : Bool
  /-- the host may write it (an exception to R18) -/
  byHost : Bool
deriving DecidableEq, Repr

namespace Reg

/-- `HW_ID` (00_scope.md). -/
def HW_ID : Nat := 0x401000000
/-- `HW_ROLE` (01_groves_glades_and_canopy.md). -/
def HW_ROLE : Nat := 0x401000010
/-- `SM_STATUS` (02_stand_map.md). -/
def SM_STATUS : Nat := 0x40B000000
/-- `SM_ERROR` (02_stand_map.md). -/
def SM_ERROR : Nat := 0x40B000008
/-- `SM_IMAGE_SEQ` (02_stand_map.md). -/
def SM_IMAGE_SEQ : Nat := 0x40B000010
/-- `SM_KEYSTATE` (02_stand_map.md). -/
def SM_KEYSTATE : Nat := 0x40B000040
/-- `SM_KEYPROG_DATA` (02_stand_map.md). -/
def SM_KEYPROG_DATA : Nat := 0x40B000208
/-- `SM_KEYPROG` (02_stand_map.md). -/
def SM_KEYPROG : Nat := 0x40B000200
/-- `SM_REGROW` (02_stand_map.md). -/
def SM_REGROW : Nat := 0x40B000300
/-- `SM_REGROW_STATUS` (02_stand_map.md). -/
def SM_REGROW_STATUS : Nat := 0x40B000308
/-- `HW_BOOT` (03_from_power_on_to_run.md). -/
def HW_BOOT : Nat := 0x401000018
/-- `HW_PUSH` (03_from_power_on_to_run.md). -/
def HW_PUSH : Nat := 0x401000020
/-- `NEG_LOCK` (03_from_power_on_to_run.md). -/
def NEG_LOCK : Nat := 0x40C000020
/-- `SM_DIGESTn` (02_stand_map.md). -/
def SM_DIGEST (i : Nat) : Nat := 0x40B000020 + 0x8 * i
/-- `SM_KEYDIGn_w` (02_stand_map.md). -/
def SM_KEYDIG (a i : Nat) : Nat := 0x40B000100 + 0x20 * a + 0x8 * i
/-- `NEG_OFFERn` (03_from_power_on_to_run.md). -/
def NEG_OFFER (i : Nat) : Nat := 0x40C000000 + 0x8 * i
/-- `NEG_ACCEPTn` (03_from_power_on_to_run.md). -/
def NEG_ACCEPT (i : Nat) : Nat := 0x40C000010 + 0x8 * i
/-- `GRV_ERR_STATUS` (10_memories_ecc_and_scrubbing.md). -/
def GRV_ERR_STATUS (a : Nat) : Nat := 0x400001000 + 0x100000 * a
/-- `GRV_ERRn_INFO` (10_memories_ecc_and_scrubbing.md). -/
def GRV_ERR_INFO (a i : Nat) : Nat := 0x400001100 + 0x100000 * a + 0x10 * i
/-- `GRV_ERRn_ADDR` (10_memories_ecc_and_scrubbing.md). -/
def GRV_ERR_ADDR (a i : Nat) : Nat := 0x400001108 + 0x100000 * a + 0x10 * i
/-- `GRV_SCRUB_RATE` (10_memories_ecc_and_scrubbing.md). -/
def GRV_SCRUB_RATE (a : Nat) : Nat := 0x400001200 + 0x100000 * a
/-- `GRV_SCRUB_STATUS` (10_memories_ecc_and_scrubbing.md). -/
def GRV_SCRUB_STATUS (a : Nat) : Nat := 0x400001208 + 0x100000 * a
/-- `GRV_SCRUB_COUNTS` (10_memories_ecc_and_scrubbing.md). -/
def GRV_SCRUB_COUNTS (a : Nat) : Nat := 0x400001210 + 0x100000 * a
/-- `GRV_BUSY` (10_memories_ecc_and_scrubbing.md). -/
def GRV_BUSY (a : Nat) : Nat := 0x400001218 + 0x100000 * a
/-- `GRV_INJECT` (10_memories_ecc_and_scrubbing.md). -/
def GRV_INJECT (a : Nat) : Nat := 0x400001300 + 0x100000 * a
/-- `GRV_TXU_STATUS` (12_transactions.md). -/
def GRV_TXU_STATUS (a : Nat) : Nat := 0x400001800 + 0x100000 * a
/-- `GRV_TXU_TICKET` (12_transactions.md). -/
def GRV_TXU_TICKET (a : Nat) : Nat := 0x400001808 + 0x100000 * a
/-- `GRV_TXU_OPEN` (12_transactions.md). -/
def GRV_TXU_OPEN (a : Nat) : Nat := 0x400001810 + 0x100000 * a
/-- `GRV_TXU_COMMITS` (12_transactions.md). -/
def GRV_TXU_COMMITS (a : Nat) : Nat := 0x400001840 + 0x100000 * a
/-- `GRV_RETIREn` (10_memories_ecc_and_scrubbing.md). -/
def GRV_RETIRE (a i : Nat) : Nat := 0x400001400 + 0x100000 * a + 0x8 * i
/-- `GRV_TXU_ABORTn` (12_transactions.md). -/
def GRV_TXU_ABORT (a i : Nat) : Nat := 0x400001820 + 0x100000 * a + 0x8 * i
/-- `DDR_CHn_CFG` (10_memories_ecc_and_scrubbing.md). -/
def DDR_CH_CFG (a : Nat) : Nat := 0x409000000 + 0x10000 * a
/-- `DDR_CHn_WMARK` (10_memories_ecc_and_scrubbing.md). -/
def DDR_CH_WMARK (a : Nat) : Nat := 0x409000008 + 0x10000 * a
/-- `DDR_CHn_PATROL` (10_memories_ecc_and_scrubbing.md). -/
def DDR_CH_PATROL (a : Nat) : Nat := 0x409000010 + 0x10000 * a
/-- `DDR_ERR_STATUS` (10_memories_ecc_and_scrubbing.md). -/
def DDR_ERR_STATUS (a : Nat) : Nat := 0x409000100 + 0x10000 * a
/-- `DDR_ERRn_INFO` (10_memories_ecc_and_scrubbing.md). -/
def DDR_ERR_INFO (a i : Nat) : Nat := 0x409000110 + 0x10000 * a + 0x10 * i
/-- `DDR_ERRn_ADDR` (10_memories_ecc_and_scrubbing.md). -/
def DDR_ERR_ADDR (a i : Nat) : Nat := 0x409000118 + 0x10000 * a + 0x10 * i
/-- `SAF_ERR_STATUS` (10_memories_ecc_and_scrubbing.md). -/
def SAF_ERR_STATUS : Nat := 0x406000800
/-- `SAF_ERRn_INFO` (10_memories_ecc_and_scrubbing.md). -/
def SAF_ERR_INFO (i : Nat) : Nat := 0x406000810 + 0x10 * i
/-- `SAF_ERRn_ADDR` (10_memories_ecc_and_scrubbing.md). -/
def SAF_ERR_ADDR (i : Nat) : Nat := 0x406000818 + 0x10 * i
/-- `QM_STATUS` (11_queue_manager.md). -/
def QM_STATUS : Nat := 0x402000000
/-- `QM_CMD` (11_queue_manager.md). -/
def QM_CMD : Nat := 0x402000010
/-- `QM_CMD_STATUS` (11_queue_manager.md). -/
def QM_CMD_STATUS : Nat := 0x402000018
/-- `QM_CMD_DATAn` (11_queue_manager.md). -/
def QM_CMD_DATA (i : Nat) : Nat := 0x402000020 + 0x8 * i
/-- `QM_GPOOLg` (11_queue_manager.md). -/
def QM_GPOOL (i : Nat) : Nat := 0x402000100 + 0x8 * i
/-- `QM_DPOOLp_BASE` (11_queue_manager.md). -/
def QM_DPOOL_BASE (i : Nat) : Nat := 0x402000200 + 0x10 * i
/-- `QM_DPOOLp_SIZE` (11_queue_manager.md). -/
def QM_DPOOL_SIZE (i : Nat) : Nat := 0x402000208 + 0x10 * i
/-- `QM_DPOOLp_LOST` (11_queue_manager.md). -/
def QM_DPOOL_LOST (i : Nat) : Nat := 0x402000280 + 0x8 * i
/-- `QM_DROPS0` (11_queue_manager.md). -/
def QM_DROPS0 : Nat := 0x402000300
/-- `QM_DROPS1` (11_queue_manager.md). -/
def QM_DROPS1 : Nat := 0x402000308
/-- `QM_EGQn` (11_queue_manager.md). -/
def QM_EGQ (i : Nat) : Nat := 0x402001000 + 0x8 * i
/-- `QM_ISRCn` (11_queue_manager.md). -/
def QM_ISRC (i : Nat) : Nat := 0x402002000 + 0x8 * i
/-- `QM_ETYPEm_w` (11_queue_manager.md). -/
def QM_ETYPE (a i : Nat) : Nat := 0x402003000 + 0x20 * a + 0x8 * i
/-- `QM_CLSi` (11_queue_manager.md). -/
def QM_CLS (i : Nat) : Nat := 0x402100000 + 0x8 * i
/-- `JW_STATUS` (13_journals.md). -/
def JW_STATUS : Nat := 0x403000000
/-- `JW_CMD` (13_journals.md). -/
def JW_CMD : Nat := 0x403000010
/-- `JW_CMD_STATUS` (13_journals.md). -/
def JW_CMD_STATUS : Nat := 0x403000018
/-- `JW_NVME_BASE` (13_journals.md). -/
def JW_NVME_BASE : Nat := 0x403000020
/-- `JW_STAGE_BASE` (13_journals.md). -/
def JW_STAGE_BASE : Nat := 0x403000028
/-- `JW_STAGE_SIZE` (13_journals.md). -/
def JW_STAGE_SIZE : Nat := 0x403000030
/-- `JW_TIMEOUT` (13_journals.md). -/
def JW_TIMEOUT : Nat := 0x403000038
/-- `JW_ERR_COUNTS` (13_journals.md). -/
def JW_ERR_COUNTS : Nat := 0x403000040
/-- `JW_CTRLi` (13_journals.md). -/
def JW_CTRL (i : Nat) : Nat := 0x403000100 + 0x8 * i
/-- `JW_JCFGj` (13_journals.md). -/
def JW_JCFG (i : Nat) : Nat := 0x403010000 + 0x8 * i
/-- `JW_JSTATEj` (13_journals.md). -/
def JW_JSTATE (i : Nat) : Nat := 0x403020000 + 0x8 * i
/-- `JW_JSEQj` (13_journals.md). -/
def JW_JSEQ (i : Nat) : Nat := 0x403030000 + 0x8 * i
/-- `JW_JRELj` (13_journals.md). -/
def JW_JREL (i : Nat) : Nat := 0x403040000 + 0x8 * i
/-- `HW_SB_STATUS` (14_seedbank_and_power_loss.md). -/
def HW_SB_STATUS : Nat := 0x401000400
/-- `HW_SB_CMD` (14_seedbank_and_power_loss.md). -/
def HW_SB_CMD : Nat := 0x401000408
/-- `HW_SB_CMD_STATUS` (14_seedbank_and_power_loss.md). -/
def HW_SB_CMD_STATUS : Nat := 0x401000410
/-- `HW_SB_MSEQ` (14_seedbank_and_power_loss.md). -/
def HW_SB_MSEQ : Nat := 0x401000418
/-- `HW_SB_GROVEg` (14_seedbank_and_power_loss.md). -/
def HW_SB_GROVE (i : Nat) : Nat := 0x401000500 + 0x8 * i
/-- `TLY_STATUS` (15_tally_events.md). -/
def TLY_STATUS : Nat := 0x404000000
/-- `TLY_MYSUM0` (15_tally_events.md). -/
def TLY_MYSUM0 : Nat := 0x404000010
/-- `TLY_MYSUM1` (15_tally_events.md). -/
def TLY_MYSUM1 : Nat := 0x404000018
/-- `TLY_SUM0` (15_tally_events.md). -/
def TLY_SUM0 : Nat := 0x404000020
/-- `TLY_SUM1` (15_tally_events.md). -/
def TLY_SUM1 : Nat := 0x404000028
/-- `TLY_RAISE` (15_tally_events.md). -/
def TLY_RAISE : Nat := 0x404000040
/-- `TLY_TIMERn` (15_tally_events.md). -/
def TLY_TIMER (i : Nat) : Nat := 0x404000100 + 0x8 * i
/-- `TLY_MYPENDw` (15_tally_events.md). -/
def TLY_MYPEND (i : Nat) : Nat := 0x404001000 + 0x8 * i
/-- `TLY_PENDw` (15_tally_events.md). -/
def TLY_PEND (i : Nat) : Nat := 0x404002000 + 0x8 * i
/-- `TLY_CNTs` (15_tally_events.md). -/
def TLY_CNT (i : Nat) : Nat := 0x404100000 + 0x8 * i
/-- `TLY_SUBs` (15_tally_events.md). -/
def TLY_SUB (i : Nat) : Nat := 0x404200000 + 0x8 * i
/-- `TLY_ROUTEs` (15_tally_events.md). -/
def TLY_ROUTE (i : Nat) : Nat := 0x404300000 + 0x8 * i
/-- `UST_GPIn_CFG` (15_tally_events.md). -/
def UST_GPI_CFG (i : Nat) : Nat := 0x40A000100 + 0x8 * i
/-- `PWR_MODE` (16_power_modes_and_holdup.md). -/
def PWR_MODE : Nat := 0x405000000
/-- `PWR_MODE_REQ` (16_power_modes_and_holdup.md). -/
def PWR_MODE_REQ : Nat := 0x405000008
/-- `PWR_STATUS` (16_power_modes_and_holdup.md). -/
def PWR_STATUS : Nat := 0x405000010
/-- `PWR_LEAN_CFG` (16_power_modes_and_holdup.md). -/
def PWR_LEAN_CFG : Nat := 0x405000018
/-- `PWR_WAKE_CFG` (16_power_modes_and_holdup.md). -/
def PWR_WAKE_CFG : Nat := 0x405000020
/-- `PWR_HOLDUP_CFG` (16_power_modes_and_holdup.md). -/
def PWR_HOLDUP_CFG : Nat := 0x405000028
/-- `PWR_EST` (16_power_modes_and_holdup.md). -/
def PWR_EST : Nat := 0x405000030
/-- `PWR_DOMn` (16_power_modes_and_holdup.md). -/
def PWR_DOM (i : Nat) : Nat := 0x405000100 + 0x8 * i
/-- `PWR_RAILr` (16_power_modes_and_holdup.md). -/
def PWR_RAIL (i : Nat) : Nat := 0x405000300 + 0x8 * i
/-- `UST_TIME` (17_understory_crossings.md). -/
def UST_TIME : Nat := 0x40A000000
/-- `UST_TIME_CTL` (17_understory_crossings.md). -/
def UST_TIME_CTL : Nat := 0x40A000008
/-- `UST_TIME_STEP` (17_understory_crossings.md). -/
def UST_TIME_STEP : Nat := 0x40A000010
/-- `UST_TIME_RATE` (17_understory_crossings.md). -/
def UST_TIME_RATE : Nat := 0x40A000018
/-- `UST_ISLi` (17_understory_crossings.md). -/
def UST_ISL (i : Nat) : Nat := 0x40A000800 + 0x10 * i
/-- `UST_ISLi_MON` (17_understory_crossings.md). -/
def UST_ISL_MON (i : Nat) : Nat := 0x40A000808 + 0x10 * i
/-- `LANE_STATEn` (18_lanes_and_low_speed_ports.md). -/
def LANE_STATE (i : Nat) : Nat := 0x407010000 + 0x100 * i
/-- `LANE_EQn` (18_lanes_and_low_speed_ports.md). -/
def LANE_EQ (i : Nat) : Nat := 0x407010008 + 0x100 * i
/-- `LANE_ETHn_CFG` (18_lanes_and_low_speed_ports.md). -/
def LANE_ETH_CFG (i : Nat) : Nat := 0x407010010 + 0x100 * i
/-- `LANE_ETHn_ADDR` (18_lanes_and_low_speed_ports.md). -/
def LANE_ETH_ADDR (i : Nat) : Nat := 0x407010018 + 0x100 * i
/-- `LANE_ETHn_TXTS` (18_lanes_and_low_speed_ports.md). -/
def LANE_ETH_TXTS (i : Nat) : Nat := 0x407010020 + 0x100 * i
/-- `LANE_ETHn_CNT0` (18_lanes_and_low_speed_ports.md). -/
def LANE_ETH_CNT0 (i : Nat) : Nat := 0x407010028 + 0x100 * i
/-- `LANE_ETHn_CNT1` (18_lanes_and_low_speed_ports.md). -/
def LANE_ETH_CNT1 (i : Nat) : Nat := 0x407010030 + 0x100 * i
/-- `LANE_PCIEc_CFG` (18_lanes_and_low_speed_ports.md). -/
def LANE_PCIE_CFG (i : Nat) : Nat := 0x407080000 + 0x1000 * i
/-- `LANE_PCIEc_PpSTAT` (18_lanes_and_low_speed_ports.md). -/
def LANE_PCIE_STAT (a i : Nat) : Nat := 0x407080100 + 0x1000 * a + 0x8 * i
/-- `LANE_EP_WIN` (18_lanes_and_low_speed_ports.md). -/
def LANE_EP_WIN : Nat := 0x407090000
/-- `LANE_EP_MSIXv` (18_lanes_and_low_speed_ports.md). -/
def LANE_EP_MSIX (i : Nat) : Nat := 0x407090100 + 0x8 * i
/-- `UST_SSO` (18_lanes_and_low_speed_ports.md). -/
def UST_SSO : Nat := 0x40A000200
/-- `UST_XSPI_CMD` (18_lanes_and_low_speed_ports.md). -/
def UST_XSPI_CMD : Nat := 0x40A000300
/-- `UST_I2C_CMD` (18_lanes_and_low_speed_ports.md). -/
def UST_I2C_CMD : Nat := 0x40A000500
/-- `UST_UART_CFG` (18_lanes_and_low_speed_ports.md). -/
def UST_UART_CFG : Nat := 0x40A000600
/-- `UST_UART_TX` (18_lanes_and_low_speed_ports.md). -/
def UST_UART_TX : Nat := 0x40A000608
/-- `UST_UART_RX` (18_lanes_and_low_speed_ports.md). -/
def UST_UART_RX : Nat := 0x40A000610
/-- `UST_SVC` (18_lanes_and_low_speed_ports.md). -/
def UST_SVC : Nat := 0x40A000700
/-- `RTL_STATUS` (19_rootlink_and_plant_hierarchy.md). -/
def RTL_STATUS : Nat := 0x408000000
/-- `RTL_CMD` (19_rootlink_and_plant_hierarchy.md). -/
def RTL_CMD : Nat := 0x408000010
/-- `RTL_CMD_STATUS` (19_rootlink_and_plant_hierarchy.md). -/
def RTL_CMD_STATUS : Nat := 0x408000018
/-- `RTL_CMD_ARGk` (19_rootlink_and_plant_hierarchy.md). -/
def RTL_CMD_ARG (i : Nat) : Nat := 0x408000020 + 0x8 * i
/-- `RTL_MBOX_STATUS` (19_rootlink_and_plant_hierarchy.md). -/
def RTL_MBOX_STATUS : Nat := 0x408000040
/-- `RTL_MBOX_POP` (19_rootlink_and_plant_hierarchy.md). -/
def RTL_MBOX_POP : Nat := 0x408000048
/-- `RTL_MBOXk` (19_rootlink_and_plant_hierarchy.md). -/
def RTL_MBOX (i : Nat) : Nat := 0x408000050 + 0x8 * i
/-- `RTL_BLAZE_CFG` (19_rootlink_and_plant_hierarchy.md). -/
def RTL_BLAZE_CFG : Nat := 0x408000100
/-- `RTL_BLAZE_NEXT` (19_rootlink_and_plant_hierarchy.md). -/
def RTL_BLAZE_NEXT : Nat := 0x408000108
/-- `RTL_BLAZE_LAST` (19_rootlink_and_plant_hierarchy.md). -/
def RTL_BLAZE_LAST : Nat := 0x408000110
/-- `RTL_BLAZE_CUT` (19_rootlink_and_plant_hierarchy.md). -/
def RTL_BLAZE_CUT : Nat := 0x408000118
/-- `RTL_BLAZE_STATUS` (19_rootlink_and_plant_hierarchy.md). -/
def RTL_BLAZE_STATUS : Nat := 0x408000120
/-- `RTL_BOARD` (19_rootlink_and_plant_hierarchy.md). -/
def RTL_BOARD : Nat := 0x408000200
/-- `RTL_TIME_CFG` (19_rootlink_and_plant_hierarchy.md). -/
def RTL_TIME_CFG : Nat := 0x408000300
/-- `RTL_TIME_SEQ` (19_rootlink_and_plant_hierarchy.md). -/
def RTL_TIME_SEQ : Nat := 0x408000308
/-- `RTL_TIME_Tk` (19_rootlink_and_plant_hierarchy.md). -/
def RTL_TIME_T (i : Nat) : Nat := 0x408000310 + 0x8 * i
/-- `RTL_LINKl_STATE` (19_rootlink_and_plant_hierarchy.md). -/
def RTL_LINK_STATE (i : Nat) : Nat := 0x408001000 + 0x40 * i
/-- `RTL_LINKl_LAT` (19_rootlink_and_plant_hierarchy.md). -/
def RTL_LINK_LAT (i : Nat) : Nat := 0x408001008 + 0x40 * i
/-- `RTL_LINKl_ERR` (19_rootlink_and_plant_hierarchy.md). -/
def RTL_LINK_ERR (i : Nat) : Nat := 0x408001010 + 0x40 * i
/-- `RTL_ROUTEx` (19_rootlink_and_plant_hierarchy.md). -/
def RTL_ROUTE (i : Nat) : Nat := 0x408100000 + 0x8 * i
/-- `SAF_STATUS` (20_safety_mechanisms.md). -/
def SAF_STATUS : Nat := 0x406000000
/-- `SAF_FAULT` (20_safety_mechanisms.md). -/
def SAF_FAULT : Nat := 0x406000008
/-- `SAF_CTL` (20_safety_mechanisms.md). -/
def SAF_CTL : Nat := 0x406000010
/-- `SAF_HWDOG` (20_safety_mechanisms.md). -/
def SAF_HWDOG : Nat := 0x406000020
/-- `SAF_MECHm` (20_safety_mechanisms.md). -/
def SAF_MECH (i : Nat) : Nat := 0x406000108 + 0x8 * i
/-- `SAF_LSg` (20_safety_mechanisms.md). -/
def SAF_LS (i : Nat) : Nat := 0x406000300 + 0x8 * i
/-- `SAF_GCTLi` (20_safety_mechanisms.md). -/
def SAF_GCTL (i : Nat) : Nat := 0x406001000 + 0x8 * i
/-- `UST_XSPI_ADDR` (18_lanes_and_low_speed_ports.md). -/
def UST_XSPI_ADDR : Nat := 0x40A000308
/-- `UST_XSPI_DATA` (18_lanes_and_low_speed_ports.md). -/
def UST_XSPI_DATA (i : Nat) : Nat := 0x40A000400 + 0x8 * i
/-- `UST_I2C_DATA` (18_lanes_and_low_speed_ports.md). -/
def UST_I2C_DATA (i : Nat) : Nat := 0x40A000540 + 0x8 * i

end Reg

/-- The registers of the HW block. -/
def regRowsHw : List RegRow := [
  ⟨"HW_ID", 0x401000000, 1, 0x8, 1, 0x100000000, 0x0, 0x0, 0x0, 0x0, 0x0, 0xFFFFFFF, 0x0, false, false⟩,
  ⟨"HW_ROLE", 0x401000010, 1, 0x8, 1, 0x100000000, 0x0, 0x0, 0x0, 0x0, 0x0, 0x1FFFF0F, 0x0, false, false⟩,
  ⟨"HW_BOOT", 0x401000018, 1, 0x8, 1, 0x100000000, 0x0, 0x0, 0x0, 0x0, 0x0, 0xFFFFFFFFF3, 0x0, false, false⟩,
  ⟨"HW_PUSH", 0x401000020, 1, 0x8, 1, 0x100000000, 0x1FFFFFF03FFFF, 0x0, 0x8000000000000000, 0x0, 0x0, 0x8001FFFFFF03FFFF, 0x0, false, true⟩,
  ⟨"HW_SB_STATUS", 0x401000400, 1, 0x8, 1, 0x100000000, 0x0, 0x0, 0x0, 0x0, 0x0, 0x7F013F, 0x0, false, false⟩,
  ⟨"HW_SB_CMD", 0x401000408, 1, 0x8, 1, 0x100000000, 0x3FFFF03, 0x0, 0x8000000000000000, 0x0, 0x0, 0xC000000003FFFF03, 0x0, false, false⟩,
  ⟨"HW_SB_CMD_STATUS", 0x401000410, 1, 0x8, 1, 0x100000000, 0x0, 0x0, 0x0, 0x0, 0x0, 0xF, 0x0, false, false⟩,
  ⟨"HW_SB_MSEQ", 0x401000418, 1, 0x8, 1, 0x100000000, 0x0, 0x0, 0x0, 0x0, 0x0, 0xFFFFFFFFFFFFFFFF, 0x0, false, false⟩,
  ⟨"HW_SB_GROVEg", 0x401000500, 16, 0x8, 1, 0x100000000, 0x0, 0x0, 0x0, 0xFFFF00000000, 0x0, 0xFFFF003F3F3F, 0x0, false, false⟩]

/-- The registers of the SM block. -/
def regRowsSm : List RegRow := [
  ⟨"SM_STATUS", 0x40B000000, 1, 0x8, 1, 0x100000000, 0x0, 0x0, 0x0, 0x0, 0x0, 0x3FFF031F, 0x0, false, false⟩,
  ⟨"SM_ERROR", 0x40B000008, 1, 0x8, 1, 0x100000000, 0x0, 0x0, 0x0, 0x0, 0x0, 0xFFFFFFFFFFFFFF, 0x0, false, false⟩,
  ⟨"SM_IMAGE_SEQ", 0x40B000010, 1, 0x8, 1, 0x100000000, 0x0, 0x0, 0x0, 0x0, 0x0, 0xFFFFFFFF, 0x0, false, false⟩,
  ⟨"SM_KEYSTATE", 0x40B000040, 1, 0x8, 1, 0x100000000, 0x0, 0x0, 0x0, 0x0, 0x0, 0xFFF, 0x0, false, false⟩,
  ⟨"SM_KEYPROG_DATA", 0x40B000208, 1, 0x8, 1, 0x100000000, 0x0, 0x0, 0x0, 0x0, 0xFFFFFFFFFFFFFFFF, 0xFFFFFFFFFFFFFFFF, 0x0, false, false⟩,
  ⟨"SM_KEYPROG", 0x40B000200, 1, 0x8, 1, 0x100000000, 0x0, 0x0, 0x0, 0x0, 0x1F, 0x1F, 0x0, false, false⟩,
  ⟨"SM_REGROW", 0x40B000300, 1, 0x8, 1, 0x100000000, 0x3FFFF0F, 0x0, 0x100000000, 0x0, 0x0, 0x103FFFF0F, 0x0, false, false⟩,
  ⟨"SM_REGROW_STATUS", 0x40B000308, 1, 0x8, 1, 0x100000000, 0x0, 0x0, 0x0, 0x0, 0x0, 0xFFFF0F07, 0x0, false, false⟩,
  ⟨"SM_DIGESTn", 0x40B000020, 4, 0x8, 1, 0x100000000, 0x0, 0x0, 0x0, 0x0, 0x0, 0xFFFFFFFFFFFFFFFF, 0x0, false, false⟩,
  ⟨"SM_KEYDIGn_w", 0x40B000100, 4, 0x8, 4, 0x20, 0x0, 0x0, 0x0, 0x0, 0x0, 0xFFFFFFFFFFFFFFFF, 0x0, false, false⟩]

/-- The registers of the NEG block. -/
def regRowsNeg : List RegRow := [
  ⟨"NEG_LOCK", 0x40C000020, 1, 0x8, 1, 0x100000000, 0x0, 0x0, 0x1, 0x0, 0x0, 0x7, 0x0, false, true⟩,
  ⟨"NEG_OFFERn", 0x40C000000, 2, 0x8, 1, 0x100000000, 0x0, 0x0, 0x0, 0x0, 0x0, 0xFFFFFFFFFFFFFFFF, 0x0, false, false⟩,
  ⟨"NEG_ACCEPTn", 0x40C000010, 2, 0x8, 1, 0x100000000, 0xFFFFFFFFFFFFFFFF, 0x0, 0x0, 0x0, 0x0, 0xFFFFFFFFFFFFFFFF, 0x0, false, true⟩]

/-- The registers of the GRV block. -/
def regRowsGrv : List RegRow := [
  ⟨"GRV_ERR_STATUS", 0x400001000, 1, 0x8, 16, 0x100000, 0x0, 0x0, 0x0, 0xFFFF0000, 0x0, 0xFFFFFFFF00FF, 0x0, false, false⟩,
  ⟨"GRV_ERRn_INFO", 0x400001100, 8, 0x10, 16, 0x100000, 0x0, 0x1, 0x0, 0x0, 0x0, 0xFFFF7FFF0FF3FF07, 0x0, true, false⟩,
  ⟨"GRV_ERRn_ADDR", 0x400001108, 8, 0x10, 16, 0x100000, 0x0, 0x0, 0x0, 0x0, 0x0, 0xFFFFFFFFFFFFFFFF, 0x0, false, false⟩,
  ⟨"GRV_SCRUB_RATE", 0x400001200, 1, 0x8, 16, 0x100000, 0xFFFFFFFF, 0x0, 0x0, 0x0, 0x0, 0xFFFFFFFF, 0x0, false, false⟩,
  ⟨"GRV_SCRUB_STATUS", 0x400001208, 1, 0x8, 16, 0x100000, 0x0, 0x0, 0x0, 0x0, 0x0, 0xC007FFFFFFFFFFFF, 0x0, false, false⟩,
  ⟨"GRV_SCRUB_COUNTS", 0x400001210, 1, 0x8, 16, 0x100000, 0x0, 0x0, 0x0, 0xFFFFFFFFFFFFFFFF, 0x0, 0xFFFFFFFFFFFFFFFF, 0x0, false, false⟩,
  ⟨"GRV_BUSY", 0x400001218, 1, 0x8, 16, 0x100000, 0x0, 0x0, 0x0, 0x0, 0x0, 0xFFFFFFFFFFFFFFFF, 0x0, false, false⟩,
  ⟨"GRV_INJECT", 0x400001300, 1, 0x8, 16, 0x100000, 0x1FFFFFFFFFFFFF8, 0x0, 0x8000000000000000, 0x0, 0x0, 0x81FFFFFFFFFFFFF8, 0x0, false, false⟩,
  ⟨"GRV_TXU_STATUS", 0x400001800, 1, 0x8, 16, 0x100000, 0x0, 0x0, 0x0, 0x0, 0x0, 0x3F3F0FFFFF03, 0x0, false, false⟩,
  ⟨"GRV_TXU_TICKET", 0x400001808, 1, 0x8, 16, 0x100000, 0x0, 0x0, 0x0, 0x0, 0x0, 0xFFFFFFFFFFFFFFFF, 0x0, false, false⟩,
  ⟨"GRV_TXU_OPEN", 0x400001810, 1, 0x8, 16, 0x100000, 0x0, 0x0, 0x0, 0x0, 0x0, 0xFFFFFFFF, 0x0, false, false⟩,
  ⟨"GRV_TXU_COMMITS", 0x400001840, 1, 0x8, 16, 0x100000, 0x0, 0x0, 0x0, 0x0, 0x0, 0xFFFFFFFFFFFFFFFF, 0x0, false, false⟩,
  ⟨"GRV_RETIREn", 0x400001400, 64, 0x8, 16, 0x100000, 0xFFFFFFFFF001, 0x0, 0x0, 0x0, 0x0, 0xFFFFFFFFF001, 0x0, false, false⟩,
  ⟨"GRV_TXU_ABORTn", 0x400001820, 4, 0x8, 16, 0x100000, 0x0, 0x0, 0x0, 0xFFFFFFFFFFFFFFFF, 0x0, 0xFFFFFFFFFFFFFFFF, 0x0, false, false⟩]

/-- The registers of the DDR block. -/
def regRowsDdr : List RegRow := [
  ⟨"DDR_CHn_CFG", 0x409000000, 1, 0x8, 4, 0x10000, 0x0, 0x0, 0x0, 0x0, 0x0, 0xFFFF0737, 0x0, false, false⟩,
  ⟨"DDR_CHn_WMARK", 0x409000008, 1, 0x8, 4, 0x10000, 0x0, 0x0, 0x0, 0x0, 0x0, 0x800000FFFFFFFFFF, 0x0, false, false⟩,
  ⟨"DDR_CHn_PATROL", 0x409000010, 1, 0x8, 4, 0x10000, 0xFFFFFFFF, 0x0, 0x0, 0x0, 0x0, 0xFFFFFFFFFFFFFFFF, 0x0, false, false⟩,
  ⟨"DDR_ERR_STATUS", 0x409000100, 1, 0x8, 4, 0x10000, 0x0, 0x0, 0x0, 0xFFFF0000, 0x0, 0xFFFFFFFF00FF, 0x0, false, false⟩,
  ⟨"DDR_ERRn_INFO", 0x409000110, 8, 0x10, 4, 0x10000, 0x0, 0x1, 0x0, 0x0, 0x0, 0xFFFF7FFF0FF3FF07, 0x0, false, false⟩,
  ⟨"DDR_ERRn_ADDR", 0x409000118, 8, 0x10, 4, 0x10000, 0x0, 0x0, 0x0, 0x0, 0x0, 0xFFFFFFFFFFFFFFFF, 0x0, false, false⟩]

/-- The registers of the SAF block. -/
def regRowsSaf : List RegRow := [
  ⟨"SAF_ERR_STATUS", 0x406000800, 1, 0x8, 1, 0x100000000, 0x0, 0x0, 0x0, 0xFFFF0000, 0x0, 0xFFFFFFFF00FF, 0x0, false, false⟩,
  ⟨"SAF_ERRn_INFO", 0x406000810, 8, 0x10, 1, 0x100000000, 0x0, 0x1, 0x0, 0x0, 0x0, 0xFFFF7FFF0FF3FF07, 0x0, false, false⟩,
  ⟨"SAF_ERRn_ADDR", 0x406000818, 8, 0x10, 1, 0x100000000, 0x0, 0x0, 0x0, 0x0, 0x0, 0xFFFFFFFFFFFFFFFF, 0x0, false, false⟩,
  ⟨"SAF_STATUS", 0x406000000, 1, 0x8, 1, 0x100000000, 0x0, 0x0, 0x0, 0x0, 0x0, 0xFFFFFFFFFFFFFF0F, 0x0, false, false⟩,
  ⟨"SAF_FAULT", 0x406000008, 1, 0x8, 1, 0x100000000, 0x0, 0x0, 0x100000000, 0x0, 0x0, 0x1FF0FFFFF, 0x0, false, false⟩,
  ⟨"SAF_CTL", 0x406000010, 1, 0x8, 1, 0x100000000, 0x1, 0x0, 0x2, 0x0, 0x0, 0x3, 0x0, false, false⟩,
  ⟨"SAF_HWDOG", 0x406000020, 1, 0x8, 1, 0x100000000, 0xFFFFF, 0x0, 0x0, 0x0, 0x0, 0xFFFF000FFFFF, 0x186A0, false, false⟩,
  ⟨"SAF_MECHm", 0x406000108, 11, 0x8, 1, 0x100000000, 0x0, 0x0, 0x0, 0x0, 0x0, 0xFFFFFFFFFFFF000F, 0x0, false, false⟩,
  ⟨"SAF_LSg", 0x406000300, 16, 0x8, 1, 0x100000000, 0x0, 0x0, 0x0, 0xFFFFFFFF000000, 0x0, 0xFFFFFFFFFFFFFF, 0x0, false, false⟩,
  ⟨"SAF_GCTLi", 0x406001000, 256, 0x8, 1, 0x100000000, 0x7FFF0, 0x0, 0xC000000000000000, 0x0, 0x0, 0xC0000000FF07FFF7, 0x0, false, false⟩]

/-- The registers of the QM block. -/
def regRowsQm : List RegRow := [
  ⟨"QM_STATUS", 0x402000000, 1, 0x8, 1, 0x100000000, 0x0, 0xC, 0x0, 0x0, 0x0, 0x7FF07FF000F, 0x0, false, false⟩,
  ⟨"QM_CMD", 0x402000010, 1, 0x8, 1, 0x100000000, 0x1F7FFF0FFFFF0F, 0x0, 0x8000000000000000, 0x0, 0x0, 0xC01F7FFF0FFFFF0F, 0x0, false, false⟩,
  ⟨"QM_CMD_STATUS", 0x402000018, 1, 0x8, 1, 0x100000000, 0x0, 0x0, 0x0, 0x0, 0x0, 0xF, 0x0, false, false⟩,
  ⟨"QM_CMD_DATAn", 0x402000020, 4, 0x8, 1, 0x100000000, 0x0, 0x0, 0x0, 0x0, 0x0, 0xFFFFFFFFFFFFFFFF, 0x0, false, false⟩,
  ⟨"QM_GPOOLg", 0x402000100, 16, 0x8, 1, 0x100000000, 0x3FFF1FFF, 0x0, 0x0, 0x0, 0x0, 0xFFFFFFF3FFF1FFF, 0x0, false, false⟩,
  ⟨"QM_DPOOLp_BASE", 0x402000200, 4, 0x10, 1, 0x100000000, 0xFFFFFFFFFF00, 0x0, 0x0, 0x0, 0x0, 0xFFFFFFFFFF00, 0x0, false, false⟩,
  ⟨"QM_DPOOLp_SIZE", 0x402000208, 4, 0x10, 1, 0x100000000, 0xFFFFFFFF, 0x0, 0x0, 0x0, 0x0, 0xFFFFFFFFFFFFFFFF, 0x0, false, false⟩,
  ⟨"QM_DPOOLp_LOST", 0x402000280, 4, 0x8, 1, 0x100000000, 0x0, 0x0, 0x0, 0x0, 0x0, 0xFFFFFFFF, 0x0, false, false⟩,
  ⟨"QM_DROPS0", 0x402000300, 1, 0x8, 1, 0x100000000, 0x0, 0x0, 0x0, 0xFFFFFFFFFFFFFFFF, 0x0, 0xFFFFFFFFFFFFFFFF, 0x0, false, false⟩,
  ⟨"QM_DROPS1", 0x402000308, 1, 0x8, 1, 0x100000000, 0x0, 0x0, 0x0, 0xFFFFFFFFFFFFFFFF, 0x0, 0xFFFFFFFFFFFFFFFF, 0x0, false, false⟩,
  ⟨"QM_EGQn", 0x402001000, 128, 0x8, 1, 0x100000000, 0x7FF1FFFFF, 0x0, 0x0, 0x0, 0x0, 0x7FF1FFFFF, 0x0, false, false⟩,
  ⟨"QM_ISRCn", 0x402002000, 98, 0x8, 1, 0x100000000, 0xFFFF00FFFFFF, 0x0, 0x0, 0x0, 0x0, 0xFFFF00FFFFFF, 0x0, false, false⟩,
  ⟨"QM_ETYPEm_w", 0x402003000, 4, 0x8, 4, 0x20, 0xFFFFFFFFFFFFFFFF, 0x0, 0x0, 0x0, 0x0, 0xFFFFFFFFFFFFFFFF, 0x0, false, false⟩,
  ⟨"QM_CLSi", 0x402100000, 65536, 0x8, 1, 0x100000000, 0x3FFFFF, 0x0, 0x0, 0x0, 0x0, 0x3FFFFF, 0x0, false, false⟩]

/-- The registers of the JW block. -/
def regRowsJw : List RegRow := [
  ⟨"JW_STATUS", 0x403000000, 1, 0x8, 1, 0x100000000, 0x0, 0x0, 0x0, 0x0, 0x0, 0x1FFF1FFF1F01, 0x0, false, false⟩,
  ⟨"JW_CMD", 0x403000010, 1, 0x8, 1, 0x100000000, 0xFFF000F, 0x0, 0x8000000000000000, 0x0, 0x0, 0xC00000000FFF000F, 0x0, false, false⟩,
  ⟨"JW_CMD_STATUS", 0x403000018, 1, 0x8, 1, 0x100000000, 0x0, 0x0, 0x0, 0x0, 0x0, 0xF, 0x0, false, false⟩,
  ⟨"JW_NVME_BASE", 0x403000020, 1, 0x8, 1, 0x100000000, 0xFFFFFFE00000, 0x0, 0x0, 0x0, 0x0, 0xFFFFFFE00000, 0x0, false, false⟩,
  ⟨"JW_STAGE_BASE", 0x403000028, 1, 0x8, 1, 0x100000000, 0xFFFFFFE00000, 0x0, 0x0, 0x0, 0x0, 0xFFFFFFE00000, 0x0, false, false⟩,
  ⟨"JW_STAGE_SIZE", 0x403000030, 1, 0x8, 1, 0x100000000, 0xFFFFFFFF, 0x0, 0x0, 0x0, 0x0, 0xFFFFFFFF, 0x0, false, false⟩,
  ⟨"JW_TIMEOUT", 0x403000038, 1, 0x8, 1, 0x100000000, 0xFFFF, 0x0, 0x0, 0x0, 0x0, 0xFFFF, 0x7D0, false, false⟩,
  ⟨"JW_ERR_COUNTS", 0x403000040, 1, 0x8, 1, 0x100000000, 0x0, 0x0, 0x0, 0xFFFFFFFFFFFFFFFF, 0x0, 0xFFFFFFFFFFFFFFFF, 0x0, false, false⟩,
  ⟨"JW_CTRLi", 0x403000100, 16, 0x8, 1, 0x100000000, 0x0, 0x0, 0x0, 0x0, 0x0, 0xFFFFFF0F, 0x0, false, false⟩,
  ⟨"JW_JCFGj", 0x403010000, 4096, 0x8, 1, 0x100000000, 0xFFFFF03, 0x0, 0x0, 0x0, 0x0, 0xFFFFF03, 0x1, false, false⟩,
  ⟨"JW_JSTATEj", 0x403020000, 4096, 0x8, 1, 0x100000000, 0x0, 0x0, 0x0, 0x0, 0x0, 0xFFFFFFFFFF0FFF1F, 0x0, false, false⟩,
  ⟨"JW_JSEQj", 0x403030000, 4096, 0x8, 1, 0x100000000, 0x0, 0x0, 0x0, 0x0, 0x0, 0xFFFFFFFFFFFFFFFF, 0x0, false, false⟩,
  ⟨"JW_JRELj", 0x403040000, 4096, 0x8, 1, 0x100000000, 0xFFFFFFFFFFFFFFFF, 0x0, 0x0, 0x0, 0x0, 0xFFFFFFFFFFFFFFFF, 0x0, false, false⟩]

/-- The registers of the TLY block. -/
def regRowsTly : List RegRow := [
  ⟨"TLY_STATUS", 0x404000000, 1, 0x8, 1, 0x100000000, 0x0, 0x3, 0x0, 0x0, 0x0, 0x1FFF0003, 0x0, false, false⟩,
  ⟨"TLY_MYSUM0", 0x404000010, 1, 0x8, 1, 0x100000000, 0x0, 0x0, 0x0, 0x0, 0x0, 0xFFFFFFFFFFFFFFFF, 0x0, false, false⟩,
  ⟨"TLY_MYSUM1", 0x404000018, 1, 0x8, 1, 0x100000000, 0x0, 0x0, 0x0, 0x0, 0x0, 0xF, 0x0, false, false⟩,
  ⟨"TLY_SUM0", 0x404000020, 1, 0x8, 1, 0x100000000, 0x0, 0x0, 0x0, 0x0, 0x0, 0xFFFFFFFFFFFFFFFF, 0x0, false, false⟩,
  ⟨"TLY_SUM1", 0x404000028, 1, 0x8, 1, 0x100000000, 0x0, 0x0, 0x0, 0x0, 0x0, 0xF, 0x0, false, false⟩,
  ⟨"TLY_RAISE", 0x404000040, 1, 0x8, 1, 0x100000000, 0x0, 0x0, 0x0, 0x0, 0xFFFF1FFF, 0xFFFF1FFF, 0x0, true, true⟩,
  ⟨"TLY_TIMERn", 0x404000100, 8, 0x8, 1, 0x100000000, 0xFFFFFFFF, 0x0, 0x0, 0x0, 0x0, 0xFFFFFFFF, 0x0, false, false⟩,
  ⟨"TLY_MYPENDw", 0x404001000, 68, 0x8, 1, 0x100000000, 0x0, 0x0, 0x0, 0x0, 0x0, 0xFFFFFFFFFFFFFFFF, 0x0, false, false⟩,
  ⟨"TLY_PENDw", 0x404002000, 68, 0x8, 1, 0x100000000, 0x0, 0x0, 0x0, 0x0, 0x0, 0xFFFFFFFFFFFFFFFF, 0x0, false, false⟩,
  ⟨"TLY_CNTs", 0x404100000, 4352, 0x8, 1, 0x100000000, 0x0, 0x20000, 0x0, 0x0, 0x0, 0xFFFFF, 0x0, false, false⟩,
  ⟨"TLY_SUBs", 0x404200000, 4352, 0x8, 1, 0x100000000, 0x0, 0x0, 0x0, 0x0, 0xFFFF, 0xFFFF, 0x0, true, false⟩,
  ⟨"TLY_ROUTEs", 0x404300000, 4352, 0x8, 1, 0x100000000, 0xFFFF000FFFFF0F03, 0x0, 0x0, 0x0, 0x0, 0xFFFF000FFFFF0F03, 0x0, false, false⟩]

/-- The registers of the UST block. -/
def regRowsUst : List RegRow := [
  ⟨"UST_GPIn_CFG", 0x40A000100, 16, 0x8, 1, 0x100000000, 0xFFFFFF77FF, 0x0, 0x0, 0x0, 0x0, 0x800000FFFFFF77FF, 0x1, false, false⟩,
  ⟨"UST_TIME", 0x40A000000, 1, 0x8, 1, 0x100000000, 0x0, 0x0, 0x0, 0x0, 0x0, 0xFFFFFFFFFFFFFFFF, 0x0, false, false⟩,
  ⟨"UST_TIME_CTL", 0x40A000008, 1, 0x8, 1, 0x100000000, 0x1, 0x0, 0x0, 0x0, 0x0, 0x3, 0x0, false, false⟩,
  ⟨"UST_TIME_STEP", 0x40A000010, 1, 0x8, 1, 0x100000000, 0x0, 0x0, 0x0, 0x0, 0xFFFFFFFFFFFFFFFF, 0xFFFFFFFFFFFFFFFF, 0x0, false, false⟩,
  ⟨"UST_TIME_RATE", 0x40A000018, 1, 0x8, 1, 0x100000000, 0xFFFFFFFF, 0x0, 0x0, 0x0, 0x0, 0xFFFFFFFF, 0x0, false, false⟩,
  ⟨"UST_ISLi", 0x40A000800, 31, 0x10, 1, 0x100000000, 0x0, 0x0, 0x0, 0xFFFF0000, 0x0, 0xFFFFFFFF00F7, 0x0, false, false⟩,
  ⟨"UST_ISLi_MON", 0x40A000808, 31, 0x10, 1, 0x100000000, 0x0, 0x0, 0x0, 0x0, 0x0, 0xFFFFFF00FFFFFF, 0x0, false, false⟩,
  ⟨"UST_SSO", 0x40A000200, 1, 0x8, 1, 0x100000000, 0xFFFF00FF, 0x0, 0x0, 0x0, 0x0, 0xFFFFFFFF, 0x0, true, false⟩,
  ⟨"UST_XSPI_CMD", 0x40A000300, 1, 0x8, 1, 0x100000000, 0x1FFFFFF, 0x0, 0x8000000000000000, 0x0, 0x0, 0xF000000001FFFFFF, 0x0, false, false⟩,
  ⟨"UST_I2C_CMD", 0x40A000500, 1, 0x8, 1, 0x100000000, 0x73F3F7F, 0x0, 0x8000000000000000, 0x0, 0x0, 0xC00000007F3F3F7F, 0x0, false, false⟩,
  ⟨"UST_UART_CFG", 0x40A000600, 1, 0x8, 1, 0x100000000, 0xFFFFFF, 0x0, 0x0, 0x0, 0x0, 0x3FFFFFF, 0x3641, false, false⟩,
  ⟨"UST_UART_TX", 0x40A000608, 1, 0x8, 1, 0x100000000, 0x0, 0x0, 0x0, 0x0, 0xFF, 0xFF, 0x0, false, false⟩,
  ⟨"UST_UART_RX", 0x40A000610, 1, 0x8, 1, 0x100000000, 0x0, 0x0, 0x0, 0x7FF, 0x0, 0x7FF, 0x0, false, false⟩,
  ⟨"UST_SVC", 0x40A000700, 1, 0x8, 1, 0x100000000, 0x0, 0x0, 0x0, 0x0, 0x0, 0x30F, 0x0, false, false⟩,
  ⟨"UST_XSPI_ADDR", 0x40A000308, 1, 0x8, 1, 0x100000000, 0xFFFFFFFF, 0x0, 0x0, 0x0, 0x0, 0xFFFFFFFF, 0x0, false, false⟩,
  ⟨"UST_XSPI_DATA", 0x40A000400, 32, 0x8, 1, 0x100000000, 0xFFFFFFFFFFFFFFFF, 0x0, 0x0, 0x0, 0x0, 0xFFFFFFFFFFFFFFFF, 0x0, false, false⟩,
  ⟨"UST_I2C_DATA", 0x40A000540, 4, 0x8, 1, 0x100000000, 0xFFFFFFFFFFFFFFFF, 0x0, 0x0, 0x0, 0x0, 0xFFFFFFFFFFFFFFFF, 0x0, false, false⟩]

/-- The registers of the PWR block. -/
def regRowsPwr : List RegRow := [
  ⟨"PWR_MODE", 0x405000000, 1, 0x8, 1, 0x100000000, 0x0, 0x0, 0x0, 0x0, 0x0, 0xFF0FF3FF, 0x2, false, false⟩,
  ⟨"PWR_MODE_REQ", 0x405000008, 1, 0x8, 1, 0x100000000, 0xF, 0x0, 0x8000000000000000, 0x0, 0x0, 0x800000000000000F, 0x0, false, false⟩,
  ⟨"PWR_STATUS", 0x405000010, 1, 0x8, 1, 0x100000000, 0x0, 0x20, 0x0, 0xFFFF0000, 0x0, 0xFFFF033F, 0x0, false, false⟩,
  ⟨"PWR_LEAN_CFG", 0x405000018, 1, 0x8, 1, 0x100000000, 0xFFF03FF, 0x0, 0x0, 0x0, 0x0, 0xFFF03FF, 0x1C2, false, false⟩,
  ⟨"PWR_WAKE_CFG", 0x405000020, 1, 0x8, 1, 0x100000000, 0x1FFFFF, 0x0, 0x0, 0x0, 0x0, 0x1FFFFF, 0x130000, false, false⟩,
  ⟨"PWR_HOLDUP_CFG", 0x405000028, 1, 0x8, 1, 0x100000000, 0x1FFFF, 0x0, 0x0, 0x0, 0x0, 0x1FFFF, 0x100C8, false, false⟩,
  ⟨"PWR_EST", 0x405000030, 1, 0x8, 1, 0x100000000, 0x0, 0x0, 0x0, 0x0, 0x0, 0x1FFFFF3FFFFFFF, 0x0, false, false⟩,
  ⟨"PWR_DOMn", 0x405000100, 64, 0x8, 1, 0x100000000, 0x7, 0x180, 0x0, 0x0, 0x0, 0xFFFF07F7, 0x0, false, false⟩,
  ⟨"PWR_RAILr", 0x405000300, 17, 0x8, 1, 0x100000000, 0x3FF, 0x0, 0x0, 0x20000000, 0x0, 0x33FF03FF, 0x0, false, false⟩]

/-- The registers of the LANE block. -/
def regRowsLane : List RegRow := [
  ⟨"LANE_STATEn", 0x407010000, 96, 0x100, 1, 0x100000000, 0x0, 0x0, 0x0, 0x0, 0x0, 0xFFFF0F7F, 0x0, false, false⟩,
  ⟨"LANE_EQn", 0x407010008, 96, 0x100, 1, 0x100000000, 0x33F3F3F, 0x0, 0x0, 0x0, 0x0, 0x33F3F3F, 0xB3004, false, false⟩,
  ⟨"LANE_ETHn_CFG", 0x407010010, 96, 0x100, 1, 0x100000000, 0x33FFF, 0x0, 0x0, 0x0, 0x0, 0x33FFF, 0x5F2, false, false⟩,
  ⟨"LANE_ETHn_ADDR", 0x407010018, 96, 0x100, 1, 0x100000000, 0xFFFFFFFFFFFF, 0x0, 0x0, 0x0, 0x0, 0xFFFFFFFFFFFF, 0x0, false, false⟩,
  ⟨"LANE_ETHn_TXTS", 0x407010020, 96, 0x100, 1, 0x100000000, 0x0, 0x0, 0x0, 0x8000000000000000, 0x0, 0xFFFFFFFFFFFFFFFF, 0x0, false, false⟩,
  ⟨"LANE_ETHn_CNT0", 0x407010028, 96, 0x100, 1, 0x100000000, 0x0, 0x0, 0x0, 0xFFFFFFFFFFFFFFFF, 0x0, 0xFFFFFFFFFFFFFFFF, 0x0, false, false⟩,
  ⟨"LANE_ETHn_CNT1", 0x407010030, 96, 0x100, 1, 0x100000000, 0x0, 0x0, 0x0, 0xFFFFFFFFFFFF, 0x0, 0xFFFFFFFFFFFF, 0x0, false, false⟩,
  ⟨"LANE_PCIEc_CFG", 0x407080000, 3, 0x1000, 1, 0x100000000, 0x3, 0x0, 0x0, 0x0, 0x0, 0x3, 0x0, false, false⟩,
  ⟨"LANE_PCIEc_PpSTAT", 0x407080100, 16, 0x8, 3, 0x1000, 0x0, 0x0, 0x0, 0xFFFFFFFF00000000, 0x0, 0xFFFFFFFFFFFF03FF, 0x0, false, false⟩,
  ⟨"LANE_EP_WIN", 0x407090000, 1, 0x8, 1, 0x100000000, 0xFFFFC0000001, 0x0, 0x0, 0x0, 0x0, 0xFFFFC0000001, 0x0, false, false⟩,
  ⟨"LANE_EP_MSIXv", 0x407090100, 32, 0x8, 1, 0x100000000, 0x3FFF, 0x0, 0x0, 0x0, 0x0, 0x3FFF, 0x0, false, false⟩]

/-- The registers of the RTL block. -/
def regRowsRtl : List RegRow := [
  ⟨"RTL_STATUS", 0x408000000, 1, 0x8, 1, 0x100000000, 0x0, 0x0, 0x0, 0x0, 0x0, 0x3F03, 0x0, false, false⟩,
  ⟨"RTL_CMD", 0x408000010, 1, 0x8, 1, 0x100000000, 0xFFFFFF, 0x0, 0x8000000000000000, 0x0, 0x0, 0xC000000000FFFFFF, 0x0, false, false⟩,
  ⟨"RTL_CMD_STATUS", 0x408000018, 1, 0x8, 1, 0x100000000, 0x0, 0x0, 0x0, 0x0, 0x0, 0xF, 0x0, false, false⟩,
  ⟨"RTL_CMD_ARGk", 0x408000020, 5, 0x8, 1, 0x100000000, 0xFFFFFFFFFFFFFFFF, 0x0, 0x0, 0x0, 0x0, 0xFFFFFFFFFFFFFFFF, 0x0, false, false⟩,
  ⟨"RTL_MBOX_STATUS", 0x408000040, 1, 0x8, 1, 0x100000000, 0x0, 0x20, 0x0, 0x0, 0x0, 0x3F, 0x0, false, false⟩,
  ⟨"RTL_MBOX_POP", 0x408000048, 1, 0x8, 1, 0x100000000, 0x0, 0x0, 0x0, 0x0, 0x1, 0x1, 0x0, false, false⟩,
  ⟨"RTL_MBOXk", 0x408000050, 1, 0x8, 1, 0x100000000, 0x0, 0x0, 0x0, 0x0, 0x0, 0xFFFFFF, 0x0, false, false⟩,
  ⟨"RTL_MBOXk", 0x408000058, 5, 0x8, 1, 0x100000000, 0x0, 0x0, 0x0, 0x0, 0x0, 0xFFFFFFFFFFFFFFFF, 0x0, false, false⟩,
  ⟨"RTL_BLAZE_CFG", 0x408000100, 1, 0x8, 1, 0x100000000, 0xFFFF0003FFFF, 0x0, 0x0, 0x0, 0x0, 0xFFFF0003FFFF, 0x3E800000000, false, false⟩,
  ⟨"RTL_BLAZE_NEXT", 0x408000108, 1, 0x8, 1, 0x100000000, 0xFFFFFFFFFFFFFFFF, 0x0, 0x0, 0x0, 0x0, 0xFFFFFFFFFFFFFFFF, 0x1, false, false⟩,
  ⟨"RTL_BLAZE_LAST", 0x408000110, 1, 0x8, 1, 0x100000000, 0x0, 0x0, 0x0, 0x0, 0x0, 0xFFFFFFFFFFFFFFFF, 0x0, false, false⟩,
  ⟨"RTL_BLAZE_CUT", 0x408000118, 1, 0x8, 1, 0x100000000, 0x0, 0x0, 0x0, 0x0, 0x0, 0xFFFFFFFFFFFFFFFF, 0x0, false, false⟩,
  ⟨"RTL_BLAZE_STATUS", 0x408000120, 1, 0x8, 1, 0x100000000, 0x0, 0x0, 0x0, 0xFFFF0000, 0x0, 0x7FFF7FFFFFFF000F, 0x0, false, false⟩,
  ⟨"RTL_BOARD", 0x408000200, 1, 0x8, 1, 0x100000000, 0x100, 0x0, 0x0, 0x0, 0x0, 0x10F, 0x0, false, false⟩,
  ⟨"RTL_TIME_CFG", 0x408000300, 1, 0x8, 1, 0x100000000, 0xFFFFF, 0x0, 0x0, 0x0, 0x0, 0xFFFFF, 0x3E8, false, false⟩,
  ⟨"RTL_TIME_SEQ", 0x408000308, 1, 0x8, 1, 0x100000000, 0x0, 0x0, 0x0, 0x0, 0x0, 0xFFFFFFFFFFFFFFFF, 0x0, false, false⟩,
  ⟨"RTL_TIME_Tk", 0x408000310, 4, 0x8, 1, 0x100000000, 0x0, 0x0, 0x0, 0x0, 0x0, 0xFFFFFFFFFFFFFFFF, 0x0, false, false⟩,
  ⟨"RTL_LINKl_STATE", 0x408001000, 24, 0x40, 1, 0x100000000, 0x0, 0x0, 0x0, 0x0, 0x0, 0xFFFF007FFFFF, 0x0, false, false⟩,
  ⟨"RTL_LINKl_LAT", 0x408001008, 24, 0x40, 1, 0x100000000, 0x0, 0x0, 0x0, 0x0, 0x0, 0xFFFF, 0x0, false, false⟩,
  ⟨"RTL_LINKl_ERR", 0x408001010, 24, 0x40, 1, 0x100000000, 0x0, 0x0, 0x0, 0xFFFFFFFFFFFFFFFF, 0x0, 0xFFFFFFFFFFFFFFFF, 0x0, false, false⟩,
  ⟨"RTL_ROUTEx", 0x408100000, 16384, 0x8, 1, 0x100000000, 0x3F, 0x0, 0x0, 0x0, 0x0, 0x3F, 0x0, false, false⟩]

/-- The rows of the block that holds control address `a` (R26); a Grove block spans 1 MiB, every other 16 MiB. -/
def regRows (a : Nat) : List RegRow :=
  if a < 0x400000000 then []
  else if a < 0x401000000 then regRowsGrv
  else if a < 0x402000000 then regRowsHw
  else if a < 0x403000000 then regRowsQm
  else if a < 0x404000000 then regRowsJw
  else if a < 0x405000000 then regRowsTly
  else if a < 0x406000000 then regRowsPwr
  else if a < 0x407000000 then regRowsSaf
  else if a < 0x408000000 then regRowsLane
  else if a < 0x409000000 then regRowsRtl
  else if a < 0x40A000000 then regRowsDdr
  else if a < 0x40B000000 then regRowsUst
  else if a < 0x40C000000 then regRowsSm
  else if a < 0x40D000000 then regRowsNeg
  else []

/-- Address `a` is one of the row's instances. -/
def RegRow.covers (r : RegRow) (a : Nat) : Bool :=
  r.base ≤ a && (a - r.base) / r.stride2 < r.n2 && (a - r.base) % r.stride2 / r.stride < r.n
    && (a - r.base) % r.stride2 % r.stride == 0

/-- The register at control address `a`, if the spec places one there (R26: every other offset is unmapped). -/
def regAt (a : Nat) : Option RegRow := (regRows a).find? (fun r => r.covers a)

/-- The value a control register holds at reset: its own line's value; `HW_ID` says the grade of the part (R4). -/
def regReset (a : Nat) : W64 :=
  if a = Reg.HW_ID then (if Config.gradeX then 0x1122560#64 else 0x1112560#64)
  else match regAt a with
    | some r => BitVec.ofNat 64 r.reset
    | none => 0#64

end Sys2Proof.Machine
end

