-- ==== Sys2Proof/Machine/State.lean ====
section
/-! DEFINITION. The state of the device, its faults and refusals, and the state right after reset. -/

namespace Sys2Proof.Machine

/-- Why the machine stops. No command of this device stops it: every outcome the manual gives is a next state, and
an outcome it leaves undefined is a free value. The one constructor is never raised. -/
inductive Fault where
  /-- never raised by any meaning -/
  | none
deriving DecidableEq, Repr

/-- Why a command has no meaning. -/
inductive Refusal where
  /-- a command whose meaning is not written; raised by `exec`'s refused arms only; safe: it answers no next state -/
  | notModelled (mnemonic : String)
deriving DecidableEq, Repr

/-- A finding of a safety mechanism whose reaction is applied at the end of the step (R491, R492). -/
structure Finding where
  /-- mechanism; 100 a stop of the Heartwood, 101 its memory on an access, 102 on a fetch, 103 the second expiry of its
  watchdog (R508) -/
  mech : Nat
  /-- KIND of the finding's record; 0: none -/
  kind : Nat
  /-- Grove of a Grove-bound fault (R489) -/
  grove : Option Nat
  /-- leading Glade of the pair, for token lockstep -/
  pair : Option Nat
  /-- Tally source that reaction EVENT raises -/
  source : Option Nat
  /-- Glade concerned, or 0 -/
  glade : Nat
  /-- address of the finding's record, or 0 -/
  addr : Nat
deriving DecidableEq, Repr

/-- A stuck bit of an SRAM word (position 0 to 72) or of a DRAM burst (0 to 511 its data, 512 to 639 its check
symbols), which reads as `val` whatever is stored (R487). -/
structure Stuck where
  addr : Nat
  pos : Nat
  val : Bool
deriving DecidableEq, Repr

/-- A bit of an SRAM word or DRAM burst (positions as in `Stuck`) that reads inverted in its next `left` reads, its
stored value being good: a passing upset (R242, R251, R507). -/
structure ReadErr where
  addr : Nat
  pos : Nat
  left : Nat
deriving DecidableEq, Repr

/-- The conflicts on the two ports of the Grove memories (R246) that commands have named and accesses still have to
meet: the answers for port A's next words within the command, and the word and answer of port B's next accesses. -/
structure Ports where
  a : List PortAnswer
  b : List (Nat × PortAnswer)
deriving DecidableEq, Repr

def Ports.reset : Ports := ⟨[], []⟩

/-- What the scrubbers and patrols hold beside their registers (R241, R249, R264). -/
structure Scrub where
  /-- write-back queue of each Grove, and of the Heartwood at 16 -/
  wback : SMap (List Nat)
  /-- time at which each Grove's present pass began -/
  began : SMap Nat
  /-- next word of the Heartwood scrubber -/
  hwWord : Nat
  /-- next burst of each channel's patrol -/
  patrol : SMap Nat
deriving DecidableEq, Repr

def Scrub.reset : Scrub := ⟨[], [], 0, []⟩

structure State where
  /-- control registers, by address; an unlisted one holds its reset value -/
  ctl : SMap W64
  /-- every addressed memory byte, by global device address (R24); an unlisted byte reads 0 -/
  mem : List Host.Cell
  /-- valid bit and check bits of each SRAM word, by word address / 8 (R235); unlisted: all zero -/
  ecc : SMap (BitVec 9)
  /-- check symbols of each DRAM burst, by address / 64 (R259); unlisted: all zero -/
  dramCheck : SMap (BitVec 128)
  /-- stuck bits of the memories -/
  stuck : List Stuck
  /-- bits that read wrongly for a while -/
  readErrs : List ReadErr
  /-- MODEL: conflicts on the ports of the Grove memories -/
  ports : Ports
  /-- MODEL: memory whose contents a store of software into a pool or a ring has left undefined: first address and
  bytes (R272, R349) -/
  spoiled : List (Nat × Nat)
  scrub : Scrub
  /-- Glades 0 to 255 (R15) and the Heartwood's processor at 256 -/
  glades : SMap Glade
  /-- the Glade before a bundle whose load may still fail precisely: core, position, handler bank (R120, R162) -/
  snaps : List (Nat × Nat × Bool × Glade)
  qm : Qm
  txus : SMap Txu
  jw : Jw
  /-- the NVMe controllers on the board, by 8 × complex + CTRL -/
  drives : SMap (Option Controller)
  media : Media
  /-- block writes not flushed, newest first (R346) -/
  unflushed : List OldBlock
  keeper : Keeper
  est : Estimator
  time : TimeBase
  board : Board
  sampler : Sampler
  power : Power
  monitors : Monitors
  /-- lockstep pairs, by leading Glade -/
  pairs : SMap Pair
  uart : Uart
  jtag : Jtag
  rootlink : Rootlink
  regrow : Option Regrow
  /-- what the device has sent to the outside, newest first (MODEL, log 11) -/
  out : List Out
  msix : Msix
  /-- the bridges of the root ports (R438), by 16 × complex + port -/
  bridges : SMap Bridge
  /-- bodies of the applied Stand Map's sections, by TYPE (R43) -/
  sections : SMap (List Byte)
  /-- findings whose reaction the step still has to apply -/
  findings : List Finding
  /-- MODEL: number of free values drawn so far -/
  free : Nat
  /-- the queue of waiting commands, first in, first out -/
  pending : List Instr
deriving DecidableEq, Repr

def State.reset : State where
  ctl := []
  mem := []
  ecc := []
  dramCheck := []
  stuck := []
  readErrs := []
  ports := Ports.reset
  spoiled := []
  scrub := Scrub.reset
  glades := []
  snaps := []
  qm := Qm.reset
  txus := []
  jw := Jw.reset
  drives := []
  media := []
  unflushed := []
  keeper := Keeper.reset
  est := Estimator.reset
  time := TimeBase.reset
  board := Board.reset
  sampler := Sampler.reset
  power := Power.reset
  monitors := Monitors.reset
  pairs := []
  uart := Uart.reset
  jtag := Jtag.reset
  rootlink := Rootlink.reset
  regrow := none
  out := []
  msix := Msix.reset
  bridges := []
  sections := []
  findings := []
  free := 0
  pending := []

end Sys2Proof.Machine
end

