-- ==== Sys2Proof/Machine/Ops.lean ====
section
/-! DEFINITION. The named operations over registers, Stand Map, Glades, error records and Tally counters that every
family uses. -/

namespace Sys2Proof.Machine

/-! ### Control registers -/

/-- The value of control register `a`. -/
def State.rd (s : State) (a : Nat) : W64 := smGet (regReset a) s.ctl a

/-- Control register `a` set to `v`. -/
def State.wr (s : State) (a : Nat) (v : W64) : State := { s with ctl := smSet (regReset a) s.ctl a v }

/-- Field `[hi:lo]` of control register `a`. -/
def State.fld (s : State) (a hi lo : Nat) : Nat := field (s.rd a) hi lo

/-- Field `[hi:lo]` of control register `a` set to `v`. -/
def State.setFld (s : State) (a hi lo v : Nat) : State := s.wr a (setField (s.rd a) hi lo v)

/-- Bit `i` of control register `a`. -/
def State.flag (s : State) (a i : Nat) : Bool := bit (s.rd a) i

/-- Bit `i` of control register `a` set to `b`. -/
def State.setFlag (s : State) (a i : Nat) (b : Bool) : State := s.setFld a i i (b2n b)

/-- A counter field `[hi:lo]` advanced by `n`, saturating. -/
def State.satAdd (s : State) (a hi lo n : Nat) : State :=
  s.setFld a hi lo (min (s.fld a hi lo + n) (2 ^ (hi + 1 - lo) - 1))

/-- A counter field `[hi:lo]` advanced by `n`, wrapping. -/
def State.wrapAdd (s : State) (a hi lo n : Nat) : State := s.setFld a hi lo (s.fld a hi lo + n)

/-- A write by the access codes alone (R10, R11). -/
def State.codesWrite (s : State) (a : Nat) (v : W64) : State :=
  match regAt a with
  | none => s
  | some row =>
    let old := s.rd a
    let x := (old &&& ~~~(w64 row.rw)) ||| (v &&& w64 row.rw)
    let x := x &&& ~~~(v &&& w64 row.w1c)
    s.wr a (x ||| (v &&& w64 row.w1s))

/-- A write of a register whose GO or START is ignored: its RW fields alone are written (R10). -/
def State.fieldsWrite (s : State) (a : Nat) (v : W64) : State :=
  match regAt a with
  | none => s
  | some row => s.wr a ((s.rd a &&& ~~~(w64 row.rw)) ||| (v &&& w64 row.rw))

/-! ### Mode and domains -/

/-- Mode codes of `PWR_MODE` (R393). -/
def State.mode (s : State) : Nat := s.fld Reg.PWR_MODE 3 0

/-- Domain `d` (R54) is on: STATE 1 of `PWR_DOMn`, or its regulator in low power while the mode is not RETAIN (7)
or LOOKOUT (8). -/
def State.domainOn (s : State) (d : Nat) : Bool :=
  let st := s.fld (Reg.PWR_DOM d) 5 4
  st == 1 || (st == 2 && s.mode != 7 && s.mode != 8)

/-- Feature bit `n` is accepted and locked (R90). The spec says what holds from the lock on; before it the model takes no
feature as accepted (DESIGN CHOICE, log 116). -/
def State.accepted (s : State) (n : Nat) : Bool := s.flag Reg.NEG_LOCK 0 && bit (s.rd (Reg.NEG_ACCEPT 0)) n

/-! ### Free values -/

/-- A free word (log 20), and the state that has drawn it. -/
def State.freeWord (s : State) : W64 × State := (Config.freeWord s.free, { s with free := s.free + 1 })

/-- A free choice (log 20), and the state that has drawn it. -/
def State.freeBool (s : State) : Bool × State := (Config.freeBool s.free, { s with free := s.free + 1 })

/-! ### The applied Stand Map -/

/-- The body of section `ty` of the applied Stand Map; empty when absent. -/
def State.sec (s : State) (ty : Nat) : List Byte := smGet [] s.sections ty

/-- `n` bytes of section `ty` from `off`, little-endian; absent bytes read 0. -/
def State.secLE (s : State) (ty off n : Nat) : Nat := ofBytesLE (((s.sec ty).drop off).take n)

/-- A Stand Map has been applied (STATE 3 of `SM_STATUS`). -/
def State.applied (s : State) : Bool := s.fld Reg.SM_STATUS 2 0 == 3

/-- The GLADE entry of core `c` (R46); the Heartwood's fixed structure for 256 (R17). -/
def State.gladeEntry (s : State) (c : Nat) : W64 :=
  if c = 256 then 0x000001000421162B#64 else w64 (s.secLE 0x10 (8 * c) 8)

/-- Number of transport buses; 0: disabled (R46). -/
def State.buses (s : State) (c : Nat) : Nat := field (s.gladeEntry c) 2 0

/-- Full LSU (R46). -/
def State.fullLsu (s : State) (c : Nat) : Bool := bit (s.gladeEntry c) 3

/-- Stack mode (R46). -/
def State.stackMode (s : State) (c : Nat) : Bool := bit (s.gladeEntry c) 4

/-- SQUASH repair (R46). -/
def State.squash (s : State) (c : Nat) : Bool := bit (s.gladeEntry c) 5

/-- Byte `o` of the GROVE entry of Grove `g` (R49). -/
def State.groveByte (s : State) (g o : Nat) : Nat := s.secLE 0x11 (32 * g + o) 1

/-- Partition of Grove `g` (R49). -/
def State.groveGetPart (s : State) (g : Nat) : Nat := s.groveByte g 0

/-- Grove `g` orders commits by ticket (R49). -/
def State.ticketMode (s : State) (g : Nat) : Bool := s.groveByte g 1 == 1

/-- MEMCODE of Grove `g` is 1, detect only (R49). -/
def State.memcode1 (s : State) (g : Nat) : Bool := s.groveByte g 2 == 1

/-- TICKET_MEMBERS of Grove `g` (R49). -/
def State.ticketMembers (s : State) (g : Nat) : Nat := s.secLE 0x11 (32 * g + 16) 2

/-- The lockstep pairs of Grove `g`: leading and trailing Glade (R49). -/
def State.pairsOf (s : State) (g : Nat) : List (Nat × Nat) :=
  (List.range 8).filterMap (fun i =>
    let b := s.groveByte g (8 + i)
    if b = 0 then none else some (b % 16, b / 16))

/-- The pair that core `c` belongs to, as device-wide indices (R15, R49). -/
def State.pairOf (s : State) (c : Nat) : Option (Nat × Nat) :=
  if c ≥ 256 then none
  else ((s.pairsOf (c / 16)).find? (fun p => p.1 == c % 16 || p.2 == c % 16)).map
    (fun p => (16 * (c / 16) + p.1, 16 * (c / 16) + p.2))

/-- `c` is the trailing Glade of a pair. -/
def State.isTrailing (s : State) (c : Nat) : Bool :=
  match s.pairOf c with
  | some (_, t) => t == c
  | none => false

/-- The Glade that stands for `c` outside the pair: the leading Glade of its pair, or itself (R291, R382). -/
def State.leaderOf (s : State) (c : Nat) : Nat :=
  match s.pairOf c with
  | some (l, _) => l
  | none => c

/-- Bundle size of core `c` in bytes (R93). -/
def State.bundleSize (s : State) (c : Nat) : Nat := 4 * s.buses c

/-- Width of core `c`'s program counter: 15 bits (R94); the Heartwood fetches from its 256 KiB memory (log 8). -/
def pcBits (c : Nat) : Nat := if c = 256 then 18 else 15

/-- Highest bundle address of core `c` (R94); the Heartwood's is the last whole bundle of its memory (log 8). -/
def State.highestBundle (s : State) (c : Nat) : Nat :=
  if c = 256 then 0x3FFF0
  else match s.buses c with
    | 2 => 0x7FF8
    | 3 => 0x7FEC
    | 4 => 0x7FF0
    | _ => 0

/-! ### Glades -/

/-- Core `c`. -/
def State.glade (s : State) (c : Nat) : Glade := smGet Glade.reset s.glades c

/-- Core `c` replaced. -/
def State.setGlade (s : State) (c : Nat) (x : Glade) : State :=
  { s with glades := smSet Glade.reset s.glades c x }

/-- Core `c` updated in program order. -/
def State.updGlade (s : State) (c : Nat) (f : Glade → Glade) : State := s.setGlade c (f (s.glade c))

/-- Core `c` updated by an event outside its program order: the copies kept for precise errors change with it. -/
def State.updAsync (s : State) (c : Nat) (f : Glade → Glade) : State :=
  { s.updGlade c f with
    snaps := s.snaps.map (fun p => if p.1 = c then (p.1, p.2.1, p.2.2.1, f p.2.2.2) else p) }

/-- The selected unit bank (R117). -/
def Glade.bank (x : Glade) : Bank := if x.inHandler then x.handler else x.thread

/-- The selected unit bank updated. -/
def Glade.updBank (x : Glade) (f : Bank → Bank) : Glade :=
  if x.inHandler then { x with handler := f x.handler } else { x with thread := f x.thread }

/-- The named bank updated. -/
def Glade.updBankOf (x : Glade) (handler : Bool) (f : Bank → Bank) : Glade :=
  if handler then { x with handler := f x.handler } else { x with thread := f x.thread }

/-- Register G`n` (R112); G0 reads zero with tag PLAIN (R113). -/
def Glade.g (x : Glade) (n : Nat) : TWord :=
  if n = 0 then TWord.plain 0#64 else smGet (TWord.plain 0#64) x.grf n

/-- Register G`n` written; a write to G0 is discarded (R113). -/
def Glade.setG (x : Glade) (n : Nat) (v : TWord) : Glade :=
  if n = 0 then x else { x with grf := smSet (TWord.plain 0#64) x.grf n v }

/-- Scoreboard bit `n` set or cleared; G0 has none (R113, R114). -/
def Glade.setScore (x : Glade) (n : Nat) (b : Bool) : Glade :=
  if n = 0 then x
  else { x with score := if b then x.score ||| (1#64 <<< n) else x.score &&& ~~~(1#64 <<< n) }

/-- A long operation's result written to its named register, the scoreboard bit cleared (R114). -/
def Glade.retireTo (x : Glade) (rd : Nat) (v : TWord) : Glade := (x.setG rd v).setScore rd false

/-- The result a due entry carries, written to its port. -/
def Glade.applyDue (x : Glade) (handler : Bool) (v : DueVal) : Glade :=
  match v with
  | .mul q h => x.updBankOf handler (fun b => { b with mulQ := q, mulH := h })
  | .cku q => x.updBankOf handler (fun b => { b with ckuQ := q })
  | .time q st => x.updBankOf handler (fun b => { b with timeQ := q, timeStat := st })
  | .lsu q => x.updBankOf handler (fun b => { b with lsuQ := q })
  | .qpu q => { x with qpuQ := q }
  | .qpuOpen q h => { x with qpuQ := q, qpuH := h }
  | .jau q => { x with jauQ := q }
  | _ => x

/-- A due entry that has no result yet. -/
def DueVal.waiting : DueVal → Bool
  | .loadWait => true
  | .jauWait => true
  | .qpuWait => true
  | .jauHeld => true
  | _ => false

/-- Every result of a bank whose distance has elapsed enters its port, oldest first (R110, R127). -/
def Glade.settleBank (x : Glade) (handler : Bool) : Glade :=
  let b := if handler then x.handler else x.thread
  let ready := b.due.filter (fun d => d.pos ≤ b.pos && !d.val.waiting)
  let x := ready.foldl (fun x d => x.applyDue handler d.val) x
  x.updBankOf handler (fun b => { b with due := b.due.filter (fun d => !(d.pos ≤ b.pos && !d.val.waiting)) })

/-- A result placed for the selected bank's port at distance 2 (R126): the trigger belongs to the bundle that issued
last, so the port shows it from the second next position. -/
def Glade.addDue (x : Glade) (v : DueVal) : Glade :=
  x.updBank (fun b => { b with due := b.due ++ [⟨b.pos + 1, v⟩] })

/-- The first waiting entry of a bank that `p` selects replaced by its result. -/
def replaceDue (p : Due → Bool) (v : DueVal) : List Due → List Due
  | [] => []
  | d :: ds => if p d then { d with val := v } :: ds else d :: replaceDue p v ds

/-! ### Tally counters (R378 to R380) -/

/-- Index of the Tally source of device source `d` (R376). -/
def dev (d : Nat) : Nat := 4096 + d

/-- COUNT of source `k`. -/
def State.tallyCount (s : State) (k : Nat) : Nat := s.fld (Reg.TLY_CNT k) 15 0

/-- Every MSI-X vector bound to source `k` becomes pending (R442). -/
def State.noteMsix (s : State) (k : Nat) : State :=
  { s with msix := { s.msix with
      pending := (List.range 32).foldl (fun p v =>
        if s.flag (Reg.LANE_EP_MSIX v) 13 && s.fld (Reg.LANE_EP_MSIX v) 12 0 == k then p ||| (1#32 <<< v) else p)
        s.msix.pending } }

/-- Rings whose capture trigger is source `k`, read off the configuration registers that are not at reset (R350). -/
def State.ringsOn (s : State) (k : Nat) : List Nat :=
  s.ctl.filterMap (fun p =>
    if Reg.JW_JCFG 0 ≤ p.1 ∧ p.1 < Reg.JW_JCFG 4096 ∧ bit p.2 1 = true ∧ dev (field p.2 15 8) = k then
      some ((p.1 - Reg.JW_JCFG 0) / 8) else none)

/-- The journal `j` beside its registers. -/
def State.journal (s : State) (j : Nat) : Journal := smGet Journal.reset s.jw.journals j

/-- The delivered time in nanoseconds (R425). -/
def State.now (s : State) : Nat := s.time.delivered.toNat

/-- The trigger points that an increment of source `k` gives to rings (R350 step 1). -/
def State.noteTriggers (s : State) (k : Nat) : State :=
  let new := (s.ringsOn k).map (fun j =>
    (j, ((s.journal j).segs.head?.map (fun g => g.2)).getD 0, (s.rd (Reg.JW_JSEQ j)).toNat - 1, s.now))
  if new.isEmpty then s else { s with jw := { s.jw with triggers := s.jw.triggers ++ new } }

/-- The sources of findings that concern Grove `g` alone: WATCHDOG, UNCORR, LASTING, WAKE_FAIL (R377, R491). -/
def groveFindingSource (k g : Nat) : Bool := k == dev (48 + g) || k == dev (64 + g) || k == dev (80 + g) || k == dev (128 + g)

/-- Source `k` belongs to findings (R491) that are logged only, and so is not raised (R492): every one in SAFE, and those
of a Grove that is fenced. -/
def State.loggedOnly (s : State) (k : Nat) : Bool :=
  (s.mode == 10 && ((List.range 16).any (groveFindingSource k)
    || [165, 168, 169, 170, 171, 172, 173, 174, 175, 176, 177, 178].any (fun d => k == dev d)))
  || (List.range 16).any (fun g => s.flag Reg.SAF_STATUS (32 + g) && groveFindingSource k g)

/-- An increment of `n` reaches source `k` (R378): the counter, the MSI-X vectors bound to it (R442) and the rings it
triggers (R350). Device sources 188 to 191 are never incremented (R377), nor that of a finding that is logged only. -/
def State.tallyInc (s : State) (k n : Nat) : State :=
  if k ≥ 4352 ∨ (dev 188 ≤ k ∧ k ≤ dev 191) ∨ n = 0 ∨ s.loggedOnly k = true then s
  else
    let c := s.tallyCount k + n
    let s := if c > 65535 then s.setFlag (Reg.TLY_CNT k) 17 true else s
    ((s.setFld (Reg.TLY_CNT k) 15 0 (min c 65535)).noteMsix k).noteTriggers k

/-! ### Crossings to the Tally counters (R385, R421, R422) -/

/-- `n` events that island `i` cannot hand over are added to its LOST counter, which raises CROSSING_LOST (R428,
R430). -/
def State.loseEvents (s : State) (i n : Nat) : State :=
  if n = 0 then s else (s.satAdd (Reg.UST_ISL i) 31 16 n).tallyInc (dev 183) 1

/-- The Tally side is awake: the Heartwood's rail is up (R388). -/
def State.tallyOn (s : State) : Bool := s.mode != 7 && s.mode != 8 && s.domainOn 2

/-- The place of source `k` among what island `i` holds. -/
def heldAt (i k : Nat) : Nat := 8192 * i + k

/-- `n` increments of source `k` from island `i` (R385, R388, R421): counted, or held by the sender, at most 65,535 of
them, while the Tally side is stalled; the rest are lost (R422), and all are while that side is reset (R428). -/
def State.crossInc (s : State) (i k n : Nat) : State :=
  if s.tallyOn then s.tallyInc k n
  else if s.fld (Reg.PWR_DOM 2) 5 4 = 0 then s.loseEvents i n
  else
    let held := smGet 0 s.sampler.held (heldAt i k) + n
    let s := { s with sampler := { s.sampler with held := smSet 0 s.sampler.held (heldAt i k) (min held 65535) } }
    s.loseEvents i (held - 65535)

/-! ### Error records (R253) -/

/-- The three sets of error records: a Grove's, the Heartwood's, a DDR channel's. -/
inductive RecSet where
  | grove (g : Nat)
  | heartwood
  | ddr (c : Nat)
deriving DecidableEq, Repr

/-- The registers of a record set: STATUS, INFO n, ADDR n. -/
def RecSet.status : RecSet → Nat
  | .grove g => Reg.GRV_ERR_STATUS g
  | .heartwood => Reg.SAF_ERR_STATUS
  | .ddr c => Reg.DDR_ERR_STATUS c

def RecSet.info : RecSet → Nat → Nat
  | .grove g, n => Reg.GRV_ERR_INFO g n
  | .heartwood, n => Reg.SAF_ERR_INFO n
  | .ddr c, n => Reg.DDR_ERR_INFO c n

def RecSet.addr : RecSet → Nat → Nat
  | .grove g, n => Reg.GRV_ERR_ADDR g n
  | .heartwood, n => Reg.SAF_ERR_ADDR n
  | .ddr c, n => Reg.DDR_ERR_ADDR c n

/-- The fields of a new error (R253). -/
structure ErrInfo where
  kind : Nat
  addr : Nat
  lasting : Bool
  rechecked : Bool
  mem : Nat
  glade : Nat
  req : Nat
  syndrome : Nat
  bitPos : Nat
  count : Nat
deriving DecidableEq, Repr

/-- An error of `kind` at `addr` with every other field at its default: BIT 0x7F, COUNT 1. -/
def ErrInfo.of (kind addr : Nat) : ErrInfo := ⟨kind, addr, false, false, 0, 0, 0, 0, 0x7F, 1⟩

/-- The group in which a KIND merges (R253). -/
def errGroup (kind : Nat) : Nat :=
  if kind = 1 ∨ kind = 2 then 1 else if 3 ≤ kind ∧ kind ≤ 6 then 3 else kind

/-- `ErrInfo` as the INFO register holds it. -/
def ErrInfo.word (e : ErrInfo) : W64 :=
  w64 (1 + b2n e.lasting * 2 + b2n e.rechecked * 4 + (e.kind % 256) * 2 ^ 8 + (e.mem % 4) * 2 ^ 16
    + (e.glade % 16) * 2 ^ 20 + (e.req % 16) * 2 ^ 24 + (e.syndrome % 256) * 2 ^ 32
    + (e.bitPos % 128) * 2 ^ 40 + (e.count % 65536) * 2 ^ 48)

/-- A new error recorded: merged, given the lowest free record, or counted in OVERFLOW (R253). -/
def State.recordError (s : State) (r : RecSet) (e : ErrInfo) : State :=
  let valid := fun n => s.flag (r.info n) 0
  let same := (List.range 8).find? (fun n =>
    valid n && e.kind != 0x12 && s.fld (r.addr n) 47 0 == e.addr % 2 ^ 48
      && errGroup (s.fld (r.info n) 15 8) == errGroup e.kind)
  match same with
  | some n =>
    let s := s.satAdd (r.info n) 63 48 1
    if e.lasting then s.setFlag (r.info n) 1 true else s
  | none =>
    match (List.range 8).find? (fun n => !valid n) with
    | some n =>
      let seq := s.fld r.status 47 32
      let s := s.wr (r.info n) e.word
      let s := s.wr (r.addr n) (w64 (e.addr % 2 ^ 48 + seq * 2 ^ 48))
      let s := s.setFlag r.status n true
      s.wrapAdd r.status 47 32 1
    | none => s.satAdd r.status 31 16 1

/-- A finding queued for its mechanism's reaction (R491, R492). -/
def State.find (s : State) (f : Finding) : State := { s with findings := s.findings ++ [f] }

end Sys2Proof.Machine
end

