-- ==== Sys2Proof/Machine/Memory.lean ====
section
/-! DEFINITION. The address map (R23), the checks every access passes (R27, R538), coded memories (R235 to R263),
writes and reads, and the page, injection and poison rules of Memories, ECC and scrubbing. -/

namespace Sys2Proof.Machine

/-- Who makes an access (R23, R30, R253). -/
inductive Requester where
  | glade (i : Nat)
  | heartwood
  | host
  | jtag
  | qm
  | jw
  | txu (g : Nat)
  | scrubber
deriving DecidableEq, Repr

/-- The requester a core's loads and stores act as; 256 is the Heartwood. -/
def coreRequester (c : Nat) : Requester := if c = 256 then .heartwood else .glade c

/-- Privileged as the Heartwood: the Heartwood itself, and the JTAG port in SERVICE (R454). -/
def Requester.asHeartwood : Requester → Bool
  | .heartwood => true
  | .jtag => true
  | _ => false

/-- REQ of an error record (R253). `own` says the Glade owns the memory. -/
def Requester.code (r : Requester) (g : Nat) : Nat :=
  match r with
  | .glade i => if i / 16 = g then 1 else 2
  | .heartwood => 7
  | .host => 8
  | .jtag => 7
  | .qm => 3
  | .jw => 4
  | .txu _ => 6
  | .scrubber => 5

/-! ### Regions -/

/-- The regions of R23, by what holds the bytes. -/
inductive Region where
  | groveMem (g : Nat)
  | imem (i : Nat)
  | dmem (i : Nat)
  | hwMem
  | control
  | seedbank
  | flash
  | pcie (c : Nat)
  | dram
  | unmapped
deriving DecidableEq, Repr

/-- DRAM base (R23). -/
def dramBase : Nat := 0x400000000000

/-- Global address of Grove memory `g` (R23). -/
def groveMemBase (g : Nat) : Nat := 0x100000000 + g * 0x1000000

/-- Global address of the window of Glade `i` (R23): IMEM at +0, DMEM at +0x1_0000. -/
def gladeBase (i : Nat) : Nat := 0x200000000 + (i / 16) * 0x1000000 + (i % 16) * 0x20000

/-- Heartwood memory (R23). -/
def hwMemBase : Nat := 0x300000000

/-- Seedbank window (R23). -/
def seedbankBase : Nat := 0x500000000

/-- Populated DRAM in bytes (R23, R258). -/
def State.dramBytes (s : State) : Nat :=
  ((List.range 4).map (fun n =>
    if s.flag (Reg.DDR_CH_CFG n) 0 then s.fld (Reg.DDR_CH_CFG n) 23 16 * 2 ^ 30 else 0)).foldl (· + ·) 0

/-- Mapped bytes of the boot flash window (R537). -/
def State.flashBytes (s : State) : Nat := s.fld Reg.HW_BOOT 39 26 * 65536

/-- The region of global address `a` (R23). -/
def State.regionOf (s : State) (a : Nat) : Region :=
  if a < 0x100000000 then .unmapped
  else if a < 0x110000000 then
    (if (a - 0x100000000) % 0x1000000 < 0x200000 then .groveMem ((a - 0x100000000) / 0x1000000) else .unmapped)
  else if a < 0x200000000 then .unmapped
  else if a < 0x210000000 then
    let o := a - 0x200000000
    let i := 16 * (o / 0x1000000) + o % 0x1000000 / 0x20000
    if o % 0x1000000 ≥ 0x200000 then .unmapped
    else if o % 0x20000 < 0x8000 then .imem i
    else if o % 0x20000 < 0x10000 then .unmapped
    else .dmem i
  else if a < 0x300000000 then .unmapped
  else if a < 0x300040000 then .hwMem
  else if a < 0x400000000 then .unmapped
  else if a < 0x410000000 then .control
  else if a < 0x500000000 then .unmapped
  else if a < 0x500001000 then .seedbank
  else if a < 0x600000000 then .unmapped
  else if a < 0x600000000 + s.flashBytes then .flash
  else if a < 0x8000000000 then .unmapped
  else if a < 0xC000000000 then .pcie 0
  else if a < 0x10000000000 then .pcie 1
  else if a < dramBase then .unmapped
  else if a < dramBase + s.dramBytes then .dram
  else .unmapped

/-- The global address of the storage that requester `r` names by `a` (R23, R24): a Glade's three local ranges exist
for that Glade only; for every other requester an address below 0x1_0000_0000 stays where it is, unmapped. -/
def canon (r : Requester) (a : Nat) : Nat :=
  match r with
  | .glade i =>
    if a < 0x8000 then gladeBase i + a
    else if 0x10000 ≤ a ∧ a < 0x20000 then gladeBase i + a
    else if 0x1000000 ≤ a ∧ a < 0x1200000 then groveMemBase (i / 16) + (a - 0x1000000)
    else a
  | _ => a

/-! ### Partitions (R29) -/

/-- Partition of PCIe entry `e`: 0 and 1 the root complexes, 2 the endpoint (R50). -/
def State.pciePart (s : State) (e : Nat) : Nat := s.secLE 0x20 (96 + 8 * e + 3) 1

/-- Partition of the DRAM byte at offset `o` (R29, R45). -/
def State.dramPart (s : State) (o : Nat) : Nat :=
  let n := s.secLE 1 34 1
  match (List.range n).find? (fun i =>
      let b := s.secLE 1 (40 + 16 * i) 4 * 2 ^ 20
      let z := s.secLE 1 (44 + 16 * i) 4 * 2 ^ 20
      decide (b ≤ o ∧ o < b + z)) with
  | some i => s.secLE 1 (48 + 16 * i) 1
  | none => 0

/-- Base of the queue descriptor table (R51); the DRAM base when the QM section is absent (R43). -/
def State.descBase (s : State) : Nat := if (s.sec 0x30).isEmpty then dramBase else s.secLE 0x30 0 8

/-- Bytes at the NVMe queue area's base that belong to the JW (Journals). -/
def nvmeAreaBytes : Nat := 0x200000

/-- Global address `a` lies in the NVMe queue area or in the staging area of the JW. -/
def State.jwArea (s : State) (a : Nat) : Bool :=
  let inside := fun (b n : Nat) => decide (b ≤ a ∧ a < b + n)
  (s.fld Reg.JW_NVME_BASE 47 0 != 0 && inside (s.fld Reg.JW_NVME_BASE 47 0) nvmeAreaBytes)
    || inside (s.fld Reg.JW_STAGE_BASE 47 0) (s.fld Reg.JW_STAGE_SIZE 31 0 * 2 ^ 20)

/-- Global address `a` lies in an area only its engine and the Heartwood reach (R29, R52). -/
def State.enginePrivate (s : State) (a : Nat) : Bool :=
  (s.applied && decide (s.descBase ≤ a ∧ a < s.descBase + 32 * 2 ^ 20)) || s.jwArea a

/-- Partition a requester acts for; none: no Firebreak refuses it (R30, R32). -/
def State.partOf (s : State) (r : Requester) : Option Nat :=
  match r with
  | .glade i => some (s.groveGetPart (i / 16))
  | .host => some (s.pciePart 2)
  | .txu g => some (s.groveGetPart g)
  | _ => none

/-- Partition that owns global address `a`, where a partition does (R29). -/
def State.ownerOf (s : State) (a : Nat) : Option Nat :=
  match s.regionOf a with
  | .groveMem g => some (s.groveGetPart g)
  | .imem i => some (s.groveGetPart (i / 16))
  | .dmem i => some (s.groveGetPart (i / 16))
  | .control => if a < 0x401000000 then some (s.groveGetPart ((a - 0x400000000) / 0x100000)) else none
  | .pcie c => some (s.pciePart c)
  | .dram => some (s.dramPart (a - dramBase))
  | _ => none

/-! ### The access check (R27, R538) -/

/-- Page `a` / 4096 is retired by some Grove's register (R254). -/
def State.retired (s : State) (a : Nat) : Bool :=
  (List.range 16).any (fun g => (List.range 64).any (fun n =>
    s.flag (Reg.GRV_RETIRE g n) 0 && s.fld (Reg.GRV_RETIRE g n) 47 12 == a % 2 ^ 48 / 4096))

/-- Some page that the `n` bytes from `a` touch is retired. -/
def State.anyRetired (s : State) (a n : Nat) : Bool :=
  (List.range ((a + n - 1) / 4096 + 1 - a / 4096)).any (fun k => s.retired (4096 * (a / 4096 + k)))

/-- `SAF_GVIEWi_r` at control address `a`: Glade and register number. -/
def gviewAt (a : Nat) : Option (Nat × Nat) :=
  let o := a - 0x406100000
  if a < 0x406100000 ∨ o / 0x400 ≥ 256 ∨ o % 0x400 / 8 > 76 ∨ a % 8 ≠ 0 then none else some (o / 0x400, o % 0x400 / 8)

/-- A register (or GVIEW word) stands at control address `a`, taken down to its word (R26). -/
def controlMapped (a : Nat) : Bool := (regAt (a / 8 * 8)).isSome || (gviewAt (a / 8 * 8)).isSome

/-- Route registers of Tally source `k` name Grove `g` by route or valid fallback (R384). -/
def State.tallyNames (s : State) (k g : Nat) : Bool :=
  let r := s.rd (Reg.TLY_ROUTE k)
  field r 11 8 == g || (bit r 1 && field r 35 32 == g)

/-- A Glade's access to the Tally block is one that R384 allows. -/
def State.tallyAllowed (s : State) (i a : Nat) (write : Bool) : Bool :=
  let o := a - 0x404000000
  if write then
    if o = 0x40 then true
    else if 0x200000 ≤ o ∧ o < 0x200000 + 8 * 4352 then s.tallyNames ((o - 0x200000) / 8) (i / 16)
    else false
  else
    if o = 0x10 ∨ o = 0x18 then true
    else if 0x1000 ≤ o ∧ o < 0x1000 + 8 * 68 then true
    else if 0x100000 ≤ o ∧ o < 0x100000 + 8 * 4352 then s.tallyNames ((o - 0x100000) / 8) (i / 16)
    else false

/-- The Understory island that holds the register at control address `a` (R424), where one does. -/
def State.islandAt (s : State) (a : Nat) : Option Nat :=
  if 0x407010000 ≤ a ∧ a < 0x407016000 then
    let n := (a - 0x407010000) / 0x100
    if a % 0x100 < 0x10 then some (n / 8)
    else some (19 + s.secLE 0x20 (8 * (n / 8) + 3) 1 / 4 ^ (n / 4 % 2) % 4)
  else if 0x407080000 ≤ a ∧ a < 0x407083000 then some (16 + (a - 0x407080000) / 0x1000)
  else if 0x407090000 ≤ a ∧ a < 0x407091000 then some 18
  else if 0x409000000 ≤ a ∧ a < 0x409040000 then some (12 + (a - 0x409000000) / 0x10000)
  else if 0x408001000 ≤ a ∧ a < 0x408001600 then
    let l := (a - 0x408001000) / 0x40
    ((List.range (s.secLE 0x60 1 1)).find? (fun k => s.secLE 0x60 (8 + 8 * k) 1 == l)).map (fun k =>
      23 + s.secLE 0x60 (9 + 8 * k) 1 % 2)
  else if 0x40A000000 ≤ a ∧ a < 0x40A000020 then some 25
  else if 0x40A000100 ≤ a ∧ a < 0x40A000208 then some 26
  else if 0x40A000300 ≤ a ∧ a < 0x40A000500 then some 27
  else if 0x40A000500 ≤ a ∧ a < 0x40A000600 then some 28
  else if 0x40A000600 ≤ a ∧ a < 0x40A000620 then some 29
  else none

/-- The block at control address `a` is unmapped because its island's side is reset (R428). -/
def State.islandReset (s : State) (a : Nat) : Bool :=
  match s.islandAt a with
  | some i => s.flag (Reg.UST_ISL i) 1
  | none => false

/-- STATE of `SAF_GCTLi` (R493). -/
def State.gctlState (s : State) (i : Nat) : Nat :=
  if s.buses i = 0 then 0
  else match (s.glade i).run with
    | .off => 0
    | .running => 1
    | .clearing => 2
    | .stopped => 3
    | .fenced => 4
    | .held => 5

/-- A register of the UART, which only the Heartwood uses (R450). -/
def uartReg (a : Nat) : Bool := a == Reg.UST_UART_CFG || a == Reg.UST_UART_TX || a == Reg.UST_UART_RX

/-- The control-space rules of R18, R450 and of the owning chapters: `true` when requester `r` may make the access. -/
def State.controlAllowed (s : State) (r : Requester) (a : Nat) (write : Bool) : Bool :=
  let state := s.gctlState
  match gviewAt a with
  | some (i, _) => (state i == 3 || state i == 4) && r.asHeartwood
  | none =>
    match r, regAt a with
    | _, none => false
    | .glade i, some row =>
      if 0x404000000 ≤ a ∧ a < 0x405000000 then s.tallyAllowed i a write
      else if write then
        row.byGlade && (if row.name = "GRV_ERRn_INFO" then a / 0x100000 % 16 == i / 16 && a < 0x401000000 else true)
      else !uartReg a
    | .host, some row =>
      if 0x404000000 ≤ a ∧ a < 0x405000000 then (if write then a == Reg.TLY_RAISE else a == Reg.TLY_STATUS)
      else if write then row.byHost else !uartReg a
    | .heartwood, _ => true
    | .jtag, _ => true
    | _, some _ => !write && !uartReg a

/-- A `TLY_RAISE` write names a SOFT source whose route Grove lies in another partition (R384). -/
def State.raiseForeign (s : State) (r : Requester) (a : Nat) (v : W64) : Bool :=
  a == Reg.TLY_RAISE &&
    (let k := field v 12 0
     match s.partOf r with
     | some p => decide (dev 192 ≤ k ∧ k ≤ dev 255) && s.groveGetPart (s.fld (Reg.TLY_ROUTE k) 11 8) != p
     | none => false)

/-- A `TLY_RAISE` write that R384's table does not list: of a source outside SOFT, by another than the Heartwood. -/
def raiseBarred (r : Requester) (a : Nat) (v : W64) : Bool :=
  a == Reg.TLY_RAISE && !r.asHeartwood && !decide (dev 192 ≤ field v 12 0 ∧ field v 12 0 ≤ dev 255)

/-- `p` holds of the first or of the last byte of an access of `n` bytes at `a`. No access is longer than a word, and no
range that the checks look at is shorter, so these two bytes speak for all (R160). -/
def atEnds (a n : Nat) (p : Nat → Bool) : Bool := p a || p (a + n - 1)

/-- The bytes of one access lie in one region (R160). -/
def State.oneRegion (s : State) (a n : Nat) : Bool := s.regionOf a == s.regionOf (a + n - 1)

/-- Channel and channel-local offset of DRAM offset `o` (R258). -/
def State.dramChannel (s : State) (o : Nat) : Nat × Nat :=
  let pop := (List.range 4).filter (fun n => s.flag (Reg.DDR_CH_CFG n) 0)
  let size := fun n => s.fld (Reg.DDR_CH_CFG n) 23 16 * 2 ^ 30
  let n := pop.length
  let same := pop.all (fun c => size c == size (pop.getD 0 0))
  if (n = 1 ∨ n = 2 ∨ n = 4) ∧ same = true then
    (pop.getD (o / 4096 % n) 0, (o / (4096 * n)) * 4096 + o % 4096)
  else
    (pop.foldl (fun (acc : Nat × Option (Nat × Nat)) c =>
      match acc.2 with
      | some x => (acc.1, some x)
      | none => if o < acc.1 + size c then (acc.1, some (c, o - acc.1)) else (acc.1 + size c, none))
      (0, none)).2.getD (0, 0)

/-- The DRAM byte at `a` belongs to a channel whose domain is off, or whose controller's side is reset: it is unmapped
(R397, R405, R428). -/
def State.dramOff (s : State) (a : Nat) : Bool :=
  let n := (s.dramChannel (a - dramBase)).1
  !s.domainOn (36 + n) || s.flag (Reg.UST_ISL (12 + n)) 1

/-- The island through which an access to global address `a` passes, where it passes one and is not a root-port access
(R420, R424). -/
def State.servedBy (s : State) (a : Nat) : Option Nat :=
  match s.regionOf a with
  | .control => s.islandAt a
  | .dram => some (12 + (s.dramChannel (a - dramBase)).1)
  | .flash => some 27
  | _ => none

/-- STATE of domain `d`. -/
def State.domState (s : State) (d : Nat) : Nat := s.fld (Reg.PWR_DOM d) 5 4

def State.setDomState (s : State) (d st : Nat) : State := s.setFld (Reg.PWR_DOM d) 5 4 st

/-- Regulator of Grove `g` back in normal mode (R400). -/
def State.groveWakes (s : State) (g : Nat) : State :=
  if s.flag (Reg.PWR_RAIL g) 28 then
    ((s.setFlag (Reg.PWR_RAIL g) 28 false).setDomState (4 + g) 1)
  else s

/-- An access to global address `a` wakes the regulator of the Grove whose memory or control block stands there (R400).
-/
def State.touch (s : State) (a : Nat) : State :=
  match s.regionOf a with
  | .groveMem g => s.groveWakes g
  | .imem i => s.groveWakes (i / 16)
  | .dmem i => s.groveWakes (i / 16)
  | .control => if a < 0x401000000 then s.groveWakes ((a - 0x400000000) / 0x100000) else s
  | _ => s

/-- The on-chip memory of Grove `g` is switched off, and no fence answers for it: nothing stands behind its addresses
(log 110). -/
def State.memoryOff (s : State) (g : Nat) : Bool :=
  s.fld (Reg.PWR_DOM (20 + g)) 5 4 == 0 && !s.flag Reg.SAF_STATUS (32 + g)

/-- The on-chip memory of Grove `g` is in retention or waking, and answers no access (R240, R265): an access to it
waits. -/
def State.memoryWaits (s : State) (g : Nat) : Bool :=
  let st := s.fld (Reg.PWR_DOM (20 + g)) 5 4
  st == 3 || (st == 2 && (s.mode == 7 || s.mode == 8))

/-- Global address `a` lies in the on-chip memories of a Grove for which `p` holds. -/
def State.groveIs (s : State) (a : Nat) (p : Nat → Bool) : Bool :=
  match s.regionOf a with
  | .groveMem g => p g
  | .imem i => p (i / 16)
  | .dmem i => p (i / 16)
  | _ => false

/-- An access to global address `a` waits: its memory answers none yet (R240, R265), or the boot flash is busy (R448). -/
def State.accessWaits (s : State) (a : Nat) : Bool :=
  s.groveIs a s.memoryWaits || (s.regionOf a == .flash && s.flag Reg.UST_XSPI_CMD 62)

/-- An access of `n` bytes at global address `a` is unmapped (R23, R27, R160, R397, R428). -/
def State.unmappedAt (s : State) (addr a n : Nat) : Bool :=
  let reg := s.regionOf a
  decide (addr ≥ 2 ^ 48) || reg == .unmapped || !s.oneRegion a n
    || (reg == .dram && atEnds a n s.dramOff)
    || (reg == .control && atEnds a n (fun x => !controlMapped x || s.islandReset x))
    || (reg == .flash && s.flag (Reg.UST_ISL 27) 1)
    || s.groveIs a s.memoryOff

/-- An access of `n` bytes at global address `a` is refused at a Firebreak (R29 to R32, R52, R384). -/
def State.firebreakAt (s : State) (r : Requester) (write : Bool) (a n : Nat) (v : W64) : Bool :=
  atEnds a n (fun x =>
      (match s.partOf r, s.ownerOf x with
        | some p, some q => p != q
        | _, _ => false)
      || (s.enginePrivate x && !r.asHeartwood && s.partOf r != none))
    || (s.regionOf a == .control && write && s.raiseForeign r a v)

/-- An access of `n` bytes at global address `a` is excluded by R9, R18, R19, the "Reachable by" column of R23, or a
fence (R495). -/
def State.excludedAt (s : State) (r : Requester) (write : Bool) (a n : Nat) : Bool :=
  let localTo := fun i => match r with
    | .glade j => i / 16 != j / 16
    | .heartwood => false
    | .jtag => false
    | _ => true
  (match s.regionOf a with
    | .control => n != 8 || a % 8 != 0 || !s.controlAllowed r a write
    | .hwMem => !r.asHeartwood
    | .imem i => localTo i
    | .dmem i => localTo i
    | .pcie c => atEnds a n (fun x => decide (0x3FF0000000 ≤ x - 0x8000000000 - c * 0x4000000000)) && !r.asHeartwood
    | _ => false)
  || (s.groveIs a (fun g => s.flag Reg.SAF_STATUS (32 + g)) && !r.asHeartwood)

/-- BUS_ERROR detail of an access of `n` bytes at `addr` (as the requester names it), or none when it is allowed:
the first of R538's list, judged over all its bytes. `v` is the data of a control write. -/
def State.accessCheck (s : State) (r : Requester) (write : Bool) (addr n : Nat) (v : W64) : Option Nat :=
  let a := canon r addr
  let reg := s.regionOf a
  if s.unmappedAt addr a n then some 1
  else if s.firebreakAt r write a n v then some 3
  else if s.excludedAt r write a n || (write && reg == .control && raiseBarred r a v) then some 2
  else if write ∧ (reg = .seedbank ∨ reg = .flash) then some 7
  else if reg ≠ .control ∧ atEnds a n s.retired = true then some 6
  else none

/-- REQ of the record of an access by `r` to global address `a` (R253): a Glade is 0 at its own IMEM and DMEM, 1 at the
other memories of its Grove, and 2 elsewhere. -/
def State.reqCode (s : State) (r : Requester) (a : Nat) : Nat :=
  match r with
  | .glade i =>
    (match s.regionOf a with
      | .imem j => if j = i then 0 else r.code (j / 16)
      | .dmem j => if j = i then 0 else r.code (j / 16)
      | .groveMem g => r.code g
      | _ => 2)
  | r => r.code 16

/-- The error record and Tally source of a refused access (R28, R538, R254); a Firebreak refusal is a finding of
mechanism 0x09 (R491). -/
def State.recordRefusal (s : State) (r : Requester) (addr detail : Nat) : State :=
  let set := match r with
    | .glade i => RecSet.grove (i / 16)
    | _ => RecSet.heartwood
  let req := s.reqCode r (canon r addr)
  let e := if detail = 6 then
      { ErrInfo.of 7 (canon r addr / 8 * 8) with
        glade := (match r with | .glade i => i % 16 | _ => 0), req := req }
    else { ErrInfo.of (if detail = 3 then 0x11 else 0x10) addr with req := req, syndrome := detail }
  let s := s.recordError set e
  let s := s.tallyInc (if detail = 3 then dev 165 else dev 164) 1
  if detail = 3 then
    s.find ⟨9, 0x11, (match r with | .glade i => some (i / 16) | _ => none), none, none,
      (match r with | .glade i => i % 16 | _ => 0), addr⟩
  else s

/-! ### Bytes and code words -/

/-- The memory byte at global address `a`. -/
def State.byteAt (s : State) (a : Nat) : Byte := smGet 0#8 s.mem a

/-- The memory byte at global address `a` set, with nothing else. -/
def State.setByte (s : State) (a : Nat) (b : Byte) : State := { s with mem := smSet 0#8 s.mem a b }

/-- `n` bytes from `a`. -/
def State.bytesAt (s : State) (a n : Nat) : List Byte := (List.range n).map (fun k => s.byteAt (a + k))

/-- Bytes written from `a` upward. -/
def State.setBytes (s : State) (a : Nat) : List Byte → State
  | [] => s
  | b :: bs => (s.setByte a b).setBytes (a + 1) bs

/-- The data bits of the word at `w`. -/
def State.dataAt (s : State) (w : Nat) : W64 := w64 (ofBytesLE (s.bytesAt w 8))

/-- The stuck bits at `a` applied to what is stored there (R487). -/
def State.forced {n : Nat} (s : State) (a lo : Nat) (v : BitVec n) : BitVec n :=
  (s.stuck.filter (fun k => k.addr == a && decide (lo ≤ k.pos))).foldl (fun v k =>
    if v.getLsbD (k.pos - lo) = k.val then v else v ^^^ BitVec.ofNat n (2 ^ (k.pos - lo))) v

/-- The 73-bit code word that stands at word address `w`, its stuck bits applied (R235). -/
def State.codeAt (s : State) (w : Nat) : CodeWord :=
  s.forced w 0 (BitVec.ofNat 73 ((s.dataAt w).toNat + (smGet 0#9 s.ecc (w / 8)).toNat * 2 ^ 64))

/-- The bits among `lo` and the `n` after it that the next read of the word or burst at `a` finds inverted. -/
def State.upsets (s : State) (n a lo : Nat) : BitVec n :=
  (s.readErrs.filter (fun e => e.addr == a && decide (lo ≤ e.pos) && decide (0 < e.left))).foldl (fun v e =>
    v ^^^ BitVec.ofNat n (2 ^ (e.pos - lo))) 0#n

/-- One read of the word or burst at `a` is over. -/
def State.readOnce (s : State) (a : Nat) : State :=
  let less := fun (e : ReadErr) => if e.addr = a then { e with left := e.left - 1 } else e
  { s with readErrs := (s.readErrs.map less).filter (fun e => decide (0 < e.left)) }

/-- The code word that the next read of word address `w` finds (R235). -/
def State.readCode (s : State) (w : Nat) : CodeWord := s.codeAt w ^^^ s.upsets 73 w 0

/-- The code word at `w` stored, with nothing else. -/
def State.setCode (s : State) (w : Nat) (c : CodeWord) : State :=
  let s := s.setBytes w (bytesLE 8 (c.toNat % 2 ^ 64))
  { s with ecc := smSet 0#9 s.ecc (w / 8) (BitVec.ofNat 9 (c.toNat / 2 ^ 64)) }

/-- The Grove whose memories hold address `a` (R233); 16 for the Heartwood memory and everything else. -/
def State.groveOfAddr (s : State) (a : Nat) : Nat :=
  match s.regionOf a with
  | .groveMem g => g
  | .imem i => i / 16
  | .dmem i => i / 16
  | _ => 16

/-- Address `a` lies in SRAM (R233). -/
def State.isSram (s : State) (a : Nat) : Bool :=
  match s.regionOf a with
  | .groveMem _ => true
  | .imem _ => true
  | .dmem _ => true
  | .hwMem => true
  | _ => false

/-- The error fields of an SRAM word at `w`: record set, MEM and GLADE (R253). -/
def State.sramErr (s : State) (r : Requester) (w kind : Nat) : RecSet × ErrInfo :=
  let local' := fun (m i : Nat) =>
    (RecSet.grove (i / 16), { ErrInfo.of kind w with
      mem := m
      glade := i % 16
      req := if r = Requester.glade i then 0 else r.code (i / 16) })
  match s.regionOf w with
  | .groveMem g => (.grove g, { ErrInfo.of kind w with req := r.code g })
  | .imem i => local' 1 i
  | .dmem i => local' 2 i
  | _ => (.heartwood, { ErrInfo.of kind w with req := r.code 16 })

/-- The Tally source of uncorrectable errors of the memory that holds `w` (R377). -/
def State.uncorrSource (s : State) (w : Nat) : Nat :=
  let g := s.groveOfAddr w
  if g < 16 then dev (64 + g) else dev 172

/-- MEMCODE 1 holds for the word at `w`; the Heartwood memory always corrects (R236). -/
def State.detectOnly (s : State) (w : Nat) : Bool :=
  let g := s.groveOfAddr w
  decide (g < 16) && s.memcode1 g

/-- A finding of mechanism `m`, recorded with `kind`, on the memory that holds `w`. -/
def State.memFinding (s : State) (m kind w : Nat) (src : Option Nat) : State :=
  let g := s.groveOfAddr w
  let glade := match s.regionOf w with
    | .imem i => i % 16
    | .dmem i => i % 16
    | _ => 0
  s.find ⟨m, kind, if g < 16 then some g else none, none, src, glade, w⟩

/-- A Heartwood access that ends in a bus error on its own memory is a Heartwood fault while HANDLING is 1 (R508). -/
def State.heartwoodMemFault (s : State) (r : Requester) (w : Nat) : State :=
  if r = .heartwood ∧ s.regionOf w = .hwMem ∧ s.flag Reg.SAF_STATUS 0 = true then
    s.find ⟨101, 0x1D, none, none, none, 0, w⟩
  else s

/-! ### Writes -/

/-- The stored form a write of code word `c` takes under an armed injection (R256). -/
def injected (mode bitPos : Nat) (c : CodeWord) : CodeWord :=
  if mode = 1 then c ^^^ BitVec.ofNat 73 (2 ^ bitPos)
  else if mode = 2 then c ^^^ BitVec.ofNat 73 (2 ^ bitPos + 2 ^ ((bitPos + 1) % 73))
  else if mode = 3 then poisonWord
  else c

/-- How a write of code reaches the fetch of the Glade whose code memory it is (R173, R174): its own store, with the
position of its bundle in its stream; its own store of a stream it has left; or the write of another agent. -/
inductive CodeWriter where
  | own (pos : Nat)
  | past
  | agent
deriving DecidableEq, Repr

/-- The core whose code memory holds global address `a`, and that memory's base (R173; for the Heartwood log 8). -/
def State.codeHome (s : State) (a : Nat) : Option (Nat × Nat) :=
  match s.regionOf a with
  | .imem i => some (i, gladeBase i)
  | .hwMem => some (256, hwMemBase)
  | _ => none

/-- The code bytes from `a` that a write of `n` bytes is about to replace stay visible to the fetch of their core as R173
and R174 say. An own store also replaces what the fetch saw of another agent's earlier write that no IFENCE has passed; one
that an IFENCE has passed is still seen, old or new, for the two bundles after it, until the own store takes effect. -/
def State.noteCode (s : State) (a n : Nat) (how : CodeWriter) : State :=
  match s.codeHome a with
  | none => s
  | some (c, base) =>
    if (s.glade c).run != .running && (s.glade c).run != .clearing then s
    else s.updAsync c (fun x =>
      (List.range n).foldl (fun (x : Glade) j =>
        let k := a - base + j
        let hidden := x.oldCode.filter (fun o => o.off == k && o.agent && o.fromPos.isNone)
        match how with
        | .own p =>
          let kept := (x.oldCode.filter (fun o => o.off != k || !o.agent || o.fromPos.isSome)).map (fun o =>
            if o.off == k && o.agent then { o with fromPos := o.fromPos.map (fun q => min q (p + 2)) } else o)
          { x with oldCode := kept ++ [⟨k, (hidden.map OldCode.old).headD (s.byteAt (a + j)), false, some (p + 2)⟩] }
        | .past => { x with oldCode := x.oldCode.filter (fun o => o.off != k) }
        | .agent => { x with oldCode := x.oldCode ++ [⟨k, s.byteAt (a + j), true, none⟩] }) x)

/-- A transaction doomed with code `code`: an open one becomes DOOMED (R308, R322); one that is COMMITTING and not
decided keeps the code for its decision (log 10). -/
def Txn.doom (t : Txn) (code : Nat) : Txn :=
  match t.state with
  | .isOpen => { t with state := .doomed, dooms := t.dooms ||| (1#16 <<< code) }
  | .decided => t
  | _ => { t with dooms := t.dooms ||| (1#16 <<< code) }

/-- The TXU of Grove `g`. -/
def State.txu (s : State) (g : Nat) : Txu := smGet Txu.reset s.txus g

/-- The TXU of Grove `g` replaced. -/
def State.setTxu (s : State) (g : Nat) (x : Txu) : State := { s with txus := smSet Txu.reset s.txus g x }

/-- Glade `i`'s transaction. -/
def State.txn (s : State) (i : Nat) : Option Txn := smGet none (s.txu (i / 16)).txns (i % 16)

/-- Glade `i`'s transaction replaced. -/
def State.setTxn (s : State) (i : Nat) (t : Option Txn) : State :=
  let x := s.txu (i / 16)
  s.setTxu (i / 16) { x with txns := smSet none x.txns (i % 16) t }

/-- The decided transactions of Grove `g`, in decision order: Glade and transaction. -/
def State.decidedTxns (s : State) (g : Nat) : List (Nat × Txn) :=
  (s.txu g).decided.filterMap (fun k => (s.txn (16 * g + k)).map (fun t => (k, t)))

/-- The transaction's read or write set meets the granule of word `w`. -/
def Txn.meetsGranule (t : Txn) (w : Nat) : Bool := t.rset.contains (w / 64) || t.wset.any (fun p => p.1 / 64 == w / 64)

/-- The transactions kept as they stood before a DEQ of a Glade other than `except` are doomed with theirs (R120). -/
def Txu.doomKept (x : Txu) (except : Option Nat) (p : Txn → Bool) (code : Nat) : Txu :=
  { x with kept := x.kept.map (fun e =>
      if except = some e.1 then e else (e.1, e.2.1, e.2.2.map (fun t => if p t then t.doom code else t))) }

/-- Every transaction whose read or write set meets the granule of word `w`, other than `except`'s, is doomed with
`code` (R310, R317). -/
def State.doomGranule (s : State) (w code : Nat) (except : Option Nat) : State :=
  match s.regionOf w with
  | .groveMem g =>
    let s := if (s.txu g).kept.isEmpty then s
      else s.setTxu g ((s.txu g).doomKept (except.map (· - 16 * g)) (fun t => t.meetsGranule w) code)
    (List.range 16).foldl (fun s k =>
      if except = some (16 * g + k) then s
      else match s.txn (16 * g + k) with
        | some t => if t.meetsGranule w then s.setTxn (16 * g + k) (some (t.doom code)) else s
        | none => s) s
  | _ => s

/-- One SRAM code word stored by a write at word address `w`: an armed injection fires (R256). -/
def State.storeCode (s : State) (w : Nat) (c : CodeWord) : State :=
  let g := s.groveOfAddr w
  if g < 16 ∧ s.flag (Reg.GRV_INJECT g) 63 = true ∧ s.fld (Reg.GRV_INJECT g) 47 3 = w / 8 then
    let c' := injected (s.fld (Reg.GRV_INJECT g) 49 48) (s.fld (Reg.GRV_INJECT g) 56 50) c
    (s.setCode w c').setFlag (Reg.GRV_INJECT g) 63 false
  else s.setCode w c

/-- The bytes of a word with those of `data` placed from offset `o` (0 to 7) over it. -/
def mergeBytes (old : List Byte) (o : Nat) (data : List Byte) : List Byte :=
  (List.range 8).map (fun k => if o ≤ k then (data.getD (k - o) (old.getD k 0#8)) else old.getD k 0#8)

/-- A correctable error met by an access to the SRAM word at `w` (R241): logged with KIND 0x01, and the address put in
its Grove's write-back queue of 4 when there is room. -/
def State.noteCorrected (s : State) (r : Requester) (w pos : Nat) : State :=
  let e := s.sramErr r w 1
  let s' := (s.recordError e.1 { e.2 with syndrome := syndrome (s.readCode w), bitPos := pos }).readOnce w
  let g := s.groveOfAddr w
  let q := smGet [] s.scrub.wback g
  if s.isSram w = true ∧ q.length < 4 ∧ q.contains w = false then
    { s' with scrub := { s.scrub with wback := smSet [] s.scrub.wback g (q ++ [w]) } }
  else s'

/-- What an access that reads the word at `w` finds after the second read of R242: the word, corrected where needed, or
a lost word. `kind`, the record of a word that stays uncorrectable: 3 on a read, 6 at a merge (R170). -/
inductive Found where
  | good (c : CodeWord)
  | poisoned
  | lost
deriving DecidableEq, Repr

/-- A read of the SRAM word at `w` within an access: correction and its record (R241), and for an uncorrectable word the
second read (R242), whose success writes the word back corrected and logs KIND 0x03, LASTING 0. What follows from a
lost word is the access's own. -/
def State.sramFind (s : State) (r : Requester) (w : Nat) : State × Found :=
  let c := s.readCode w
  match decodeWord (s.detectOnly w) c with
  | .ok c => (s.readOnce w, .good c)
  | .corrected c' pos => (s.noteCorrected r w pos, .good c')
  | .poisoned => (s.readOnce w, .poisoned)
  | .uncorrectable =>
    let t := s.readOnce w
    let e := s.sramErr r w 3
    let logged := fun pos => (t.recordError e.1 { e.2 with syndrome := syndrome c, bitPos := pos }).readOnce w
    match decodeWord (t.detectOnly w) (t.readCode w) with
    | .ok c' => (logged 0x7F, .good c')
    | .corrected c' pos => ((logged pos).setCode w c', .good c')
    | .poisoned => (t.readOnce w, .poisoned)
    | .uncorrectable => (t.readOnce w, .lost)

/-- A write of `data` (within one word) to SRAM at `a`: a full word is stored; a narrow one is merged by a
read-modify-write, and a word that cannot be read is written poisoned, recorded and counted (R170). -/
def State.sramWrite (s : State) (r : Requester) (how : CodeWriter) (a : Nat) (data : List Byte) : State :=
  let w := a / 8 * 8
  let s := s.noteCode a data.length how
  if data.length ≥ 8 then s.storeCode w (encodeWord (w64 (ofBytesLE data)) true)
  else
    let syn := syndrome (s.readCode w)
    let lost := fun (s : State) =>
      let e := s.sramErr r w 6
      let s' := s.storeCode w poisonWord
      let s' := s'.recordError e.1 { e.2 with syndrome := syn }
      let s' := s'.tallyInc (s.uncorrSource w) 1
      s'.memFinding 1 6 w none
    match s.sramFind r w with
    | (s, .good c) => s.storeCode w (encodeWord (w64 (ofBytesLE
        (mergeBytes (bytesLE 8 (codeData c).toNat) (a - w) data))) true)
    | (s, .poisoned) => lost s
    | (s, .lost) => lost s

/-- The burst at address `a` lies below its channel's watermark (R263). -/
def State.belowMark (s : State) (a : Nat) : Bool :=
  let p := s.dramChannel (a / 64 * 64 - dramBase)
  decide (p.2 < s.fld (Reg.DDR_CH_WMARK p.1) 39 0)

/-- Size of channel `n` in bytes; 0 when it is not populated. -/
def State.chBytes (s : State) (n : Nat) : Nat :=
  if s.flag (Reg.DDR_CH_CFG n) 0 then s.fld (Reg.DDR_CH_CFG n) 23 16 * 2 ^ 30 else 0

/-- The zero-fill engine of channel `n` carries its watermark up to `upto`, at most to the channel's end (R263). -/
def State.fillChannel (s : State) (n upto : Nat) : State :=
  let a := Reg.DDR_CH_WMARK n
  let size := s.chBytes n
  let lo := s.fld a 39 0
  let hi := min upto size
  if size = 0 ∨ s.flag a 63 = true ∨ hi ≤ lo then s
  else
    let hit := fun (x : Nat) =>
      decide (dramBase ≤ x ∧ x < dramBase + s.dramBytes) &&
        (let p := s.dramChannel (x - dramBase); p.1 == n && decide (lo ≤ p.2 ∧ p.2 < hi))
    let s := { s with
      mem := s.mem.filter (fun p => !hit p.1)
      dramCheck := s.dramCheck.filter (fun p => !hit (64 * p.1)) }
    (s.setFld a 39 0 hi).setFlag a 63 (hi == size)

/-- A write of the burst at `b` waits until the watermark passes it (R263): the fill is carried on past it. -/
def State.fillPast (s : State) (b : Nat) : State :=
  if s.belowMark b then s else let p := s.dramChannel (b - dramBase); s.fillChannel p.1 (p.2 / 64 * 64 + 64)

/-- The data bytes that a read of the burst at `b` finds. -/
def State.burstAt (s : State) (b : Nat) : List Byte :=
  bytesLE 64 (s.forced b 0 (BitVec.ofNat 512 (ofBytesLE (s.bytesAt b 64)))).toNat

/-- The check symbols that a read of the burst at `b` finds. -/
def State.checkAt (s : State) (b : Nat) : BitVec 128 := s.forced b 512 (smGet 0#128 s.dramCheck (b / 64))

/-- A burst stored. -/
def State.setBurst (s : State) (b : Nat) (bs : List Byte) (chk : BitVec 128) : State :=
  let s := s.setBytes b bs
  { s with dramCheck := smSet 0#128 s.dramCheck (b / 64) chk }

/-- A burst with `data` placed over the bytes from offset `o`. -/
def burstMerge (bs : List Byte) (o : Nat) (data : List Byte) : List Byte :=
  (List.range 64).map (fun k => if o ≤ k ∧ k < o + data.length then data.getD (k - o) 0#8 else bs.getD k 0#8)

/-- The error fields of the burst at `b`. -/
def State.dramErr (r : Requester) (b kind : Nat) : ErrInfo := { ErrInfo.of kind b with mem := 3, req := r.code 16 }

/-- What a read of the burst at `b` finds now. -/
def State.readBurst (s : State) (b : Nat) : BurstRead :=
  decodeBurst (bytesLE 64 ((BitVec.ofNat 512 (ofBytesLE (s.burstAt b))) ^^^ s.upsets 512 b 0).toNat)
    (s.checkAt b ^^^ s.upsets 128 b 512)

/-- What an access finds in the burst at `b`. -/
inductive FoundBurst where
  | good (bs : List Byte)
  | poisoned (mask : BitVec 8) (bs : List Byte)
  | lost
deriving DecidableEq, Repr

/-- A correctable burst written back and read again once to classify its error (R262, R251): logged with `e`, which gives
the KIND, and counted when lasting. -/
def State.classifyBurst (s : State) (ch b : Nat) (e : ErrInfo) (bs : List Byte) (chk : BitVec 128) (d : Nat) : State :=
  let t := s.setBurst b bs chk
  let lasting := (match t.readBurst b with | .ok _ => false | _ => true)
  let t := (t.readOnce b).recordError (.ddr ch) { e with bitPos := d, rechecked := true, lasting := lasting }
  if lasting then t.crossInc (12 + ch) (dev (168 + ch)) 1 else t

/-- The burst at `b` read within an access (R260 to R262): a correctable error is corrected, logged with KIND 0x01 and
classified; an uncorrectable burst is read again once, and where that succeeds it is delivered, written back when it was
corrected, and logged with KIND 0x03, LASTING 0. What follows from a lost burst is the access's own. -/
def State.dramFind (s : State) (r : Requester) (b : Nat) : State × FoundBurst :=
  let ch := (s.dramChannel (b - dramBase)).1
  match s.readBurst b with
  | .ok bs => (s.readOnce b, .good bs)
  | .corrected bs chk d => ((s.readOnce b).classifyBurst ch b (State.dramErr r b 1) bs chk d, .good bs)
  | .poisoned m bs => (s.readOnce b, .poisoned m bs)
  | .uncorrectable =>
    let t := s.readOnce b
    let logged := fun d => (t.recordError (.ddr ch) { State.dramErr r b 3 with bitPos := d }).readOnce b
    match t.readBurst b with
    | .ok bs => (logged 0x7F, .good bs)
    | .corrected bs chk d => ((logged d).setBurst b bs chk, .good bs)
    | .poisoned m bs => (t.readOnce b, .poisoned m bs)
    | .uncorrectable => (t.readOnce b, .lost)

/-- A write of `data` within one burst of DRAM: merged into the burst; where the burst cannot be read, the words the
write fully replaces are good and every other word is poisoned (R171). -/
def State.dramWrite (s : State) (r : Requester) (a : Nat) (data : List Byte) : State :=
  let b := a / 64 * 64
  let o := a - b
  let s := s.fillPast b
  let covered := fun w => decide (o ≤ 8 * w ∧ 8 * w + 8 ≤ o + data.length)
  let ch := (s.dramChannel (b - dramBase)).1
  let maskOf := fun (p : Nat → Bool) => BitVec.ofNat 8 ((List.range 8).foldl (fun acc w => if p w then acc + 2 ^ w else acc) 0)
  let put := fun (s : State) (bs : List Byte) (m : BitVec 8) =>
    let p := encodeBurst (burstMerge bs o data) m
    s.setBurst b p.1 p.2
  match s.dramFind r b with
  | (s, .good bs) => put s bs 0#8
  | (s, .poisoned m bs) => put s bs (maskOf (fun w => m.getLsbD w && !covered w))
  | (s, .lost) =>
    let s := put s (s.burstAt b) (maskOf (fun w => !covered w))
    let s := s.recordError (.ddr ch) (State.dramErr r b 6)
    let s := s.crossInc (12 + ch) (dev (168 + ch)) 1
    s.find ⟨2, 6, none, none, none, 0, b⟩

/-! ### The ports of Grove memory (R245 to R247) -/

/-- The requesters that port B serves; port A serves every other. -/
def Requester.portB : Requester → Bool
  | .qm => true
  | .jw => true
  | .scrubber => true
  | _ => false

/-- `n` BUSY answers to an access of `r` to Grove `g`'s memory (R172, R247). -/
def State.noteBusy (s : State) (r : Requester) (g n : Nat) : State :=
  if n = 0 then s
  else
    let s := if r.portB then s.wrapAdd (Reg.GRV_BUSY g) 63 32 n else s.wrapAdd (Reg.GRV_BUSY g) 31 0 n
    let count := fun c => s.updAsync c (fun x => { x with cntBusy := x.cntBusy + w64 n })
    match r with
    | .glade i => count i
    | .heartwood => count 256
    | _ => s

/-- What an attempt of port A makes of port B's access: an answer, or none that differs from no conflict. A read of port B
that receives undefined data is answered as one that a write began during. -/
def meetOther (write : Bool) : PortMeet → List PortAnswer
  | .ahead => [⟨.behind, .clear⟩]
  | .aheadTwice => [⟨.behind, .behind⟩]
  | .behindRead => if write then [PortAnswer.once .ahead] else []
  | _ => []

/-- What port B's next accesses of the word at `w` are answered, port A's access having been answered `p`. -/
def otherAnswer (write : Bool) (p : PortAnswer) : List PortAnswer :=
  meetOther write p.first ++ (if p.first.busy then meetOther write p.again else [])

/-- The answer of the dual-port rule to an access of `r` to the word at `w` (R246), its BUSY answers counted. -/
def State.portAnswer (s : State) (r : Requester) (write : Bool) (w : Nat) : State × PortAnswer :=
  match s.regionOf w with
  | .groveMem g =>
    if r.portB then
      match s.ports.b.find? (fun e => e.1 == w) with
      | some e => ({ s with ports := { s.ports with b := s.ports.b.erase e } }.noteBusy r g e.2.busyCount, e.2)
      | none => (s, .done)
    else
      let p := s.ports.a.headD .done
      let b := s.ports.b ++ (otherAnswer write p).map (fun q => (w, q))
      ({ s with ports := ⟨s.ports.a.tail, b⟩ }.noteBusy r g p.busyCount, p)
  | _ => (s, .done)

/-- A read answered `p` delivers undefined data. -/
def garbles (p : PortAnswer) : Bool := p.failed || p.last == .ahead || p.last == .aheadTwice

/-- The answers of port A to the words that follow. -/
def State.withPorts (s : State) (ps : List PortAnswer) : State := { s with ports := { s.ports with a := ps } }

/-- `f`, with the answers `ps` for the words that it accesses through port A. -/
def State.onPorts (s : State) (ps : List PortAnswer) {α : Type} (f : State → State × α) : State × α :=
  let p := f (s.withPorts ps)
  (p.1.withPorts s.ports.a, p.2)

/-- A write of bytes that lie within one word, to any memory, by requester `r` (R169 to R171); it dooms every
transaction of the Grove that holds its granule, but the one of Glade `except`, whose own store it is (R310). -/
def State.writeWord (s : State) (r : Requester) (how : CodeWriter) (except : Option Nat) (a : Nat)
    (data : List Byte) : State :=
  let s := s.touch a
  match s.regionOf a with
  | .dram => s.dramWrite r a data
  | .groveMem _ =>
    let p := s.portAnswer r true (a / 8 * 8)
    if p.2.failed then p.1
    else (p.1.sramWrite r how a data).doomGranule (a / 8 * 8) 2 except
  | .unmapped => s
  | .control => s
  | .seedbank => s
  | .flash => s
  | .pcie _ => s
  | _ => s.sramWrite r how a data

/-- Bytes from `a` split at word boundaries: address and bytes of each part (R169). -/
def splitWords (a : Nat) (data : List Byte) : List (Nat × List Byte) :=
  let n := 8 - a % 8
  if data.length ≤ n then [(a, data)] else
    (a, data.take n) :: (List.range ((data.length - n + 7) / 8)).map (fun k =>
      (a + n + 8 * k, (data.drop (n + 8 * k)).take 8))

/-- First address and size in cells of pool `p` (`QM_GPOOLg`, `QM_DPOOLp`). -/
def State.poolPlace (s : State) (p : Nat) : Nat × Nat :=
  if p < 16 then (groveMemBase p + 256 * s.fld (Reg.QM_GPOOL p) 12 0, s.fld (Reg.QM_GPOOL p) 29 16)
  else (256 * s.fld (Reg.QM_DPOOL_BASE (p - 16)) 47 8, s.fld (Reg.QM_DPOOL_SIZE (p - 16)) 31 0)

/-- Address `a` is a cell of pool `p` that a queue holds (R268). -/
def Pool.holds (x : Pool) (base a : Nat) : Bool :=
  decide (a < base + 256 * x.fresh) && !x.freed.contains a && !x.skipped.contains a

/-- The cells of a pool at `base` that queues hold, as first addresses and bytes, neighbours joined. -/
def Pool.held (x : Pool) (base : Nat) : List (Nat × Nat) :=
  (List.range x.fresh).foldr (fun k (rs : List (Nat × Nat)) =>
    let c := base + 256 * k
    if x.holds base c then
      match rs with
      | (b, n) :: rest => if b = c + 256 then (c, n + 256) :: rest else (c, 256) :: rs
      | [] => [(c, 256)]
    else rs) []

/-- What a store of `n` bytes at `a` makes undefined, as first addresses and bytes: every cell that the queues of the
pool it falls into hold, and the ring it falls into (R272, R349). -/
def State.engineOwned (s : State) (a n : Nat) : List (Nat × Nat) :=
  s.qm.pools.flatMap (fun p =>
      let pl := s.poolPlace p.1
      if a < pl.1 + 256 * pl.2 ∧ pl.1 < a + n then p.2.held pl.1 else [])
    ++ (List.range (s.secLE 0x31 0 4)).filterMap (fun i =>
      let b := 8 + 32 * i
      let base := s.secLE 0x31 (b + 16) 8
      let len := s.secLE 0x31 (b + 24) 8
      if s.secLE 0x31 (b + 3) 1 = 1 ∧ base < a + n ∧ a < base + len then some (base, len) else none)

/-- Some DRAM byte of the `n` from `a` lies on a channel whose domain is off. -/
def State.anyOff (s : State) (a n : Nat) : Bool :=
  (List.range ((a + n - 1) / 64 + 1 - a / 64)).any (fun k => s.dramOff (64 * (a / 64 + k)))

/-- BUS_ERROR detail of an engine's access of `n` bytes at `a`, of whatever length: nothing stands there (R27, R397),
or a page of it is retired (R254). -/
def State.engineRefuses (s : State) (a n : Nat) : Option Nat :=
  if s.regionOf a = .unmapped ∨ s.oneRegion a n = false ∨ s.groveIs a s.memoryOff = true
      ∨ (s.regionOf a = .dram ∧ s.anyOff a n = true) then some 1
  else if s.anyRetired a n then some 6
  else none

/-- The bytes from `a` to `a + n` are defined anew. -/
def State.unspoil (s : State) (a n : Nat) : State :=
  { s with spoiled := s.spoiled.flatMap (fun x =>
      if x.1 < a + n ∧ a < x.1 + x.2 then
        (if x.1 < a then [(x.1, a - x.1)] else [])
          ++ (if a + n < x.1 + x.2 then [(a + n, x.1 + x.2 - (a + n))] else [])
      else [x]) }

/-- The contents of these ranges become undefined. -/
def State.undefine (s : State) (rs : List (Nat × Nat)) : State :=
  let s := rs.foldl (fun s x => s.unspoil x.1 x.2) s
  { s with spoiled := rs ++ s.spoiled }

/-- A store of `n` bytes at `a` by any but the QM and the JW makes the contents of the queues of the pool, or of the
ring, that it falls into undefined (R272, R349); what those engines write is defined, and so is what is stored
elsewhere. -/
def State.spoil (s : State) (r : Requester) (a n : Nat) : State :=
  match r with
  | .qm => s.unspoil a n
  | .jw => s.unspoil a n
  | _ => (s.unspoil a n).undefine (s.engineOwned a n)

/-- A write of any length, word by word (R169). -/
def State.writeMem (s : State) (r : Requester) (how : CodeWriter) (except : Option Nat) (a : Nat)
    (data : List Byte) : State :=
  ((splitWords a data).foldl (fun s p => s.writeWord r how except p.1 p.2) s).spoil r a data.length

/-- A full word written by an engine. -/
def State.writeW64 (s : State) (r : Requester) (a : Nat) (v : W64) : State :=
  s.writeMem r .agent none a (bytesLE 8 v.toNat)

/-! ### Reads -/

/-- What a read of a word answers: its data, or a BUS_ERROR detail (R162, R242). -/
inductive ReadAns where
  | ok (w : W64)
  | err (detail : Nat)
deriving DecidableEq, Repr

/-- A read of the SRAM word at `w`: correction, re-read, poisoning, records and findings of R241 and R242. -/
def State.sramRead (s : State) (r : Requester) (w : Nat) : State × ReadAns :=
  let syn := syndrome (s.readCode w)
  match s.sramFind r w with
  | (s, .good c) => (s, .ok (codeData c))
  | (s, .poisoned) =>
    let e := s.sramErr r w 5
    let s := s.recordError e.1 { e.2 with syndrome := syn }
    ((s.heartwoodMemFault r w).memFinding 1 5 w (some (s.uncorrSource w)), .err 5)
  | (s, .lost) =>
    let e := s.sramErr r w 3
    let s := s.recordError e.1 { e.2 with syndrome := syn, lasting := true }
    let s := s.tallyInc (s.uncorrSource w) 1
    (((s.setCode w poisonWord).heartwoodMemFault r w).memFinding 1 3 w none, .err 4)

/-- The words that an access of `n` bytes at `a` names in the burst at `b`, as a mask. -/
def namedWords (b a n : Nat) : BitVec 8 :=
  BitVec.ofNat 8 ((List.range 8).foldl (fun acc k =>
    if a < b + 8 * k + 8 ∧ b + 8 * k < a + n then acc + 2 ^ k else acc) 0)

/-- A read of word `w` of the DRAM burst that holds it, within an access of `n` bytes at `a` (R260 to R263): of a burst
that stays uncorrectable, the words that the access names are poisoned. -/
def State.dramRead (s : State) (r : Requester) (a n w : Nat) : State × ReadAns :=
  if !s.belowMark w then (s, .ok 0#64)
  else
    let b := w / 64 * 64
    let word := fun (bs : List Byte) => w64 (ofBytesLE ((bs.drop (w - b)).take 8))
    let ch := (s.dramChannel (b - dramBase)).1
    match s.dramFind r b with
    | (s, .good bs) => (s, .ok (word bs))
    | (s, .poisoned m bs) =>
      if m.getLsbD ((w - b) / 8) then
        ((s.recordError (.ddr ch) (State.dramErr r b 5)).find ⟨2, 5, none, none, some (dev (168 + ch)), 0, b⟩, .err 5)
      else (s, .ok (word bs))
    | (s, .lost) =>
      let p := encodeBurst (s.burstAt b) (namedWords b a n)
      let s := s.recordError (.ddr ch) { State.dramErr r b 3 with lasting := true }
      let s := s.crossInc (12 + ch) (dev (168 + ch)) 1
      ((s.setBurst b p.1 p.2).find ⟨2, 3, none, none, none, 0, b⟩, .err 4)

/-- A read of the word at `w` of the Seedbank window: its bytes; of the line being written, the old or the new word,
which of them is free (R358, log 20). -/
def State.readSeedbank (s : State) (w : Nat) : State × W64 :=
  match s.keeper.port with
  | some p =>
    if w / 64 = seedbankBase / 64 + p.line then
      let f := s.freeBool
      (f.2, if f.1 then w64 (ofBytesLE ((p.bytes.drop (w % 64)).take 8)) else s.dataAt w)
    else (s, s.dataAt w)
  | none => (s, s.dataAt w)

/-- A read of the word at `w`, within an access of `n` bytes at `a`, from memory of any kind, as it is stored. -/
def State.readStored (s : State) (r : Requester) (a n w : Nat) : State × ReadAns :=
  match s.regionOf w with
  | .dram => s.dramRead r a n w
  | .seedbank => let v := s.readSeedbank w; (v.1, .ok v.2)
  | .unmapped => (s, .err 1)
  | .control => (s, .err 2)
  | .pcie _ => (s, .err 4)
  | .flash => (s, .err 1)
  | _ => s.sramRead r w

/-- A read of the word at `w`, within an access of `n` bytes at `a`, from memory of any kind; a word that the dual-port
rule garbles, or whose contents are undefined, is free (R246, R272, R349, logs 20, 122). -/
def State.readWordOf (s : State) (r : Requester) (a n w : Nat) : State × ReadAns :=
  let q := (s.touch w).portAnswer r false w
  if garbles q.2 then let f := q.1.freeWord; (f.2, .ok f.1)
  else
    let p := q.1.readStored r a n w
    match p.2 with
    | .ok _ =>
      if s.spoiled.any (fun x => decide (x.1 < w + 8 ∧ w < x.1 + x.2)) then
        let f := p.1.freeWord
        (f.2, .ok f.1)
      else p
    | .err _ => p

/-- A read of the word at `w` alone. -/
def State.readWord (s : State) (r : Requester) (w : Nat) : State × ReadAns := s.readWordOf r w 8 w

/-- The words of an access of `n` bytes at `a`, each read by `read`, put together; or the first error met (R162). -/
def State.gather (s : State) (a n : Nat) (read : State → Nat → State × ReadAns) : State × Except Nat (List Byte) :=
  let w0 := a / 8 * 8
  let words := (a + n - 1) / 8 - a / 8 + 1
  let p := (List.range words).foldl (fun (acc : State × Except Nat (List Byte)) k =>
    match acc.2 with
    | .error e => (acc.1, .error e)
    | .ok bs =>
      match read acc.1 (w0 + 8 * k) with
      | (s, .ok v) => (s, .ok (bs ++ bytesLE 8 v.toNat))
      | (s, .err d) => (s, .error d)) (s, .ok [])
  match p.2 with
  | .ok bs => (p.1, .ok ((bs.drop (a - w0)).take n))
  | .error e => (p.1, .error e)

/-- The bytes of an access of `n` bytes at `a` that lies in memory, or the first error met (R162). -/
def State.readMem (s : State) (r : Requester) (a n : Nat) : State × (Except Nat (List Byte)) :=
  s.gather a n (fun s w => s.readWordOf r a n w)

/-- A read of `n` bytes at `a`, of whatever length, by a requester that is no Glade: refused and recorded (R28, R254), or
what memory answers. -/
def State.engineRead (s : State) (r : Requester) (a n : Nat) : State × (Except Nat (List Byte)) :=
  match s.engineRefuses (canon r a) n with
  | some d => (s.recordRefusal r a d, .error d)
  | none => s.readMem r (canon r a) n

/-- A write by such a requester: refused and recorded, or performed. -/
def State.engineWrite (s : State) (r : Requester) (a : Nat) (data : List Byte) : State :=
  if data.isEmpty then s
  else match s.engineRefuses (canon r a) data.length with
    | some d => s.recordRefusal r a d
    | none => s.writeMem r .agent none (canon r a) data

/-! ### Bulk clear (R240) -/

/-- Every byte and code bit of the range zero: the code word of zero data with the valid bit clear. An armed
injection on a word of the range is disarmed (R256). Contents that were undefined are zero from then on (R240). -/
def State.bulkClear (s : State) (base n : Nat) : State :=
  let s := s.unspoil base n
  let s := { s with
    mem := s.mem.filter (fun p => !(decide (base ≤ p.1 ∧ p.1 < base + n)))
    ecc := s.ecc.filter (fun p => !(decide (base ≤ 8 * p.1 ∧ 8 * p.1 < base + n))) }
  (List.range 16).foldl (fun s g =>
    let w := 8 * s.fld (Reg.GRV_INJECT g) 47 3
    if s.flag (Reg.GRV_INJECT g) 63 ∧ base ≤ w ∧ w < base + n then s.setFlag (Reg.GRV_INJECT g) 63 false else s) s

/-- The memories of GROVE_Mg cleared (R233): Grove memory and the IMEM and DMEM of the 16 Glades; the scrubber's pass
begins again (R252). -/
def State.clearGrove (s : State) (g : Nat) : State :=
  let s := s.setFld (Reg.GRV_SCRUB_STATUS g) 50 32 0
  let s : State := { s with scrub := { s.scrub with began := smSet 0 s.scrub.began g 0 } }
  let s := s.bulkClear (groveMemBase g) 0x200000
  (List.range 16).foldl (fun s k =>
    (s.bulkClear (gladeBase (16 * g + k)) 0x8000).bulkClear (gladeBase (16 * g + k) + 0x10000) 0x10000) s

end Sys2Proof.Machine
end

