-- ==== Sys2Proof/Machine/Tally.lean ====
section
/-! DEFINITION. Tally routes and views: which Glades a pending source is delivered to (R379, R381, R382). -/

namespace Sys2Proof.Machine

/-- The time base counts: its island runs and the device is not in RETAIN or LOOKOUT (R403, R425). -/
def State.timeRuns (s : State) : Bool := s.flag (Reg.UST_ISL 25) 0 && s.mode != 7 && s.mode != 8

/-- Source `k` is pending (R379). -/
def State.tallyPending (s : State) (k : Nat) : Bool :=
  s.tallyCount k != 0 && s.flag (Reg.TLY_ROUTE k) 0

/-- The sources with a count, read off the registers that are not at reset. -/
def State.pendingSources (s : State) : List Nat :=
  (s.ctl.filterMap (fun p =>
    if Reg.TLY_CNT 0 ≤ p.1 ∧ p.1 < Reg.TLY_CNT 4352 then some ((p.1 - Reg.TLY_CNT 0) / 8) else none)).filter
    s.tallyPending

/-- Glade `i` can take delivery (R381). -/
def State.canTake (s : State) (i : Nat) : Bool :=
  let x := s.glade i
  s.buses i != 0 && x.started && (x.run == .running || x.run == .clearing) && s.domainOn (4 + i / 16)

/-- The Glades of a Grove mask that can take delivery; a trailing Glade's bit stands for its leading Glade (R382). -/
def State.maskGlades (s : State) (g mask : Nat) : List Nat :=
  (((List.range 16).filter (fun k => mask.testBit k)).map (fun k => s.leaderOf (16 * g + k))).eraseDups.filter s.canTake

/-- The effective route of source `k`, and whether it is the fallback route (R381). -/
def State.effRoute (s : State) (k : Nat) : List Nat × Bool :=
  let r := s.rd (Reg.TLY_ROUTE k)
  let main := s.maskGlades (field r 11 8) (field r 31 16)
  if !main.isEmpty then (main, false)
  else if bit r 1 then
    let fb := s.maskGlades (field r 35 32) (field r 63 48)
    (fb, !fb.isEmpty)
  else ([], false)

/-- Source `k` is pending and its effective route names Glade `i` (R198, R382). -/
def State.routedTo (s : State) (k i : Nat) : Bool := s.tallyPending k && (s.effRoute k).1.contains i

/-- Some pending source is routed to Glade `i` (R198). The Heartwood takes no route (R382). -/
def State.eventPending (s : State) (i : Nat) : Bool := s.pendingSources.any (fun k => s.routedTo k i)

/-- `TLY_PENDw`: one bit per pending source. -/
def State.pendWord (s : State) (w : Nat) : W64 :=
  w64 ((List.range 64).foldl (fun a i => if s.tallyPending (64 * w + i) then a + 2 ^ i else a) 0)

/-- `TLY_MYPENDw` as Glade `i` reads it. -/
def State.myPendWord (s : State) (i w : Nat) : W64 :=
  w64 ((List.range 64).foldl (fun a b => if s.routedTo (64 * w + b) i then a + 2 ^ b else a) 0)

/-- A summary over pending words `lo` to `hi`: bit per non-zero word. -/
def sumWord (f : Nat → W64) (lo n : Nat) : W64 :=
  w64 ((List.range n).foldl (fun a i => if f (lo + i) = 0#64 then a else a + 2 ^ i) 0)

/-- `TLY_CNTs` as read: COUNT and SAT as stored, the other flags from the state (R379, R381). -/
def State.cntWord (s : State) (k : Nat) : W64 :=
  let r := s.effRoute k
  let v := s.rd (Reg.TLY_CNT k)
  let v := setField v 16 16 (b2n (s.tallyPending k))
  let v := setField v 18 18 (b2n r.2)
  setField v 19 19 (b2n (s.tallyPending k && r.1.isEmpty))

end Sys2Proof.Machine
end

