-- ==== Sys2Proof/Machine/Queue.lean ====
section
/-! DEFINITION. The queue manager's engines: descriptors and their cache (R273, R274), pools and cells (R268 to R271),
opening, linking, discarding and flushing packets (R279, R288, R293, R299). -/

namespace Sys2Proof.Machine

/-- What the QM section says of queue `q` (R51, R52). -/
structure QInfo where
  dram : Bool
  grove : Nat
  part : Nat
  crossing : Bool
  deqPart : Nat
deriving DecidableEq, Repr

/-- The placement of queue `q`: its range's entry, or DRAM and partition 0 outside every range (R52). -/
def State.queueInfo (s : State) (q : Nat) : QInfo :=
  match (List.range (s.secLE 0x30 8 4)).find? (fun i =>
      let f := s.secLE 0x30 (16 + 16 * i) 4
      decide (f ≤ q ∧ q < f + s.secLE 0x30 (20 + 16 * i) 4)) with
  | some i =>
    let b := fun o => s.secLE 0x30 (16 + 16 * i + o) 1
    ⟨b 8 == 1, b 9, b 10, b 11 % 2 == 1, b 12⟩
  | none => ⟨true, 0, 0, false, 0⟩

/-- The partition from which queue `q` is dequeued. -/
def QInfo.deq (i : QInfo) : Nat := if i.crossing then i.deqPart else i.part

/-- The pool queue `q` takes cells from: 0 to 15 a Grove's, 16 + p partition p's DRAM pool. -/
def QInfo.pool (i : QInfo) : Nat := if i.dram then 16 + i.deq else i.grove

/-- Queue `q` is stored in Grove memory that answers no access yet: what its engine does there waits (R265). -/
def State.queueWaits (s : State) (q : Nat) : Bool := let n := s.queueInfo q; !n.dram && s.memoryWaits n.grove

/-- The engine of queue `q` is powered (R266). -/
def State.engineOn (s : State) (q : Nat) : Bool := s.flag Reg.QM_STATUS (q % 2)

/-! ### Descriptors -/

/-- A descriptor as its four words (R273). -/
def Desc.words (d : Desc) : List W64 :=
  [w64 (d.head % 2 ^ 48), w64 (d.tail % 2 ^ 48), w64 (d.packets % 2 ^ 32 + (d.cells % 2 ^ 32) * 2 ^ 32),
   w64 (d.group % 4096 + (b2n d.enabled + 2 * b2n d.audit + 4 * b2n d.drop + 8 * b2n d.broken
     + 16 * b2n d.egress) * 2 ^ 16 + (d.limit % 256) * 2 ^ 24 + (d.seq % 2 ^ 32) * 2 ^ 32)]

/-- A descriptor from its four words (R273). -/
def Desc.ofWords (a b c d : W64) : Desc where
  head := field a 47 0
  tail := field b 47 0
  packets := field c 31 0
  cells := field c 63 32
  group := field d 11 0
  enabled := bit d 16
  audit := bit d 17
  drop := bit d 18
  broken := bit d 19
  egress := bit d 20
  limit := field d 31 24
  seq := field d 63 32

/-- Address of the descriptor of queue `q` (R273). -/
def State.descAddr (s : State) (q : Nat) : Nat := s.descBase + 32 * q

/-- A QM error: the Tally source of R299. -/
def State.qmError (s : State) : State := s.tallyInc (dev 166) 1

/-- A read of a word by the QM: a refused access (R27, R254) and an unreadable word raise the QM-error source (R299). -/
def State.qmRead (s : State) (a : Nat) : State × ReadAns :=
  match s.engineRefuses a 8 with
  | some d => ((s.recordRefusal .qm a d).qmError, .err d)
  | none => match s.readWord .qm a with
    | (s, .ok v) => (s, .ok v)
    | (s, .err d) => (s.qmError, .err d)

/-- A write of a word by the QM; false when it is refused (R27, R254), and then nothing is written (R299). -/
def State.qmWrite (s : State) (a : Nat) (v : W64) : State × Bool :=
  match s.engineRefuses a 8 with
  | some d => ((s.recordRefusal .qm a d).qmError, false)
  | none => (s.writeW64 .qm a v, true)

/-- A word that fails the engine's checks of a header or LINK word (R299): logged as the uncorrectable error it counts
as, and the QM-error source; the word itself stays as it is. -/
def State.qmBadWord (s : State) (a : Nat) : State :=
  let a := a / 8 * 8
  let e := if dramBase ≤ a then (RecSet.ddr (s.dramChannel (a / 64 * 64 - dramBase)).1, State.dramErr .qm (a / 64 * 64) 3)
    else s.sramErr .qm a 3
  (s.recordError e.1 { e.2 with lasting := true }).qmError

/-- A kept operation holds a packet of queue `q`. -/
def PendKind.links (k : PendKind) (q : Nat) : Bool :=
  match k with
  | .link w => w.queue == q
  | .stub _ w => w.queue == q
  | .answer w _ => w.any (fun w => w.queue == q)
  | .abort ws => ws.any (fun w => w.queue == q)
  | _ => false

/-- A packet for queue `q` is being received on link `x`, or one of its packets is being sent there (R274). -/
def Link.holdsQueue (x : Link) (q : Nat) : Bool :=
  (match x.cur with
    | some (.own _ _ (.queue p _ _)) => p == q
    | _ => false)
  || x.data.any (fun o => o.queue == some q && !o.flits.isEmpty)

/-- Queue `q` has a packet open in some cursor, transaction, ingress port or egress port, a write cursor that is bound to
a discarded one and a closed packet that waits for its link included, so its descriptor is in use (R274, R285). A read
cursor that R292 closed holds none. -/
def State.queueOpen (s : State) (q : Nat) : Bool :=
  s.glades.any (fun p =>
    p.2.reads.any (fun c => match c.2 with | some r => !r.lost && r.queue == q | none => false)
    || p.2.writes.any (fun c => match c.2 with | some w => w.queue == q | none => false)
    || p.2.qpuPend.any (fun d => d.kind.links q))
  || s.txus.any (fun x => x.2.txns.any (fun t => match t.2 with
      | some t => t.packets.any (fun w => w.queue == q)
      | none => false))
  || s.rootlink.links.any (fun p => p.2.holdsQueue q)

/-- The entries of the cache without queue `q`. -/
def Qm.drop (m : Qm) (q : Nat) : List CachedDesc := m.cache.filter (fun e => e.queue != q)

/-- Write-back of the least recently used descriptor of `q`'s engine that is neither pinned nor in use, when the
engine holds more than 4,096 (R274). A refused write-back makes its queue BROKEN and sets DESC_ERR (R299). -/
def State.evict (s : State) (q : Nat) : State :=
  if (s.qm.cache.filter (fun e => e.queue % 2 == q % 2)).length ≤ 4096 then s
  else match s.qm.cache.reverse.find? (fun e => e.queue % 2 == q % 2 && !e.pinned && !s.queueOpen e.queue) with
    | some e =>
      let s' := match s.engineRefuses (s.descAddr e.queue) 32 with
        | some d =>
          let s := (((s.recordRefusal .qm (s.descAddr e.queue) d).qmError).setFlag Reg.QM_STATUS 3 true)
          { s with qm := { s.qm with unwritten := e.queue :: s.qm.unwritten } }
        | none => (List.range 4).foldl (fun s k =>
            (s.qmWrite (s.descAddr e.queue + 8 * k) (e.desc.words.getD k 0#64)).1) s
      { s' with qm := { s'.qm with cache := s'.qm.drop e.queue } }
    | none => s

/-- The descriptor of `q` made most recently used with value `d` (R274). -/
def State.setDesc (s : State) (q : Nat) (d : Desc) : State :=
  let pinned := s.qm.cache.any (fun e => e.queue == q && e.pinned)
  ({ s with qm := { s.qm with cache := ⟨q, d, pinned⟩ :: s.qm.drop q, cells := smSet 0 s.qm.cells q d.cells } }).evict q

/-- `n` words read by the QM from address `a` on, up to the first that cannot be read. -/
def State.qmWords (s : State) : Nat → Nat → State × List W64
  | 0, _ => (s, [])
  | n + 1, a =>
    match s.qmRead a with
    | (s, .ok v) =>
      let r := s.qmWords n (a + 8)
      (r.1, v :: r.2)
    | (s, .err _) => (s, [])

/-- The descriptor of `q`, fetched from DRAM when it is not cached; an unreadable one marks the queue BROKEN and sets
DESC_ERR, and so does one that could not be written back. CELLS of such a queue counts the cells it holds (log 133). -/
def State.getDesc (s : State) (q : Nat) : State × Desc :=
  match s.qm.cache.find? (fun e => e.queue == q) with
  | some e => (s.setDesc q e.desc, e.desc)
  | none =>
    let lost := { Desc.reset with broken := true, cells := smGet 0 s.qm.cells q }
    if s.qm.unwritten.contains q then
      (({ s with qm := { s.qm with unwritten := s.qm.unwritten.erase q } } : State).setDesc q lost, lost)
    else
    let p := s.qmWords 4 (s.descAddr q)
    match p.2 with
    | [a, b, c, d] =>
      let e := Desc.ofWords a b c d
      (p.1.setDesc q e, e)
    | _ =>
      ((p.1.setFlag Reg.QM_STATUS 3 true).setDesc q lost, lost)

/-- An operation of its engine finds the descriptor of `q` cached, or fetches it (R274). -/
def State.touchDesc (s : State) (q : Nat) : State := (s.getDesc q).1

/-- The descriptor of `q` as it stands, with no effect on the cache: for what looks at it after its operation has touched
it, or before any operation does. -/
def State.peekDesc (s : State) (q : Nat) : Desc := (s.getDesc q).2

/-- `f` applied to the descriptor of `q`. -/
def State.updDesc (s : State) (q : Nat) (f : Desc → Desc) : State :=
  let p := s.getDesc q
  p.1.setDesc q (f p.2)

/-- Queue `q` marked BROKEN (R299). -/
def State.breakQueue (s : State) (q : Nat) : State := s.updDesc q (fun d => { d with broken := true })

/-! ### Pools -/

/-- Pool `p`. -/
def State.pool (s : State) (p : Nat) : Pool := smGet Pool.reset s.qm.pools p

/-- Pool `p` replaced. -/
def State.setPool (s : State) (p : Nat) (x : Pool) : State :=
  { s with qm := { s.qm with pools := smSet Pool.reset s.qm.pools p x } }

/-- First never-used cell at or after index `k` of `n` that lies on no retired page, within `fuel` cells. -/
def State.nextFresh (s : State) (base n : Nat) : Nat → Nat → Option Nat
  | 0, _ => none
  | fuel + 1, k =>
    if k ≥ n then none
    else if s.retired (base + 256 * k) then s.nextFresh base n fuel (k + 1)
    else some k

/-- The memory behind pool `p` answers accesses: it is neither off, nor in retention, nor waking (R265, R397). -/
def State.poolAnswers (s : State) (p : Nat) : Bool :=
  decide (16 ≤ p) || (!s.memoryOff p && !s.memoryWaits p)

/-- A cell of pool `p`: a never-used one in ascending order, else the last freed; none on a retired page, and none in
memory that answers no access. Never-used cells that are skipped stay never used (R268). -/
def State.poolTake (s : State) (p : Nat) : Option (State × Nat) :=
  let x := s.pool p
  let pl := s.poolPlace p
  if !s.poolAnswers p then none
  else match x.skipped.find? (fun a => !s.retired a) with
  | some a => some (s.setPool p { x with skipped := x.skipped.erase a, used := x.used + 1 }, a)
  | none =>
    match s.nextFresh pl.1 pl.2 20000 x.fresh with
    | some k => some (s.setPool p { x with
        fresh := k + 1
        skipped := x.skipped ++ (List.range (k - x.fresh)).map (fun j => pl.1 + 256 * (x.fresh + j))
        used := x.used + 1 }, pl.1 + 256 * k)
    | none =>
      match x.freed.find? (fun a => !s.retired a) with
      | some a => some (s.setPool p { x with freed := x.freed.erase a, used := x.used + 1 }, a)
      | none => none

/-- Cell `a` returned to pool `p` (R268); it holds no queue's contents any more. -/
def State.poolFree (s : State) (p a : Nat) : State :=
  let x := s.pool p
  (s.setPool p { x with freed := a :: x.freed, used := x.used - 1 }).unspoil a 256

/-- Free cells of pool `p`, those on retired pages left out (FREE, R268). -/
def State.poolFreeCount (s : State) (p : Nat) : Nat :=
  let x := s.pool p
  let pl := s.poolPlace p
  let pages := ((List.range 16).flatMap (fun g => (List.range 64).filterMap (fun n =>
    if s.flag (Reg.GRV_RETIRE g n) 0 then some (4096 * s.fld (Reg.GRV_RETIRE g n) 47 12) else none))).eraseDups
  let freshRetired := (pages.map (fun pg => ((List.range 16).filter (fun j =>
    let a := pg + 256 * j
    decide (pl.1 + 256 * x.fresh ≤ a ∧ a < pl.1 + 256 * pl.2))).length)).foldl (· + ·) 0
  (pl.2 - x.fresh - freshRetired) + ((x.skipped ++ x.freed).filter (fun a => !s.retired a)).length

/-- Why a cell cannot be taken (R287). -/
inductive NoCell where
  | limit
  | pool
deriving DecidableEq, Repr

/-- A cell taken for queue `q` under its limit, charged to CELLS (R287). -/
def State.takeCell (s : State) (q : Nat) : Except NoCell (State × Nat) :=
  let p := s.getDesc q
  let d := p.2
  if d.limit ≠ 0 ∧ d.cells + 1 > 2 ^ d.limit then .error .limit
  else match p.1.poolTake (s.queueInfo q).pool with
    | some (s', a) => .ok (s'.updDesc q (fun d => { d with cells := d.cells + 1 }), a)
    | none => .error .pool

/-- Cells freed and no longer charged to queue `q`. -/
def State.freeCells (s : State) (q : Nat) (cells : List Nat) : State :=
  let p := (s.queueInfo q).pool
  let s := cells.foldl (fun s a => s.poolFree p a) s
  if cells.isEmpty then s else s.updDesc q (fun d => { d with cells := d.cells - cells.length })

/-! ### Packets -/

/-- Cell index (from 0) and word of the cell that hold data word `n` (from 1) of a packet (R269). -/
def wordPlace (n : Nat) : Nat × Nat :=
  if n ≤ 30 then (0, n + 1) else (1 + (n - 31) / 31, 1 + (n - 31) % 31)

/-- Cells of a packet of `n` data words (R269). -/
def cellsFor (n : Nat) : Nat := if n ≤ 30 then 1 else 1 + (n - 30 + 30) / 31

/-- A packet header (R271). -/
def headerWord (len : Nat) (aborted ingress : Bool) (src code seq : Nat) : W64 :=
  w64 (len % 4096 + b2n aborted * 2 ^ 12 + b2n ingress * 2 ^ 13 + (src % 256) * 2 ^ 16 + (code % 16) * 2 ^ 24
    + (seq % 2 ^ 32) * 2 ^ 32)

/-- Word `n` of a packet written into its cell; a new cell is chained from the one before (R269). -/
def State.writePktWord (s : State) (cells : List Nat) (n : Nat) (v : W64) : State :=
  let p := wordPlace n
  (s.qmWrite (cells.getD p.1 0 + 8 * p.2) v).1

/-- The LINK word of a cell written (R269). -/
def State.writeLink (s : State) (cell next : Nat) : State × Bool := s.qmWrite cell (w64 (next % 2 ^ 48))

/-- A queue closes a packet with an error now: DISABLED or BROKEN; 0 when it links (R285, R495). -/
def State.queueCode (s : State) (q : Nat) : Nat :=
  let d := s.peekDesc q
  let n := s.queueInfo q
  if d.broken then 5
  else if !d.enabled || !s.engineOn q || (!n.dram && s.flag Reg.SAF_STATUS (32 + n.grove)) then 2
  else 0

/-- Steps 4 to 6 of a REGROW refuse cells for queues stored in the Grove (R292). -/
def State.regrowHolds (s : State) (q : Nat) : Bool :=
  let n := s.queueInfo q
  !n.dram && s.fld Reg.SM_REGROW_STATUS 11 8 == n.grove && s.fld Reg.SM_REGROW_STATUS 2 0 == 3

/-- A cell for queue `q`, unless a REGROW holds its Grove. -/
def State.cellFor (s : State) (q : Nat) : Except NoCell (State × Nat) :=
  if s.regrowHolds q then .error .pool else s.takeCell q

/-- A word appended to an open packet: with the packet's cells; without a cell for it (R287); or the queue found BROKEN
and the packet's cells free, a LINK word having been refused (R299). -/
inductive Appended where
  | ok (s : State) (cells : List Nat)
  | noCell (e : NoCell)
  | broken (s : State)

/-- Data word `n` written into an open packet of queue `q`, a cell being taken when it is the first word that needs it
(R287). -/
def State.appendWord (s : State) (q : Nat) (cells : List Nat) (n : Nat) (v : W64) : Appended :=
  if (wordPlace n).1 < cells.length then .ok (s.writePktWord cells n v) cells
  else match s.cellFor q with
    | .error e => .noCell e
    | .ok (s, a) =>
      let own := s.writeLink a 0
      let l := match cells.getLast? with
        | some p => own.1.writeLink p a
        | none => (own.1, true)
      if own.2 && l.2 then .ok (l.1.writePktWord (cells ++ [a]) n v) (cells ++ [a])
      else .broken ((l.1.breakQueue q).freeCells q (cells ++ [a]))

/-- A written packet linked at the tail of queue `q`: header with SEQ, PACKETS, and one notice (R270, R288). Answers
the SEQ given; none where its header or LINK word cannot be written: the queue is BROKEN, and the packet is discarded
(R285, R299). -/
def State.linkPacket (s : State) (q : Nat) (cells : List Nat) (len : Nat) (aborted ingress : Bool) (src code : Nat) :
    State × Option Nat :=
  let p := s.getDesc q
  let d := p.2
  let first := cells.getD 0 0
  let last := cells.getLastD 0
  let h := p.1.qmWrite (first + 8) (headerWord len aborted ingress src code d.seq)
  let l := if d.tail = 0 ∨ h.2 = false then h else h.1.writeLink d.tail first
  if !l.2 then ((l.1.breakQueue q).freeCells q cells, none)
  else
    let s := l.1.setDesc q { d with
      head := if d.tail = 0 then first else d.head
      tail := last
      packets := d.packets + 1
      seq := (d.seq + 1) % 2 ^ 32 }
    (s.tallyInc d.group 1, some d.seq)

/-- A LINK word is one the engine accepts for queue `q`: [63:48] zero, and 0 or a cell of its pool (R299). -/
def State.linkOk (s : State) (q : Nat) (v : W64) : Bool :=
  let pl := s.poolPlace (s.queueInfo q).pool
  let a := v.toNat
  a == 0 || (decide (pl.1 ≤ a ∧ a < pl.1 + 256 * pl.2) && (a - pl.1) % 256 == 0)

/-- The LINK word of cell `cell` of queue `q` as the engine reads it; none when it cannot be read or fails the engine's
checks (R299). `more`: the packet needs a further cell. -/
def State.readLinkWord (s : State) (q cell : Nat) (more : Bool) : State × Option Nat :=
  match s.qmRead cell with
  | (s, .ok v) => if s.linkOk q v && !(more && v.toNat == 0) then (s, some v.toNat) else (s.qmBadWord cell, none)
  | (s, .err _) => (s, none)

/-- The cells of a packet of `n` further cells from `cell`, as far as its LINK words lead, and the LINK of its last one;
none when a LINK fails (R299). -/
def State.walkChain (s : State) (q : Nat) : Nat → Nat → State × List Nat × Option Nat
  | 0, cell =>
    let r := s.readLinkWord q cell false
    (r.1, [cell], r.2)
  | n + 1, cell =>
    match s.readLinkWord q cell true with
    | (s, some next) => let r := s.walkChain q n next; (r.1, cell :: r.2.1, r.2.2)
    | (s, none) => (s, [cell], none)

/-- A header the engine accepts: LENGTH 1 to 2,048 and reserved bits zero (R299). -/
def headerOk (h : W64) : Bool :=
  1 ≤ field h 11 0 && field h 11 0 ≤ 2048 && field h 15 14 == 0 && field h 31 28 == 0

/-- A packet is linked in queue `q` that its readers may open: the queue is enabled, not BROKEN, its engine on, and its
Grove not fenced (R280, R495). -/
def State.linkedIn (s : State) (q : Nat) : Bool := s.queueCode q == 0 && decide (0 < (s.peekDesc q).packets)

/-- DEQ finds a packet to open, which it does not in a queue bound to egress (R280). -/
def State.deqReady (s : State) (q : Nat) : Bool := s.linkedIn q && !(s.peekDesc q).egress

/-- The head packet of queue `q` as its engine reads it: the header, the cells that its LINK words lead to, and the LINK of
its last cell; the queue is BROKEN when one of these words fails (R299). -/
def State.readHead (s : State) (q : Nat) : State × Option (W64 × List Nat × Option Nat) :=
  let p := s.getDesc q
  let d := p.2
  match p.1.qmRead (d.head + 8) with
  | (s, .ok h) =>
    if headerOk h then
      match s.walkChain q (cellsFor (field h 11 0) - 1) d.head with
      | (s, cells, some next) => (s, some (h, cells, some next))
      | (s, cells, none) => (s.breakQueue q, some (h, cells, none))
    else ((s.qmBadWord (d.head + 8)).breakQueue q, none)
  | (s, .err _) => (s.breakQueue q, none)

/-- A packet removed from the head of queue `q`, `next` being the one after it; 0 where that is not known (R279). -/
def State.unlinkHead (s : State) (q next : Nat) : State :=
  s.updDesc q (fun d => { d with
    head := if d.packets ≤ 1 then 0 else next
    tail := if d.packets ≤ 1 then 0 else d.tail
    packets := d.packets - 1 })

/-- The head packet removed whole from queue `q`: its header and cells (R279). None, and the queue BROKEN, when its header
or chain cannot be read (R299). -/
def State.openHead (s : State) (q : Nat) : State × Option (W64 × List Nat) :=
  match s.readHead q with
  | (s, some (h, cells, some next)) => (s.unlinkHead q next, some (h, cells))
  | (s, _) => (s, none)

/-- The head packet removed from queue `q` by a DEQ: its header and the cells that can be reached (R279). The rest of a
packet whose chain breaks off is out of reach, and so is what the queue still holds, which is BROKEN (R299; DEDUCED,
log 141). -/
def State.openReach (s : State) (q : Nat) : State × Option (W64 × List Nat) :=
  match s.readHead q with
  | (s, some (h, cells, next)) => (s.unlinkHead q (next.getD 0), some (h, cells))
  | (s, none) => (s, none)

/-- A word of an open read packet read from its cell: data, or the error its DEQ reports (R299). -/
def State.pktWord (s : State) (cells : List Nat) (n : Nat) : State × BufWord :=
  let p := wordPlace n
  let a := cells.getD p.1 0 + 8 * p.2
  match s.qmRead a with
  | (s, .ok v) => (s, .data v)
  | (s, .err d) => (s, .bad d a)

/-- Every linked packet of queue `q` discarded and its cells freed; answers how many (R293). A chain that cannot be
followed leaves the queue BROKEN. -/
def State.flushQueue (s : State) (q : Nat) : Nat → State × Nat
  | 0 => (s, 0)
  | n + 1 =>
    if (s.peekDesc q).packets = 0 ∨ (s.peekDesc q).broken = true then (s, 0)
    else match s.openHead q with
      | (s, some (_, cells)) =>
        let r := (s.freeCells q cells).flushQueue q n
        (r.1, r.2 + 1)
      | (s, none) => (s, 0)

/-- The flush of R293 and its status word: CODE 0x2 for a disabled or BROKEN queue or an engine that is off; the queues
of a fenced Grove act as disabled (R495). -/
def State.flush (s : State) (q : Nat) : State × W64 :=
  if s.queueCode q ≠ 0 then ((s.getDesc q).1, 2#64)
  else
    let r := (s.getDesc q).1.flushQueue q (s.peekDesc q).packets
    (r.1, w64 (r.2 * 2 ^ 32))

/-- The tag of data word `n` of a packet with header `h` (R283). -/
def tagOf (h : W64) (n : Nat) : BitVec 4 :=
  let len := field h 11 0
  if bit h 12 then 9#4
  else if len = 1 then 3#4
  else if n = 1 then 1#4
  else if n = len then 2#4
  else 0#4

end Sys2Proof.Machine
end

