-- ==== Sys2Proof/Machine/Control.lean ====
section
/-! DEFINITION. What ends a Glade's run or turns it: discarding open packets and records (R292, R335), aborting a
transaction (R289, R290, R323), stopping (R493), entries to the handler (R199) and exceptions (R120, R124, R201). -/

namespace Sys2Proof.Machine

/-! ### Store buffer -/

/-- The words of an SRAM or DRAM store of a lockstep Glade's own memories enter its undo log (R498). -/
def State.noteUndo (s : State) (c : Nat) (e : StoreEntry) : State :=
  let own := match s.regionOf e.addr with
    | .imem i => i == c
    | .dmem i => i == c
    | _ => false
  if own && (s.pairOf c).isSome then
    s.updAsync c (fun x => { x with undo := (e.addr / 8 * 8, s.codeAt (e.addr / 8 * 8)) :: x.undo })
  else s

/-- Address `a` lies in core `c`'s own code memory (R173). -/
def State.ownCode (s : State) (c a : Nat) : Bool :=
  match s.codeHome a with
  | some p => p.1 == c
  | none => false

/-- A buffered store to memory written at its target (R166, R170). -/
def State.storeToMemory (s : State) (c : Nat) (e : StoreEntry) : State :=
  let how := if !s.ownCode c e.addr then CodeWriter.agent
    else if e.handler == (s.glade c).inHandler then .own e.pos else .past
  (s.noteUndo c e).writeMem (coreRequester c) how
    (if e.handler ∨ c ≥ 256 then none else some (s.leaderOf c)) e.addr e.data

/-- A store of the Glade to its own code memory that belongs to another stream is still in the store buffer: nothing is
fetched (R173). -/
def State.codeWaits (s : State) (c : Nat) : Bool :=
  (s.glade c).stores.any (fun e => e.handler != (s.glade c).inHandler && s.ownCode c e.addr)

/-- Core `c` changes its code stream (R173): its stores to its own code memory are written, but for those behind a load
that is unanswered (R120), and the new stream sees them; the two bundles after an IFENCE are the next two that issue
(R174, log 109). -/
def State.syncCode (s : State) (c : Nat) : State :=
  let x := s.glade c
  let now := fun (e : StoreEntry) => s.ownCode c e.addr && x.loads.all (fun l => decide (e.seq < l.seq))
  let s' := s.updAsync c (fun x => { x with stores := x.stores.filter (fun e => !now e) })
  let s' := (x.stores.filter now).foldl (fun s e => s.storeToMemory c e) s'
  let old := x.bank.pos
  let new := if x.inHandler then x.thread.pos else x.handler.pos
  s'.updGlade c (fun x => { x with
    oldCode := (x.oldCode.filter (fun o => o.agent)).map (fun o => { o with fromPos := o.fromPos.map (new + · - old) }) })

/-! ### Discards -/

/-- Read cursor `k` of Glade `i` closed, its remaining cells freed (R279, R292). -/
def State.closeRead (s : State) (i k : Nat) : State :=
  match smGet none (s.glade i).reads k with
  | some r => (s.freeCells r.queue r.cells).updGlade i (fun x => { x with reads := smSet none x.reads k none })
  | none => s

/-- Write cursor `k` of Glade `i` closed, its packet never linked, its cells freed (R285, R292). -/
def State.closeWrite (s : State) (i k : Nat) : State :=
  match smGet none (s.glade i).writes k with
  | some w => (s.freeCells w.queue w.cells).updGlade i (fun x => { x with writes := smSet none x.writes k none })
  | none => s

/-- The read cursor that an operation kept by the QPU names. -/
def QpuPend.cursor (d : QpuPend) : Option Nat :=
  match d.kind with
  | .op .deq spec => some (field spec 21 20)
  | .op .skip spec => some (field spec 21 20)
  | _ => none

/-- Open packets of Glade `i`'s cursors, but for the read cursors that `keep` names, and its open record discarded (R292,
R335). -/
def State.discardBut (s : State) (i : Nat) (keep : Nat → Bool) : State :=
  let s := (List.range 4).foldl (fun s k => (if keep k then s else s.closeRead i k).closeWrite i k) s
  s.updGlade i (fun x => { x with record := none })

/-- Every open packet of Glade `i`'s cursors and its open record discarded (R292, R335). -/
def State.discardOpen (s : State) (i : Nat) : State := s.discardBut i (fun _ => false)

/-! ### Transaction abort -/

/-- The status word of COMMIT and PASS (R306). -/
def statusWord (committed durable passed : Bool) (code count ticket : Nat) : W64 :=
  w64 (b2n committed + 2 * b2n durable + 4 * b2n passed + (code % 16) * 2 ^ 4 + (count % 65536) * 2 ^ 16
    + (ticket % 2 ^ 32) * 2 ^ 32)

/-- The lowest-numbered doom code so far (R322). -/
def Txn.code (t : Txn) : Nat := ((List.range 16).find? (fun n => t.dooms.getLsbD n)).getD 0

/-- One stub linked in place of an aborted packet of a queue with AUDIT; without a free cell it is counted in
STUB_LOST (R290). -/
def State.linkStub (s : State) (i code : Nat) (w : WritePkt) : State :=
  let s := s.touchDesc w.queue
  if !(s.peekDesc w.queue).audit then s
  else match s.poolTake (s.queueInfo w.queue).pool with
    | none => s.satAdd Reg.QM_DROPS1 63 48 1
    | some (s, a) =>
      let s := s.updDesc w.queue (fun d => { d with cells := d.cells + 1 })
      let s := (s.writeLink a 0).1
      let s := s.writePktWord [a] 1 (headerWord w.words.length false false i 0 0)
      (s.linkPacket w.queue [a] 1 true false i code).1

/-- Abort counters of `GRV_TXU_ABORTn`. -/
def State.countAbort (s : State) (g code : Nat) : State :=
  s.satAdd (Reg.GRV_TXU_ABORT g (code / 4)) (16 * (code % 4) + 15) (16 * (code % 4)) 1

/-- The packets whose cells an abort of Glade `i`'s transaction frees: those it has closed and those still open (R289).
-/
def State.heldPackets (s : State) (i : Nat) : List WritePkt :=
  match s.txn i with
  | none => []
  | some t => t.packets ++ (List.range 4).filterMap (fun k => (smGet none (s.glade i).writes k).filter (fun w => w.txn))

/-- The cells of the packets `ws` free. -/
def State.freePackets (s : State) (ws : List WritePkt) : State := ws.foldl (fun s w => s.freeCells w.queue w.cells) s

/-- Glade `i`'s transaction closed in the Glade by an abort: write set and records discarded, packets and a record it
still holds open bound to close ABANDONED (R289, R308). -/
def State.closeTxn (s : State) (i : Nat) : State :=
  let s := s.updGlade i (fun x => { x with
    writes := (List.range 4).foldl (fun m k => match smGet none m k with
      | some w => if w.txn then smSet none m k (some { w with cells := [], status := 6, txn := false }) else m
      | none => m) x.writes
    record := x.record.map (fun r => if r.txn then { r with status := 4, txn := false } else r) })
  let x := s.txu (i / 16)
  let s := s.setTxu (i / 16) { x with received := x.received.erase (i % 16), decided := x.decided.erase (i % 16) }
  s.setTxn i none

/-- Glade `i`'s transaction aborted with `code`, but for its stubs: its packets freed, the abort counted (R289, R308). -/
def State.abortBare (s : State) (i code : Nat) : State :=
  if (s.txn i).isNone then s
  else ((s.freePackets (s.heldPackets i)).closeTxn i).countAbort (i / 16) code

/-- The packets that Glade `i`'s transaction has closed. -/
def State.txnPackets (s : State) (i : Nat) : List WritePkt :=
  match s.txn i with
  | some t => t.packets
  | none => []

/-- Glade `i`'s transaction aborted with `code`, and its stubs linked (R289, R290, R308). -/
def State.abortTxn (s : State) (i code : Nat) : State :=
  (s.txnPackets i).foldl (fun s w => s.linkStub i code w) (s.abortBare i code)

/-- The Glades that receive what Glade `i`'s operation delivers: itself, or both Glades of its pair (R291, R325). -/
def State.receivers (s : State) (i : Nat) : List Nat :=
  match s.pairOf i with
  | some (l, t) => [l, t]
  | none => [i]

/-- Core `c` updated by the end of an operation that it began earlier: the copies kept for precise errors change with it,
and so does its pair's checkpoint, from which a re-run would otherwise await that operation again (R498, R499). -/
def State.updLate (s : State) (c : Nat) (f : Glade → Glade) : State :=
  let s := s.updAsync c f
  match s.pairOf c with
  | none => s
  | some (l, _) =>
    let p := smGet Pair.reset s.pairs l
    let q := if c = l then { p with lead := f p.lead } else { p with trail := f p.trail }
    { s with pairs := smSet Pair.reset s.pairs l q }

/-- COMMIT or PASS of Glade `i` retires with its status word (R306, R320). -/
def State.retireTxu (s : State) (i : Nat) (w : W64) : State :=
  (s.receivers i).foldl (fun s i => s.updLate i (fun x => match x.txuOp with
    | some op => { x.retireTo op.rd (TWord.plain w) with txuOp := none }
    | none => x)) s

/-- A committing transaction retired as an abort with `code` (R317, R319). -/
def State.retireAbort (s : State) (i code ticket : Nat) : State :=
  (s.abortTxn i code).retireTxu i (statusWord false false false code 0 ticket)

/-! ### Stops -/

/-- The transaction of a Glade that stops: an open or doomed one is aborted with INTERRUPTED; a COMMIT triggered before
the stop is still decided, and a decided one goes on; a rotation member leaves at its next turn (R321, R323, log 16). -/
def State.interruptTxn (s : State) (i : Nat) : State :=
  let s := match s.txn i with
    | some t => match t.state with
      | .decided => s
      | .committing => s.setTxn i (some { t with halted := true })
      | _ => s.abortTxn i 14
    | none => s
  let x := s.txu (i / 16)
  let s := s.setTxu (i / 16) { x with kept := x.kept.filter (fun e => e.1 != i % 16) }
  let x := s.txu (i / 16)
  if x.members.getLsbD (i % 16) then s.setTxu (i / 16) { x with leaving := x.leaving ||| (1#16 <<< (i % 16)) } else s

/-- The operation names a read cursor: it ends with the cursors of a Glade that stops (R292). -/
def QpuPend.reads (d : QpuPend) : Bool :=
  match d.kind with
  | .op .deq _ => true
  | .op .skip _ => true
  | _ => false

/-- Core `c` alone comes to rest in state `dest`: open packets and record discarded, transaction aborted, loads in
flight dropped (R493). A DEQ or SKIP into a register, of an earlier bundle, still takes effect (R120); the cursor it
names closes after it. -/
def State.haltOne (s : State) (c : Nat) (dest : RunState) : State :=
  let kept := ((s.glade c).qpuPend.filter (fun d => !d.reads || d.dram)).map (fun d =>
    if d.reads then { d with final := true } else d)
  let s := if c < 256 then (s.discardBut c (fun k => kept.any (fun d => d.cursor == some k))).interruptTxn c else s
  let s := s.updGlade c (fun x => { x with
    run := dest
    barWait := .none
    loads := []
    qpuPend := kept
    thread := { x.thread with due := x.thread.due.filter (fun d => !d.val.waiting) }
    handler := { x.handler with due := x.handler.due.filter (fun d => !d.val.waiting) } })
  { s with snaps := s.snaps.filter (fun p => p.1 != c) }

/-- A Glade, or both Glades of its pair, stopped (R493). -/
def State.halt (s : State) (c : Nat) (dest : RunState) : State :=
  match s.pairOf c with
  | some (l, t) => (s.haltOne l dest).haltOne t dest
  | none => s.haltOne c dest

/-! ### Exceptions and entries -/

/-- The operation can still raise a precise BUS_ERROR: a DEQ of a Grove-stored queue (R299). -/
def QpuPend.precise (d : QpuPend) : Bool :=
  match d.kind with
  | .op .deq _ => !d.dram
  | _ => false

/-- An operation before order `seq` can still raise a precise exception: what comes after it has no effect yet (R120). -/
def Glade.heldBack (x : Glade) (seq : Nat) : Bool := x.qpuPend.any (fun d => d.precise && decide (d.seq < seq))

/-- Every store that core `c`, or the pair it belongs to, triggered before order `seq` has drained (R176), and no DEQ
before it can still fail (R120). -/
def State.drainedBefore (s : State) (c seq : Nat) : Bool :=
  (s.receivers c).all (fun j => (s.glade j).stores.all (fun e => decide (seq ≤ e.seq))) && !(s.glade c).heldBack seq

/-- Why a bundle raises a precise exception (R119), or a stop's cause. -/
structure Cause where
  cls : Nat
  detail : Nat
  bus : Nat
  reg : Nat
  socket : Nat
  addr : Nat
deriving DecidableEq, Repr

/-- A cause with no bus, register, socket or address. -/
def Cause.of (cls detail : Nat) : Cause := ⟨cls, detail, 0, 0, 0, 0⟩

/-- `ECAUSE` for a cause. -/
def Cause.word (e : Cause) : W64 :=
  w64 (e.cls % 256 + (e.detail % 256) * 2 ^ 8 + (e.bus % 4) * 2 ^ 16 + (e.reg % 64) * 2 ^ 18
    + (e.socket % 1024) * 2 ^ 24)

/-- The redirect still pending, as `EBR` holds it: TARGET and PENDING (R199). -/
def Glade.branchState (x : Glade) : W64 :=
  match x.redirect with
  | some (t, n) => w64 (t.toNat % 2 ^ 15 + (n % 4) * 2 ^ 15)
  | none => 0#64

/-- Entry of core `c` into its handler at `at_` before the position at its pc (R199). What that position waits for is
kept with it (R153, R177), and so is its place in a branch's delay slots (R161, R184); at the boundary that ERET creates,
`EBR` keeps the value it holds (R204). Guesses not compared yet (R187) are dropped (DESIGN CHOICE, log 134). -/
def State.enter (s : State) (c : Nat) (ecause eaddr : W64) (at_ : Nat) : State :=
  let s := s.syncCode c
  s.updGlade c (fun x => { x with
    epc := w64 (x.pc.toNat % 2 ^ pcBits c)
    ebr := if x.resumed && x.redirect.isNone then x.ebr else x.branchState
    ecause := ecause
    eaddr := eaddr
    savedRep := x.rep
    savedBundle := x.repBundle
    savedBar := x.barWait
    savedWoken := x.woken
    savedWaited := x.hasWaited
    savedDelay := x.delay
    rep := Repeat.none
    repBundle := none
    redirect := none
    annul := 0
    delay := 0
    barWait := .none
    run := .running
    inHandler := true
    masked := true
    hasWaited := false
    cellWait := false
    hasFetched := false
    resumed := false
    guesses := []
    pc := w64 at_ })

/-- CRC-64 signature steps over 16 bytes: two words (R497). -/
def foldSig (sig a b : W64) : W64 :=
  w64 (CrcFamily.c64.steps sig.toNat (bytesLE 8 a.toNat ++ bytesLE 8 b.toNat))

/-- 16 bytes folded into the signature of a Glade of a pair. -/
def State.foldFor (s : State) (c : Nat) (a b : W64) : State :=
  if (s.pairOf c).isSome then s.updGlade c (fun x => { x with signature := foldSig x.signature a b }) else s

/-- A stop of core `c` for `cause`: stop-cause registers, a KIND 0x12 record, the Glade-stopped source (R124, R201); the
EPC of the Heartwood's stop cause has the width of its pc (log 8).
A Heartwood that stops is a Heartwood fault (R508), queued as finding 100. -/
def State.stopFor (s : State) (c : Nat) (e : Cause) (pc : W64) : State :=
  let s := s.updGlade c (fun x => { x with
    stopEcause := e.word
    stopEpc := w64 (pc.toNat % 2 ^ pcBits c)
    stopEaddr := w64 (e.addr % 2 ^ 48) })
  let s := s.halt c .stopped
  let info := { ErrInfo.of 0x12 e.addr with
    glade := c % 16
    syndrome := e.cls
    bitPos := e.detail
    count := pc.toNat % 2 ^ 16 }
  if c < 256 then
    ((s.recordError (.grove (c / 16)) info).tallyInc (dev (32 + c / 16)) 1).find
      ⟨0, 0x12, some (c / 16), none, none, c % 16, e.addr⟩
  else
    let s := s.recordError .heartwood { info with glade := 0 }
    s.find ⟨100, 0x1D, none, none, none, 0, e.addr⟩

/-- A precise exception of the bundle at core `c`'s pc: entry at EVEC, or a stop when EVEC is invalid or the handler
bank is selected (R120, R124, R201). -/
def State.raise (s : State) (c : Nat) (e : Cause) : State :=
  let x := s.glade c
  if bit x.evec 15 && !x.inHandler then
    let s := s.enter c e.word (w64 (e.addr % 2 ^ 48)) (field x.evec 14 0)
    s.foldFor c (w64 (e.cls + 256 * e.detail)) (s.glade c).epc
  else s.stopFor c e x.pc

/-- An event entry at EVEC + 0x60; `ECAUSE` and `EADDR` keep their values (R124, R199). It ends a WAIT of kind ENTER
(R206). -/
def State.enterEvent (s : State) (c : Nat) : State :=
  let s := s.updGlade c (fun x => { x with barWait := if x.barWait = .waitEnter then .none else x.barWait })
  let x := s.glade c
  s.enter c x.ecause x.eaddr (field x.evec 14 0 + 0x60)

/-- The report of a failed long operation: its register cleared, entry with class IMPRECISE (R123). The spec does not
say when the register is zeroed and its scoreboard bit cleared: the model does both at the report (DESIGN CHOICE, log
117). -/
def State.enterImprecise (s : State) (c : Nat) (f : Failure) : State :=
  let s := s.updGlade c (fun x => { x.retireTo f.rd (TWord.plain 0#64) with
    failures := x.failures.filter (fun g => g.seq != f.seq) })
  s.raise c { Cause.of 4 f.detail with reg := f.rd, addr := f.addr }

end Sys2Proof.Machine
end

