-- ==== Sys2Proof/Machine/Operands.lean ====
section
/-! DEFINITION. Sockets: their kinds, the buses they are defined on, reading a source and writing a destination
(R103 to R107 and the socket tables of every unit). -/

namespace Sys2Proof.Machine

/-- Socket kinds (R103). -/
inductive SockKind where
  | register
  | result
  | operand
  | trigger
deriving DecidableEq, Repr

/-- SYS triggers (R150). -/
inductive SysOp where
  | bar | ifence | rep | wait | eret | pflush | pbar | feat | settag | gettag | rdevec | wrevec | rdcnt | wdog
deriving DecidableEq, Repr

/-- JAU triggers (R331). -/
inductive JauOp where
  | put | putl | putt | close | abandon | seal
deriving DecidableEq, Repr

/-- TXU port triggers (R304). -/
inductive TxuOp where
  | begin_ | commit | abort | pass | probe
deriving DecidableEq, Repr

/-- What a trigger socket starts. -/
inductive Trig where
  | alu (u : Nat) (op : AluOp)
  | mul (op : MulOp)
  | div (op : DivOp)
  | shf (op : ShfOp)
  | crc (f : CrcFamily) (w : Nat)
  | cku (op : CkuOp)
  | block (f : Nat)
  | lsu (op : LsuOp) (f : LsuForm)
  | bru (op : BruOp)
  | immSet
  | timeNow
  | sys (op : SysOp)
  | qpu (op : QpuOp)
  | jau (op : JauOp)
  | txu (op : TxuOp)
  | stkEnter
deriving DecidableEq, Repr

def aluOps : List AluOp := [.add, .sub, .addc, .subc, .neg, .pass, .and, .or, .xor, .andn, .eq, .ne,
  .lts, .ltu, .les, .leu, .mins, .minu, .maxs, .maxu, .sel, .abs]

def shfOps : List ShfOp := [.sll, .srl, .sra, .rol, .ror, .bfextu, .bfexts, .bfins, .brev, .bswap, .clz, .ctz, .popc]

def lsuOps : List LsuOp := [.ld, .lw, .lws, .lh, .lhs, .lb, .lbs, .st, .sw, .sh, .sb]

def bruOps : List BruOp := [.eq, .ne, .lts, .ges, .ltu, .geu, .jmp, .call, .ret]

def sysOps : List SysOp := [.bar, .ifence, .rep, .wait, .eret, .pflush, .pbar, .feat, .settag, .gettag, .rdevec,
  .wrevec, .rdcnt, .wdog]

def qpuOps : List QpuOp := [.deq, .skip, .put, .putl, .putt, .abandon, .depth, .flush]

def jauOps : List JauOp := [.put, .putl, .putt, .close, .abandon, .seal]

def txuOps : List TxuOp := [.begin_, .commit, .abort, .pass, .probe]

/-- The unit a socket ID belongs to, by its range's base (R104); none for the reserved range. -/
def unitBase (id : Nat) : Option Nat :=
  if id < 0x40 then some 0
  else if id < 0x80 then some 0x40
  else if id < 0xC0 then some 0x80
  else if id < 0xE0 then some 0xC0
  else if id < 0x100 then some 0xE0
  else if id < 0x140 then some 0x100
  else if id < 0x180 then some 0x140
  else if id < 0x1C0 then some 0x180
  else if id < 0x200 then some 0x1C0
  else if id < 0x210 then some 0x200
  else if id < 0x220 then some 0x210
  else if id < 0x260 then some 0x220
  else if id < 0x2A0 then some 0x260
  else if id < 0x2E0 then some 0x2A0
  else if id < 0x300 then some 0x2E0
  else if id < 0x340 then some 0x300
  else none

/-- The trigger a socket ID names (the socket tables of each unit). -/
def trigOf (id : Nat) : Option Trig :=
  match unitBase id with
  | some 0x40 => (aluOps[id - 0x48]?).bind (fun o => if id ≥ 0x48 then some (.alu 0 o) else none)
  | some 0x80 => (aluOps[id - 0x88]?).bind (fun o => if id ≥ 0x88 then some (.alu 1 o) else none)
  | some 0xC0 => ([MulOp.mulu, .muls, .mulsu][id - 0xC8]?).bind (fun o => if id ≥ 0xC8 then some (.mul o) else none)
  | some 0xE0 => ([DivOp.divu, .divs, .remu, .rems][id - 0xE8]?).bind
      (fun o => if id ≥ 0xE8 then some (.div o) else none)
  | some 0x100 => (shfOps[id - 0x108]?).bind (fun o => if id ≥ 0x108 then some (.shf o) else none)
  | some 0x140 =>
    if 0x148 ≤ id ∧ id < 0x154 then
      some (.crc (crcOf ((id - 0x148) / 4)) ((id - 0x148) % 4))
    else if 0x154 ≤ id ∧ id < 0x159 then
      ([CkuOp.par, .parb, .brev8, .brev16, .brev32][id - 0x154]?).map .cku
    else if 0x160 ≤ id ∧ id < 0x163 then some (.block (id - 0x160))
    else none
  | some 0x180 =>
    if 0x188 ≤ id ∧ id < 0x1B4 then
      let k := id - 0x188
      let f := if k < 11 then LsuForm.disp else if k < 22 then .postInc else if k < 33 then .preDec else .indexed
      (lsuOps[k % 11]?).map (fun o => .lsu o f)
    else none
  | some 0x1C0 => (bruOps[id - 0x1C8]?).bind (fun o => if id ≥ 0x1C8 then some (.bru o) else none)
  | some 0x200 => if id = 0x208 then some .immSet else none
  | some 0x210 => if id = 0x218 then some .timeNow else none
  | some 0x220 => (sysOps[id - 0x228]?).bind (fun o => if id ≥ 0x228 then some (.sys o) else none)
  | some 0x260 => (qpuOps[id - 0x268]?).bind (fun o => if id ≥ 0x268 then some (.qpu o) else none)
  | some 0x2A0 => (jauOps[id - 0x2A8]?).bind (fun o => if id ≥ 0x2A8 then some (.jau o) else none)
  | some 0x2E0 => (txuOps[id - 0x2E8]?).bind (fun o => if id ≥ 0x2E8 then some (.txu o) else none)
  | some 0x300 => if id = 0x308 then some .stkEnter else none
  | _ => none

/-- Kind of each port that is no trigger; none: not listed (R105). -/
def portKind (id : Nat) : Option SockKind :=
  if id < 0x40 then some .register
  else match id with
    | 0x040 => some .operand
    | 0x041 => some .operand
    | 0x042 => some .result
    | 0x043 => some .result
    | 0x080 => some .operand
    | 0x081 => some .operand
    | 0x082 => some .result
    | 0x083 => some .result
    | 0x0C0 => some .operand
    | 0x0C2 => some .result
    | 0x0C3 => some .result
    | 0x0E0 => some .operand
    | 0x0E4 => some .operand
    | 0x100 => some .operand
    | 0x101 => some .operand
    | 0x102 => some .result
    | 0x140 => some .operand
    | 0x141 => some .operand
    | 0x142 => some .result
    | 0x144 => some .register
    | 0x145 => some .operand
    | 0x180 => some .operand
    | 0x181 => some .operand
    | 0x182 => some .result
    | 0x183 => some .result
    | 0x184 => some .operand
    | 0x1C0 => some .operand
    | 0x1C1 => some .operand
    | 0x1C2 => some .result
    | 0x202 => some .result
    | 0x212 => some .result
    | 0x213 => some .result
    | 0x220 => some .operand
    | 0x222 => some .result
    | 0x224 => some .register
    | 0x225 => some .register
    | 0x226 => some .register
    | 0x227 => some .register
    | 0x260 => some .operand
    | 0x262 => some .result
    | 0x263 => some .result
    | 0x264 => some .operand
    | 0x2A0 => some .operand
    | 0x2A1 => some .operand
    | 0x2A2 => some .result
    | 0x2A4 => some .operand
    | 0x2E2 => some .result
    | 0x2E4 => some .operand
    | 0x302 => some .result
    | 0x303 => some .result
    | 0x304 => some .register
    | 0x305 => some .register
    | 0x306 => some .register
    | 0x307 => some .register
    | _ => none

/-- The unit at `base` sits on bus `b` of a Glade with structure `e` (R47, R104); STK needs stack mode. -/
def unitOnBus (e : W64) (base b : Nat) : Bool :=
  let mask := fun hi lo => (field e hi lo).testBit b
  match base with
  | 0x80 => mask 11 8
  | 0xC0 => mask 15 12
  | 0xE0 => mask 19 16
  | 0x100 => mask 23 20
  | 0x140 => mask 27 24
  | 0x260 => mask 31 28
  | 0x2A0 => mask 35 32
  | 0x2E0 => mask 39 36
  | 0x210 => mask 43 40
  | 0x300 => bit e 4
  | _ => true

/-- The socket needs a full LSU (R155). -/
def fullOnly (id : Nat) : Bool := id == 0x183 || id == 0x184 || (0x193 ≤ id && id < 0x1B4)

/-- Kind of socket `id` on bus `b` for structure `e`; none: undefined (R106, R155). -/
def sockKind (e : W64) (b id : Nat) : Option SockKind :=
  match unitBase id with
  | none => none
  | some base =>
    if !unitOnBus e base b then none
    else if fullOnly id && !bit e 3 then none
    else if (trigOf id).isSome then some .trigger
    else portKind id

/-- The word a source socket delivers (R108 phase 2, R115). -/
def readSrc (x : Glade) (id : Nat) : TWord :=
  let b := x.bank
  if id < 0x40 then x.g id
  else match id with
    | 0x222 => x.sysQ
    | 0x262 => x.qpuQ
    | _ => TWord.plain (match id with
      | 0x042 => b.alu0.q
      | 0x043 => b.alu0.c
      | 0x082 => b.alu1.q
      | 0x083 => b.alu1.c
      | 0x0C2 => b.mulQ
      | 0x0C3 => b.mulH
      | 0x102 => b.shfQ
      | 0x142 => b.ckuQ
      | 0x144 => b.ckuCrc
      | 0x182 => b.lsuQ
      | 0x183 => b.lsuAQ
      | 0x1C2 => b.bruQ
      | 0x202 => b.acc
      | 0x212 => b.timeQ
      | 0x213 => b.timeStat
      | 0x224 => x.epc
      | 0x225 => x.ecause
      | 0x226 => x.eaddr
      | 0x227 => x.ebr
      | 0x263 => x.qpuH
      | 0x2A2 => x.jauQ
      | 0x2E2 => x.txuQ
      | 0x302 => b.stkQ
      | 0x303 => b.stkNR
      | 0x304 => b.stkSP
      | 0x305 => b.stkSL
      | 0x306 => b.stkSB
      | 0x307 => b.stkMB
      | _ => 0#64)

/-- A move into `SYS.EPC` of core `c`: the PC field, and the saved repeat state discarded (R151, R203); the bundle that
waited at the old address is no longer the one resumed (R153). -/
def writeEpc (c : Nat) (x : Glade) (v : W64) : Glade :=
  { x with epc := w64 (v.toNat % 2 ^ pcBits c), savedRep := Repeat.none, savedBundle := none, savedWaited := false }

/-- A destination register or operand port written (R108 phase 3); the fields marked RW of the SYS registers (R151). -/
def writeDst (c : Nat) (x : Glade) (id : Nat) (v : TWord) : Glade :=
  let d := v.data
  if id < 0x40 then x.setG id v
  else match id with
    | 0x040 => x.updBank (fun b => { b with alu0 := { b.alu0 with a := d } })
    | 0x041 => x.updBank (fun b => { b with alu0 := { b.alu0 with b := d } })
    | 0x080 => x.updBank (fun b => { b with alu1 := { b.alu1 with a := d } })
    | 0x081 => x.updBank (fun b => { b with alu1 := { b.alu1 with b := d } })
    | 0x0C0 => x.updBank (fun b => { b with mulA := d })
    | 0x0E0 => { x with divA := d }
    | 0x0E4 => { x with divRD := d }
    | 0x100 => x.updBank (fun b => { b with shfA := d })
    | 0x101 => x.updBank (fun b => { b with shfB := d })
    | 0x140 => { x with ckuA := d }
    | 0x141 => { x with ckuB := d }
    | 0x144 => x.updBank (fun b => { b with ckuCrc := d })
    | 0x145 => { x with ckuRD := d }
    | 0x180 => x.updBank (fun b => { b with lsuA := d })
    | 0x181 => x.updBank (fun b => { b with lsuB := d })
    | 0x184 => x.updBank (fun b => { b with lsuX := d })
    | 0x1C0 => x.updBank (fun b => { b with bruA := d })
    | 0x1C1 => x.updBank (fun b => { b with bruB := d })
    | 0x220 => { x with sysA := d }
    | 0x224 => writeEpc c x d
    | 0x225 => { x with ecause := w64 (d.toNat % 2 ^ 34) }
    | 0x226 => { x with eaddr := w64 (d.toNat % 2 ^ 48) }
    | 0x227 => { x with ebr := w64 (d.toNat % 2 ^ 17) }
    | 0x260 => { x with qpuA := d }
    | 0x264 => { x with qpuRD := d }
    | 0x2A0 => { x with jauA := d }
    | 0x2A1 => { x with jauB := d }
    | 0x2A4 => { x with jauRD := d }
    | 0x2E4 => { x with txuRD := d }
    | 0x304 => x.updBank (fun b => { b with stkSP := d })
    | 0x305 => x.updBank (fun b => { b with stkSL := d })
    | 0x306 => x.updBank (fun b => { b with stkSB := d })
    | 0x307 => x.updBank (fun b => { b with stkMB := d })
    | _ => x

end Sys2Proof.Machine
end

