-- ==== Sys2Proof/Machine/GladeOps.lean ====
section
/-! DEFINITION. The operations of the units inside a Glade: what each trigger of ALU, MUL, DIV, SHF, CKU, IMM, TIME,
SYS and BRU does to the Glade (R130 to R153, R181 to R191). One trigger belongs to the bundle that issues; a result of
distance 1 is in its port for the next position, one of distance 2 a position later (`Glade.addDue`). -/

namespace Sys2Proof.Machine

/-- An ALU operation: Q, and C where R131 says so. -/
def Glade.doAlu (x : Glade) (u : Nat) (op : AluOp) (t : W64) : Glade :=
  let fix := fun (q : W64) => match x.stuckBit with
    | some (i, v) => setField q i i (b2n v)
    | none => q
  let f := fun (p : Alu) =>
    let r := aluResult op p.a p.b t (p.c.toNat)
    { p with q := fix r.1, c := r.2.getD p.c }
  x.updBank (fun b => if u = 0 then { b with alu0 := f b.alu0 } else { b with alu1 := f b.alu1 })

/-- A MUL operation: both halves at distance 2 (R133). -/
def Glade.doMul (x : Glade) (op : MulOp) (t : W64) : Glade :=
  let r := mulResult op x.bank.mulA t
  x.addDue (.mul r.1 r.2)

/-- A DIV trigger starts a long operation into G[RD] and sets its scoreboard bit (R134, R135). -/
def Glade.doDiv (x : Glade) (op : DivOp) (t : W64) : Glade :=
  let rd := x.divRD.toNat % 64
  { x.setScore rd true with
    divOp := some ⟨rd, x.opSeq, x.divA, t, op.code, 0#64, false, false, []⟩
    opSeq := x.opSeq + 1 }

/-- DIV retires: its result enters G[RD], the bit is cleared (R136, R179). -/
def Glade.retireDiv (x : Glade) : Glade :=
  match x.divOp with
  | some o => { x.retireTo o.rd (TWord.plain (divResult o.op o.a o.t)) with divOp := none }
  | none => x

/-- An SHF operation (R137). -/
def Glade.doShf (x : Glade) (op : ShfOp) (t : W64) : Glade :=
  x.updBank (fun b => { b with shfQ := shfResult op b.shfA b.shfB t })

/-- A CRC word step: the accumulator at once in program order, Q at distance 2 (R143, R144). -/
def Glade.doCrc (x : Glade) (f : CrcFamily) (w : Nat) (t : W64) : Glade :=
  let v := crcStep f w x.bank.ckuCrc t
  (x.updBank (fun b => { b with ckuCrc := v })).addDue (.cku v)

/-- A parity or bit-reverse step (R140, R143). -/
def Glade.doCku (x : Glade) (op : CkuOp) (t : W64) : Glade := x.addDue (.cku (ckuResult op t))

/-- A block trigger starts a long operation over t bytes from `CKU.A` (R145); `view`: the write set of the transaction it
stands in, if any (R146, R147). -/
def Glade.doBlock (x : Glade) (f : Nat) (t : W64) (view : Option (List (Nat × W64 × Bool))) : Glade :=
  let rd := x.ckuRD.toNat % 64
  { x.setScore rd true with
    ckuOp := some ⟨rd, x.opSeq, x.ckuA, t, f, x.ckuB, false, view.isSome, view.getD []⟩
    opSeq := x.opSeq + 1 }

/-- IMM.T.SET (R148). -/
def Glade.doImm (x : Glade) (t : W64) : Glade := x.updBank (fun b => { b with acc := t })

/-- TIME.T.NOW: the delivered count and the status, at distance 2 (R149, R425). -/
def Glade.doTime (x : Glade) (count ctl : W64) : Glade :=
  x.addDue (.time count (w64 (b2n (bit ctl 1) + 2 * b2n (bit ctl 0))))

/-- A LIMM slot on the accumulator (R101). -/
def limm (op p : Nat) (acc : W64) : W64 :=
  match op with
  | 0 => if p.testBit 26 then w64 (p + (2 ^ 64 - 2 ^ 27)) else w64 p
  | 1 => w64 (acc.toNat * 2 ^ 27 % 2 ^ 64 ||| p)
  | _ => w64 (p * 2 ^ 37)

/-- The feature registers (R92). -/
def State.feat (s : State) (c n : Nat) : W64 :=
  match n with
  | 0 => s.rd (Reg.NEG_ACCEPT 0)
  | 1 => s.rd (Reg.NEG_ACCEPT 1)
  | 2 =>
    let g := c / 16 % 16
    let paired := (s.pairOf c).isSome
    w64 (c % 16 + g * 2 ^ 4 + s.buses c * 2 ^ 8 + b2n (s.fullLsu c) * 2 ^ 11 + b2n (s.stackMode c) * 2 ^ 12
      + b2n (s.squash c) * 2 ^ 13 + (s.groveGetPart g) * 2 ^ 14 + b2n paired * 2 ^ 16
      + b2n (s.isTrailing c) * 2 ^ 17 + b2n ((s.ticketMembers g).testBit (c % 16)) * 2 ^ 18)
  | _ =>
    let r := s.rd Reg.HW_ROLE
    w64 (field r 21 8 + field r 1 0 * 2 ^ 14 + field r 24 22 * 2 ^ 16 + s.fld Reg.SM_IMAGE_SEQ 31 0 * 2 ^ 32)

/-- The highest address an event entry may have, and the multiple it must be of: a WREVEC value is in range (EVEC). -/
def State.evecOk (s : State) (c : Nat) (t : W64) : Bool :=
  field t 14 0 % s.bundleSize c == 0 && decide (field t 14 0 + 0x60 ≤ s.highestBundle c)

/-- A performance counter (R153). -/
def Glade.counter (x : Glade) (n : Nat) : W64 :=
  match n with
  | 0 => x.cntIssued
  | 1 => x.cntFetched
  | 2 => x.cntWaited
  | 3 => x.cntMispredict
  | _ => x.cntBusy

/-- The predictor at reset, with PBAR lifted (R190); the guesses already made stand. -/
def Glade.flushPredictor (x : Glade) : Glade := { x with retStack := [], path := [], targets := [], barred := false }

/-- ERET: resume at EPC with the branch state of EBR and the saved repeat state; from the handler bank, select the
thread bank, unmask events, and let the thread's position wait on, and stand in a branch's delay slots, as before the
entry (R125, R161, R177, R184, R202, R205), wherever a handler has moved EPC to and whatever it has made of EBR (DESIGN
CHOICE, log 142). Guesses not compared yet are dropped (DESIGN CHOICE, log 134). -/
def Glade.doEret (x : Glade) : Glade :=
  { x with
    pc := x.epc
    redirect := if field x.ebr 16 15 = 0 then none else some (w64 (field x.ebr 14 0), field x.ebr 16 15)
    annul := 0
    delay := if x.inHandler then x.savedDelay else x.delay
    guesses := []
    rep := x.savedRep
    repBundle := if x.inHandler then x.savedBundle else none
    barWait := if x.inHandler then x.savedBar else x.barWait
    woken := if x.inHandler then x.savedWoken else x.woken
    hasWaited := x.inHandler && x.savedWaited
    hasFetched := false
    resumed := true
    inHandler := false
    masked := if x.inHandler then false else x.masked }

/-- What a SYS trigger of core `c` does to the Glade; ERET takes effect last in its bundle, WAIT and BAR at the next
position (R150, R174, R177, R206). `now` is the device time. -/
def State.doSys (s : State) (c : Nat) (x : Glade) (op : SysOp) (t : TWord) (now : Nat) : Glade :=
  match op with
  | .bar => { x with barWait := .bar }
  | .ifence => { x with oldCode := x.oldCode.map (fun o =>
      if o.agent ∧ o.fromPos = none then { o with fromPos := some (x.bank.pos + 2) } else o) }
  | .rep => { x with rep := { x.rep with owed := field t.data 15 0, interruptible := bit t.data 16 }, repBundle := none }
  | .wait => { x with barWait := if t.data = 0#64 then .waitEnter else .waitResume, woken := false }
  | .eret => x.doEret
  | .pflush => x.flushPredictor
  | .pbar => { x with barred := true }
  | .feat => { x with sysQ := TWord.plain (s.feat c t.data.toNat) }
  | .settag => { x with sysQ := ⟨x.sysA, t.data.truncate 4⟩ }
  | .gettag => { x with sysQ := TWord.plain (w64 t.tag.toNat) }
  | .rdevec => { x with sysQ := TWord.plain x.evec }
  | .wrevec => { x with evec := w64 (t.data.toNat % 2 ^ 16) }
  | .rdcnt => { x with sysQ := TWord.plain (x.counter t.data.toNat) }
  | .wdog => { x with wdogSince := now, wdogFirst := false }

/-- The trigger value of a SYS operation is outside the range its table allows (R128, R150, R152, R206). -/
def State.sysRange (s : State) (c : Nat) (op : SysOp) (t : W64) : Bool :=
  match op with
  | .rep => field t 15 0 == 0 || field t 63 17 != 0 || (decide (field t 15 0 > 4096) && !bit t 16)
  | .wait => t != 0#64 && t != 1#64
  | .feat => decide (t.toNat > 3)
  | .settag => field t 63 4 != 0
  | .wrevec => !s.evecOk c t
  | .rdcnt => decide (t.toNat > 4)
  | _ => false

/-! ### The branch unit -/

/-- The 6-bit fold of the path history (R188); that of the zero history, the one at reset, is 0 (R190). -/
def Glade.pathFold (x : Glade) : Nat :=
  if x.path.all (· == 0#64) then 0 else (Config.foldPath x.path).toNat

/-- Entry of the indirect-target table for a branch at `p` (R188). -/
def Glade.targetIndex (x : Glade) (p : W64) : Nat := (field p 8 3) ^^^ x.pathFold

/-- The guess for position j + 3 after a branch at `p`, `seq` being the sequential bundle there (R187, R190). R187 does
not say which bundle is the sequential one after a REP in j + 1 or j + 2 or a branch already pending: the model takes the
third after j in address order (DESIGN CHOICE, log 134). -/
def Glade.guess (x : Glade) (op : BruOp) (f : BranchFlags) (t seq p : W64) : W64 :=
  let table := (smGet none x.targets (x.targetIndex p)).getD seq
  let target := if f.direct then t else table
  match op with
  | .ret => x.retStack.headD table
  | .jmp => target
  | .call => target
  | _ => if f.hint then target else seq

/-- The predictor after a branch at `p` that takes effect (R188). -/
def Glade.train (x : Glade) (op : BruOp) (f : BranchFlags) (taken : Bool) (t ra p : W64) : Glade :=
  let empty := x.retStack.isEmpty
  let x := if (!f.direct && op != .ret) || op == .ret || (op == .ret && empty) then
      { x with targets := smSet none x.targets (x.targetIndex p) (some t) } else x
  let x := if taken then { x with path := (t :: x.path).take 4 } else x
  match op with
  | .call => { x with retStack := (ra :: x.retStack).take 16 }
  | .ret => { x with retStack := x.retStack.tail }
  | _ => x

/-- A BRU trigger in the bundle at `p` (R181, R184, R185, R186): a taken branch redirects after two positions, an
annulling one that is not taken annuls them unless it stands in the delay slot of a taken branch (`inSlot`). -/
def Glade.doBru (x : Glade) (op : BruOp) (f : BranchFlags) (t p : W64) (size : Nat) (inSlot : Bool) : Glade :=
  let taken := branchTaken op x.bank.bruA x.bank.bruB
  let seq := w64 (p.toNat + 3 * size)
  let x := if x.barred then x
    else
      let x := { x with guesses := x.guesses ++ [(x.bank.pos + 2, x.guess op f t seq p)] }
      x.train op f taken t seq p
  let x := if op = .call then x.updBank (fun b => { b with bruQ := seq }) else x
  let x := { x with delay := 2 }
  if taken then { x with redirect := some (t, 2), annul := 0 }
  else if op.conditional && f.annul && !inSlot then { x with annul := 2 }
  else x

/-- `STK.T.ENTER` stands in a frame that holds (R209): SB and SL lie in local DMEM. -/
def frameOk (b : Bank) : Bool :=
  b.stkSB.toNat % 4 == 0 && b.stkSL.toNat % 4 == 0 && decide (0x10000 ≤ b.stkSL.toNat)
    && decide (b.stkSB.toNat < 0x20000) && decide (b.stkSL.toNat ≤ b.stkSP.toNat)
    && decide (b.stkSP.toNat ≤ b.stkSB.toNat)

/-- ENTER: the native return address, and byte code from byte address t (R208, R209, R211). It has no delay slots: a
branch of its own bundle redirects nothing (log 109), a SYS.T.REP of it repeats nothing (DESIGN CHOICE, log 142), and
guesses not compared yet are dropped (DESIGN CHOICE, log 134). -/
def Glade.doEnter (x : Glade) (t p : W64) (size : Nat) : Glade :=
  { x.updBank (fun b => { b with stkNR := w64 (p.toNat + size) }) with
    pc := t
    redirect := none
    annul := 0
    delay := 0
    guesses := []
    rep := { Repeat.none with byteCode := true } }

end Sys2Proof.Machine
end

