-- ==== Sys2Proof/Machine/Crypto.lean ====
section
/-! DEFINITION. SHA-256 and ECDSA verification over P-256 with SHA-256 (R61, R62, R66): the manual names the two
standards (FIPS 180-4 and FIPS 186-5) and does not restate them (log 17). -/

namespace Sys2Proof.Machine

/-! ### SHA-256 -/

/-- The round constants. -/
def shaK : List Nat := [
  0x428A2F98, 0x71374491, 0xB5C0FBCF, 0xE9B5DBA5, 0x3956C25B, 0x59F111F1, 0x923F82A4, 0xAB1C5ED5,
  0xD807AA98, 0x12835B01, 0x243185BE, 0x550C7DC3, 0x72BE5D74, 0x80DEB1FE, 0x9BDC06A7, 0xC19BF174,
  0xE49B69C1, 0xEFBE4786, 0x0FC19DC6, 0x240CA1CC, 0x2DE92C6F, 0x4A7484AA, 0x5CB0A9DC, 0x76F988DA,
  0x983E5152, 0xA831C66D, 0xB00327C8, 0xBF597FC7, 0xC6E00BF3, 0xD5A79147, 0x06CA6351, 0x14292967,
  0x27B70A85, 0x2E1B2138, 0x4D2C6DFC, 0x53380D13, 0x650A7354, 0x766A0ABB, 0x81C2C92E, 0x92722C85,
  0xA2BFE8A1, 0xA81A664B, 0xC24B8B70, 0xC76C51A3, 0xD192E819, 0xD6990624, 0xF40E3585, 0x106AA070,
  0x19A4C116, 0x1E376C08, 0x2748774C, 0x34B0BCB5, 0x391C0CB3, 0x4ED8AA4A, 0x5B9CCA4F, 0x682E6FF3,
  0x748F82EE, 0x78A5636F, 0x84C87814, 0x8CC70208, 0x90BEFFFA, 0xA4506CEB, 0xBEF9A3F7, 0xC67178F2]

/-- The initial hash value. -/
def shaH0 : List Nat := [
  0x6A09E667, 0xBB67AE85, 0x3C6EF372, 0xA54FF53A, 0x510E527F, 0x9B05688C, 0x1F83D9AB, 0x5BE0CD19]

/-- Rotation to the right of a 32-bit word. -/
def rotr32 (x n : Nat) : Nat := ((x >>> n) ||| (x <<< (32 - n))) % 2 ^ 32

/-- The message padded to whole blocks of 64 bytes. -/
def shaPad (m : List Byte) : List Byte :=
  let n := m.length
  let z := (119 - n % 64) % 64
  m ++ [0x80#8] ++ List.replicate z 0#8 ++ (bytesLE 8 (8 * n)).reverse

/-- The message schedule extended from the last 16 words, newest first, by `n` words. -/
def shaExtend : Nat → List Nat → List Nat
  | 0, w => w
  | n + 1, w =>
    let a := w.getD 1 0
    let b := w.getD 14 0
    let s1 := rotr32 a 17 ^^^ rotr32 a 19 ^^^ (a >>> 10)
    let s0 := rotr32 b 7 ^^^ rotr32 b 18 ^^^ (b >>> 3)
    shaExtend n (((s1 + w.getD 6 0 + s0 + w.getD 15 0) % 2 ^ 32) :: w)

/-- One round on the eight working words. -/
def shaRound (v : List Nat) (kw : Nat) : List Nat :=
  match v with
  | [a, b, c, d, e, f, g, h] =>
    let s1 := rotr32 e 6 ^^^ rotr32 e 11 ^^^ rotr32 e 25
    let ch := (e &&& f) ^^^ ((2 ^ 32 - 1 - e) &&& g)
    let t1 := (h + s1 + ch + kw) % 2 ^ 32
    let s0 := rotr32 a 2 ^^^ rotr32 a 13 ^^^ rotr32 a 22
    let mj := (a &&& b) ^^^ (a &&& c) ^^^ (b &&& c)
    [(t1 + s0 + mj) % 2 ^ 32, a, b, c, (d + t1) % 2 ^ 32, e, f, g]
  | _ => v

/-- One block compressed into the hash value. -/
def shaBlock (h : List Nat) (block : List Byte) : List Nat :=
  let w0 := (List.range 16).map (fun i => ofBytesBE ((block.drop (4 * i)).take 4))
  let w := (shaExtend 48 w0.reverse).reverse
  let v := (List.zipWith (fun k x => k + x) shaK w).foldl shaRound h
  List.zipWith (fun a b => (a + b) % 2 ^ 32) h v

/-- The blocks of 64 bytes compressed in turn. -/
def shaBlocks : Nat → List Nat → List Byte → List Nat
  | 0, h, _ => h
  | n + 1, h, m => shaBlocks n (shaBlock h (m.take 64)) (m.drop 64)

/-- SHA-256: the 32 digest bytes. -/
def sha256 (m : List Byte) : List Byte :=
  let p := shaPad m
  (shaBlocks (p.length / 64) shaH0 p).flatMap (fun x => (bytesLE 4 x).reverse)

/-! ### P-256 -/

/-- The field prime. -/
def p256p : Nat := 0xFFFFFFFF00000001000000000000000000000000FFFFFFFFFFFFFFFFFFFFFFFF

/-- The order of the base point. -/
def p256n : Nat := 0xFFFFFFFF00000000FFFFFFFFFFFFFFFFBCE6FAADA7179E84F3B9CAC2FC632551

/-- The curve coefficient b; a is −3. -/
def p256b : Nat := 0x5AC635D8AA3A93E7B3EBBD55769886BC651D06B0CC53B0F63BCE3C3E27D2604B

/-- `b` to the power `e` modulo `m`, over the low `n` bits of `e`. -/
def powMod : Nat → Nat → Nat → Nat → Nat
  | 0, _, _, _ => 1
  | n + 1, b, e, m =>
    let r := powMod n (b * b % m) (e / 2) m
    if e % 2 = 1 then b * r % m else r

/-- The inverse modulo a prime below 2^256. -/
def invMod (x m : Nat) : Nat := powMod 256 (x % m) (m - 2) m

/-- `a − b` modulo the field prime. -/
def subP (a b : Nat) : Nat := (a + p256p - b % p256p) % p256p

/-- The product of two residues modulo the field prime. -/
def mulP (a b : Nat) : Nat := a * b % p256p

/-- A point of the curve in projective coordinates: X / Z² and Y / Z³, the point at infinity where Z is 0. -/
abbrev P256Point := Nat × Nat × Nat

/-- The point at infinity. -/
def p256Inf : P256Point := (1, 1, 0)

/-- The point with affine coordinates `x`, `y`. -/
def p256Affine (x y : Nat) : P256Point := (x, y, 1)

/-- The base point. -/
def p256G : P256Point :=
  p256Affine 0x6B17D1F2E12C4247F8BCE6E563A440F277037D812DEB33A0F4A13945D898C296
    0x4FE342E2FE1A7F9B8EE7EB4A7C0F9E162BCE33576B315ECECBB6406837BF51F5

/-- Twice a point. -/
def p256Double (p : P256Point) : P256Point :=
  let (x, y, z) := p
  let d := mulP z z
  let g := mulP y y
  let b := mulP x g
  let a := 3 * mulP (subP x d) (x + d) % p256p
  let x3 := subP (mulP a a) (8 * b)
  (x3, subP (mulP a (subP (4 * b) x3)) (8 * mulP g g), 2 * mulP y z % p256p)

/-- Sum of two points. -/
def p256Add (p q : P256Point) : P256Point :=
  let (x1, y1, z1) := p
  let (x2, y2, z2) := q
  if z1 = 0 then q
  else if z2 = 0 then p
  else
    let u1 := mulP x1 (mulP z2 z2)
    let u2 := mulP x2 (mulP z1 z1)
    let s1 := mulP y1 (mulP z2 (mulP z2 z2))
    let s2 := mulP y2 (mulP z1 (mulP z1 z1))
    if u1 = u2 then
      if s1 = s2 then p256Double p else p256Inf
    else
      let h := subP u2 u1
      let r := subP s2 s1
      let v := mulP u1 (mulP h h)
      let c := mulP h (mulP h h)
      let x3 := subP (subP (mulP r r) c) (2 * v)
      (x3, subP (mulP r (subP v x3)) (mulP s1 c), mulP h (mulP z1 z2))

/-- `k` times a point, over the low `n` bits of `k`. -/
def p256Mul : Nat → Nat → P256Point → P256Point
  | 0, _, _ => p256Inf
  | n + 1, k, p =>
    let r := p256Mul n (k / 2) (p256Double p)
    if k % 2 = 1 then p256Add p r else r

/-- The affine x of a point; none for the point at infinity. -/
def p256X (p : P256Point) : Option Nat :=
  if p.2.2 = 0 then none
  else
    let i := invMod p.2.2 p256p
    some (mulP p.1 (mulP i i))

/-- The point lies on the curve. -/
def p256On (x y : Nat) : Bool :=
  decide (x < p256p ∧ y < p256p) && y * y % p256p == (x * x % p256p * x + (p256p - 3) * x + p256b) % p256p

/-- The signature (r, s) over a message with public key X, Y verifies (R62). -/
def ecdsaVerify (message : List Byte) (x y r s : Nat) : Bool :=
  if r = 0 ∨ p256n ≤ r ∨ s = 0 ∨ p256n ≤ s ∨ p256On x y = false then false
  else
    let e := ofBytesBE (sha256 message)
    let w := invMod s p256n
    match p256X (p256Add (p256Mul 256 (e * w % p256n) p256G) (p256Mul 256 (r * w % p256n) (p256Affine x y))) with
    | some px => px % p256n == r
    | none => false

end Sys2Proof.Machine
end

