-- ==== Sys2Proof/Machine/StandMap.lean ====
section
/-! DEFINITION. The checks of a Stand Map image and of a Grove-scope fragment (R39 to R74, R535, R536). -/

namespace Sys2Proof.Machine

/-! ### Image -/

/-- A failure as `SM_ERROR` reports it (R535). -/
structure MapError where
  code : Nat
  check : Nat
  section_ : Nat
  offset : Nat
deriving DecidableEq, Repr

/-- One section of an image: where it begins, and its parts (R40). -/
structure MapSection where
  ty : Nat
  flags : Nat
  start : Nat
  body : List Byte
  trailer : List Byte
deriving DecidableEq, Repr

/-- Byte `o` of a list as a number; absent bytes read 0. -/
def byteN (b : List Byte) (o : Nat) : Nat := (b.getD o 0#8).toNat

/-- `n` bytes from `o` as a little-endian number. -/
def leN (b : List Byte) (o n : Nat) : Nat := ofBytesLE ((b.drop o).take n)

/-- A list cut into pieces of `k`. -/
def pieces (k : Nat) : Nat → List Byte → List (List Byte)
  | 0, _ => []
  | n + 1, b => b.take k :: pieces k n (b.drop k)

/-- The first failing test of a list: (passes, code, offset). -/
def firstBad (cs : List (Bool × Nat × Nat)) : Option (Nat × Nat) :=
  (cs.find? (fun c => !c.1)).map (fun c => c.2)

/-- `n` reserved bytes from `o` are zero. -/
def zeros (b : List Byte) (o n : Nat) : List (Bool × Nat × Nat) :=
  (List.range n).map (fun i => (byteN b (o + i) == 0, 0x0E, o + i))

/-- Section types of R43 that a device image may hold. -/
def mapTypes : List Nat := [0x01, 0x10, 0x11, 0x20, 0x30, 0x31, 0x40, 0x50, 0x60, 0x70, 0x80, 0xF0]

/-- Section types of a fragment (R71). -/
def fragmentTypes : List Nat := [0x01, 0x10, 0x11, 0x70, 0xF0]

/-- Body length a section of type `ty` must have (R43, R71); none: the type has no length there. -/
def sectionLength (fragment : Bool) (ty : Nat) (body : List Byte) : Option Nat :=
  if fragment then
    match ty with
    | 0x01 => some 168
    | 0x10 => some 128
    | 0x11 => some 32
    | 0x70 => some 8
    | 0xF0 => some 136
    | _ => none
  else
    match ty with
    | 0x01 => some 168
    | 0x10 => some 2048
    | 0x11 => some 512
    | 0x20 => some 152
    | 0x30 => some (16 + 16 * leN body 8 4)
    | 0x31 => some (8 + 32 * leN body 0 4)
    | 0x40 => some 184
    | 0x50 => some (8 + 16 * byteN body 1)
    | 0x60 => some (8 + 8 * byteN body 1)
    | 0x70 => some 32
    | 0x80 => some 34816
    | 0xF0 => some 136
    | _ => none

/-- Step 1 of R66: the preamble of an image supplied with `len` bytes. -/
def checkPreamble (fragment : Bool) (img : List Byte) (len : Nat) : Option MapError :=
  let n := leN img 4 4
  (firstBad ([
    (leN img 0 4 == 0x4D534843, 0x01, 0),
    (n % 8 == 0 && decide (n ≤ 16777216) && n == len, 0x02, 4),
    (byteN img 9 == 1, 0x03, 9),
    (decide (byteN img 10 ≤ 1), 0x03, 10)]
    ++ (List.range 5).map (fun i => (byteN img (11 + i) == 0, 0x03, 11 + i))
    ++ [(byteN img 10 == b2n fragment, 0x11, 10)])).map (fun c => ⟨c.1, 0, 0, c.2⟩)

/-- The tests of step 2 that look at one section: bounds, CRC, order, type; `prev` is the type before it (R535). DESIGN
CHOICE (log 112): a LENGTH of an unknown section that is no multiple of 8 (R40) is a failure of section bounds, 0x04. -/
def checkSection (fragment : Bool) (prev : Option Nat) (ty flags start n : Nat) (rest : List Byte) : Option MapError :=
  let len := leN rest 4 4
  let body := (rest.drop 8).take len
  let known := mapTypes.contains ty
  let fits := decide (start + 16 + len ≤ n) && (ty != 0xF0 || start + 16 + len == n)
  let order := match prev with
    | none => ty == 0x01
    | some p => p != 0xF0 && ty != 0x01 && (ty == 0xF0 || p == 0x01 || decide (p < ty))
  (firstBad [
    (decide (start + 16 ≤ n), 0x04, start),
    (len % 8 == 0 && fits && (!known || sectionLength fragment ty body == some len), 0x04, start + 4),
    (leN rest (8 + len) 4 == (crc32c (rest.take (8 + len))), 0x05, start + 8 + len),
    (order, 0x06, start),
    (known || flags.testBit 0, 0x07, start)]).map (fun c => ⟨c.1, 0, ty, c.2⟩)

/-- The sections of an image of `n` bytes from offset `start`, or the first failure among them (R40, R42). DESIGN CHOICE
(log 112): of several failures of step 2 the first section's is reported, in the order of `checkSection`; missing
sections, FLAGS and trailers come after all sections. -/
def splitSections (fragment : Bool) (n : Nat) : Nat → Option Nat → Nat → List Byte → Except MapError (List MapSection)
  | 0, _, _, _ => .ok []
  | fuel + 1, prev, start, rest =>
    if start ≥ n then .ok []
    else
      let ty := leN rest 0 2
      let flags := leN rest 2 2
      let len := leN rest 4 4
      match checkSection fragment prev ty flags start n rest with
      | some e => .error e
      | none =>
        match splitSections fragment n fuel (some ty) (start + 16 + len) (rest.drop (16 + len)) with
        | .error e => .error e
        | .ok ss => .ok (⟨ty, flags, start, (rest.drop 8).take len, (rest.drop (8 + len)).take 8⟩ :: ss)

/-- Types that must be present (R43, R71). -/
def requiredTypes (fragment : Bool) : List Nat :=
  if fragment then [0x01, 0x10, 0x11, 0xF0] else [0x01, 0x10, 0x11, 0x40, 0x50, 0x70, 0xF0]

/-- The last rows of step 2: a missing section, then reserved bits of FLAGS and reserved trailer bytes. DESIGN CHOICE
(log 112): a missing section has no field, so OFFSET is IMAGE_LENGTH. -/
def checkPresence (fragment : Bool) (n : Nat) (ss : List MapSection) : Option MapError :=
  match (requiredTypes fragment).find? (fun t => !ss.any (fun s => s.ty == t)) with
  | some t => some ⟨0x08, 0, t, n⟩
  | none => ss.findSome? (fun s =>
      if s.flags / 2 ≠ 0 then some ⟨0x0E, 0, s.ty, s.start + 2⟩
      else if (s.trailer.drop 4).any (fun b => b != 0#8) then some ⟨0x0E, 0, s.ty, s.start + 12 + s.body.length⟩
      else none)

/-- Body of the section of type `ty`; empty when absent. -/
def bodyOf (ss : List MapSection) (ty : Nat) : List Byte :=
  ((ss.find? (fun s => s.ty == ty)).map (fun s => s.body)).getD []

/-- Offset of the body of the section of type `ty` in the image; 0 when absent. -/
def bodyAt (ss : List MapSection) (ty : Nat) : Nat :=
  ((ss.find? (fun s => s.ty == ty)).map (fun s => s.start + 8)).getD 0

/-! ### Signature and key slots (R61 to R65) -/

/-- The key slots: the digest words programmed, by 4 × slot + word, and the revoke bits. -/
structure KeySlots where
  words : SMap (Option W64)
  revoked : BitVec 4
deriving DecidableEq, Repr

def KeySlots.reset : KeySlots := ⟨[], 0#4⟩

/-- Digest word `w` of slot `n`. -/
def KeySlots.word (k : KeySlots) (n w : Nat) : Option W64 := smGet none k.words (4 * n + w)

/-- Slot `n` counts as programmed (R65). -/
def KeySlots.programmed (k : KeySlots) (n : Nat) : Bool := (List.range 4).any (fun w => (k.word n w).isSome)

/-- Slot `n` is complete (R65). -/
def KeySlots.complete (k : KeySlots) (n : Nat) : Bool := (List.range 4).all (fun w => (k.word n w).isSome)

/-- Any slot is programmed (R63). -/
def KeySlots.any (k : KeySlots) : Bool := (List.range 4).any k.programmed

/-- The digest of slot `n`. -/
def KeySlots.digest (k : KeySlots) (n : Nat) : List Byte :=
  (List.range 4).flatMap (fun w => bytesLE 8 ((k.word n w).getD 0#64).toNat)

/-- The key slots of the part. -/
def State.keySlots (s : State) : KeySlots := ⟨s.board.keyWords, s.board.keyRevoked⟩

/-- Step 3 over a message that ends with PUBKEY and a signature block of R61: its failure code and the offset of the
failing field in the block; none when the signature holds. DEDUCED (log 112): while no slot is programmed, PUBKEY alone
is checked (R63), so that a KEY_SLOT naming a revoked slot is no failure then. -/
def checkSignature (k : KeySlots) (message block : List Byte) : Option (Nat × Nat) :=
  let slot := byteN block 0
  let pub := (block.drop 8).take 64
  if byteN block 1 ≠ 1 then some (0x09, 1)
  else if k.any ∧ (3 < slot ∨ k.complete slot = false ∨ k.digest slot ≠ sha256 pub) then some (0x0A, 0)
  else if k.any ∧ k.revoked.getLsbD slot = true then some (0x0B, 0)
  else if ecdsaVerify message (ofBytesBE (pub.take 32)) (ofBytesBE (pub.drop 32))
      (ofBytesBE ((block.drop 72).take 32)) (ofBytesBE ((block.drop 104).take 32)) then none
  else some (0x09, 72)

/-! ### Field checks (R44 to R61): tests with offsets from the body's start -/

/-- The unit masks of a GLADE entry (R46). -/
def unitMasks (e : W64) : List Nat := (List.range 9).map (fun i => field e (11 + 4 * i) (8 + 4 * i))

/-- One GLADE entry at offset `o` (R46, R47). -/
def gladeFields (o : Nat) (b : List Byte) : List (Bool × Nat × Nat) :=
  let e := w64 (ofBytesLE b)
  let n := field e 2 0
  [ (field e 7 6 == 0, 0x0E, o), (field e 63 44 == 0, 0x0E, o + 5),
    (n == 0 || n == 2 || n == 3 || n == 4, 0x0F, o) ]
  ++ (List.range 8).map (fun i => (n != 0 || byteN b i == 0, 0x0F, o + i))
  ++ ((List.range 9).zip (unitMasks e)).map (fun p => (decide (p.2 < 2 ^ n), 0x0F, o + 1 + p.1 / 2))

/-- One GROVE entry at offset `o` (R49). -/
def groveFields (o : Nat) (b : List Byte) : List (Bool × Nat × Nat) :=
  [ (decide (byteN b 0 ≤ 3), 0x0F, o), (decide (byteN b 1 ≤ 1), 0x0F, o + 1), (decide (byteN b 2 ≤ 1), 0x0F, o + 2),
    (byteN b 3 == 0, 0x0E, o + 3), (decide (leN b 4 4 ≤ 1000000000), 0x0F, o + 4) ]
  ++ (zeros b 18 14).map (fun c => (c.1, c.2.1, o + c.2.2))

/-- HEADER (R45). DESIGN CHOICE (log 112): BASE or SIZE of a DRAM range beyond DRAM_RANGES that is not zero is a field out
of range, 0x0F. -/
def headerFields (fragment : Bool) (b : List Byte) : List (Bool × Nat × Nat) :=
  [ (byteN b 2 / 4 == 0, 0x0E, 2), (decide (1 ≤ byteN b 32 ∧ byteN b 32 ≤ 4), 0x0F, 32),
    (decide (byteN b 33 ≤ (if fragment then 15 else 0)), 0x0F, 33), (decide (byteN b 34 ≤ 8), 0x0F, 34) ]
  ++ zeros b 35 5
  ++ (List.range 8).flatMap (fun i => (decide (byteN b (48 + 16 * i) ≤ 3), 0x0F, 48 + 16 * i) :: zeros b (49 + 16 * i) 7)
  ++ ((List.range 8).filter (fun i => decide (byteN b 34 ≤ i))).flatMap (fun i =>
      (zeros b (40 + 16 * i) 16).map (fun c => (c.1, 0x0F, c.2.2)))

/-- LANE (R50). -/
def laneFields (b : List Byte) : List (Bool × Nat × Nat) :=
  (List.range 12).flatMap (fun k =>
    let o := 8 * k
    let f := byteN b (o + 2)
    [ (decide (byteN b o ≤ 5), 0x0F, o), (decide (byteN b (o + 1) ≤ 5), 0x0F, o + 1), (f / 16 == 0, 0x0E, o + 2),
      (f % 4 != 3 && f / 4 % 4 != 3, 0x0F, o + 2), (byteN b (o + 3) / 16 == 0, 0x0E, o + 3) ] ++ zeros b (o + 6) 2)
  ++ (List.range 3).flatMap (fun k =>
    let o := 96 + 8 * k
    let shape := byteN b (o + 1)
    (if byteN b o = 0 then
      (List.range 3).map (fun i => (byteN b (o + 1 + i) == 0, 0x0F, o + 1 + i))
    else
      [ (byteN b o == 1, 0x0F, o), (if k < 2 then decide (shape ≤ 4) else shape == 4 || shape == 8, 0x0F, o + 1),
        (decide (1 ≤ byteN b (o + 2) ∧ byteN b (o + 2) ≤ 5), 0x0F, o + 2), (decide (byteN b (o + 3) ≤ 3), 0x0F, o + 3) ])
    ++ zeros b (o + 4) 4)
  ++ (List.range 4).flatMap (fun k =>
    let o := 120 + 8 * k
    (decide (byteN b o ≤ 3), 0x0F, o) :: zeros b (o + 1) 7)

/-- QM (R51). -/
def qmFields (b : List Byte) : List (Bool × Nat × Nat) :=
  [ (leN b 0 8 % 2 ^ 25 == 0, 0x0F, 0), (decide (leN b 8 4 ≤ 1024), 0x0F, 8) ] ++ zeros b 12 4
  ++ ((List.range (leN b 8 4)).zip (pieces 16 (leN b 8 4) (b.drop 16))).flatMap (fun p =>
    let o := 16 + 16 * p.1
    let e := p.2
    [ (decide (leN e 0 4 ≤ 1048575), 0x0F, o), (decide (1 ≤ leN e 4 4), 0x0F, o + 4),
      (decide (byteN e 8 ≤ 1), 0x0F, o + 8), (decide (byteN e 9 ≤ (if byteN e 8 = 0 then 15 else 0)), 0x0F, o + 9),
      (decide (byteN e 10 ≤ 3), 0x0F, o + 10), (byteN e 11 / 2 == 0, 0x0E, o + 11),
      (decide (byteN e 12 ≤ (if byteN e 11 % 2 = 1 then 3 else 0)), 0x0F, o + 12) ]
    ++ (zeros e 13 3).map (fun c => (c.1, c.2.1, o + c.2.2)))

/-- JOURNAL (R53). -/
def journalFields (b : List Byte) : List (Bool × Nat × Nat) :=
  (decide (leN b 0 4 ≤ 4096), 0x0F, 0) :: zeros b 4 4
  ++ ((List.range (leN b 0 4)).zip (pieces 32 (leN b 0 4) (b.drop 8))).flatMap (fun p =>
    let o := 8 + 32 * p.1
    let e := p.2
    let disk := byteN e 3 == 0
    [ (decide (leN e 0 2 ≤ 4095), 0x0F, o), (decide (byteN e 2 ≤ 3), 0x0F, o + 2), (decide (byteN e 3 ≤ 1), 0x0F, o + 3),
      (decide (18 ≤ byteN e 4 ∧ byteN e 4 ≤ 26), 0x0F, o + 4), (decide (byteN e 5 ≤ (if disk then 1 else 0)), 0x0F, o + 5),
      (decide (byteN e 6 ≤ (if disk then 7 else 0)), 0x0F, o + 6), (byteN e 7 == 0, 0x0E, o + 7),
      (if disk then leN e 8 4 != 0 && leN e 8 4 != 0xFFFFFFFF else leN e 8 4 == 0, 0x0F, o + 8) ]
    ++ (zeros e 12 4).map (fun c => (c.1, c.2.1, o + c.2.2)))

/-- POWER (R54). -/
def powerFields (b : List Byte) : List (Bool × Nat × Nat) :=
  [ (leN b 4 4 != 0, 0x0F, 4), (leN b 0x10 4 != 0, 0x0F, 0x10) ] ++ zeros b 0x18 8
  ++ [ (decide (leN b 0x20 4 ≤ 60000), 0x0F, 0x20),
       (byteN b 0x24 == 3 || byteN b 0x24 == 5 || byteN b 0x24 == 6, 0x0F, 0x24), (byteN b 0x25 / 16 == 0, 0x0E, 0x25) ]
  ++ zeros b 0x32 6 ++ zeros b 0x44 4
  ++ (List.range 17).map (fun i =>
    let v := leN b (0x48 + 2 * i) 2
    (decide (400 ≤ v ∧ v ≤ 950) && v % 5 == 0, 0x0F, 0x48 + 2 * i))
  ++ zeros b 0x6A 6
  ++ (List.range 64).flatMap (fun i =>
    [(byteN b (0x70 + i) / 8 == 0, 0x0E, 0x70 + i), (byteN b (0x70 + i) % 4 != 3, 0x0F, 0x70 + i)])
  ++ zeros b 0xB0 8

/-- SAFETY (R56). DESIGN CHOICE (log 112): a MECH that appears twice is out of range at its second entry, 0x0F. -/
def safetyFields (b : List Byte) : List (Bool × Nat × Nat) :=
  let n := byteN b 1
  (decide (n ≤ 16), 0x0F, 1) :: zeros b 2 6
  ++ (List.range n).flatMap (fun k =>
    let o := 8 + 16 * k
    let m := byteN b o
    [ (decide (1 ≤ m ∧ m ≤ 11) && !(List.range k).any (fun i => byteN b (8 + 16 * i) == m), 0x0F, o),
      (decide (byteN b (o + 1) ≤ 1), 0x0F, o + 1),
      (decide (byteN b (o + 2) ≤ 4) && (byteN b (o + 2) != 3 || m == 4), 0x0F, o + 2), (byteN b (o + 3) == 0, 0x0E, o + 3) ]
    ++ zeros b (o + 6) 2 ++ zeros b (o + 12) 4)

/-- ROOTLINK (R58). DESIGN CHOICE (log 112): a LINK number that appears twice is out of range, 0x0F; the bits of
ENG_PARTITION that R58 does not name must be 0, 0x0E. -/
def rootlinkFields (b : List Byte) : List (Bool × Nat × Nat) :=
  [ (decide (byteN b 0 ≤ 2), 0x0F, 0), (decide (byteN b 1 ≤ 24), 0x0F, 1), (byteN b 2 / 16 == 0, 0x0E, 2) ] ++ zeros b 3 5
  ++ (List.range (byteN b 1)).flatMap (fun k =>
    let o := 8 + 8 * k
    let w := byteN b (o + 3)
    [ (decide (byteN b o ≤ 23) && !(List.range k).any (fun i => byteN b (8 + 8 * i) == byteN b o), 0x0F, o),
      (decide (byteN b (o + 1) ≤ 1), 0x0F, o + 1), (decide (byteN b (o + 2) ≤ 95), 0x0F, o + 2),
      (w == 1 || w == 2 || w == 4, 0x0F, o + 3), (decide (byteN b (o + 4) ≤ 1), 0x0F, o + 4) ] ++ zeros b (o + 5) 3)

/-- SEEDBANK (R59), or the one Grove's entry of a fragment (R71). -/
def seedbankFields (fragment : Bool) (b : List Byte) : List (Bool × Nat × Nat) :=
  let n := if fragment then 1 else 16
  (List.range n).map (fun i => (decide (byteN b i ≤ 48), 0x0F, i))
  ++ (List.range n).map (fun i => (decide (1 ≤ byteN b (n + i) ∧ byteN b (n + i) ≤ 32), 0x0F, n + i))
  ++ (if fragment then zeros b 2 6 else [])

/-- TALLY (R60). DESIGN CHOICE (log 112): the bits of bytes 0, 1 and 4 that R60 does not name must be 0, 0x0E. -/
def tallyFields (b : List Byte) : List (Bool × Nat × Nat) :=
  ((List.range 4352).zip (pieces 8 4352 b)).flatMap (fun p =>
    let o := 8 * p.1
    let e := p.2
    [ (byteN e 0 / 4 == 0, 0x0E, o), (byteN e 1 / 16 == 0, 0x0E, o + 1), (byteN e 4 / 16 == 0, 0x0E, o + 4),
      (byteN e 5 == 0, 0x0E, o + 5) ])

/-- SIGNATURE (R61). -/
def signatureFields (b : List Byte) : List (Bool × Nat × Nat) :=
  [(decide (byteN b 0 ≤ 3), 0x0F, 0), (byteN b 1 == 1, 0x0F, 1)] ++ zeros b 2 6

/-- Step 5 for one section: its tests, in the order in which they are made. DESIGN CHOICE (log 112): R535 does not order
them, and the first that fails is reported. -/
def sectionFields (fragment : Bool) (ty : Nat) (b : List Byte) : List (Bool × Nat × Nat) :=
  match ty with
  | 0x01 => headerFields fragment b
  | 0x10 => ((List.range (b.length / 8)).zip (pieces 8 (b.length / 8) b)).flatMap (fun p => gladeFields (8 * p.1) p.2)
  | 0x11 => ((List.range (b.length / 32)).zip (pieces 32 (b.length / 32) b)).flatMap
      (fun p => groveFields (32 * p.1) p.2)
  | 0x20 => laneFields b
  | 0x30 => qmFields b
  | 0x31 => journalFields b
  | 0x40 => powerFields b
  | 0x50 => safetyFields b
  | 0x60 => rootlinkFields b
  | 0x70 => seedbankFields fragment b
  | 0x80 => tallyFields b
  | 0xF0 => signatureFields b
  | _ => []

/-! ### Consistency (R68), over the sections as they would stand applied -/

/-- Entry `i` of the journals: offset in the body. -/
def State.journalEntries (s : State) : List (List Byte) :=
  pieces 32 (s.secLE 0x31 0 4) ((s.sec 0x31).drop 8)

/-- The queue ranges. -/
def State.queueRanges (s : State) : List (List Byte) := pieces 16 (s.secLE 0x30 8 4) ((s.sec 0x30).drop 16)

/-- STAGE of `HW_BOOT`. -/
def State.stage (s : State) : Nat := s.fld Reg.HW_BOOT 7 4

/-- The endpoint is the boot path: the ROM waits for a push, and no map is being applied (R85). -/
def State.pushPath (s : State) : Bool := s.board.pushing && decide (s.stage ≠ 5)

/-- The Rootlink link entries (R58); while the ROM waits for a Rootlink link, link 0 of engine 0, upstream, on lanes 88
to 91 at width 4 or on lane 88 at width 1 (R87). -/
def State.linkEntries (s : State) : List (List Byte) :=
  if s.stage = 2 then
    [[0#8, 0#8, 88#8, if s.fld (Reg.RTL_LINK_STATE 0) 5 3 = 1 then 1#8 else 4#8, 0#8, 0#8, 0#8, 0#8]]
  else pieces 8 (s.secLE 0x60 1 1) ((s.sec 0x60).drop 8)

/-- The ROOTLINK entry of link `l` (R58). -/
def State.linkEntry (s : State) (l : Nat) : Option (List Byte) := s.linkEntries.find? (fun e => byteN e 0 == l)

/-- Engine of link `l` (R58). -/
def State.linkEngine (s : State) (l : Nat) : Nat := ((s.linkEntry l).map (fun e => byteN e 1)).getD 0

/-- The safety entries (R56). -/
def State.safetyEntries (s : State) : List (List Byte) := pieces 16 (s.secLE 0x50 1 1) ((s.sec 0x50).drop 8)

/-- Role of quad `q` (lanes 4q to 4q + 3): R50; during STRUCTURE the boot path of R85 or R87. -/
def State.quadRole (s : State) (q : Nat) : Nat :=
  if s.stage = 2 then (if q = 22 then 5 else 0)
  else if s.pushPath then (if q = 4 then 2 else 0)
  else s.secLE 0x20 (8 * (q / 2) + q % 2) 1

/-- FEC and MAC of quad `q` (R50). -/
def State.quadFec (s : State) (q : Nat) : Nat := s.secLE 0x20 (8 * (q / 2) + 2) 1 / 4 ^ (q % 2) % 4

def State.quadMac (s : State) (q : Nat) : Nat := s.secLE 0x20 (8 * (q / 2) + 3) 1 / 4 ^ (q % 2) % 4

/-- PCIe entry `e`: byte `o` (R50); for a push, the endpoint as ×4 at up to 32 GT/s (R85). -/
def State.pcieByte (s : State) (e o : Nat) : Nat :=
  if s.pushPath then (if e = 2 then [1, 4, 5].getD o 0 else 0)
  else s.secLE 0x20 (96 + 8 * e + o) 1

/-- The DRAM ranges: base and size in MiB, and partition (R45). -/
def State.dramRanges (s : State) : List (Nat × Nat × Nat) :=
  (List.range (s.secLE 1 34 1)).map (fun i =>
    (s.secLE 1 (40 + 16 * i) 4, s.secLE 1 (44 + 16 * i) 4, s.secLE 1 (48 + 16 * i) 1))

/-- The area of `n` bytes at address `a` lies in DRAM of partition `p` (R536). -/
def State.inDramOf (s : State) (a n p : Nat) : Bool :=
  let o := a - dramBase
  let mib := 2 ^ 20
  let parts := s.dramRanges.map (fun r =>
    let lo := max o (r.1 * mib)
    let hi := min (o + n) ((r.1 + r.2.1) * mib)
    (hi - lo, r.2.2))
  decide (dramBase ≤ a ∧ o + n ≤ s.dramBytes)
    && parts.all (fun q => q.1 == 0 || q.2 == p)
    && (p == 0 || decide (n ≤ (parts.map (fun q => q.1)).foldl (· + ·) 0))

/-- The role straps as latched: 3 when the role is taken from the map (R33, R35). -/
def State.strapRole (s : State) : Nat := if s.flag Reg.HW_ROLE 2 then 3 else s.fld Reg.HW_ROLE 1 0

/-- Interval `r` meets none of `qs`. -/
def apart (r : Nat × Nat) (qs : List (Nat × Nat)) : Bool :=
  qs.all (fun q => decide (r.1 + r.2 ≤ q.1 ∨ q.1 + q.2 ≤ r.1))

/-- Each element of a list with its index and the elements before it. -/
def indexed {α : Type} (l : List α) : List (Nat × α × List α) :=
  (List.range l.length).filterMap (fun i => (l[i]?).map (fun a => (i, a, l.take i)))

/-- A test of a consistency check: whether it passes, and the section and offset in its body of the field that it is
about. Which field a failed check names is the model's choice (log 18). -/
abbrev FieldTest := Bool × Nat × Nat

/-- Core `i` is an enabled Glade. -/
def State.gladeOn (s : State) (i : Nat) : Bool := s.buses i != 0

/-- Check 1. -/
def State.roleTests (s : State) : List FieldTest :=
  [(s.strapRole == 3 || s.secLE 0x60 0 1 == s.strapRole, 0x60, 0)]

/-- Quotas of the first `n` Groves together. -/
def State.quotaUpTo (s : State) (n : Nat) : Nat := ((List.range n).map (fun g => s.secLE 0x70 g 1)).foldl (· + ·) 0

/-- The quotas of all Groves together. -/
def State.quotaSum (s : State) : Nat := s.quotaUpTo 16

/-- Check 2: it names the QUOTA that takes the sum above 48. -/
def State.quotaTests (s : State) : List FieldTest :=
  (List.range 16).map (fun g => (decide (s.quotaUpTo (g + 1) ≤ 48), 0x70, g))

/-- Check 3: pairs name two distinct enabled Glades with one structure, each Glade once. -/
def State.pairTests (s : State) : List FieldTest :=
  (List.range 16).flatMap (fun g => (List.range 8).map (fun i =>
    let glades := fun j => let b := s.groveByte g (8 + j); if b = 0 then [] else [b % 16, b / 16]
    let before := (List.range i).flatMap glades
    (match glades i with
      | [l, t] => l != t && s.gladeOn (16 * g + l) && s.gladeOn (16 * g + t)
        && s.gladeEntry (16 * g + l) == s.gladeEntry (16 * g + t) && !before.contains l && !before.contains t
      | _ => true, 0x11, 32 * g + 8 + i)))

/-- Check 4. -/
def State.memberTests (s : State) : List FieldTest :=
  (List.range 16).map (fun g =>
    let m := s.ticketMembers g
    ((List.range 16).all (fun k => !m.testBit k
      || (s.gladeOn (16 * g + k) && !(s.pairsOf g).any (fun p => p.2 == k)))
    && (!s.ticketMode g || !(List.range 16).any (fun k => s.gladeOn (16 * g + k)) || m != 0), 0x11, 32 * g + 16))

/-- Check 5. -/
def State.roleOctetTests (s : State) : List FieldTest :=
  (List.range 24).flatMap (fun q =>
    let r := s.quadRole q
    let o := q / 2
    [ ((r != 1 || o == 0 || o == 1 || o == 3 || o == 4) && (r != 2 || o == 2), 0x20, 8 * o + q % 2),
      ((s.quadFec q != 2 || r == 4) && (s.quadFec q == 0 || r == 3 || r == 4), 0x20, 8 * o + 2) ])

/-- Check 6. -/
def State.pcieTests (s : State) : List FieldTest :=
  [ (s.pcieByte 0 0 == 0 || [0, 1, 2, 3].any (fun q => s.quadRole q == 1), 0x20, 96),
    (s.pcieByte 1 0 == 0 || [6, 7, 8, 9].any (fun q => s.quadRole q == 1), 0x20, 104),
    (s.pcieByte 2 0 == 0 || s.quadRole 4 == 2, 0x20, 112),
    (s.pcieByte 2 0 == 0 || s.pcieByte 2 1 == 4 || s.quadRole 5 == 2, 0x20, 113) ]

/-- Check 7. -/
def State.macTests (s : State) : List FieldTest :=
  let eth := fun q => s.quadRole q == 3 || s.quadRole q == 4
  (List.range 24).map (fun q =>
    (if eth q then decide (((List.range (q + 1)).filter (fun p => eth p && s.quadMac p == s.quadMac q)).length ≤ 6)
      else s.quadMac q == 0, 0x20, 8 * (q / 2) + 3))

/-- Check 8. -/
def State.linkTests (s : State) : List FieldTest :=
  let ls := s.linkEntries
  let role := s.secLE 0x60 0 1
  let lanes := fun (e : List Byte) => (byteN e 2, byteN e 3)
  [(role != 0 || ls.isEmpty, 0x60, 1)]
  ++ (indexed ls).flatMap (fun p =>
    let e := p.2.1
    let up := byteN e 4 == 0
    [ (decide (((p.2.2.filter (fun f => byteN f 1 == byteN e 1)).length) < 12), 0x60, 8 + 8 * p.1 + 1),
      (byteN e 2 % byteN e 3 == 0
        && (List.range (byteN e 3)).all (fun i => decide (byteN e 2 + i < 96) && s.quadRole ((byteN e 2 + i) / 4) == 5)
        && apart (lanes e) (p.2.2.map lanes), 0x60, 8 + 8 * p.1 + 2),
      (!up || (role != 2 && (role != 1 || !p.2.2.any (fun f => byteN f 4 == 0))), 0x60, 8 + 8 * p.1 + 4) ])
  ++ [(role != 1 || ls.any (fun e => byteN e 4 == 0), 0x60, 1)]

/-- Check 9. -/
def State.rangeTests (s : State) : List FieldTest :=
  (indexed s.queueRanges).flatMap (fun p =>
    let e := p.2.1
    let o := 16 + 16 * p.1
    let lo := match p.2.2.getLast? with
      | some f => leN f 0 4 + leN f 4 4
      | none => 0
    let crossing := byteN e 11 % 2 == 1
    [ (decide (lo ≤ leN e 0 4), 0x30, o), (decide (leN e 0 4 + leN e 4 4 ≤ 1048576), 0x30, o + 4),
      (byteN e 8 != 0 || s.groveGetPart (byteN e 9) == (if crossing then byteN e 12 else byteN e 10), 0x30, o + 9),
      (!crossing || byteN e 12 != byteN e 10, 0x30, o + 12) ])

/-- Check 10. -/
def State.journalTests (s : State) : List FieldTest :=
  (indexed s.journalEntries).flatMap (fun p =>
    let e := p.2.1
    let o := 8 + 32 * p.1
    let seg := 2 ^ byteN e 4
    let base := leN e 16 8
    let size := leN e 24 8
    let disk := byteN e 3 == 0
    [ (!p.2.2.any (fun f => leN f 0 2 == leN e 0 2), 0x31, o),
      (!disk || (s.pcieByte (byteN e 5) 0 == 1 && s.pcieByte (byteN e 5) 3 == byteN e 2), 0x31, o + 5),
      (if disk then apart (base, size) ((p.2.2.filter (fun f => byteN f 3 == 0 && byteN f 5 == byteN e 5
            && byteN f 6 == byteN e 6 && leN f 8 4 == leN e 8 4)).map (fun f => (leN f 16 8, leN f 24 8)))
        else base % seg == 0 && s.inDramOf base size (byteN e 2), 0x31, o + 16),
      (size % seg == 0 && decide (2 * seg ≤ size) && (disk || decide (size ≤ 2 ^ 36)), 0x31, o + 24) ])

/-- Check 11. -/
def State.partitionTests (s : State) : List FieldTest :=
  let ok := fun p => decide (p < s.secLE 1 32 1)
  let eng := s.secLE 0x60 2 1
  let mib := fun (r : Nat × Nat × Nat) => (r.1, r.2.1)
  (List.range 16).map (fun g => (ok (s.groveGetPart g), 0x11, 32 * g))
  ++ (indexed s.journalEntries).map (fun p => (ok (byteN p.2.1 2), 0x31, 8 + 32 * p.1 + 2))
  ++ (indexed s.queueRanges).flatMap (fun p =>
    [(ok (byteN p.2.1 10), 0x30, 16 + 16 * p.1 + 10), (ok (byteN p.2.1 12), 0x30, 16 + 16 * p.1 + 12)])
  ++ (List.range 3).map (fun e => (ok (s.pcieByte e 3), 0x20, 96 + 8 * e + 3))
  ++ (List.range 4).map (fun m => (ok (s.secLE 0x20 (120 + 8 * m) 1), 0x20, 120 + 8 * m))
  ++ [(ok (eng % 4) && ok (eng / 4 % 4), 0x60, 2)]
  ++ (indexed s.dramRanges).flatMap (fun p =>
    let r := p.2.1
    [ (apart (mib r) (p.2.2.map mib), 1, 40 + 16 * p.1),
      (decide ((r.1 + r.2.1) * 2 ^ 20 ≤ s.dramBytes), 1, 44 + 16 * p.1), (ok r.2.2, 1, 48 + 16 * p.1) ])

/-- A signed 32-bit field. -/
def int32 (n : Nat) : Int := if n < 2 ^ 31 then n else (n : Int) - 2 ^ 32

/-- holdup_ns of R55, in 64-bit unsigned integers. -/
def State.holdupNs (s : State) : Nat :=
  let c := s.secLE 0x40 0 4
  let vt := s.secLE 0x40 0x14 4
  let vm := s.secLE 0x40 0x0C 4
  let e := (w64 c * (w64 (vt * vt) - w64 (vm * vm))).toNat
  e / (2 * s.secLE 0x40 0x10 4)

/-- Check 12. -/
def State.holdupTests (s : State) : List FieldTest :=
  let vt := s.secLE 0x40 0x14 4
  [ (s.quotaSum == 0 || decide (250000 ≤ s.holdupNs), 0x40, 0),
    (decide (s.secLE 0x40 0x0C 4 < vt)
      && decide ((vt : Int) * 1000 ≤ 1023 * (s.secLE 0x40 4 4 : Int) + int32 (s.secLE 0x40 8 4)), 0x40, 0x14) ]

/-- RUN_STATE and RETAIN_KEEP of domain `d` in the Stand Map (R54). -/
def State.mapDomain (s : State) (d : Nat) : Nat := s.secLE 0x40 (0x70 + d) 1

/-- The TALLY entries (R60). -/
def State.tallyEntries (s : State) : List (List Byte) :=
  pieces 8 ((s.sec 0x80).length / 8) (s.sec 0x80)

/-- Grove `g` has no enabled Glade, a quota of 0, no Grove-stored queues and no Tally route to it; a Tally route is one
with a non-zero mask (log 18). -/
def State.groveUnused (s : State) (g : Nat) : Bool :=
  !(List.range 16).any (fun k => s.gladeOn (16 * g + k)) && s.secLE 0x70 g 1 == 0
    && !s.queueRanges.any (fun e => byteN e 8 == 0 && byteN e 9 == g)
    && !s.tallyEntries.any (fun e => (byteN e 1 % 16 == g && leN e 2 2 != 0)
      || (byteN e 0 / 2 % 2 == 1 && byteN e 4 % 16 == g && leN e 6 2 != 0))

/-- Check 13. -/
def State.domainTests (s : State) : List FieldTest :=
  (List.range 64).map (fun d =>
    (if d < 4 ∨ d = 63 then s.mapDomain d % 4 == 0 && (d != 2 || (s.mapDomain 2).testBit 2)
      else if d < 36 then s.mapDomain d % 4 != 1 || s.groveUnused ((d - 4) % 16) else true, 0x40, 0x70 + d))

/-- Check 14. -/
def State.routeTests (s : State) : List FieldTest :=
  ((List.range s.tallyEntries.length).zip s.tallyEntries).flatMap (fun p =>
    let e := p.2
    let m := leN e 2 2
    let f := leN e 6 2
    [ (byteN e 0 % 2 == 0 || m != 0, 0x80, 8 * p.1 + 2), (byteN e 0 / 2 % 2 == 0 || f != 0, 0x80, 8 * p.1 + 6),
      (decide (4096 ≤ p.1) || m == 0 || f == 0
        || s.groveGetPart (byteN e 1 % 16) == s.groveGetPart (byteN e 4 % 16), 0x80, 8 * p.1 + 4) ])

/-- Highest junction limit the grade allows (R56). -/
def tempLimit : Int := if Config.gradeX then 125 else 105

/-- Check 15. -/
def State.mechTests (s : State) : List FieldTest :=
  (indexed s.safetyEntries).flatMap (fun q =>
    let e := q.2.1
    let o := 8 + 16 * q.1
    let m := byteN e 0
    let p := leN e 8 4
    [ (byteN e 1 == 1 || !(m == 1 || m == 2 || m == 6 || m == 9), 0x50, o + 1),
      (if m = 8 then decide (1 ≤ p ∧ p ≤ 1000000) else if m = 11 then decide (int32 p ≤ tempLimit) else p == 0,
        0x50, o + 8) ])

/-- Check 16. -/
def State.descTests (s : State) : List FieldTest :=
  [(s.inDramOf s.descBase (2 ^ 25) 0
    && s.journalEntries.all (fun e => byteN e 3 != 1
      || decide (leN e 16 8 + leN e 24 8 ≤ s.descBase ∨ s.descBase + 2 ^ 25 ≤ leN e 16 8)), 0x30, 0)]

/-- Step 6 of R66: the number of the first failed check, and the section and the offset in its body of the field that
it names. -/
def State.consistency (s : State) : Option (Nat × Nat × Nat) :=
  ([ (1, s.roleTests), (2, s.quotaTests), (3, s.pairTests), (4, s.memberTests), (5, s.roleOctetTests),
     (6, s.pcieTests), (7, s.macTests), (8, s.linkTests), (9, s.rangeTests), (10, s.journalTests),
     (11, s.partitionTests), (12, s.holdupTests), (13, s.domainTests), (14, s.routeTests), (15, s.mechTests),
     (16, s.descTests) ] : List (Nat × List FieldTest)).findSome? (fun c =>
      (c.2.find? (fun f => !f.1)).map (fun f => (c.1, f.2)))

/-! ### The whole check -/

/-- The sections of a list, as State holds them. -/
def sectionMap (ss : List MapSection) : SMap (List Byte) :=
  mapTypes.foldl (fun m t => if (ss.any (fun s => s.ty == t)) then smSet [] m t (bodyOf ss t) else m) []

/-- A piece of a list replaced. -/
def splice (b : List Byte) (o : Nat) (new : List Byte) : List Byte := b.take o ++ new ++ b.drop (o + new.length)

/-- The applied sections with Grove `g`'s entries replaced by a fragment's (R71). -/
def State.withFragment (s : State) (ss : List MapSection) (g : Nat) : State :=
  let m := smSet [] s.sections 0x10 (splice (s.sec 0x10) (128 * g) (bodyOf ss 0x10))
  let m := smSet [] m 0x11 (splice (s.sec 0x11) (32 * g) (bodyOf ss 0x11))
  let b := bodyOf ss 0x70
  let sb := s.sec 0x70
  let m := if b.isEmpty then m else smSet [] m 0x70 (splice (splice sb g (b.take 1)) (16 + g) ((b.drop 1).take 1))
  { s with sections := m }

/-- Where byte `o` of the body of section `ty` stands in the body of a fragment for Grove `g` (R71): its own entries, and
of SEEDBANK its QUOTA and GROUP_MAX. -/
def fragmentAt (g ty o : Nat) : Option Nat :=
  match ty with
  | 0x10 => if 128 * g ≤ o ∧ o < 128 * (g + 1) then some (o - 128 * g) else none
  | 0x11 => if 32 * g ≤ o ∧ o < 32 * (g + 1) then some (o - 32 * g) else none
  | 0x70 => some (o / 16)
  | _ => none

/-- A GRADES mask takes this device's grade (R45); one that takes both does so whichever the grade is (log 87). -/
def gradeFits (mask : Nat) : Bool :=
  (mask.testBit 0 && mask.testBit 1) || mask.testBit (if Config.gradeX then 1 else 0)

/-- Steps 1 to `upto` of R66 over an image supplied with `len` bytes: its sections, or the first failure. For a
fragment, `upto` 6 includes that it belongs to the applied image, names Grove `g` and keeps its PARTITION (R71), and
the consistency checks of the applied image with its entries replaced. DESIGN CHOICE (log 112): a fragment of another
image, for another Grove or with another PARTITION is a field out of range, 0x0F, found before the consistency
checks; step 5 takes the sections in image order; and a consistency failure about a section or an entry that the image
does not hold gives that section's TYPE and OFFSET 0. -/
def State.checkMap (s : State) (keys : KeySlots) (fragment : Bool) (g : Nat) (img : List Byte) (len upto : Nat) :
    Except MapError (List MapSection) :=
  match checkPreamble fragment img len with
  | some e => .error e
  | none =>
  let n := leN img 4 4
  match splitSections fragment n (n / 16 + 1) none 16 ((img.take n).drop 16) with
  | .error e => .error e
  | .ok ss =>
  match checkPresence fragment n ss with
  | some e => .error e
  | none =>
  let sigAt := bodyAt ss 0xF0
  match checkSignature keys (img.take (sigAt + 72)) (bodyOf ss 0xF0) with
  | some e => .error ⟨e.1, 0, 0xF0, sigAt + e.2⟩
  | none =>
  let h := bodyOf ss 0x01
  let hAt := bodyAt ss 0x01
  if leN h 0 2 ≠ 0x2560 then .error ⟨0x0C, 0, 1, hAt⟩
  else if gradeFits (byteN h 2) = false then .error ⟨0x0C, 0, 1, hAt + 2⟩
  else if 0x11 < byteN h 3 then .error ⟨0x0D, 0, 1, hAt + 3⟩
  else if upto ≤ 4 then .ok ss
  else
  match ss.findSome? (fun sec => (firstBad (sectionFields fragment sec.ty sec.body)).map (fun c => (c, sec))) with
  | some (c, sec) => .error ⟨c.1, 0, sec.ty, sec.start + 8 + c.2⟩
  | none =>
  if fragment = true ∧ byteN h 33 ≠ g then .error ⟨0x0F, 0, 1, hAt + 33⟩
  else if fragment = true ∧ (h.drop 8).take 16 ≠ ((s.sec 1).drop 8).take 16 then .error ⟨0x0F, 0, 1, hAt + 8⟩
  else if fragment = true ∧ byteN (bodyOf ss 0x11) 0 ≠ s.groveGetPart g then .error ⟨0x0F, 0, 0x11, bodyAt ss 0x11⟩
  else
    let cand := if fragment then s.withFragment ss g else { s with sections := sectionMap ss }
    let cand : State := { cand with board := { cand.board with pushing := false } }
    match cand.consistency with
    | some (c, ty, o) =>
      let at_ := if ss.any (fun x => x.ty == ty) then (if fragment then fragmentAt g ty o else some o) else none
      .error ⟨0x10, c, ty, (at_.map (fun k => bodyAt ss ty + k)).getD 0⟩
    | none => .ok ss

end Sys2Proof.Machine
end

