-- ==== Sys2Proof/Machine/PcieConfig.lean ====
section
/-! DEFINITION. PCI Express configuration space: the bridges of the root ports on virtual bus 0 (R438, R439), and the
endpoint's own function (R440, R443). The standard gives the registers; those that neither the manual nor log 76 gives
read as free values. -/

namespace Sys2Proof.Machine

/-! ### The root ports' bridges (R438) -/

def State.bridge (s : State) (c p : Nat) : Bridge := smGet Bridge.reset s.bridges (16 * c + p)

/-- First offset of the ECAM region in a root-port window (R439). -/
def ecamBase : Nat := 0x3FF0000000

/-- A request at window offset `o` goes through bridge `b`: a memory request into one of its windows, while its Command
register enables them, or a configuration request for a bus behind it. -/
def Bridge.takes (b : Bridge) (o : Nat) : Bool :=
  if ecamBase ≤ o then
    let bus := (o - ecamBase) / 2 ^ 20
    decide (0 < bus ∧ b.buses.toNat / 2 ^ 8 % 2 ^ 8 ≤ bus ∧ bus ≤ b.buses.toNat / 2 ^ 16 % 2 ^ 8)
  else
    let low := fun (r : BitVec 32) => r.toNat / 2 ^ 4 % 2 ^ 12
    let high := fun (r : BitVec 32) => r.toNat / 2 ^ 20
    let mib := o / 2 ^ 20
    b.command.getLsbD 1 && (decide (low b.memory ≤ mib ∧ mib ≤ high b.memory)
      || decide (low b.prefetch + b.baseUpper.toNat * 2 ^ 12 ≤ mib ∧ mib ≤ high b.prefetch + b.limitUpper.toNat * 2 ^ 12))

/-- The port of complex `c` that a request at window offset `o` goes through, where the bridges say so. -/
def State.portFor (s : State) (c o : Nat) : Option Nat :=
  (List.range (2 ^ s.pcieByte c 1)).find? (fun p => (s.bridge c p).takes o)

/-- A configuration request at window offset `o` is for virtual bus 0, the root complex's own. -/
def ownConfig (o : Nat) : Bool := decide (ecamBase ≤ o ∧ o < ecamBase + 2 ^ 20)

/-- The bridge on virtual bus 0 of complex `c` that a request at window offset `o` names: device p, function 0 is port
p (log 76). -/
def State.ownBridge (s : State) (c o : Nat) : Option Nat :=
  let p := (o - ecamBase) / 2 ^ 15
  if (o - ecamBase) / 2 ^ 12 % 8 = 0 ∧ p < 2 ^ s.pcieByte c 1 then some p else none

/-- Highest PCIe speed of entry `e` (R50), at most 16 GT/s without PCIE_32GT (R90). -/
def State.pcieMax (s : State) (e : Nat) : Nat := if s.accepted 12 || s.pushPath then s.pcieByte e 2 else min 4 (s.pcieByte e 2)

/-- Lanes of a port of entry `c`: R437 for a root complex; SHAPE itself for the endpoint (R440), ×4 as the boot path
(R85). -/
def State.pcieWidth (s : State) (c : Nat) : Nat :=
  if c = 2 then (if s.pushPath then 4 else s.pcieByte 2 1) else 16 / 2 ^ s.pcieByte c 1

/-- The word at register `r` of a bridge's configuration space, where enumeration sets it (type 1 header; log 76). -/
def Bridge.dword (b : Bridge) (r : Nat) : Option (BitVec 32) :=
  if r = 0x04 then some (0#16 ++ b.command)
  else if r = 0x18 then some b.buses
  else if r = 0x20 then some (b.memory &&& 0xFFF0FFF0#32)
  else if r = 0x24 then some ((b.prefetch &&& 0xFFF0FFF0#32) ||| 0x00010001#32)
  else if r = 0x28 then some b.baseUpper
  else if r = 0x2C then some b.limitUpper
  else if r = 0x108 then some b.aerMask
  else if r = 0x10C then some b.aerSeverity
  else none

/-- The capabilities of port `p` of complex `c` (R438) at register `r`: PCI Express, as a root port, at 0x40 with payloads
of 512 bytes, the speed and width of the port, ASPM L1 alone, and 10-bit tags; AER at 0x100, with the ECRC that
`LANE_PCIEc_CFG` turns on (places and layout: log 76). -/
def State.portCapability (s : State) (c p r : Nat) : Option (BitVec 32) :=
  let b := s.bridge c p
  let st := Reg.LANE_PCIE_STAT c p
  (([ (0x34, 0x40), (0x40, 0x00420010), (0x44, 0x8022), (0x48, b.control.toNat),
      (0x4C, s.pcieMax c + s.pcieWidth c * 2 ^ 4 + 0x00400800 + p * 2 ^ 24),
      (0x50, b.linkControl.toNat + s.fld st 8 6 * 2 ^ 16 + s.fld st 5 1 * 2 ^ 20),
      (0x64, 0x30000), (0x68, b.control2.toNat), (0x100, 0x00020001), (0x104, b.aer.toNat),
      (0x118, 0xA0 + b2n (s.flag (Reg.LANE_PCIE_CFG c) 1) * 0x140) ] : List (Nat × Nat)).find? (fun e => e.1 == r)).map
    (fun e => BitVec.ofNat 32 e.2)

/-- The word at register `r` of port `p`'s configuration space on virtual bus 0 of complex `c`, where this model holds
it. -/
def State.bridgeDword (s : State) (c p r : Nat) : Option (BitVec 32) :=
  match s.portCapability c p r with
  | some v => some v
  | none => (s.bridge c p).dword r

/-- The bridge with `v` written to register `r`; the bits of its AER status clear where 1 is written. -/
def Bridge.write (b : Bridge) (r : Nat) (v : BitVec 32) : Bridge :=
  if r = 0x04 then { b with command := v.truncate 16 }
  else if r = 0x18 then { b with buses := v }
  else if r = 0x20 then { b with memory := v }
  else if r = 0x24 then { b with prefetch := v }
  else if r = 0x28 then { b with baseUpper := v }
  else if r = 0x2C then { b with limitUpper := v }
  else if r = 0x48 then { b with control := v.truncate 16 }
  else if r = 0x50 then { b with linkControl := v.truncate 16 }
  else if r = 0x68 then { b with control2 := v.truncate 16 }
  else if r = 0x104 then { b with aer := b.aer &&& ~~~v }
  else if r = 0x108 then { b with aerMask := v }
  else if r = 0x10C then { b with aerSeverity := v }
  else b

/-- A word that is held, or a free one. -/
def State.heldOrFree (s : State) (w : Option (BitVec 32)) : State × BitVec 32 :=
  match w with
  | some v => (s, v)
  | none => let f := s.freeWord; (f.2, f.1.truncate 32)

/-- A read of `n` bytes of configuration space from register `r` on, within one or two words. -/
def State.configRead (s : State) (word : Nat → Option (BitVec 32)) (r n : Nat) : State × List Byte :=
  let lo := s.heldOrFree (word (r / 4 * 4))
  let hi := if r % 4 + n ≤ 4 then (lo.1, 0#32) else lo.1.heldOrFree (word (r / 4 * 4 + 4))
  (hi.1, ((bytesLE 4 lo.2.toNat ++ bytesLE 4 hi.2.toNat).drop (r % 4)).take n)

/-- The words that a write of bytes from register `r` on gives the registers concerned, given what they held. -/
def configWrites (word : Nat → Option (BitVec 32)) (r : Nat) (data : List Byte) : List (Nat × BitVec 32) :=
  let old := fun k => bytesLE 4 ((word k).getD 0#32).toNat
  let k := r / 4 * 4
  let b := splice (old k ++ old (k + 4)) (r % 4) data
  (k, BitVec.ofNat 32 (leN b 0 4)) :: (if r % 4 + data.length ≤ 4 then [] else [(k + 4, BitVec.ofNat 32 (leN b 4 4))])

/-- A read of `n` bytes on virtual bus 0 of complex `c`; a device that is not there is an Unsupported Request. -/
def State.bridgeRead (s : State) (c o n : Nat) : State × Except Nat (List Byte) :=
  match s.ownBridge c o with
  | none => (s, .error 1)
  | some p => let r := s.configRead (s.bridgeDword c p) (o % 2 ^ 12) n; (r.1, .ok r.2)

def State.bridgeWrite (s : State) (c o : Nat) (data : List Byte) : State :=
  match s.ownBridge c o with
  | none => s
  | some p =>
    let b := s.bridge c p
    let b := (configWrites (fun k => if k = 0x104 then some 0#32 else s.bridgeDword c p k) (o % 2 ^ 12) data).foldl (fun b w => b.write w.1 w.2) b
    { s with bridges := smSet Bridge.reset s.bridges (16 * c + p) b }

/-! ### Errors of a root port (R439) -/

/-- The port of complex `c` that an error at window offset `o` concerns: the one that the bridges name, otherwise any by
a free choice (log 30). -/
def State.errorPort (s : State) (c o : Nat) : Nat × State :=
  match s.portFor c o with
  | some p => (p, s)
  | none =>
    let k := 2 ^ s.pcieByte c 1
    if k = 1 then (0, s) else let f := s.freeWord; (f.1.toNat % k, f.2)

/-- Bits of Uncorrectable Error Status that a failed read sets in its root port: Poisoned TLP Received, or Completion
Timeout. The standard has the requester log nothing there for the other two (log 76). -/
def missAer : PcieMiss → BitVec 32
  | .poisoned => 0x1000#32
  | .timeout => 0x4000#32
  | _ => 0#32

/-- Detail of the bus error that a failed read answers (R439). -/
def missDetail : PcieMiss → Nat
  | .unsupported => 1
  | _ => 4

/-- An error of port `p` of complex `c` counted in its ERRORS, with what its AER capability logs of it (R438, R439). -/
def State.portError (s : State) (c p : Nat) (aer : BitVec 32) : State :=
  let b := s.bridge c p
  { s.satAdd (Reg.LANE_PCIE_STAT c p) 47 32 1 with
    bridges := smSet Bridge.reset s.bridges (16 * c + p) { b with aer := b.aer ||| aer } }

/-- An error of a request at window offset `o` of complex `c`, which its port counts and logs (R439, log 125). -/
def State.pcieError (s : State) (c o : Nat) (aer : BitVec 32) : State :=
  let p := s.errorPort c o
  p.2.portError c p.1 aer

/-- The first window offset of address `a` in complex `c`'s window. -/
def windowOffset (c a : Nat) : Nat := a - 0x8000000000 - c * 0x4000000000

/-- A read of `n` bytes at window offset `o` of complex `c`, which `reply` answers (R439): one on virtual bus 0 by the
bridge itself. A failure other than Unsupported Request is counted. -/
def State.windowRead (s : State) (c o n : Nat) (reply : PcieReply) : State × Except Nat (List Byte) :=
  if ownConfig o then s.bridgeRead c o n
  else
    let s : State := { s with out := .pcieRead c o n :: s.out }
    if n ≤ reply.data.length then (s, .ok (reply.data.take n))
    else if reply.miss = .unsupported then (s, .error 1)
    else (s.pcieError c o (missAer reply.miss), .error 4)

/-- What is left of a reply after `k` bytes of a read have been taken from it. -/
def restOf (r : PcieReply) (k : Nat) : PcieReply := { r with data := r.data.drop k }

/-- A write at window offset `o` of complex `c` (R439): sent while the link it goes to is UP, otherwise a failed posted
write, which its port logs as an Unsupported Request. Where the bridges name no port, and links are UP and others not, it
is either by a free choice (log 30). -/
def State.postPcie (s : State) (c o : Nat) (data : List Byte) : State :=
  if ownConfig o then s.bridgeWrite c o data
  else
    let up := fun p => s.flag (Reg.LANE_PCIE_STAT c p) 0
    let ports := List.range (2 ^ s.pcieByte c 1)
    let r := match s.portFor c o with
      | some p => (!up p, s)
      | none => if ports.all (fun p => !up p) then (true, s) else if ports.all up then (false, s) else s.freeBool
    if r.1 then r.2.pcieError c o 0x00100000#32 else { r.2 with out := .pcieWrite c o data :: r.2.out }

/-! ### The endpoint's function (R440, R443) -/

/-- The host's memory requests reach the BARs: the endpoint is up and its Command register enables memory, in D0. -/
def State.hostMemory (s : State) : Bool := s.msix.command.getLsbD 1 && !s.msix.d3

/-- A base address register of `size` bytes as it reads: 64-bit, its low bits fixed. -/
def barWord (size : Nat) (v : W64) : Nat := v.toNat / size * size + 4

/-- The word at register `r` of the endpoint's configuration space. The manual gives the identity (R440) and the BARs
(R85, R441); the places of the capabilities are the model's (log 76): Power Management at 0x40, MSI-X at 0x50, PCI
Express at 0x60, AER at 0x100. -/
def State.epDword (s : State) (r : Nat) : Option (BitVec 32) :=
  let m := s.msix
  let b0 := barWord (2 ^ 25) m.bars.1
  let b2 := barWord (2 ^ 17) m.bars.2.1
  let b4 := barWord (2 ^ 30) m.bars.2.2
  (([ (0x00, 0x25601E9D), (0x04, 0x00100000 + m.command.toNat), (0x08, 0x0B400011), (0x0C, 0),
      (0x10, b0 % 2 ^ 32), (0x14, b0 / 2 ^ 32), (0x18, b2 % 2 ^ 32), (0x1C, b2 / 2 ^ 32), (0x20, b4 % 2 ^ 32),
      (0x24, b4 / 2 ^ 32), (0x2C, s.fld Reg.HW_ID 19 16 * 2 ^ 16 + 0x1E9D), (0x34, 0x40),
      (0x40, 0x00035001), (0x44, if m.d3 then 0xB else 0x8),
      (0x50, 0x001F6011 + m.masked.toNat * 2 ^ 30 + m.enable.toNat * 2 ^ 31), (0x54, 0x18002), (0x58, 0x1C002),
      (0x60, 0x00020010), (0x6C, s.pcieMax 2 + s.pcieWidth 2 * 2 ^ 4),
      (0x100, 0x00020001), (0x104, m.aer.toNat) ] : List (Nat × Nat)).find? (fun e => e.1 == r)).map
    (fun e => BitVec.ofNat 32 e.2)

/-- `v` with its low or high half replaced. -/
def halfOf (v : W64) (high : Bool) (h : BitVec 32) : W64 :=
  if high then h ++ v.truncate 32 else (v >>> 32).truncate 32 ++ h

/-- `v` written to register `r` of the endpoint's configuration space; bits that are read only keep their value, and
those of the AER status clear where 1 is written. -/
def Msix.configure (m : Msix) (r : Nat) (v : BitVec 32) : Msix :=
  if r = 0x04 then { m with command := v.truncate 16 }
  else if r = 0x10 ∨ r = 0x14 then { m with bars := (halfOf m.bars.1 (r == 0x14) v, m.bars.2) }
  else if r = 0x18 ∨ r = 0x1C then { m with bars := (m.bars.1, halfOf m.bars.2.1 (r == 0x1C) v, m.bars.2.2) }
  else if r = 0x20 ∨ r = 0x24 then { m with bars := (m.bars.1, m.bars.2.1, halfOf m.bars.2.2 (r == 0x24) v) }
  else if r = 0x44 then { m with d3 := v.toNat % 4 == 3 }
  else if r = 0x50 then { m with masked := v.getLsbD 30, enable := v.getLsbD 31 }
  else if r = 0x104 then { m with aer := m.aer &&& ~~~v }
  else m

/-- A configuration request of the host, of bytes within one word, while the link is up (R440). -/
def State.hostConfig (s : State) (r : Nat) (req : HostReq) : State :=
  if s.flag (Reg.LANE_PCIE_STAT 2 0) 0 = false then s
  else match req with
    | .read n =>
      if 4096 ≤ r ∨ 4 < r % 4 + n then { s with out := .host 1 [] :: s.out }
      else let p := s.configRead s.epDword r n; { p.1 with out := .host 0 p.2 :: p.1.out }
    | .write data =>
      if 4096 ≤ r ∨ 4 < r % 4 + data.length then s
      else
        let ws := configWrites (fun k => if k = 0x104 then some 0#32 else s.epDword k) r data
        { s with msix := ws.foldl (fun m w => m.configure w.1 w.2) s.msix }

/-- A posted write that the endpoint does not take, reported through its AER capability as an Unsupported Request
(R85, R86). -/
def State.hostWriteUr (s : State) : State :=
  { s with out := .aer :: s.out, msix := { s.msix with aer := s.msix.aer ||| 0x00100000#32 } }

/-- A host request that no BAR takes: an Unsupported Request. -/
def State.hostUr (s : State) (req : HostReq) : State :=
  match req with
  | .read _ => { s with out := .host 1 [] :: s.out }
  | .write _ => s.hostWriteUr

end Sys2Proof.Machine
end

