-- ==== Sys2Proof/Machine/Lsu.lean ====
section
/-! DEFINITION. The LSU's triggers (R155 to R168), transactional loads and stores (R301 to R311, R318) and the answer
of a load. -/

namespace Sys2Proof.Machine

/-! ### Tickets (R318) -/

/-- The member after Glade `k` in ascending order, wrapping; `k` itself when there is no other. -/
def nextMember (members : BitVec 16) (k : Nat) : Nat :=
  (((List.range 16).map (fun d => (k + 1 + d) % 16)).find? (fun j => members.getLsbD j)).getD k

/-- Turns from the one awaited to the next one of Glade `k`. -/
def Txu.distance (x : Txu) (k : Nat) : Nat :=
  ((List.range 16).find? (fun d => iter d (nextMember x.members) x.turn == k)).getD 0

/-- The ticket of Glade `k`'s next turn action. -/
def Txu.ticketOf (x : Txu) (k : Nat) : Nat := (x.next + x.distance k) % 2 ^ 32

/-- Number of current members. -/
def Txu.size (x : Txu) : Nat := popcount 16 x.members.toNat

/-- The word at `w` as it stood before the window of Glade `k`'s ticket, when an application of the window changed
it (R318). -/
def Txu.snapshot (x : Txu) (k w : Nat) : Option CodeWord :=
  let n := x.ticketOf k
  (x.versions.find? (fun v => v.2.1 == w && decide ((n + 2 ^ 32 - v.1) % 2 ^ 32 < x.size)
    && n != v.1)).map (fun v => v.2.2)

/-! ### Transactional accesses -/

/-- The open or doomed transaction that core `c` acts on; a pair has one (R325). -/
def State.openTxn (s : State) (c : Nat) : Option Txn :=
  if c ≥ 256 then none
  else match s.txn (s.leaderOf c) with
    | some t => (match t.state with
      | .isOpen => some t
      | .doomed => some t
      | _ => none)
    | none => none

/-- An access of core `c` to global address `a` is transactional (R301, R302). -/
def State.isTransactional (s : State) (c a : Nat) (handler : Bool) : Bool :=
  !handler && (s.openTxn c).isSome && s.regionOf a == .groveMem (c / 16)

/-- The transaction of core `c` updated. -/
def State.updTxn (s : State) (c : Nat) (f : Txn → Txn) : State :=
  let i := s.leaderOf c
  match s.txn i with
  | some t => s.setTxn i (some (f t))
  | none => s

/-- The word at `w` that a transaction of core `c` reads is not there yet: an earlier ticket, which its snapshot
includes, was decided to write it and has not been applied (R318). -/
def State.snapshotWaits (s : State) (c w : Nat) : Bool :=
  let x := s.txu (c / 16)
  let n := x.ticketOf (s.leaderOf c % 16)
  match s.openTxn c with
  | none => false
  | some t =>
    s.ticketMode (c / 16) && !t.wset.any (fun e => e.1 == w)
      && (s.decidedTxns (c / 16)).any (fun p => p.2.wset.any (fun e => e.1 == w)
        && decide (x.size ≤ (n + 2 ^ 32 - p.2.ticket) % 2 ^ 32))

/-- The granule of word `w` enters the read set; a 513th dooms with CAP_READ (R303). -/
def Txn.readGranule (t : Txn) (w : Nat) : Txn :=
  if t.rset.contains (w / 64) then t
  else if t.rset.length ≥ 512 then t.doom 4
  else { t with rset := t.rset ++ [w / 64] }

/-- The value a transaction of core `c` reads from word `w` that is not in its write set (R311, R318). -/
def State.txnMemory (s : State) (c w : Nat) : State × ReadAns :=
  let x := s.txu (c / 16)
  let old := if s.ticketMode (c / 16) then x.snapshot (s.leaderOf c % 16) w else none
  match old with
  | some cw => (match decodeWord (s.detectOnly w) cw with
    | .ok v => (s, .ok (codeData v))
    | .corrected v _ => (s, .ok (codeData v))
    | .poisoned => (s, .err 5)
    | .uncorrectable => (s, .err 4))
  | none => s.readWord (coreRequester c) w

/-- Entry of the write set for word `w` set. -/
def Txn.setWord (t : Txn) (w : Nat) (v : W64) (poisoned : Bool) : Txn :=
  if t.wset.any (fun e => e.1 == w) then
    { t with wset := t.wset.map (fun e => if e.1 == w then (w, v, poisoned) else e) }
  else { t with wset := t.wset ++ [(w, v, poisoned)] }

/-- Word `w`, as read, with the bytes that the Glade's stores still in its buffer write to it (R167). -/
def Glade.overlay (x : Glade) (w : Nat) (v : W64) : W64 :=
  w64 (ofBytesLE (x.stores.foldl (fun bs e =>
    if e.addr / 8 * 8 = w then mergeBytes bs (e.addr - w) e.data else bs) (bytesLE 8 v.toNat)))

/-- What remains of a read of word `w` by a transaction of core `c` that could not be read: the dual-port rule's answer
taken, and its BUSY answers counted (R172). -/
def State.txnAnswered (s : State) (c w : Nat) : State :=
  if s.ticketMode (c / 16) && ((s.txu (c / 16)).snapshot (s.leaderOf c % 16) w).isSome then s
  else ((s.touch w).portAnswer (coreRequester c) false w).1

/-- One word's part of a transactional store (R309): a part of a word not yet in the write set reads it first, as the
Glade's own earlier stores leave it (R167), and a word that cannot be read enters poisoned, is recorded and counted as a
merge is (R170). -/
def State.txnStoreWord (s : State) (c a : Nat) (data : List Byte) : State :=
  let w := a / 8 * 8
  if data.length ≥ 8 then s.updTxn c (fun t => t.setWord w (w64 (ofBytesLE data)) false)
  else
    let merge := fun (v : W64) => w64 (ofBytesLE (mergeBytes (bytesLE 8 v.toNat) (a - w) data))
    match (s.openTxn c).bind (fun t => t.wset.find? (fun e => e.1 == w)) with
    | some (_, v, poisoned) =>
      s.updTxn c (fun t => if poisoned then t else t.setWord w (merge v) false)
    | none =>
      let s := s.updTxn c (fun t => t.readGranule w)
      match s.txnMemory c w with
      | (s', .ok v) => let v := (s.glade c).overlay w v; s'.updTxn c (fun t => t.setWord w (merge v) false)
      | (_, .err _) =>
        let s := s.txnAnswered c w
        let e := s.sramErr (coreRequester c) w 6
        let s := s.recordError e.1 { e.2 with syndrome := syndrome (s.codeAt w) }
        let s := (s.tallyInc (s.uncorrSource w) 1).memFinding 1 6 w none
        s.updTxn c (fun t => t.setWord w 0#64 true)

/-- A transactional store: discarded, the transaction doomed with CAP_WRITE where it would add a 257th word, with
CAP_READ where the words it merges with would add a 513th granule (R303). -/
def State.txnStore (s : State) (c a : Nat) (data : List Byte) : State :=
  match s.openTxn c with
  | none => s
  | some t =>
    let parts := splitWords a data
    let fresh := parts.filter (fun p => !t.wset.any (fun e => e.1 == p.1 / 8 * 8))
    let merged := ((fresh.filter (fun p => decide (p.2.length < 8))).map (fun p => p.1 / 64)).eraseDups
    let words := decide (256 < t.wset.length + fresh.length)
    let granules := decide (512 < t.rset.length + (merged.filter (fun m => !t.rset.contains m)).length)
    if words || granules then
      let s := if words then s.updTxn c (fun t => t.doom 3) else s
      if granules then s.updTxn c (fun t => t.doom 4) else s
    else parts.foldl (fun s p => s.txnStoreWord c p.1 p.2) s

/-! ### A load against the store buffer (R167, R168) -/

/-- Byte `a` of a buffered store. -/
def StoreEntry.byte (e : StoreEntry) (a : Nat) : Option Byte :=
  if e.addr ≤ a then e.data[a - e.addr]? else none

/-- Buffered stores earlier than the load that meet its bytes, oldest first. -/
def Glade.overlapping (x : Glade) (l : LoadFlight) : List StoreEntry :=
  x.stores.filter (fun e => decide (e.seq < l.seq)
    && decide (e.addr < l.addr + l.bytes ∧ l.addr < e.addr + e.data.length))

/-- How the load is served against the store buffer (R168). -/
inductive Served where
  | memory
  | forward (bs : List Byte)
  | wait
deriving DecidableEq, Repr

def Glade.served (x : Glade) (l : LoadFlight) : Served :=
  match (x.overlapping l).getLast? with
  | none => .memory
  | some e =>
    let bs := (List.range l.bytes).filterMap (fun k => e.byte (l.addr + k))
    if bs.length = l.bytes then .forward bs else .wait

/-- The words of a load. -/
def LoadFlight.words (l : LoadFlight) : List Nat :=
  (List.range l.bytes).map (fun k => (l.addr + k) / 8 * 8)

/-- How core `c`'s load is served (R167, R168): a transactional load takes a word of the write set from there, since the
transactional store to it is younger than any store in the buffer (R309), and waits for the words of its snapshot
(R318). -/
def State.servedFor (s : State) (c : Nat) (l : LoadFlight) : Served :=
  let x := s.glade c
  match s.openTxn c with
  | some t =>
    if !l.txn then x.served l
    else if l.words.any (s.snapshotWaits c) then .wait
    else
      let inSet := fun w => t.wset.any (fun e => e.1 == w)
      if l.words.all inSet then .memory
      else if l.words.any inSet then (if (x.overlapping l).isEmpty then .memory else .wait)
      else x.served l
  | none => x.served l

/-- The result of a PROBE is due at the position and not there yet (R110, R176, R304). -/
def Glade.probeOwed (x : Glade) : Bool :=
  x.qpuPend.any (fun d => d.kind == .probe && d.handler == x.inHandler && decide (d.pos ≤ x.bank.pos))

/-- The Memory Reads of load `l` of core `c` go to the window of complex `k`, once no store in the buffer forwards to it
or holds it back (R168, R175, R439). -/
def State.askLoad (s : State) (c k : Nat) (l : LoadFlight) : State :=
  if s.isTrailing c || s.servedFor c l != .memory || (s.glade c).heldBack l.seq then s
  else
    let asks := (splitWords (windowOffset k l.addr) (List.replicate l.bytes 0#8)).map
      (fun (p : Nat × List Byte) => Out.pcieRead k p.1 p.2.length)
    let s : State := { s with out := asks.reverse ++ s.out }
    s.updAsync c (fun x => { x with
      loads := x.loads.map (fun m => if m.seq == l.seq then { m with asked := true } else m) })

/-- A load of address `a` asks a root-port window, beyond the bridges of virtual bus 0 (R439). -/
def State.asksOutside (s : State) (a : Nat) : Bool :=
  match s.regionOf a with
  | .pcie k => !ownConfig (windowOffset k a)
  | _ => false

/-- The loads of core `c` from root-port windows go out in program order (R175). -/
def State.askPcie (s : State) (c : Nat) : State :=
  (s.glade c).loads.foldl (fun s _ =>
    match (s.glade c).loads.find? (fun m => !m.asked && s.asksOutside m.addr) with
    | some l => (match s.regionOf l.addr with
      | .pcie k => s.askLoad c k l
      | _ => s)
    | none => s) s

/-! ### The trigger -/

/-- Access address of an LSU trigger, before R24 names its storage (R158). -/
def Glade.lsuAt (x : Glade) (f : LsuForm) (t : W64) : W64 := (lsuAddress f x.bank.lsuA x.bank.lsuX t).1

/-- Data of a control write that the access check looks at: the store data. -/
def Glade.storeData (x : Glade) (op : LsuOp) : List Byte := (bytesLE 8 x.bank.lsuB.toNat).take op.bytes

/-- An indexed trigger value outside 1, 2, 4 and 8 (R158). -/
def lsuRange (f : LsuForm) (t : W64) : Bool :=
  f == .indexed && t != 1#64 && t != 2#64 && t != 4#64 && t != 8#64

/-- BUS_ERROR detail of an LSU trigger, checked in its bundle (R27, R164). -/
def State.lsuFault (s : State) (c : Nat) (x : Glade) (op : LsuOp) (f : LsuForm) (t : W64) : Option Nat :=
  s.accessCheck (coreRequester c) op.isStore (x.lsuAt f t).toNat op.bytes x.bank.lsuB

/-- Storage address `a` lies in core `c`'s own IMEM or DMEM. -/
def State.isLocal (s : State) (c a : Nat) : Bool :=
  match s.regionOf a with
  | .imem i => i == c
  | .dmem i => i == c
  | .hwMem => c == 256
  | _ => false

/-- Entries of the store buffer that a store occupies (R165); a transactional store takes none (R176). -/
def State.entriesFor (s : State) (c : Nat) (x : Glade) (op : LsuOp) (f : LsuForm) (t : W64) : Nat :=
  let a := canon (coreRequester c) (x.lsuAt f t).toNat
  if !op.isStore || s.isTransactional c a x.inHandler then 0
  else (splitWords a (x.storeData op)).length

/-- The trigger's bundle waits: for room in the store buffer (R165); and a transactional store waits until no load is
unanswered, so that a precise error finds nothing to take back, and until its snapshot's words are there, so that the
word it merges with holds them (R318, log 9). -/
def State.lsuWaits (s : State) (c : Nat) (x : Glade) (op : LsuOp) (f : LsuForm) (t : W64) : Bool :=
  let a := canon (coreRequester c) (x.lsuAt f t).toNat
  decide (x.stores.length + s.entriesFor c x op f t > 8)
    || (op.isStore && s.isTransactional c a x.inHandler && (!x.loads.isEmpty
      || (splitWords a (x.storeData op)).any (fun p => decide (p.2.length < 8) && s.snapshotWaits c (p.1 / 8 * 8))))

/-- The base after the access, in `LSU.A`, and for PI and PD in `LSU.AQ` (R159). -/
def Glade.lsuBase (x : Glade) (f : LsuForm) (t : W64) : Glade :=
  let base := (lsuAddress f x.bank.lsuA x.bank.lsuX t).2
  x.updBank (fun b => { b with
    lsuA := base
    lsuAQ := if f = .postInc ∨ f = .preDec then base else b.lsuAQ })

/-- The range of a CKU block in flight meets the bytes of a store (R147). -/
def LongOp.meets (c : Nat) (o : LongOp) (a n : Nat) : Bool :=
  let b := canon (coreRequester c) o.a.toNat
  decide (a < b + o.t.toNat ∧ b < a + n)

/-- An LSU trigger of core `c` that passed its checks: a load is in flight until it is answered; a store enters the
store buffer, or the write set of the transaction it belongs to. The trailing Glade of a pair performs no store
outside its own memories (R496). -/
def State.doLsu (s : State) (c : Nat) (op : LsuOp) (f : LsuForm) (t : W64) (bus : Nat) : State :=
  let x := s.glade c
  let a := canon (coreRequester c) (x.lsuAt f t).toNat
  let txn := s.isTransactional c a x.inHandler
  let y := x.lsuBase f t
  let y := { y with opSeq := y.opSeq + 1 }
  if op.isStore then
    let data := x.storeData op
    let y := { y with ckuOp := y.ckuOp.map (fun o =>
      if o.meets c a data.length then { o with spoiled := true } else o) }
    if s.isTrailing c && !s.isLocal c a then s.setGlade c y
    else if txn then (s.setGlade c y).txnStore c a data
    else
      let new := (splitWords a data).map (fun p => (⟨x.opSeq, p.1, p.2, x.bank.pos, x.inHandler⟩ : StoreEntry))
      s.setGlade c { y with
        stores := y.stores ++ new
        undoCount := if s.isLocal c a && (s.pairOf c).isSome then y.undoCount + 1 else y.undoCount }
  else
    let y := y.addDue .loadWait
    (s.setGlade c { y with
      loads := y.loads ++ [⟨x.opSeq, x.bank.pos, x.inHandler, a, (x.lsuAt f t).toNat,
        op.bytes, op.signed, txn, bus, false, none⟩] }).askPcie c

/-! ### The answer (R162) -/

/-- A transactional load of one word: its granule enters the read set; the write set's word where there is one, a
poisoned one failing with 0x05 (R309). -/
def State.txnLoadWord (s : State) (c w : Nat) : State × ReadAns :=
  let s := s.updTxn c (fun t => t.readGranule w)
  match (s.openTxn c).bind (fun t => t.wset.find? (fun e => e.1 == w)) with
  | some (_, v, poisoned) => (s, if poisoned then .err 5 else .ok v)
  | none => s.txnMemory c w

/-- The bytes of a load read from memory, `ps` being what the dual-port rule answers to each word; a transactional load
from its view (R309). -/
def State.loadMemory (s : State) (c : Nat) (l : LoadFlight) (ps : List PortAnswer) :
    State × Except Nat (List Byte) :=
  s.onPorts ps (fun s => s.gather l.addr l.bytes (fun s w =>
    if l.txn then s.txnLoadWord c w else s.readWordOf (coreRequester c) l.addr l.bytes w))

/-- The load's result on its way to `LSU.Q` of the bank that triggered it. -/
def Glade.answerLoad (x : Glade) (l : LoadFlight) (v : W64) : Glade :=
  let x := { x with loads := x.loads.filter (fun m => m.seq != l.seq) }
  x.updBankOf l.handler (fun b => { b with
    due := replaceDue (fun d => d.pos == l.pos + 1 && d.val == .loadWait) (.lsu v) b.due })

/-- Core `c`'s load answered with `v`. -/
def State.answerWith (s : State) (c : Nat) (l : LoadFlight) (v : W64) : State :=
  let s := s.updLate c (fun x => x.answerLoad l v)
  { s with snaps := s.snaps.filter (fun p => !(p.1 == c && p.2.1 == l.pos && p.2.2.1 == l.handler)) }

/-- The copy of core `c` kept from before the bundle at `pos`. -/
def State.snapOf (s : State) (c pos : Nat) (handler : Bool) : Option Glade :=
  (s.snaps.find? (fun p => p.1 == c && p.2.1 == pos && p.2.2.1 == handler)).map (fun p => p.2.2.2)

/-- Core `c` as it stood before a bundle, `y`, except for what its fetch unit has counted (R153); its copies are
dropped. -/
def State.backTo (s : State) (c : Nat) (y : Glade) : State :=
  let x := s.glade c
  let s := s.setGlade c { y with cntFetched := x.cntFetched, cntMispredict := x.cntMispredict }
  { s with snaps := s.snaps.filter (fun p => p.1 != c) }

/-- A load that fails: the Glade as it stood before bundle k, and the precise BUS_ERROR (R120, R162); in a pair the
error waits for the seal (R498). Without a kept copy (a trigger given alone) the load is dropped first. -/
def State.failLoad (s : State) (c : Nat) (l : LoadFlight) (detail : Nat) : State :=
  let y := match s.snapOf c l.pos l.handler with
    | some y => y
    | none => (s.glade c).answerLoad l (s.glade c).bank.lsuQ
  let s := s.backTo c { y with loads := [] }
  if (s.pairOf c).isSome then s.updGlade c (fun x => { x with loadFault := some (detail, l.named, l.bus) })
  else s.raise c { Cause.of 3 detail with bus := l.bus, addr := l.named }

end Sys2Proof.Machine
end

