-- ==== Sys2Proof/Machine/Qpu.lean ====
section
/-! DEFINITION. The QPU's triggers (R275 to R285, R287, R289, R293, R299), the streaming of read packets (R281), and the
operations kept until the Glade's earlier stores have drained (R176). -/

namespace Sys2Proof.Machine

/-- Queue and cursor of a queue specification (R276). -/
def specQueue (v : W64) : Nat := field v 19 0

def specCursor (v : W64) : Nat := field v 21 20

/-- The operation names a write cursor. -/
def QpuOp.writes : QpuOp → Bool
  | .put => true
  | .putl => true
  | .putt => true
  | .abandon => true
  | _ => false

/-- The specification of a trigger: `QPU.A` for PUT, PUTL and PUTT, the trigger value otherwise (R275). -/
def Glade.qpuSpec (x : Glade) (op : QpuOp) (t : TWord) : W64 :=
  match op with
  | .put => x.qpuA
  | .putl => x.qpuA
  | .putt => x.qpuA
  | _ => t.data

/-- Read and write packets of Glade `i`'s cursors; a pair uses its leading Glade's (R291). -/
def State.readPkt (s : State) (i k : Nat) : Option ReadPkt := smGet none (s.glade (s.leaderOf i)).reads k

def State.writePkt (s : State) (i k : Nat) : Option WritePkt := smGet none (s.glade (s.leaderOf i)).writes k

def State.setRead (s : State) (i k : Nat) (r : Option ReadPkt) : State :=
  s.updAsync (s.leaderOf i) (fun x => { x with reads := smSet none x.reads k r })

def State.setWrite (s : State) (i k : Nat) (w : Option WritePkt) : State :=
  s.updAsync (s.leaderOf i) (fun x => { x with writes := smSet none x.writes k w })

/-- A tag that R12 reserves. -/
def reservedTag (t : BitVec 4) : Bool :=
  !(t == 0#4 || t == 1#4 || t == 2#4 || t == 3#4 || t == 8#4 || t == 9#4)

/-- OPERAND_RANGE of a QPU trigger of core `i` (R178, R276, R277, R284). -/
def State.qpuRange (s : State) (i : Nat) (x : Glade) (op : QpuOp) (t : TWord) : Bool :=
  let v := x.qpuSpec op t
  let q := specQueue v
  let k := specCursor v
  let openWrite := s.writePkt i k
  field v 63 22 != 0
    || ((s.queueInfo q).dram && decide (63 < x.qpuRD.toNat))
    || (match op with
      | .deq => (match s.readPkt i k with | some r => !r.lost && r.queue != q | none => false)
      | .skip => (match s.readPkt i k with | some r => !r.lost && r.queue != q | none => false)
      | .depth => false
      | .flush => false
      | _ => (match openWrite with | some w => w.queue != q | none => false))
    || (op == .putt && (t.tag == 1#4 || t.tag == 3#4) && openWrite.isSome)

/-- The trigger is refused at a Firebreak (R31, R278). -/
def State.qpuRefused (s : State) (i : Nat) (x : Glade) (op : QpuOp) (t : TWord) : Bool :=
  let n := s.queueInfo (specQueue (x.qpuSpec op t))
  s.groveGetPart (i / 16) != (if op.writes then n.part else n.deq)

/-- What a word written to a cursor does, by its trigger and tag (R284). -/
inductive PutAct where
  | append (close : Bool)
  | abandon
  | nothing
deriving DecidableEq, Repr

def putAct (op : QpuOp) (tag : BitVec 4) : PutAct :=
  match op with
  | .put => .append false
  | .putl => .append true
  | .abandon => .abandon
  | _ =>
    if tag = 2#4 ∨ tag = 3#4 then .append true
    else if tag = 8#4 then .nothing
    else if tag = 9#4 then .abandon
    else .append false

/-- The next word of Glade `i`'s packet on cursor `k` of queue `q` needs a cell. -/
def State.needsCell (s : State) (i k q : Nat) : Bool :=
  match s.writePkt i k with
  | none => s.queueCode q == 0
  | some w => w.status == 0 && decide (w.words.length < 2048) && (wordPlace (w.words.length + 1)).1 == w.cells.length

/-- The transaction that a packet or record opened now by Glade `i` belongs to; none from the handler bank (R301,
R302). -/
def State.joinTxn (s : State) (i : Nat) : Option Txn :=
  if (s.glade (s.leaderOf i)).inHandler then none else s.openTxn i

/-- The bundle of a PUT, PUTL or PUTT waits for a cell: FULL_MODE WAIT and a pool that has cells. A wait that has begun
ends only when a cell can be taken (R287). -/
def State.putWaits (s : State) (i : Nat) (x : Glade) (op : QpuOp) (t : TWord) : Bool :=
  let v := x.qpuSpec op t
  let q := specQueue v
  let d := s.peekDesc q
  op.writes && match putAct op t.tag with
  | .append _ =>
    s.queueWaits q || (x.cellWait || (s.needsCell i (specCursor v) q && !d.drop && (s.poolPlace (s.queueInfo q).pool).2 != 0))
      && (match s.cellFor q with | .error _ => true | .ok _ => false)
      && !((s.writePkt i (specCursor v)).isNone && (match s.joinTxn i with | some t => decide (t.packetCount ≥ 16) | none => false))
  | _ => false

/-- The close status word (R285). -/
def qpuStatus (code len seq : Nat) : W64 :=
  w64 (code % 16 + (len % 4096) * 2 ^ 16 + (if code = 0 then (seq % 2 ^ 32) * 2 ^ 32 else 0))

/-- A packet opened for queue `q` on cursor `k` (R282, R289, R303): it joins the transaction the Glade has open, a
seventeenth being discarded from its open. -/
def State.openWrite (s : State) (i k q : Nat) : State :=
  let new := fun status txn => (⟨q, [], [], status, txn⟩ : WritePkt)
  let s := s.touchDesc q
  match s.joinTxn i with
  | some t =>
    if t.packetCount ≥ 16 then (s.updTxn i (fun t => t.doom 5)).setWrite i k (some (new 9 false))
    else (s.updTxn i (fun t => { t with packetCount := t.packetCount + 1 })).setWrite i k
      (some (new (s.queueCode q) true))
  | none => s.setWrite i k (some (new (s.queueCode q) false))

/-- The operation that Glade `x` would keep now. -/
def Glade.pendOf (x : Glade) (bus : Nat) (dram : Bool) (kind : PendKind) : QpuPend :=
  ⟨x.opSeq, x.bank.pos, x.inHandler, bus, kind, dram, x.qpuRD.toNat % 64, false⟩

/-- An operation kept until it may take effect: its result is awaited in its port, or its register marked (R176). -/
def Glade.deferQpu (x : Glade) (d : QpuPend) : Glade :=
  let x := match d.kind with
    | .stub _ _ => x
    | .abort _ => x
    | .free _ => x
    | .probe => x
    | .jau _ => x.addDue .jauHeld
    | .answer _ none => if d.dram then x.setScore d.rd true else x
    | _ => if d.dram then x.setScore d.rd true else x.addDue .qpuWait
  { x with qpuPend := x.qpuPend ++ [d], opSeq := x.opSeq + 1 }

/-- An operation of core `i` kept; before a DEQ that may still fail its transaction is kept too (R120). Once for a pair,
and awaited by both Glades (R291). -/
def State.keepQpu (s : State) (i bus : Nat) (dram : Bool) (kind : PendKind) : State :=
  let d := (s.glade i).pendOf bus dram kind
  let l := s.leaderOf i
  let x := s.txu (l / 16)
  let s := if d.precise && decide (l < 256) then
      s.setTxu (l / 16) { x with kept := x.kept ++ [(l % 16, d.seq, s.txn l)] }
    else s
  (s.receivers i).foldl (fun s j => s.updGlade j (fun x => x.deferQpu (x.pendOf bus dram kind))) s

/-- The cells of a packet that Glade `i` discards become free: at once (R285), or once no DEQ before can fail (R120). -/
def State.discardPacket (s : State) (i : Nat) (w : WritePkt) : State :=
  if (s.glade i).heldBack (s.glade i).opSeq then s.keepQpu i 0 false (.free w) else s.freeCells w.queue w.cells

/-- A packet discarded with close status `code`: its cells are freed, its cursor stays bound (R285). -/
def State.discardWrite (s : State) (i k : Nat) (w : WritePkt) (code : Nat) : State :=
  (s.discardPacket i w).setWrite i k (some { w with cells := [], status := code })

/-- Word `v` appended to the open packet of cursor `k` (R282, R285, R287). A LINK word that cannot be written breaks the
queue, and the packet is discarded (R299). -/
def State.putWord (s : State) (i k : Nat) (v : W64) : State :=
  match s.writePkt i k with
  | none => s
  | some w =>
    let n := w.words.length + 1
    let w' := { w with words := w.words ++ [v] }
    if w.status ≠ 0 then s.setWrite i k (some w')
    else if n > 2048 then s.discardWrite i k w' 4
    else match s.appendWord w.queue w.cells n v with
      | .ok s cells => s.setWrite i k (some { w' with cells := cells })
      | .broken s => s.setWrite i k (some { w' with cells := [], status := 5 })
      | .noCell e =>
        let d := s.peekDesc w.queue
        let empty := (s.poolPlace (s.queueInfo w.queue).pool).2 = 0
        s.discardWrite i k w' (if empty then 3 else if e = .limit ∧ d.drop = true then 1 else 3)

/-- What a write trigger leads to: nothing, a status, or the packet it closed, to be linked or freed (R282, R285). -/
inductive PutAns where
  | nothing
  | status (w : W64)
  | link (w : WritePkt)
  /-- the packet of an ABANDON, if one was open, and its status -/
  | abandon (p : Option WritePkt) (w : W64)
deriving DecidableEq, Repr

/-- The packet of cursor `k` closed: answered with its error, held by the transaction, or to be linked (R285, R289). -/
def State.closePut (s : State) (i k : Nat) : State × PutAns :=
  match s.writePkt i k with
  | none => (s, .status (qpuStatus 6 0 0))
  | some w =>
    let len := w.words.length
    let s := s.setWrite i k none
    let failed := fun (s : State) code =>
      let s := if w.txn ∧ 1 ≤ code ∧ code ≤ 5 then s.updTxn i (fun t => { t with queueFail := true }) else s
      (s, PutAns.status (qpuStatus code len 0))
    if w.status ≠ 0 then failed s w.status
    else if !w.txn then (s, .link w)
    else if s.queueCode w.queue ≠ 0 then failed (s.discardPacket i w) (s.queueCode w.queue)
    else (s.updTxn i (fun t => { t with packets := t.packets ++ [{ w with status := 7 }] }),
      .status (qpuStatus 7 len 0))

/-- A closed packet linked, or its cells freed where its queue takes none now; its close status (R285, R288). SRC is the
Glade, or the leading Glade of the pair. -/
def State.linkPut (s : State) (i : Nat) (w : WritePkt) : State × W64 :=
  let s := s.touchDesc w.queue
  let len := w.words.length
  let code := s.queueCode w.queue
  if code ≠ 0 then (s.freeCells w.queue w.cells, qpuStatus code len 0)
  else
    match s.linkPacket w.queue w.cells len false false (s.leaderOf i) 0 with
    | (s, some seq) => (s, qpuStatus 0 len seq)
    | (s, none) => (s, qpuStatus 5 len 0)

/-- PUT, PUTL, PUTT and ABANDON (R282 to R285). -/
def State.qpuWrite (s : State) (i : Nat) (op : QpuOp) (spec : W64) (t : TWord) : State × PutAns :=
  let q := specQueue spec
  let k := specCursor spec
  match putAct op t.tag with
  | .nothing => (s, .status (qpuStatus 8 0 0))
  | .abandon =>
    match s.writePkt i k with
    | some w => (s.setWrite i k none, .abandon (some w) (qpuStatus 6 w.words.length 0))
    | none => (s, .abandon none (qpuStatus 6 0 0))
  | .append close =>
    let s := if (s.writePkt i k).isNone then s.openWrite i k q else s
    let s := s.putWord i k t.data
    if close then s.closePut i k else (s, .nothing)

/-! ### Dequeue -/

/-- What a DEQ delivers: a word with the header when it opened the packet, or an error of a word (R299). -/
inductive DeqAns where
  | word (w : TWord) (header : Option W64)
  | bad (detail addr : Nat)
deriving DecidableEq, Repr

/-- Word `n` of packet `r` delivered: the cell it ends is freed, and the last word closes the cursor (R279). -/
def State.deliver (s : State) (i k : Nat) (r : ReadPkt) (w : BufWord) (header : Option W64) : State × DeqAns :=
  let n := r.nextWord
  let len := field r.header 11 0
  let cell := (wordPlace n).1
  let endsCell := n = len ∨ (wordPlace (n + 1)).1 ≠ cell
  let first := (r.cells.take 1)
  let s := if endsCell then s.freeCells r.queue first else s
  let r := if endsCell then { r with cells := r.cells.drop 1 } else r
  let s := s.setRead i k (if n = len then none else some { r with nextWord := n + 1, buf := r.buf.drop 1 })
  match w with
  | .data v => (s, .word ⟨v, tagOf r.header n⟩ header)
  | .bad d a => (s, .bad d a)
  | .gone => (s, .word ⟨0#64, 8#4⟩ none)

/-- The packet of cursor `k` still holds, but its next word has not been streamed: the DEQ waits for it (R281). -/
def State.deqWaits (s : State) (i : Nat) (t : W64) : Bool :=
  match s.readPkt i (specCursor t) with
  | some r => !r.lost && r.buf.isEmpty
  | none => false

/-- DEQ (R279, R280, R283). -/
def State.deq (s : State) (i : Nat) (t : W64) : State × DeqAns :=
  let q := specQueue t
  let k := specCursor t
  let nv : DeqAns := .word ⟨0#64, 8#4⟩ none
  match s.readPkt i k with
  | some r =>
    if r.lost then (s.setRead i k none, nv)
    else match r.buf with
      | .gone :: _ => ((s.freeCells r.queue r.cells).setRead i k none, nv)
      | w :: _ => s.deliver i k r w none
      | [] => (s, nv)
  | none =>
    if !s.deqReady q then ((s.getDesc q).1, nv)
    else match s.openReach q with
      | (s, none) => (s, nv)
      | (s, some (h, cells)) =>
        let r := s.pktWord cells 1
        let pkt : ReadPkt := {
          queue := q
          header := h
          cell := cells.getD 0 0
          nextStream := 2
          nextWord := 1
          cells := cells
          buf := []
          lost := false }
        r.1.deliver i k { pkt with buf := [r.2] } r.2 (some h)

/-- SKIP: the rest of the open read packet discarded; the words discarded (R275, R279). -/
def State.skip (s : State) (i : Nat) (t : W64) : State × W64 :=
  let k := specCursor t
  match s.readPkt i k with
  | some r => if r.lost then (s, 0#64)
    else ((s.freeCells r.queue r.cells).setRead i k none, w64 (field r.header 11 0 + 1 - r.nextWord))
  | none => (s, 0#64)

/-- The LINK word that leads to the cell of the next word to stream of packet `r` is read as that cell is entered; false
where it fails, or leads nowhere (R299). `j`: the cell's place among those of `r` still held. -/
def State.enterCell (s : State) (r : ReadPkt) (j : Nat) : State × Bool :=
  if (wordPlace r.nextStream).2 ≠ 1 ∨ j = 0 then (s, true)
  else match r.cells[j]? with
    | none => (s, false)
    | some cell =>
      match s.readLinkWord r.queue (r.cells.getD (j - 1) 0) true with
      | (s, some next) => if next = cell then (s, true) else (s.breakQueue r.queue, false)
      | (s, none) => (s.breakQueue r.queue, false)

/-- One word of cursor `k`'s packet streamed into its 32-word buffer (R281); behind a LINK word that fails the buffer ends
(R299). -/
def State.streamWord (s : State) (i k : Nat) : State :=
  match s.readPkt i k with
  | none => s
  | some r =>
    if r.lost ∨ r.buf.length ≥ 32 ∨ r.buf.contains .gone ∨ field r.header 11 0 < r.nextStream ∨ s.queueWaits r.queue = true
      then s
    else
      let p := wordPlace r.nextStream
      let j := p.1 - (wordPlace r.nextWord).1
      match s.enterCell r j with
      | (s, false) => s.setRead i k (some { r with buf := r.buf ++ [.gone] })
      | (s, true) =>
        let a := r.cells.getD j 0 + 8 * p.2
        let w := s.qmRead a
        let b : BufWord := match w.2 with
          | .ok v => .data v
          | .err d => .bad d a
        w.1.setRead i k (some { r with buf := r.buf ++ [b], nextStream := r.nextStream + 1 })

/-! ### The trigger -/

/-- What an operation answers: its result, with the header for `QPU.H`, or the error of a word (R275, R299). -/
inductive QpuAns where
  | result (w : Option TWord) (header : Option W64)
  | bad (detail addr : Nat)
deriving DecidableEq, Repr

/-- The probe word (R307). -/
def State.probeWord (s : State) (i : Nat) : W64 :=
  match s.txn (s.leaderOf i) with
  | none => 0#64
  | some t =>
    let st := match t.state with
      | .isOpen => 1
      | .doomed => 2
      | _ => 3
    let code := if t.state = .doomed then t.code else 0
    w64 (st + code * 2 ^ 4 + t.wset.length * 2 ^ 8 + t.rset.length * 2 ^ 17 + t.packetCount * 2 ^ 27
      + t.recordCount * 2 ^ 32 + t.recordBytes * 2 ^ 38)

/-- An operation takes effect at its target. -/
def State.qpuEffect (s : State) (i : Nat) : PendKind → State × QpuAns
  | .op .deq spec =>
    (match s.deq i spec with
    | (s, .word w h) => (s, .result (some w) h)
    | (s, .bad d a) => (s, .bad d a))
  | .op .skip spec => let r := s.skip i spec; (r.1, .result (some (TWord.plain r.2)) none)
  | .op .depth spec =>
    let r := s.getDesc (specQueue spec)
    (r.1, .result (some (TWord.plain (w64 r.2.packets))) none)
  | .op _ spec => let r := s.flush (specQueue spec); (r.1, .result (some (TWord.plain r.2)) none)
  | .link w => let r := s.linkPut i w; (r.1, .result (some (TWord.plain r.2)) none)
  | .stub code w => (s.linkStub i code w, .result none none)
  | .answer w st => (s.freePackets w.toList, .result (st.map TWord.plain) none)
  | .abort ws => ((s.freePackets ws).countAbort (i / 16) 0, .result none none)
  | .free w => (s.freePackets [w], .result none none)
  | .probe => (s, .result (some (TWord.plain (s.probeWord i))) none)
  | .jau st => (s, .result (some (TWord.plain st)) none)

/-- The memory that an operation acts on answers no access yet (R265). -/
def State.kindWaits (s : State) (k : PendKind) : Bool :=
  match k with
  | .op _ spec => s.queueWaits (specQueue spec)
  | .link w => s.queueWaits w.queue
  | .stub _ w => s.queueWaits w.queue
  | _ => false

/-- An operation may not take effect yet: an earlier store has not drained (R176), an earlier load may still fail
(R120), its queue's memory answers no access (R265), or the word it delivers is not in the buffer (R281). -/
def State.qpuHolds (s : State) (i : Nat) (d : QpuPend) : Bool :=
  !s.drainedBefore i d.seq || (s.glade i).loads.any (fun l => decide (l.seq < d.seq)) || s.kindWaits d.kind
    || (match d.kind with
      | .op .deq spec => s.deqWaits i spec
      | _ => false)

/-- The result of an operation placed: in `QPU.Q` at distance 2 on a Grove-stored queue; by a long operation into G[RD]
on a DRAM-stored one, with 0 where it has no result (R275). -/
def Glade.qpuResult (x : Glade) (dram : Bool) (w : Option TWord) (header : Option W64) (fail : Option (Nat × Nat)) :
    Glade :=
  if dram then
    let rd := x.qpuRD.toNat % 64
    { x.setScore rd true with
      qpuOps := x.qpuOps ++ [⟨rd, x.opSeq, w.getD (TWord.plain 0#64), header, fail⟩]
      opSeq := x.opSeq + 1 }
  else match w, header with
    | some v, some h => x.addDue (.qpuOpen v h)
    | some v, none => x.addDue (.qpu v)
    | none, _ => x

/-- The result of an operation that takes effect in its own bundle. -/
def Glade.resultNow (x : Glade) (dram : Bool) (kind : PendKind) (w : Option TWord) (header : Option W64)
    (fail : Option (Nat × Nat)) : Glade :=
  let v := (w.getD (TWord.plain 0#64)).data
  match kind with
  | .stub _ _ => x
  | .abort _ => x
  | .free _ => x
  | .probe => { x with txuQ := v }
  | .jau _ => x.addDue (.jau v)
  | _ => x.qpuResult dram w header fail

/-- An operation of the QPU, or one of the JAU or the TXU port that only the Glade's own stores hold back, begun by core
`i`: kept (R176, R281), or carried out; once for a pair, and delivered to both Glades (R291). A word of a Grove-stored
queue that cannot be read fails precisely: the second part is its BUS_ERROR (R299). -/
def State.beginQpu (s : State) (i bus : Nat) (dram : Bool) (kind : PendKind) : State × Option (Nat × Nat) :=
  let x := s.glade i
  if !x.qpuPend.isEmpty || s.qpuHolds i (x.pendOf bus dram kind) then
    (s.keepQpu i bus dram kind, none)
  else
    let give := fun (s : State) w h f => (s.receivers i).foldl (fun s j =>
      s.updGlade j (fun x => x.resultNow dram kind w h f)) s
    match s.qpuEffect i kind with
    | (s, .result w h) => (give s w h none, none)
    | (s, .bad a b) => if dram then (give s none none (some (a, b)), none) else (s, some (a, b))

/-- A QPU trigger of core `i` (R275). The words of a write go to cells of no linked packet at once (R282, R287). -/
def State.doQpu (s : State) (i : Nat) (op : QpuOp) (t : TWord) (bus : Nat) : State × Option (Nat × Nat) :=
  let spec := (s.glade i).qpuSpec op t
  let dram := (s.queueInfo (specQueue spec)).dram
  if op.writes then
    match s.qpuWrite i op spec t with
    | (s, .link w) => s.beginQpu i bus dram (.link w)
    | (s, .status w) => s.beginQpu i bus dram (.answer none (some w))
    | (s, .abandon p w) => s.beginQpu i bus dram (.answer p (some w))
    | (s, .nothing) => if dram then s.beginQpu i bus dram (.answer none none) else (s, none)
  else s.beginQpu i bus dram (.op op spec)

/-- The result of a kept operation: in place of what its port awaited, or a long operation that retires (R275). -/
def Glade.qpuArrives (x : Glade) (d : QpuPend) (w : Option TWord) (header : Option W64) (fail : Option (Nat × Nat)) :
    Glade :=
  let port := fun (held : DueVal) (due : DueVal) => x.updBankOf d.handler (fun b => { b with
    due := replaceDue (fun e => e.pos == d.pos + 1 && e.val == held) due b.due })
  match d.kind with
  | .stub _ _ => x
  | .abort _ => x
  | .free _ => x
  | .probe => { x with txuQ := (w.getD (TWord.plain 0#64)).data }
  | .jau v => port .jauHeld (.jau v)
  | _ =>
  if d.dram then { x with qpuOps := x.qpuOps ++ [⟨d.rd, d.seq, w.getD (TWord.plain 0#64), header, fail⟩] }
  else
    let v := w.getD (TWord.plain 0#64)
    let due := match header with
      | some h => DueVal.qpuOpen v h
      | none => .qpu v
    port .qpuWait due

/-- The oldest operation that Glade `x` keeps is over, with that result. -/
def Glade.pendOver (x : Glade) (w : Option TWord) (header : Option W64) (fail : Option (Nat × Nat)) : Glade :=
  match x.qpuPend with
  | [] => x
  | d :: rest => ({ x with qpuPend := rest } : Glade).qpuArrives d w header fail

/-- The copy of core `j` kept for the bundle of its oldest kept operation, which can fail no more, is dropped. -/
def State.dropSnap (s : State) (j : Nat) : State :=
  match (s.glade j).qpuPend with
  | [] => s
  | d :: _ =>
    if d.precise then
      { s with snaps := s.snaps.filter (fun p => !(p.1 == j && p.2.1 == d.pos && p.2.2.1 == d.handler)) }
    else s

/-- The checkpoint of core `i`'s pair holds the read cursors as they stand (R498): a word once delivered is not in
them. -/
def State.keepReads (s : State) (i : Nat) : State :=
  match s.pairOf i with
  | none => s
  | some (l, _) =>
    let p := smGet Pair.reset s.pairs l
    { s with pairs := smSet Pair.reset s.pairs l { p with lead := { p.lead with reads := (s.glade l).reads } } }

/-- The cursor of an operation that outlived its Glade's stop closes, once no other one names it (R120, R292). -/
def State.endFinal (s : State) (i : Nat) (d : QpuPend) : State :=
  match d.cursor with
  | some k => if d.final && !(s.glade i).qpuPend.any (fun e => e.final && e.cursor == some k) then s.closeRead i k else s
  | none => s

/-- The checkpoint of core `j` that holds a kept operation is replaced by the core as it stands, before that operation's
bundle (R498). -/
def State.backedUp (s : State) (j : Nat) : State :=
  match s.pairOf j with
  | none => s
  | some (l, _) =>
    let p := smGet Pair.reset s.pairs l
    let old := if j = l then p.lead else p.trail
    if old.qpuPend.isEmpty then s
    else { s with pairs := smSet Pair.reset s.pairs l (if j = l then { p with lead := s.glade j } else { p with trail := s.glade j }) }

/-- A DEQ that Glade `j` kept met an unreadable word (R299): the Glade as it stood before its bundle, and the precise
BUS_ERROR (R120); in a pair the error waits for the seal (R498). -/
def State.failPend (s : State) (j a b : Nat) : State :=
  match (s.glade j).qpuPend with
  | [] => s
  | d :: _ =>
    let s := match s.snapOf j d.pos d.handler with
      | some y => s.backTo j { y with qpuPend := [] }
      | none => s.updAsync j (fun x => x.pendOver none none none)
    if (s.pairOf j).isSome then (s.backedUp j).updGlade j (fun x => { x with loadFault := some (a, b, d.bus) })
    else s.raise j { Cause.of 3 a with bus := d.bus, addr := b }

/-- Packets of the QPU that hold cells for Glade `x`: those of its cursors, of what it keeps and of transaction `t`. -/
def Glade.packetsHeld (x : Glade) (t : Option Txn) : List WritePkt :=
  (List.range 4).filterMap (fun k => smGet none x.writes k)
    ++ (match t with | some t => t.packets | none => [])
    ++ x.qpuPend.flatMap (fun d => match d.kind with
      | .link w => [w]
      | .answer w _ => w.toList
      | .abort ws => ws
      | .free w => [w]
      | _ => [])

/-- The transaction of Glade `l` kept before its DEQ of order `seq`. -/
def State.keptTxn (s : State) (l seq : Nat) : Option Txn :=
  ((s.txu (l / 16)).kept.find? (fun e => e.1 == l % 16 && e.2.1 == seq)).bind (fun e => e.2.2)

/-- What is kept for the DEQ of order `seq` of Glade `l`, and for later ones where `all`, is kept no longer. -/
def State.dropKept (s : State) (l seq : Nat) (all : Bool) : State :=
  let x := s.txu (l / 16)
  s.setTxu (l / 16) { x with kept := x.kept.filter (fun e => !(e.1 == l % 16 && (all || e.2.1 == seq))) }

/-- The DEQ `d` that Glade `l` kept has failed: what its bundle and later ones began outside the Glade is taken back, none
of it having taken effect (R120): the transaction, its turns given up, records handed to the JW, and cells. -/
def State.takeBack (s : State) (l : Nat) (d : QpuPend) : State :=
  if l ≥ 256 then s
  else
    let x := s.glade l
    let y := (s.snapOf l d.pos d.handler).getD x
    let t := s.keptTxn l d.seq
    let was := (({ y with qpuPend := [] } : Glade).packetsHeld t).flatMap (fun w => w.cells)
    let gone := ((x.packetsHeld (s.txn l)).map (fun w => (w.queue, w.cells.filter (fun a => !was.contains a))))
    let s := gone.foldl (fun s p => s.freeCells p.1 p.2) s
    let s : State := { s with jw := { s.jw with
      closed := s.jw.closed.filter (fun r => !(r.glade == l && decide (d.seq < r.seq))) } }
    let u := s.txu (l / 16)
    let s := if y.txuOp.isSome then s
      else s.setTxu (l / 16) { u with passes := smSet 0 u.passes (l % 16) 0, passLen := smSet 0 u.passLen (l % 16) 0 }
    (s.setTxn l t).dropKept l 0 true

/-- The oldest kept operation of core `i` takes effect, if it may: once for a pair, at its leading Glade (R291). A DEQ
whose word cannot be read takes the Glade back to its bundle (R120, R299). -/
def State.pendStep (s : State) (i : Nat) : State :=
  match (s.glade i).qpuPend with
  | [] => s
  | d :: _ =>
    if s.isTrailing i || s.qpuHolds i d then s
    else
      let give := fun (s : State) w h f => (((s.receivers i).foldl (fun (s : State) j =>
        (s.dropSnap j).updLate j (fun x => x.pendOver w h f)) s).keepReads i).endFinal i d
      match s.qpuEffect i d.kind with
      | (s, .result w h) =>
        let s := give s w h none
        if d.precise then s.dropKept i d.seq false else s
      | (s, .bad a b) =>
        if d.dram then give s none none (some (a, b))
        else (s.receivers i).foldl (fun s j => s.failPend j a b) (s.takeBack i d)

/-- The kept operations of core `i` that may take effect do so, in order. -/
def State.pendSteps (s : State) (i : Nat) : Nat → State
  | 0 => s
  | n + 1 => (s.pendStep i).pendSteps i n

/-- The `n`-th long operation of Glade `i`'s QPU in flight retires: its word, and `QPU.H` for a DEQ that opened a
packet; or its failure waits for its report (R123, R179, R275). -/
def State.qpuRetire (s : State) (i n : Nat) : State :=
  match ((s.glade i).qpuOps)[n]? with
  | none => s
  | some o =>
    let eff := fun (x : Glade) =>
      let x := { x with qpuOps := x.qpuOps.filter (fun p => p.seq != o.seq) }
      match o.fail with
      | some (d, a) => { x with failures := x.failures ++ [⟨o.seq, o.rd, d, a⟩] }
      | none =>
        let x := x.retireTo o.rd o.result
        match o.header with
        | some h => { x with qpuH := h }
        | none => x
    s.updLate i eff

end Sys2Proof.Machine
end

