-- ==== Sys2Proof/Machine/QmCmd.lean ====
section
/-! DEFINITION. The commands of `QM_CMD` (R274, R293, R299, R383) and the pool and egress-binding registers (R298,
R300). -/

namespace Sys2Proof.Machine

/-! ### Commands -/

/-- The command word written, kept without GO and BUSY, and its CODE: a command completes within the step that starts
it (log 22). -/
def State.qmDone (s : State) (v : W64) (code : Nat) : State :=
  (s.wr Reg.QM_CMD (w64 (v.toNat % 2 ^ 53 &&& 0x1F7FFF0FFFFF0F))).wr Reg.QM_CMD_STATUS (w64 code)

/-- Partition of the group a queue's notices need: its dequeuing partition (R60, R383). -/
def State.groupPartOf (s : State) (q : Nat) : Nat := (s.queueInfo q).deq

/-- Group `g`'s partition fixed to `p` when it is not yet fixed (R383). -/
def State.fixGroup (s : State) (g p : Nat) : State :=
  if smGet 0 s.qm.groupPart g ≠ 0 then s
  else { s with qm := { s.qm with groupPart := smSet 0 s.qm.groupPart g (p + 1) } }

/-- CONFIG: the first of 0x5, 0x2 and 0x3 that applies refuses it (R383, `QM_CMD`). -/
def State.qmConfig (s : State) (v : W64) : State :=
  let q := field v 27 8
  let g := field v 43 32
  let limit := field v 52 48
  let drop := bit v 46
  let fixed := smGet 0 s.qm.groupPart g
  let p := s.groupPartOf q
  let d := (s.getDesc q).2
  let code := if limit ≠ 0 ∧ (limit < 7 ∨ 24 < limit) then 5
    else if fixed ≠ 0 ∧ fixed ≠ p + 1 then 2
    else if drop ≠ d.drop ∧ s.queueOpen q = true then 3
    else 0
  if code ≠ 0 then s.qmDone v code
  else
    let s := (s.fixGroup g p).updDesc q (fun d => { d with
      group := g
      enabled := bit v 44
      audit := bit v 45
      drop := drop
      limit := limit })
    s.qmDone v 0

/-- FLUSH (R293). -/
def State.qmFlush (s : State) (v : W64) : State := (s.flush (field v 27 8)).1.qmDone v 0

/-- The cells of queue `q` that its chain still reaches from `cell`, at most `n` (R299). A word that ended the chain
before and is read again is logged, and raises the QM-error source no second time (DEDUCED, log 34). -/
def State.reach (s : State) (q : Nat) : Nat → Nat → State × List Nat
  | 0, _ => (s, [])
  | n + 1, cell =>
    if cell = 0 then (s, [])
    else match (if s.retired cell then (s.recordRefusal .qm cell 6, ReadAns.err 6) else s.readWord .qm cell) with
      | (s, .ok v) =>
        let r := s.reach q n (if s.linkOk q v then v.toNat else 0)
        (r.1, cell :: r.2)
      | (s, .err _) => (s, [cell])

/-- RESET: the queue emptied and BROKEN cleared; cells its chain does not reach are lost to the pool (R299). -/
def State.qmReset (s : State) (v : W64) : State :=
  let q := field v 27 8
  if s.queueOpen q then s.qmDone v 3
  else
    let p := s.getDesc q
    let d := p.2
    let r := p.1.reach q d.cells d.head
    let k := (s.queueInfo q).pool
    let s := r.2.foldl (fun s a => s.poolFree k a) r.1
    let x := s.pool k
    let s := s.setPool k { x with lost := x.lost + (d.cells - r.2.length) }
    (s.setDesc q { d with head := 0, tail := 0, packets := 0, cells := 0, broken := false }).qmDone v 0

/-- Descriptors pinned in engine `e` (R274). -/
def State.pinnedIn (s : State) (e : Nat) : Nat := (s.qm.cache.filter (fun c => c.pinned && c.queue % 2 == e)).length

/-- The pin of queue `q`'s cached descriptor set, and PINNED0 and PINNED1 with it. -/
def State.setPin (s : State) (q : Nat) (b : Bool) : State :=
  let s := { s with qm := { s.qm with
    cache := s.qm.cache.map (fun (c : CachedDesc) => if c.queue = q then { c with pinned := b } else c) } }
  (s.setFld Reg.QM_STATUS 26 16 (s.pinnedIn 0)).setFld Reg.QM_STATUS 42 32 (s.pinnedIn 1)

/-- PIN (R274). -/
def State.qmPin (s : State) (v : W64) : State :=
  let q := field v 27 8
  let already := s.qm.cache.any (fun c => c.queue == q && c.pinned)
  if !already && decide (1024 ≤ s.pinnedIn (q % 2)) then s.qmDone v 4
  else ((s.getDesc q).1.setPin q true).qmDone v 0

/-- UNPIN (R274). -/
def State.qmUnpin (s : State) (v : W64) : State := (s.setPin (field v 27 8) false).qmDone v 0

/-- READ: the descriptor in `QM_CMD_DATAn`. -/
def State.qmReadDesc (s : State) (v : W64) : State :=
  let p := s.getDesc (field v 27 8)
  let s := (List.range 4).foldl (fun s k => s.wr (Reg.QM_CMD_DATA k) (p.2.words.getD k 0#64)) p.1
  s.qmDone v 0

/-- A command with an undefined OP (`QM_CMD`). -/
def State.qmBadOp (s : State) (v : W64) : State := s.qmDone v 6

/-- A command of `QM_CMD` carried out. -/
def State.qmRun (s : State) (v : W64) : State :=
  match field v 3 0 with
  | 1 => s.qmConfig v
  | 2 => s.qmFlush v
  | 3 => s.qmReset v
  | 4 => s.qmPin v
  | 5 => s.qmUnpin v
  | 6 => s.qmReadDesc v
  | _ => s.qmBadOp v

/-- GO written to `QM_CMD` with the fields of `v`: a FLUSH or RESET of a queue whose memory answers no access stays BUSY
until it does (R265), and meanwhile GO is ignored, the fields written alone (R10). -/
def State.qmCommand (s : State) (v : W64) : State :=
  let op := field v 3 0
  let fields := v.toNat % 2 ^ 53 &&& 0x1F7FFF0FFFFF0F
  if s.qm.command.isSome then s.wr Reg.QM_CMD (setField (w64 fields) 63 62 (s.fld Reg.QM_CMD 63 62))
  else if (op == 2 || op == 3) && s.queueWaits (field v 27 8) then
    { s.wr Reg.QM_CMD (setField (w64 fields) 63 62 3) with qm := { s.qm with command := some v } }
  else s.qmRun v

/-- A command that waited for its queue's memory goes on (R265). -/
def State.pollQm (s : State) : State :=
  match s.qm.command with
  | none => s
  | some v =>
    if s.queueWaits (field v 27 8) then s
    else ({ s with qm := { s.qm with command := none } }.qmRun v).wr Reg.QM_CMD (setField (s.rd Reg.QM_CMD) 63 62 0)

/-! ### Pools (R300) -/

/-- A DRAM pool of `n` cells at `base` may be placed for partition `p` (R300). -/
def State.dpoolOk (s : State) (p base n : Nat) : Bool :=
  n == 0 || (s.inDramOf base (256 * n) p
    && decide (base + 256 * n ≤ s.descBase ∨ s.descBase + 2 ^ 25 ≤ base)
    && s.journalEntries.all (fun e => byteN e 3 != 1
      || decide (base + 256 * n ≤ leN e 16 8 ∨ leN e 16 8 + leN e 24 8 ≤ base)))

/-- Pool `k` set to the placement that `put` writes, when it changes and is allowed: CFG_ERR otherwise (R299, R300). -/
def State.placePool (s : State) (k : Nat) (same ok : Bool) (put : State → State) : State :=
  let x := s.pool k
  if same && !(0 < x.lost && x.lost == x.used) then s
  else if !ok || decide (x.lost < x.used) then s.setFlag Reg.QM_STATUS 2 true
  else
    let s := (put (s.setPool k Pool.reset)).setPool k Pool.reset
    if k < 16 then s.setFld (Reg.QM_GPOOL k) 59 46 0 else s.wr (Reg.QM_DPOOL_LOST (k - 16)) 0#64

/-- QM_POOL_WRITE: `which` is 0 to 15 for `QM_GPOOLg`, 16 to 19 for `QM_DPOOLp_BASE`, 20 to 23 for `QM_DPOOLp_SIZE`. -/
def State.poolWrite (s : State) (which : Nat) (v : W64) : State :=
  if which < 16 then
    let a := Reg.QM_GPOOL which
    let f := field v 12 0
    let n := field v 29 16
    s.placePool which (s.fld a 12 0 == f && s.fld a 29 16 == n) (decide (f + n ≤ 8192))
      (fun s => s.wr a (w64 (f + n * 2 ^ 16)))
  else if which < 20 then
    let p := which - 16
    let a := Reg.QM_DPOOL_BASE p
    let b := field v 47 8
    s.placePool (16 + p) (s.fld a 47 8 == b) (s.dpoolOk p (256 * b) (s.fld (Reg.QM_DPOOL_SIZE p) 31 0))
      (fun s => s.wr a (w64 (256 * b)))
  else
    let p := which - 20
    let a := Reg.QM_DPOOL_SIZE p
    let n := field v 31 0
    s.placePool (16 + p) (s.fld a 31 0 == n) (s.dpoolOk p (256 * s.fld (Reg.QM_DPOOL_BASE p) 47 8) n)
      (fun s => s.wr a (w64 n))

/-! ### Egress bindings (R298) -/

/-- Binding `n` of `QM_EGQn` as its register holds it. -/
def State.egBinds (s : State) (n q : Nat) : Bool := s.flag (Reg.QM_EGQ n) 20 && s.fld (Reg.QM_EGQ n) 19 0 == q

/-- EGRESS of queue `q`'s descriptor set as its bindings say. -/
def State.noteEgress (s : State) (q : Nat) : State :=
  s.updDesc q (fun d => { d with egress := (List.range 128).any (fun n => s.egBinds n q) })

/-- `QM_EGQn` written: the queue it bound and the queue it binds show their EGRESS (R298). -/
def State.egqWrite (s : State) (n : Nat) (v : W64) : State :=
  let a := Reg.QM_EGQ n
  let old := s.rd a
  let s := s.wr a (w64 (v.toNat % 2 ^ 35 &&& 0x7FF1FFFFF))
  let s := if bit old 20 then s.noteEgress (field old 19 0) else s
  if bit v 20 then s.noteEgress (field v 19 0) else s

/-- `QM_GPOOLg`, `QM_DPOOLp_SIZE` and `QM_DPOOLp_LOST` as read: FREE and LOST of the pool (R268, R299). -/
def State.gpoolWord (s : State) (g : Nat) : W64 :=
  setField (setField (s.rd (Reg.QM_GPOOL g)) 45 32 (s.poolFreeCount g)) 59 46 (min (s.pool g).lost (2 ^ 14 - 1))

def State.dpoolSizeWord (s : State) (p : Nat) : W64 :=
  setField (s.rd (Reg.QM_DPOOL_SIZE p)) 63 32 (s.poolFreeCount (16 + p))

def State.dpoolLostWord (s : State) (p : Nat) : W64 := w64 (min (s.pool (16 + p)).lost (2 ^ 32 - 1))

end Sys2Proof.Machine
end

