-- ==== Sys2Proof/Machine/Journal.lean ====
section
/-! DEFINITION. The journal writer's engine: records and segments on the store (R329, R339 to R346), the commands to
the drives (R346 to R348), SYNC and VOID records (R344) and captures (R350). -/

namespace Sys2Proof.Machine

/-- The JOURNAL entry of a journal (R53). -/
structure JCfg where
  part : Nat
  ring : Bool
  segLog2 : Nat
  /-- 8 × complex + CTRL -/
  ctrl : Nat
  nsid : Nat
  base : Nat
  size : Nat
deriving DecidableEq, Repr

/-- The entry of journal `j`, when the applied Stand Map names it. -/
def State.jcfg (s : State) (j : Nat) : Option JCfg :=
  ((List.range (s.secLE 0x31 0 4)).find? (fun i => s.secLE 0x31 (8 + 32 * i) 2 == j)).map (fun i =>
    let b := 8 + 32 * i
    { part := s.secLE 0x31 (b + 2) 1
      ring := s.secLE 0x31 (b + 3) 1 == 1
      segLog2 := s.secLE 0x31 (b + 4) 1
      ctrl := 8 * s.secLE 0x31 (b + 5) 1 + s.secLE 0x31 (b + 6) 1
      nsid := s.secLE 0x31 (b + 8) 4
      base := s.secLE 0x31 (b + 16) 8
      size := s.secLE 0x31 (b + 24) 8 })

/-- Segment size and number of slots (R329). -/
def JCfg.segSize (c : JCfg) : Nat := 2 ^ c.segLog2

def JCfg.slots (c : JCfg) : Nat := c.size / 2 ^ c.segLog2

/-- STATE of journal `j`: 0 UNCONFIGURED to 5 SEALED (R328). -/
def State.jstate (s : State) (j : Nat) : Nat := s.fld (Reg.JW_JSTATE j) 2 0

/-- STATE and ERR of journal `j` set. -/
def State.setJstate (s : State) (j st err : Nat) : State :=
  (s.setFld (Reg.JW_JSTATE j) 2 0 st).setFld (Reg.JW_JSTATE j) 15 8 err

/-- Journal `j` beside its registers replaced or updated. -/
def State.setJournal (s : State) (j : Nat) (x : Journal) : State :=
  { s with jw := { s.jw with journals := smSet Journal.reset s.jw.journals j x } }

def State.updJournal (s : State) (j : Nat) (f : Journal → Journal) : State := s.setJournal j (f (s.journal j))

/-- Journal `j` is persistent. -/
def State.persistent (s : State) (j : Nat) : Bool :=
  match s.jcfg j with
  | some c => !c.ring
  | none => false

/-! ### Records (R340, R341) -/

/-- Size of a record with `n` payload bytes. -/
def recordSize (n : Nat) : Nat := 32 + 8 * ((n + 7) / 8)

/-- The bytes of a record. -/
def recordBytes (ty journal src seq txn : Nat) (payload : List Byte) : List Byte :=
  let n := payload.length
  let head := bytesLE 1 ty ++ [0#8] ++ bytesLE 2 journal ++ bytesLE 2 n ++ bytesLE 2 src ++ bytesLE 8 seq
    ++ bytesLE 8 txn ++ payload ++ List.replicate ((8 - n % 8) % 8) 0#8
  head ++ bytesLE 4 (crc32c head) ++ bytesLE 4 seq

/-- The TXN field (R341). -/
def txnField (cnum grove : Nat) (durable : Bool) (index last : Nat) : Nat :=
  cnum % 2 ^ 32 + (grove % 16) * 2 ^ 32 + 2 ^ 36 + b2n durable * 2 ^ 37 + (index % 32) * 2 ^ 38 + (last % 32) * 2 ^ 43

/-- SRC of a record the JW writes (R342). -/
def jwSrc : Nat := 0x100

/-- Payload of SEG_OPEN (R343). -/
def State.segOpenPayload (s : State) (c : JCfg) (i : Nat) : List Byte :=
  bytesLE 8 i ++ bytesLE 8 c.base ++ bytesLE 8 c.size ++ bytesLE 8 s.now ++ bytesLE 2 (s.fld Reg.HW_ROLE 21 8)
    ++ bytesLE 1 c.segLog2 ++ bytesLE 1 (b2n c.ring) ++ bytesLE 4 (s.fld Reg.SM_IMAGE_SEQ 31 0)

/-- Payload of SEG_CLOSE (R343). -/
def State.segClosePayload (s : State) (i records reason : Nat) : List Byte :=
  bytesLE 8 i ++ bytesLE 8 records ++ bytesLE 8 s.now ++ bytesLE 1 reason ++ List.replicate 7 0#8

/-! ### Commands to the drives -/

/-- First byte of controller `i`'s part of the area of `JW_NVME_BASE`, 128 KiB, in which its queues and PRP lists stand
at the offsets of `sqEntry`, `cqEntry` and `prpList` (R347; the places are the model's, log 122). -/
def State.nvmePart (s : State) (i : Nat) : Nat := s.fld Reg.JW_NVME_BASE 47 0 + 0x20000 * i

/-- Entry `n` of controller `i`'s submission queue `q`, 0 the admin queue: 64 bytes. -/
def State.sqEntry (s : State) (i q n : Nat) : Nat :=
  s.nvmePart i + (if q = 0 then 0 else 0x4000 * q - 0x2000) + 64 * n

/-- Entry `n` of controller `i`'s completion queue `q`: 16 bytes. -/
def State.cqEntry (s : State) (i q n : Nat) : Nat :=
  s.nvmePart i + (if q = 0 then 0x1000 else 0x11000 + 0x1000 * q) + 16 * n

/-- The PRP list of entry `n` of controller `i`'s queue `q`: four entries. -/
def State.prpList (s : State) (i q n : Nat) : Nat := s.nvmePart i + 0x16000 + 32 * (256 * (q - 1) + n)

/-- Bytes of the area of `JW_NVME_BASE` that hold what the JW or a drive writes there, in a form that the manual does
not give (R347, log 122). -/
def State.nvmeWrites (s : State) (rs : List (Nat × Nat)) : State :=
  if s.fld Reg.JW_NVME_BASE 47 0 = 0 then s else s.undefine rs

/-- `n` bytes of the staging area taken, one behind another and round (R352): they hold what the JW or a drive puts
there, in a form that the manual does not give (log 122). Answers the first address. -/
def State.stageJw (s : State) (n : Nat) : State × Nat :=
  let size := s.fld Reg.JW_STAGE_SIZE 31 0 * 2 ^ 20
  let n := (n + 7) / 8 * 8
  let pos := if s.jw.stagePos + n ≤ size then s.jw.stagePos else 0
  let a := s.fld Reg.JW_STAGE_BASE 47 0 + pos
  let s := if n = 0 ∨ size = 0 then s else s.undefine [(a, n)]
  ({ s with jw := { s.jw with stagePos := pos + n } }, a)

/-- Bus address at which DRAM offset 0 appears (R439), and that of the DRAM byte at device address `a`. -/
def busDram : Nat := 0x10000000000

def busOf (a : Nat) : Nat := a - dramBase + busDram

/-- The PRP entries of `n` bytes at `a`: the bus address, and that of each page after the first (R347). -/
def prpEntries (a n : Nat) : List Nat :=
  if n = 0 then []
  else busOf a :: (List.range ((a % 4096 + n - 1) / 4096)).map (fun k => busOf ((a / 4096 + k + 1) * 4096))

/-- A command placed behind those its controller has (R346), its data in the staging area. -/
def State.issue (s : State) (ctrl : Nat) (c : NvmeCmd) : State :=
  let p := s.stageJw c.data.length
  let c := { c with prps := prpEntries p.2 c.data.length }
  { p.1 with jw := { p.1.jw with queues := smSet [] p.1.jw.queues ctrl (smGet [] p.1.jw.queues ctrl ++ [c]) } }

/-- An I/O command sent: the next entry of controller `i`'s four queue pairs, taken in turn, holds it, with a PRP list
where its data take more than two pages (R347). Answers pair and entry. -/
def State.sendIo (s : State) (i : Nat) (c : NvmeIo) (nsid pos n : Nat) (prps : List Nat) : State × Nat × Nat :=
  let k := smGet 0 s.jw.entries i
  let q := k % 4 + 1
  let e := k / 4
  let s := s.nvmeWrites [(s.sqEntry i q e, 64)]
  let s := if 2 < prps.length then s.nvmeWrites [(s.prpList i q e, 8 * (prps.length - 1))] else s
  ({ s with
    jw := { s.jw with entries := smSet 0 s.jw.entries i ((k + 1) % 1024) }
    out := .nvmeIo i q c nsid pos n prps :: s.out }, q, e)

/-- An admin command sent to controller `i`, and its completion taken: the next entries of the admin queues hold them,
and the staging area its data (R347). A queue's own address is the PRP entry of the command that creates it. -/
def State.sendAdmin (s : State) (i : Nat) (c : NvmeAdmin) : State :=
  let k := smGet 0 s.jw.entries (16 + i)
  let p := s.stageJw c.bytes
  let prps := match c with
    | .createSq q => [busOf (s.sqEntry i q 0)]
    | .createCq q => [busOf (s.cqEntry i q 0)]
    | _ => prpEntries p.2 c.bytes
  let s := p.1.nvmeWrites [(p.1.sqEntry i 0 k, 64), (p.1.cqEntry i 0 k, 16)]
  { s with
    jw := { s.jw with entries := smSet 0 s.jw.entries (16 + i) ((k + 1) % 64) }
    out := .nvmeAdmin i c prps :: s.out }

/-- Admin commands sent to controller `i` in order. -/
def State.sendAdmins (s : State) (i : Nat) (cs : List NvmeAdmin) : State := cs.foldl (fun s c => s.sendAdmin i c) s

/-- MEDIA_US in nanoseconds (R414). -/
def State.mediaNs (s : State) : Nat :=
  let m := s.fld Reg.PWR_HOLDUP_CFG 15 0
  1000 * (if m = 0 then 1 else m)

/-- Journal `j` lies in the namespace of `c`. -/
def State.sameSpace (s : State) (c : JCfg) (j : Nat) : Bool :=
  match s.jcfg j with
  | some d => !d.ring && d.ctrl == c.ctrl && d.nsid == c.nsid
  | none => false

/-- A Flush of the namespace of `c`, in which journal `j` lies, at a cost of `cost` ns. -/
def State.issueFlush (s : State) (j : Nat) (c : JCfg) (cost : Nat) (p : Purpose) : State :=
  let dirty := (s.jw.journals.filter (fun e => e.2.dirty && s.sameSpace c e.1)).map (fun e => e.1)
  let s := s.issue c.ctrl ⟨.flush, j, 0, [], 0, false, false, false, cost, p, dirty, [], 0, 0⟩
  { s with jw := { s.jw with journals := s.jw.journals.map (fun e =>
      if s.sameSpace c e.1 then (e.1, { e.2 with dirty := false }) else e) } }

/-- log2 of the logical block of `c`'s namespace (R346). -/
def State.lbaShift (s : State) (c : JCfg) : Nat :=
  (((smGet none s.drives c.ctrl).bind (fun d => d.spaces.find? (fun n => n.nsid == c.nsid))).map
    (fun n => n.lbaShift)).getD 0

/-- A write of bytes of journal `j` at byte `pos` of its store: to its ring in DRAM at once, or a command to its drive,
which writes the block at the journal's end again from its first byte; the bytes of the last block behind the journal's
end stay as the medium has them (log 119). A write with FUA follows a Flush when blocks are unflushed (R346). -/
def State.storeBytes (s : State) (j : Nat) (c : JCfg) (pos : Nat) (data : List Byte) (fua : Bool) (p : Purpose) :
    State :=
  if c.ring then
    let a := c.base + pos
    match s.engineRefuses a data.length with
    | some d => s.recordRefusal .jw a d
    | none => s.writeMem .jw .agent none a data
  else
    let b := 2 ^ s.lbaShift c
    let head := (s.journal j).endBlock.take (pos % b)
    let whole := head ++ data
    let s := if fua && (s.journal j).dirty then s.issueFlush j c 0 .none else s
    let s := s.issue c.ctrl ⟨.write, j, c.base + pos - head.length, whole, head.length, fua, false, false, 0, p, [], [], 0, 0⟩
    s.updJournal j (fun x => { x with
      dirty := x.dirty || !fua
      endBlock := whole.drop (whole.length / b * b) })

/-- One record laid at the end of the open segment, with the journal's next SEQ (R337, R339). -/
def State.layRecord (s : State) (j : Nat) (c : JCfg) (ty src txn : Nat) (payload : List Byte) (fua : Bool)
    (p : Purpose) : State × Nat :=
  let x := s.journal j
  let seq := (s.rd (Reg.JW_JSEQ j)).toNat
  let bs := recordBytes ty j src seq txn payload
  let seg := x.nextSeg - 1
  let s := s.storeBytes j c ((seg % c.slots) * c.segSize + x.off) bs fua p
  let s := s.wr (Reg.JW_JSEQ j) (w64 (seq + 1))
  (s.updJournal j (fun x => { x with off := x.off + bs.length, records := x.records + 1 }), seq)

/-- The open segment of journal `j` closed with REASON `r`. -/
def State.closeSegment (s : State) (j : Nat) (c : JCfg) (r : Nat) (fua : Bool) (p : Purpose) : State :=
  let x := s.journal j
  if !x.segOpen then s
  else
    let s := (s.layRecord j c 2 jwSrc 0 (s.segClosePayload (x.nextSeg - 1) (x.records + 1) r) fua p).1
    s.updJournal j (fun x => { x with segOpen := false })

/-- A slot is free for the next segment (R329). -/
def State.slotFree (s : State) (j : Nat) (c : JCfg) : Bool :=
  c.ring || s.flag (Reg.JW_JCFG j) 0
    || decide ((s.journal j).nextSeg < c.slots + (s.rd (Reg.JW_JREL j)).toNat)

/-- The next segment of journal `j` opened in its slot (R329, R339). -/
def State.openSegment (s : State) (j : Nat) (c : JCfg) : State :=
  let x := s.journal j
  let i := x.nextSeg
  let seq := (s.rd (Reg.JW_JSEQ j)).toNat
  let keep := x.segs.filter (fun g => decide (i < g.1 + c.slots))
  let s := s.setJournal j { x with
    segOpen := true
    off := 0
    records := 0
    nextSeg := i + 1
    segs := keep ++ [(i, seq)] }
  let s := s.setFld (Reg.JW_JSTATE j) 63 24 i
  (s.layRecord j c 1 jwSrc 0 (s.segOpenPayload c i) false .none).1

/-- A record appended to journal `j`, closing and opening segments as R339 says; none, and the journal FULL with its
segment closed, when no slot is free (R329). -/
def State.appendPlain (s : State) (j : Nat) (c : JCfg) (ty src txn : Nat) (payload : List Byte) (fua : Bool)
    (p : Purpose) : State × Option Nat :=
  let x := s.journal j
  if x.segOpen ∧ x.off + recordSize payload.length + 64 ≤ c.segSize then
    let r := s.layRecord j c ty src txn payload fua p
    (r.1, some r.2)
  else if !s.slotFree j c then ((s.closeSegment j c 0 false .none).setJstate j 3 0, none)
  else
    let s := s.closeSegment j c 0 false .none
    let s := s.openSegment j c
    let r := s.layRecord j c ty src txn payload fua p
    (r.1, some r.2)

/-! ### Captures (R350) -/

/-- The word at `w` of a ring as the JW reads it; none where the access is refused, which is recorded, or where it cannot
be read (R27, R243, R254). -/
def State.ringWord (s : State) (w : Nat) : State × Option W64 :=
  match s.engineRefuses w 8 with
  | some d => (s.recordRefusal .jw w d, none)
  | none => match s.readWord .jw w with
    | (s, .ok v) => (s, some v)
    | (s, .err _) => (s, none)

/-- Address of the record `n` places after the one at `a`, by the LENGTH of each. -/
def State.skipRecords (s : State) : Nat → Nat → State × Option Nat
  | 0, a => (s, some a)
  | n + 1, a =>
    match s.ringWord a with
    | (s, some v) => s.skipRecords n (a + recordSize (field v 47 32))
    | (s, none) => (s, none)

/-- What a copy of a record takes from a ring whose contents are undefined: up to the 16,352 bytes of the largest
record, all free (R349, log 20). -/
def State.freeRecord (s : State) : State × List Byte :=
  let n := s.freeWord
  (List.range (n.1.toNat % 2045)).foldl (fun (acc : State × List Byte) _ =>
    let w := acc.1.freeWord
    (w.2, acc.2 ++ bytesLE 8 w.1.toNat)) (n.2, [])

/-- Where the JW's walk of the ring segment at `a`, whose first record has SEQ `first`, begins: at its first record, or
behind the bytes that a store into the ring has made undefined (R349), with the SEQ of the record that stands there. -/
def State.walkStart (s : State) (a first : Nat) : State × Option (Nat × Nat) :=
  match s.spoiled.find? (fun x => decide (x.1 ≤ a ∧ a < x.1 + x.2)) with
  | none => (s, some (a, first))
  | some x =>
    match s.ringWord (x.1 + x.2 + 8) with
    | (s, some v) => (s, some (x.1 + x.2, v.toNat))
    | (s, none) => (s, none)

/-- `n` words of a ring from address `a`. -/
def State.ringWords (s : State) : Nat → Nat → State × Option (List Byte)
  | 0, _ => (s, some [])
  | n + 1, a =>
    match s.ringWord a with
    | (s, none) => (s, none)
    | (s, some v) =>
      match s.ringWords n (a + 8) with
      | (s, some bs) => (s, some (bytesLE 8 v.toNat ++ bs))
      | (s, none) => (s, none)

/-- The ring record with SEQ `seq`, header to trailer, while the ring holds it and it can be read; a free record where a
store has made it undefined (R349). -/
def State.ringRecord (s : State) (j : Nat) (c : JCfg) (seq : Nat) : State × Option (List Byte) :=
  match (s.journal j).segs.reverse.find? (fun g => decide (g.2 ≤ seq)) with
  | none => (s, none)
  | some (i, first) =>
    if (s.rd (Reg.JW_JSEQ j)).toNat ≤ seq then (s, none)
    else
      let slot := c.base + (i % c.slots) * c.segSize
      let off := if (s.journal j).nextSeg = i + 1 then (s.journal j).off else c.segSize
      if s.spoiled.any (fun x => decide (x.1 ≤ slot ∧ slot + off ≤ x.1 + x.2)) then
        let r := s.freeRecord
        (r.1, some r.2)
      else match s.walkStart slot first with
      | (s, none) => (s, none)
      | (s, some (a, first)) =>
        if seq < first then
          let r := s.freeRecord
          (r.1, some r.2)
        else match s.skipRecords (seq - first) a with
          | (s, none) => (s, none)
          | (s, some a) =>
            match s.ringWord a with
            | (s, none) => (s, none)
            | (s, some v) => s.ringWords (recordSize (field v 47 32) / 8) a

/-- The capture of ring `j` updated. -/
def State.updCapture (s : State) (j : Nat) (f : Capture → Capture) : State :=
  s.updJournal j (fun x => { x with capture := x.capture.map f })

/-- The next record of ring `j`'s capture copied into its target (R350 step 3). One that the ring no longer holds, that
cannot be read, or that the target, no longer OPEN, does not take counts as lost (log 120). -/
def State.copyOne (s : State) (j : Nat) (c : JCfg) : State :=
  match (s.journal j).capture with
  | none => s
  | some k =>
    let lose := fun (s : State) => s.updCapture j (fun k => { k with next := k.next + 1, lost := k.lost + 1 })
    match s.jcfg k.target, s.ringRecord j c k.next with
    | some ct, (s, some bs) =>
      if s.jstate k.target ≠ 2 then lose s
      else match s.appendPlain k.target ct 7 jwSrc 0 bs false .none with
        | (s, some _) => s.updCapture j (fun k => { k with next := k.next + 1, copied := k.copied + 1 })
        | (s, none) => lose s
    | _, (s, _) => lose s

/-- Before the ring's oldest segment is overwritten: how many of its records a capture in progress has copied is
free (the JW's pace, log 20); the rest of them are lost (R350). -/
def State.beforeOverwrite (s : State) (j : Nat) (c : JCfg) : State :=
  let x := s.journal j
  match x.capture, x.segs with
  | some k, (i, _) :: (_, next) :: _ =>
    if i + c.slots ≠ x.nextSeg then s
    else
      let end_ := min next (k.last + 1)
      let r := (List.range (end_ - k.next)).foldl (fun (acc : State × Bool) _ =>
        let d := acc.1.freeBool
        if acc.2 && d.1 then (d.2.copyOne j c, true) else (d.2, false)) (s, true)
      r.1.updCapture j (fun k => { k with
        lost := k.lost + (end_ - min end_ k.next)
        next := max k.next end_ })
  | _, _ => s

/-- A record appended to journal `j` of either store, captures of a ring kept as R350 says. -/
def State.append (s : State) (j : Nat) (c : JCfg) (ty src txn : Nat) (payload : List Byte) (fua : Bool)
    (p : Purpose) : State × Option Nat :=
  let x := s.journal j
  let fits := x.segOpen && decide (x.off + recordSize payload.length + 64 ≤ c.segSize)
  let s := if c.ring && !fits then s.beforeOverwrite j c else s
  s.appendPlain j c ty src txn payload fua p

/-! ### SYNC and VOID (R344) -/

/-- Every transaction with a record after the last SYNC is settled, so that a SYNC record may follow. -/
def State.maySync (s : State) (j : Nat) : Bool := (s.journal j).tail.all (fun t => t.settled)

/-- The SYNC record of `j` with SEQ `q` is durable: what it follows is final (R344). -/
def State.synced (s : State) (j q : Nat) : State :=
  s.updJournal j (fun x => { x with
    durSync := max x.durSync (q + 1)
    tail := x.tail.filter (fun t => !(t.sync != 0 && decide (t.sync ≤ q + 1))) })

/-- A SYNC record appended: durable at once in a ring. The transactions before it stay in the journal's tail until it is
durable. Answers its SEQ. -/
def State.laySync (s : State) (j : Nat) (c : JCfg) : State × Option Nat :=
  match s.append j c 3 jwSrc 0 (bytesLE 8 s.now) false .none with
  | (s, some q) =>
    let s := s.updJournal j (fun x => { x with
      tail := x.tail.map (fun t => if t.sync = 0 then { t with sync := q + 1 } else t)
      lastSync := q + 1 })
    (if c.ring then s.synced j q else s, some q)
  | (s, none) => (s, none)

/-- A SYNC record written and, by a Flush behind it, made durable (R338). Answers its SEQ. -/
def State.writeSync (s : State) (j : Nat) (c : JCfg) : State × Option Nat :=
  match s.laySync j c with
  | (s, some q) => (if c.ring then s else s.issueFlush j c 0 (.synced [(j, q)]), some q)
  | (s, none) => (s, none)

/-- A transaction settled in every journal that holds a record of it. -/
def State.settle (s : State) (g cnum : Nat) : State :=
  { s with jw := { s.jw with
      journals := s.jw.journals.map (fun p => (p.1, { p.2 with
        tail := p.2.tail.map (fun t => if t.grove = g ∧ t.cnum = cnum then { t with settled := true } else t) })) } }

/-- The VOID entries of a list of commits, GROVE and CNUM each, as the payload of one record (R343). -/
def voidPayload (ks : List (Nat × Nat)) : List Byte :=
  ks.flatMap (fun k => bytesLE 4 k.2 ++ bytesLE 1 k.1 ++ List.replicate 3 0#8)

/-- The VOID records that journal `j` still needs, each listing at most 2,044 transactions (R342, R344). -/
def State.writeVoids (s : State) (j : Nat) (c : JCfg) : State :=
  let due := (s.journal j).tail.filter (fun t => t.void && !t.settled)
  (List.range ((due.length + 2043) / 2044)).foldl (fun s k =>
    let ts := (due.drop (2044 * k)).take 2044
    match s.append j c 5 jwSrc 0 (voidPayload (ts.map (fun t => (t.grove, t.cnum)))) false .none with
    | (s, some _) => s.updJournal j (fun x => { x with
        tail := x.tail.map (fun t => if ts.contains t then { t with settled := true } else t) })
    | (s, none) => s) s

/-- The VOID records that are due in journal `j` are written while it is OPEN. -/
def State.pollVoids (s : State) (j : Nat) : State :=
  match s.jcfg j with
  | some c => if s.jstate j = 2 then s.writeVoids j c else s
  | none => s

/-- A transaction is to be listed in a VOID record of each journal of `js`, which hold its records (R344): at once where
the journal is OPEN, and otherwise when it is again. -/
def State.voidTxn (s : State) (g cnum : Nat) (js : List Nat) : State :=
  js.foldl (fun s j => (s.updJournal j (fun x => { x with
    tail := x.tail.map (fun t =>
      if t.grove = g ∧ t.cnum = cnum then { t with settled := false, void := true } else t) })).pollVoids j) s

/-! ### Drive outcomes (R348) -/

/-- Key of byte `pos` of a controller's namespace in `media`. -/
def mediaKey (ctrl nsid pos : Nat) : Nat := ctrl * 2 ^ 96 + nsid * 2 ^ 64 + pos

/-- Bytes of the medium from key `k`, and bytes put there. -/
def State.mediaBytes (s : State) (k n : Nat) : List Byte := (List.range n).map (fun i => smGet 0#8 s.media (k + i))

def State.putMedia (s : State) (k : Nat) (bs : List Byte) : State :=
  { s with media := ((List.range bs.length).zip bs).foldl (fun m p => smSet 0#8 m (k + p.1) p.2) s.media }

/-- Bytes from position `a` split at multiples of `u`: position and bytes of each part. -/
def splitUnits (u a : Nat) (data : List Byte) : List (Nat × List Byte) :=
  let n := u - a % u
  (a, data.take n) :: (List.range ((data.length - n + u - 1) / u)).map (fun k =>
    (a + n + u * k, (data.drop (n + u * k)).take u))

/-- The medium takes the bytes of a completed write, block by block; a block written without FUA stays at risk until a
Flush, one written with FUA does not (R346). -/
def State.mediaWrite (s : State) (c : JCfg) (pos : Nat) (fua : Bool) (data : List Byte) : State :=
  let b := 2 ^ s.lbaShift c
  (splitUnits b pos data).foldl (fun s p =>
    let k := mediaKey c.ctrl c.nsid p.1
    let block := k / b * b
    ({ s with unflushed := if fua then s.unflushed.filter (fun u => u.block != block)
        else ⟨block, k, s.mediaBytes k p.2.length⟩ :: s.unflushed } : State).putMedia k p.2) s

/-- `n` bytes of journal `c`'s region from `pos`. -/
def State.mediaRead (s : State) (c : JCfg) (pos n : Nat) : List Byte :=
  s.mediaBytes (mediaKey c.ctrl c.nsid (c.base + pos)) n

/-- What a command does for other journals than `j`. -/
def Purpose.without (j : Nat) : Purpose → Purpose
  | .synced js => if (js.filter (fun p => p.1 != j)).isEmpty then .none else .synced (js.filter (fun p => p.1 != j))
  | .sealed js => if (js.filter (· != j)).isEmpty then .none else .sealed (js.filter (· != j))
  | p => p

/-- The journals a purpose names. -/
def Purpose.journals : Purpose → List Nat
  | .synced js => js.map (fun p => p.1)
  | .sealed js => js
  | _ => []

/-- Journal `j`'s commands taken out of a controller's queue. A Flush of it stays, for another journal, where records of
that journal are to be made durable by it or a write of that journal with FUA follows it (R346). The second part: the
journals whose blocks have then not been flushed. -/
def dropCommands (j : Nat) : List NvmeCmd → List NvmeCmd × List Nat
  | [] => ([], [])
  | k :: ks =>
    let r := dropCommands j ks
    let serves := k.serves.filter (· != j)
    let p := k.purpose.without j
    if k.journal ≠ j then ({ k with purpose := p, serves := serves } :: r.1, r.2)
    else if k.kind ≠ .flush then r
    else
      let needed := serves.filter (fun n => r.1.any (fun l => l.journal == n && l.fua && l.kind == .write))
      match p.journals ++ needed with
      | n :: _ => ({ k with journal := n, purpose := if p.journals.isEmpty then .none else p, serves := serves,
                            cost := 0 } :: r.1, r.2)
      | [] => (r.1, r.2 ++ serves)

/-- A SEAL of journal `j` whose SYNC record is not durable fails with MEDIA (R338, R348). -/
def State.failSeals (s : State) (j : Nat) : State :=
  let dur := (s.journal j).durSync
  { s with glades := s.glades.map (fun p => (p.1, { p.2 with
      sealOp := p.2.sealOp.map (fun o =>
        if o.journal = j ∧ o.code = 0 ∧ (o.syncSeq = 0 ∨ dur < o.syncSeq) then { o with code := 6 } else o) })) }

/-- Journal `j` put in ERROR with `err`, its commands dropped and its SEALs failed; one that was OPENING waits for no
recovery any more, until a REOPEN (R348, R373). -/
def State.stopJournal (s : State) (j err : Nat) : State :=
  let s := (s.setJstate j 4 err).failSeals j
  let s : State := { s with jw := { s.jw with
    toRecover := s.jw.toRecover.filter (· != j)
    scanned := s.jw.scanned.filter (· != j) } }
  match s.jcfg j with
  | none => s
  | some c =>
    let r := dropCommands j (smGet [] s.jw.queues c.ctrl)
    let s : State := { s with jw := { s.jw with queues := smSet [] s.jw.queues c.ctrl r.1 } }
    r.2.foldl (fun s n => s.updJournal n (fun x => { x with dirty := true })) s

/-- A final failure of controller `i` recorded as lasting and raised (R348). -/
def State.driveLasting (s : State) (i : Nat) : State :=
  (s.recordError .heartwood { ErrInfo.of 0x1C i with req := 4, lasting := true }).tallyInc (dev 167) 1

/-- A final failure of a command of controller `i` counted, recorded as lasting and raised (R348); the firmware reads
the controller's Error Information and SMART log pages (R347, log 122). -/
def State.driveFailed (s : State) (i : Nat) : State :=
  let s := s.sendAdmins i [.errorLog, .smartLog]
  (s.satAdd Reg.JW_ERR_COUNTS 31 16 1).driveLasting i

/-- A command of controller `i` has timed out: counted, and aborted (R348). -/
def State.driveTimeout (s : State) (i : Nat) : State :=
  let s := s.satAdd Reg.JW_ERR_COUNTS 47 32 1
  { s with out := .nvmeAbort i :: s.out }

/-- A command of controller `i` has succeeded at its second issue (R348). -/
def State.driveRetried (s : State) (i : Nat) : State :=
  (s.satAdd Reg.JW_ERR_COUNTS 15 0 1).recordError .heartwood { ErrInfo.of 0x1C i with req := 4 }

/-- ERR of a command that fails finally: 7 by an error, 8 by a timeout (R348). -/
def missCode : IoMiss → Nat
  | .timeout => 8
  | _ => 7

/-- ERR with which a command fails finally; 0: its second issue succeeds (R348). -/
def retryCode (r : IoRetry) : Nat :=
  match r.first, r.second with
  | .doNotRetry, _ => 7
  | _, none => 0
  | _, some m => missCode m

/-- A command of controller `i` whose first issue fails (R348); `send` issues command number `which` again. -/
def State.ioRetry (s : State) (i : Nat) (send : Nat → State → State) (r : IoRetry) : State :=
  let s := if r.first = .timeout then s.driveTimeout i else s
  let s := if r.first ≠ .doNotRetry then send r.which s else s
  let s := if r.first ≠ .doNotRetry ∧ r.second = some .timeout then s.driveTimeout i else s
  if retryCode r = 0 then s.driveRetried i else s.driveFailed i

/-- Commands of controller `i` one after another, up to the first that fails finally. -/
def State.ioRetries (s : State) (i : Nat) (send : Nat → State → State) : List IoRetry → State
  | [] => s
  | r :: rs => if retryCode r = 0 then (s.ioRetry i send r).ioRetries i send rs else s.ioRetry i send r

/-- ERR of the first of some commands that fails finally; 0: none does. -/
def ioCode (rs : List IoRetry) : Nat := ((rs.find? (fun r => retryCode r != 0)).map retryCode).getD 0

/-- Journal `j` put in ERROR by a lasting media failure (R348). -/
def State.journalError (s : State) (j err : Nat) : State :=
  let s := s.stopJournal j err
  match s.jcfg j with
  | none => s
  | some c => s.driveFailed c.ctrl

/-- Bytes accepted for persistent journals and not yet written (R352). -/
def State.staged (s : State) : Nat :=
  (s.jw.queues.map (fun p => (p.2.map (fun c => c.data.length - c.head)).foldl (· + ·) 0)).foldl (· + ·) 0

end Sys2Proof.Machine
end

