-- ==== Sys2Proof/Machine/Seedbank.lean ====
section
/-! DEFINITION. The Seedbank and its keeper: lines and copies (R355 to R361), the port (R369), marker slots (R366 to
R371) and the hold-up budget of its writes (R414). -/

namespace Sys2Proof.Machine

/-- `s` in HOLDUP (mode 9). -/
def State.inHoldup (s : State) : Bool := s.mode == 9

/-- avail_ns of R412. -/
def State.availNs (s : State) : Nat := s.est.remain - 20000 - s.est.budget

/-- The budget with a cost added, or one removed (R414). -/
def State.addCost (s : State) (n : Nat) : State := { s with est := { s.est with budget := s.est.budget + n } }

def State.dropCost (s : State) (n : Nat) : State := { s with est := { s.est with budget := s.est.budget - n } }

/-! ### Lines -/

/-- The 64 bytes of line `n` (R355). -/
def State.line (s : State) (n : Nat) : List Byte := s.bytesAt (seedbankBase + 64 * n) 64

/-- KIND of the record that R357 places on line `n`. -/
def lineKind (n : Nat) : Nat := if n < 4 then 1 else if n < 8 then 2 else if n < 12 then 3 else if n < 16 then 4 else 5

/-- A line's fields. -/
def lineSeq (bs : List Byte) : Nat := ofBytesLE ((bs.drop 4).take 8)

def linePart (bs : List Byte) : Nat := (bs.getD 2 0#8).toNat

def lineBody (bs : List Byte) : List Byte := (bs.drop 12).take 48

/-- A line's framing around a 48-byte body. -/
def lineBytes (kind part seq : Nat) (body : List Byte) : List Byte :=
  let head := bytesLE 2 kind ++ bytesLE 1 part ++ [0#8] ++ bytesLE 8 seq ++ body
  head ++ bytesLE 4 (crc32c head)

/-- All of the bytes are zero. -/
def allZero (bs : List Byte) : Bool := bs.all (fun b => b == 0#8)

/-- The reserved bits of a 96-byte body of record 0 (directory), 1 (pointers) or 2 (last fault) are zero (R362 to
R364). -/
def bodyReservedZero (record : Nat) (body : List Byte) : Bool :=
  match record with
  | 0 => allZero (body.drop 20)
  | 1 => (body.getD 8 0#8).toNat < 2 && allZero ((body.drop 9).take 3) && allZero (body.drop 48)
  | _ => allZero (body.drop 32)

/-- The reserved fields of the line at position `n` are zero (R356). -/
def lineReservedZero (n : Nat) (bs : List Byte) : Bool :=
  let body := lineBody bs
  let pad := List.replicate 48 0#8
  bs.getD 3 0#8 == 0#8 &&
    (if n < 12 then
      (if linePart bs = 0 then bodyReservedZero (n / 4) (body ++ pad) else bodyReservedZero (n / 4) (pad ++ body))
    else if n < 16 then allZero (body.drop 36) && (body.getD 18 0#8).toNat < 16
    else body.getD 3 0#8 == 0#8 && allZero (body.drop 16))

/-- Line `n` holding `bs` is intact (R356). -/
def lineIntact (n : Nat) (bs : List Byte) : Bool :=
  ofBytesLE (bs.drop 60) == crc32c (bs.take 60) && ofBytesLE (bs.take 2) == lineKind n && lineReservedZero n bs

/-- What a dual-copy record resolves to (R360). -/
inductive Resolved where
  | copy (b : Bool) (seq : Nat) (body : List Byte)
  /-- the default; `lasting`: not all four lines are blank -/
  | default_ (lasting : Bool)
  | split
deriving DecidableEq, Repr

/-- One copy of a record: SEQ and 96-byte body when intact. -/
def State.copyAt (s : State) (record : Nat) (b : Bool) : Option (Nat × List Byte) :=
  let n := 4 * record + 2 * b2n b
  let x := s.line n
  let y := s.line (n + 1)
  if lineIntact n x && lineIntact (n + 1) y && linePart x == 0 && linePart y == 1 && lineSeq x == lineSeq y then
    some (lineSeq x, lineBody x ++ lineBody y)
  else none

def State.resolve (s : State) (record : Nat) : Resolved :=
  match s.copyAt record false, s.copyAt record true with
  | some a, none => .copy false a.1 a.2
  | none, some b => .copy true b.1 b.2
  | some a, some b =>
    if a.1 > b.1 then .copy false a.1 a.2
    else if b.1 > a.1 then .copy true b.1 b.2
    else if a.2 = b.2 then .copy false a.1 a.2
    else .split
  | none, none => .default_ (!((List.range 4).all (fun k => allZero (s.line (4 * record + k)))))

/-- DIR, PTR and FAULT of `HW_SB_STATUS`. -/
def Resolved.code : Resolved → Nat
  | .copy false _ _ => 0
  | .copy true _ _ => 1
  | .default_ _ => 2
  | .split => 3

/-- A record resolved: its state shown, a split that has not been found before counted, and a lasting fault logged
(R360). -/
def State.resolveLogged (s : State) (record : Nat) : State × Resolved :=
  let r := s.resolve record
  let known := s.fld Reg.HW_SB_STATUS (17 + 2 * record) (16 + 2 * record) == 3
  let s := s.setFld Reg.HW_SB_STATUS (17 + 2 * record) (16 + 2 * record) r.code
  let e := { ErrInfo.of 0x1A (4 * record) with lasting := true }
  match r with
  | .split =>
    if known then (s, r)
    else ({ s.recordError .heartwood e with keeper := { s.keeper with splits := s.keeper.splits + 1 } }, r)
  | .default_ true => (s.recordError .heartwood e, r)
  | _ => (s, r)

/-! ### Slots (R366, R371) -/

/-- QUOTA and GROUP_MAX of Grove `g` (R59). -/
def State.quota (s : State) (g : Nat) : Nat := s.secLE 0x70 g 1

def State.groupMax (s : State) (g : Nat) : Nat := s.secLE 0x70 (16 + g) 1

/-- First marker line of Grove `g`. -/
def State.firstLine (s : State) (g : Nat) : Nat := 16 + ((List.range g).map s.quota).foldl (· + ·) 0

def State.slot (s : State) (line : Nat) : Slot := smGet Slot.reset s.keeper.slots line

def State.setSlot (s : State) (line : Nat) (x : Slot) : State :=
  { s with keeper := { s.keeper with slots := smSet Slot.reset s.keeper.slots line x } }

/-- The lines of Grove `g`'s quota. -/
def State.linesOf (s : State) (g : Nat) : List Nat := (List.range (s.quota g)).map (fun k => s.firstLine g + k)

/-- The free slot of Grove `g` written least recently (R368). -/
def State.freeSlot (s : State) (g : Nat) : Option Nat :=
  ((s.linesOf g).filter (fun n => !(s.slot n).inFlight)).foldl (fun best n =>
    match best with
    | some m => if (s.slot n).written < (s.slot m).written then some n else best
    | none => some n) none

/-- Commits of Grove `g` in step 3 of R314 that no marker covers yet. -/
def State.waitingMarker (s : State) (g : Nat) : List (Nat × Txn) :=
  (s.decidedTxns g).filter (fun p => p.2.step == .marker)

/-- Those of them that found every slot of the quota in flight: MARKER_WAIT and WAITING (R316, R371). -/
def State.stalledCommits (s : State) (g : Nat) : List (Nat × Txn) :=
  (s.waitingMarker g).filter (fun p => p.2.stalled)

/-- The commits the next marker of Grove `g` covers (R368). -/
def State.markerCovers (s : State) (g : Nat) : List (Nat × Txn) :=
  let all := s.decidedTxns g
  let all := if s.ticketMode g then all.takeWhile (fun p => p.2.step != .admitted && p.2.step != .write) else all
  let ready := all.filter (fun p => p.2.step == .marker)
  match ready with
  | [] => []
  | (_, t) :: _ =>
    (ready.filter (fun p => decide ((p.2.cnum + 2 ^ 32 - t.cnum) % 2 ^ 32 < 32))).take (s.groupMax g)

/-- A marker of Grove `g` can start: the port and a slot are free, a commit is ready, and in HOLDUP the estimate
covers the write (R368, R414). -/
def State.markerReady (s : State) (g : Nat) : Bool :=
  s.keeper.port.isNone && (s.freeSlot g).isSome && !(s.markerCovers g).isEmpty
    && (!s.inHoldup || decide (1100 ≤ s.est.remain - 20000))

/-- Place of Grove `g`'s next marker in the order of R369: that of the first of its commits to become ready. -/
def State.markerRank (s : State) (g : Nat) : Nat :=
  (s.markerCovers g).foldl (fun m p => min m p.2.readied) (2 ^ 64)

/-- The port's next write is a marker of Grove `g` (R369). -/
def State.markerTurn (s : State) (g : Nat) : Bool :=
  s.markerReady g && (List.range 16).all (fun h => !s.markerReady h || decide (s.markerRank g ≤ s.markerRank h))

/-- The start of a dual-copy record's update (R359): the copy not in use gets the new body, PART 0 first; copy B when
both are intact and equal. PART 1 waits ahead of every other update. -/
def State.startUpdate (s : State) (record : Nat) (body : List Byte) (cmd : Bool) : State :=
  let r := s.resolveLogged record
  let p := match r.2 with
    | .copy b q _ => (!b, q)
    | _ => (false, 0)
  let n := 4 * record + 2 * b2n p.1
  let part := fun (k : Nat) (bs : List Byte) => lineBytes (record + 1) k (p.2 + 1) bs
  let s := r.1
  { s with keeper := { s.keeper with
    port := some ⟨n, part 0 (body.take 48), .dual record false cmd⟩
    queue := .second ⟨n + 1, part 1 ((body.drop 48).take 48), .dual record true cmd⟩ :: s.keeper.queue } }

/-- The start of a Lookout record (R365): the ring's first line that is blank or torn, or else its oldest. -/
def State.startLookout (s : State) (body : List Byte) : State :=
  let ls := (List.range 4).map (fun k => (12 + k, s.line (12 + k)))
  let ok := ls.filter (fun p => lineIntact p.1 p.2)
  let newest := ok.foldl (fun a p => max a (lineSeq p.2)) 0
  let line := match ls.find? (fun p => !lineIntact p.1 p.2) with
    | some p => p.1
    | none => (ok.foldl (fun (a : Nat × Nat) p => if lineSeq p.2 < a.2 then (p.1, lineSeq p.2) else a)
        (12, 2 ^ 64)).1
  { s with keeper := { s.keeper with port := some ⟨line, lineBytes 4 0 (newest + 1) body, .lookout⟩ } }

/-- The write at the head of the queue starts when the port is free and no marker is ready (R369). -/
def State.pump (s : State) : State :=
  match s.keeper.port, s.keeper.queue with
  | none, w :: ws =>
    if (List.range 16).any s.markerReady then s
    else
      let s : State := { s with keeper := { s.keeper with queue := ws } }
      match w with
      | .update r body cmd => s.startUpdate r body cmd
      | .second w => { s with keeper := { s.keeper with port := some w } }
      | .lookout body => s.startLookout body
  | _, _ => s

/-- A Lookout record. -/
def LineJob.isLookout : LineJob → Bool
  | .lookout _ => true
  | _ => false

/-- A write queued behind those of its kind: dual-copy records ahead of Lookout records (R369). -/
def State.queueJob (s : State) (w : LineJob) : State :=
  let q := s.keeper.queue
  let q := if w.isLookout then q ++ [w]
    else q.filter (fun x => !x.isLookout) ++ [w] ++ q.filter (fun x => x.isLookout)
  { s with keeper := { s.keeper with queue := q } }

/-- A dual-copy record gets a new 96-byte body (R359). -/
def State.updateRecord (s : State) (record : Nat) (body : List Byte) : State :=
  (s.queueJob (.update record body false)).pump

/-- The Lookout record of `body` (R365). -/
def State.writeLookout (s : State) (body : List Byte) : State := (s.queueJob (.lookout body)).pump

/-- The last-fault body for a fault that occurs now (R364). -/
def State.faultBody (s : State) (source code grove addr info : Nat) : List Byte :=
  bytesLE 1 source ++ bytesLE 1 code ++ bytesLE 1 grove ++ bytesLE 1 s.mode
    ++ bytesLE 4 (s.fld Reg.SM_IMAGE_SEQ 31 0) ++ bytesLE 8 (if s.timeRuns && s.flag Reg.UST_TIME_CTL 1 then s.now else 0)
    ++ bytesLE 8 addr ++ bytesLE 8 info ++ List.replicate 64 0#8

/-- The last-fault record written (R364). -/
def State.writeLastFault (s : State) (source code grove addr info : Nat) : State :=
  s.updateRecord 2 (s.faultBody source code grove addr info)

/-- A record resolved on behalf of the ROM or of recovery: a split is a last fault of SOURCE 4 (R364; log 115). -/
def State.resolveReported (s : State) (record : Nat) : State × Resolved :=
  let r := s.resolveLogged record
  match r.2 with
  | .split => (r.1.writeLastFault 4 0x1A 0xFF (4 * record) 0, r.2)
  | _ => r

/-- Waiting commits of Grove `g` that find every slot in flight are counted once each, and the first of an episode
raises MARKER_STALL; the episode ends when none waits (R371). -/
def State.checkStall (s : State) (g : Nat) : State :=
  let bitOf := 1#16 <<< g
  let fresh := if (s.freeSlot g).isSome then [] else (s.waitingMarker g).filter (fun p => !p.2.stalled)
  let s := fresh.foldl (fun s p => s.setTxn (16 * g + p.1) (some { p.2 with stalled := true })) s
  let s := s.satAdd (Reg.HW_SB_GROVE g) 47 32 fresh.length
  if (s.stalledCommits g).isEmpty then
    { s with keeper := { s.keeper with stalled := s.keeper.stalled &&& ~~~bitOf } }
  else if s.keeper.stalled.getLsbD g then s
  else { s.tallyInc (dev (112 + g)) 1 with keeper := { s.keeper with stalled := s.keeper.stalled ||| bitOf } }

/-- The marker body (R366). -/
def State.markerBody (s : State) (g : Nat) (covers : List (Nat × Txn)) : List Byte :=
  let first := (covers.head?.map (fun p => p.2.cnum)).getD 0
  let mask := (covers.map (fun p => 2 ^ ((p.2.cnum + 2 ^ 32 - first) % 2 ^ 32))).foldl (· + ·) 0
  bytesLE 1 g ++ bytesLE 1 covers.length ++ bytesLE 1 (b2n (s.ticketMode g)) ++ [0#8] ++ bytesLE 4 first
    ++ bytesLE 4 mask ++ bytesLE 4 (s.fld Reg.SM_IMAGE_SEQ 31 0) ++ List.replicate 32 0#8

/-- Two lists of (journal, highest SEQ) joined. -/
def joinPlaced (a b : List (Nat × Nat)) : List (Nat × Nat) :=
  b.foldl (fun acc p =>
    if acc.any (fun q => q.1 == p.1) then acc.map (fun q => if q.1 = p.1 then (q.1, max q.2 p.2) else q)
    else acc ++ [p]) a

/-- A marker write of Grove `g` started (R368). -/
def State.startMarker (s : State) (g : Nat) : State :=
  match s.freeSlot g with
  | none => s
  | some line =>
    let covers := s.markerCovers g
    let mseq := (s.rd Reg.HW_SB_MSEQ).toNat
    let bs := lineBytes 5 0 mseq (s.markerBody g covers)
    let needs := covers.foldl (fun (acc : List (Nat × Nat)) (p : Nat × Txn) => joinPlaced acc p.2.placed) []
    let s := covers.foldl (fun s p => s.setTxn (16 * g + p.1) (some { p.2 with step := .inMarker })) s
    let s := s.setSlot line ⟨true, false, mseq, needs⟩
    let s := s.wr Reg.HW_SB_MSEQ (w64 (mseq + 1))
    let s := { s with keeper := { s.keeper with
      port := some ⟨line, bs, .marker g (covers.map (fun (p : Nat × Txn) => p.1))⟩ } }
    s.checkStall g

/-- The marker on `line` is complete: its commits are durable, and their budget is released (R314 step 4, R414). -/
def State.markerDone (s : State) (line g : Nat) (glades : List Nat) : State :=
  let s := s.setSlot line { s.slot line with complete := true }
  glades.foldl (fun s k =>
    match s.txn (16 * g + k) with
    | some t =>
      if t.step = .inMarker then
        ((s.setTxn (16 * g + k) (some { t with step := .durable, cost := 0 })).dropCost t.cost).settle g t.cnum
      else s
    | none => s) s

/-- The line write in progress completes (R358): the line holds its bytes, and what waited for it goes on; with the
directory of recovery written, recovery is complete (R375). -/
def State.lineDone (s : State) : State :=
  match s.keeper.port with
  | none => s
  | some w =>
    let s := s.setBytes (seedbankBase + 64 * w.line) w.bytes
    let s := { s with keeper := { s.keeper with port := none } }
    let s := match w.use_ with
      | .marker g ks => s.markerDone w.line g ks
      | .dual r true cmd =>
        let s := s.setFld Reg.HW_SB_STATUS (17 + 2 * r) (16 + 2 * r) (s.resolve r).code
        if cmd then
          let s := { s with keeper := { s.keeper with updating := 0 } }
          let s := (s.setFlag Reg.HW_SB_CMD 62 false).setFlag Reg.HW_SB_CMD 63 false
          s.setFld Reg.HW_SB_CMD_STATUS 3 0 0
        else if r = 0 ∧ s.keeper.recovering = true then
          { s.setFlag Reg.HW_SB_STATUS 22 true with keeper := { s.keeper with recovering := false } }
        else s
      | _ => s
    s.pump

/-- A slot retires when every journal it needs holds a durable SYNC record with a higher SEQ (R367). -/
def State.slotRetires (s : State) (line : Nat) : Bool :=
  let x := s.slot line
  x.inFlight && x.complete && x.needs.all (fun n => decide (n.2 < (s.journal n.1).durSync))

end Sys2Proof.Machine
end

