-- ==== Sys2Proof/Machine/Recovery.lean ====
section
/-! DEFINITION. Reading a journal (R353), the open scan (R330) and the recovery that runs at open (R373 to R375). -/

namespace Sys2Proof.Machine

/-- A record as the walk of R353 delivers it. -/
structure WalkRec where
  ty : Nat
  seq : Nat
  txn : W64
  payload : List Byte
deriving DecidableEq, Repr

/-- The reserved bytes in the payload of a JW record are zero (R343). -/
def payloadReservedZero (ty : Nat) (p : List Byte) : Bool :=
  match ty with
  | 2 => allZero ((p.drop 25).take 7)
  | 4 => allZero ((p.drop 19).take 5)
  | 5 => (List.range (p.length / 8)).all (fun k =>
      decide ((p.getD (8 * k + 4) 0#8).toNat < 16) && allZero ((p.drop (8 * k + 5)).take 3))
  | 6 => allZero ((p.drop 3).take 5)
  | 8 => allZero ((p.drop 3).take 5)
  | _ => true

/-- The record at byte `pos` of a region, when it ends by `limit` and checks(r) of R353 hold. -/
def readRecord (rd : Nat → Nat → List Byte) (j pos limit : Nat) : Option (WalkRec × Nat) :=
  if pos + 32 > limit then none
  else
    let h := rd pos 24
    let le := fun o n => ofBytesLE ((h.drop o).take n)
    let len := le 4 2
    let size := recordSize len
    if len > 16352 ∨ pos + size > limit then none
    else
      let bs := rd pos size
      let seq := le 8 8
      let txn := w64 (le 16 8)
      if ofBytesLE ((bs.drop (size - 8)).take 4) = crc32c (bs.take (size - 8))
          ∧ ofBytesLE (bs.drop (size - 4)) = seq % 2 ^ 32
          ∧ le 1 1 = 0 ∧ le 6 2 / 512 = 0 ∧ field txn 63 48 = 0 ∧ le 2 2 = j
          ∧ payloadReservedZero (le 0 1) ((bs.drop 24).take len) = true then
        some (⟨le 0 1, seq, txn, (bs.drop 24).take len⟩, size)
      else none

/-- The records of one segment from offset `off`, each with the SEQ after the one before; `fuel` bounds their number. -/
def walkSegment (rd : Nat → Nat → List Byte) (j base limit : Nat) : Nat → Nat → Option Nat → List WalkRec
  | 0, _, _ => []
  | fuel + 1, off, expect =>
    match readRecord rd j (base + off) limit with
    | none => []
    | some (r, size) =>
      if expect.isSome ∧ expect ≠ some r.seq then []
      else if r.ty = 2 then [r]
      else r :: walkSegment rd j base limit fuel (off + size) (some (r.seq + 1))

/-- SEG_INDEX of the valid segment in slot `p`, and the SEQ of its SEG_OPEN (R353). -/
def validSlot (rd : Nat → Nat → List Byte) (j : Nat) (c : JCfg) (p : Nat) : Option (Nat × Nat) :=
  match readRecord rd j (p * c.segSize) ((p + 1) * c.segSize) with
  | some (r, _) =>
    let le := fun o n => ofBytesLE ((r.payload.drop o).take n)
    if r.ty = 1 ∧ r.payload.length = 40 ∧ le 8 8 = c.base ∧ le 16 8 = c.size ∧ le 34 1 = c.segLog2
        ∧ le 35 1 = b2n c.ring ∧ le 0 8 % c.slots = p then some (le 0 8, r.seq)
    else none
  | none => none

/-- What the walk of a region finds: the run of segments, oldest first, and its records, void ones left out. -/
structure Scan where
  segs : List (Nat × Nat)
  /-- SEG_INDEX of the oldest valid segment (R330) -/
  oldest : Nat
  records : List WalkRec
deriving DecidableEq, Repr

/-- Grove and CNUM of a transactional record; none outside a transaction. -/
def WalkRec.commit (r : WalkRec) : Option (Nat × Nat) :=
  if bit r.txn 36 then some (field r.txn 35 32, field r.txn 31 0) else none

/-- The (GROVE, CNUM) pairs a VOID record lists (R343). -/
def WalkRec.voids (r : WalkRec) : List (Nat × Nat) :=
  if r.ty = 5 then
    (List.range (r.payload.length / 8)).map (fun k =>
      let e := (r.payload.drop (8 * k)).take 8
      ((e.getD 4 0#8).toNat % 16, ofBytesLE (e.take 4)))
  else []

/-- The walk of R353. -/
def scan (rd : Nat → Nat → List Byte) (j : Nat) (c : JCfg) : Scan :=
  let valid := (List.range c.slots).filterMap (fun p => validSlot rd j c p)
  let top := valid.foldl (fun m g => max m g.1) 0
  let runLen := ((List.range (valid.length + 1)).find? (fun k =>
    !(decide (k ≤ top) && valid.any (fun g => g.1 + k == top)))).getD 0
  let segs := (List.range runLen).reverse.filterMap (fun k => valid.find? (fun g => g.1 + k == top))
  let recs := segs.flatMap (fun g =>
    let b := (g.1 % c.slots) * c.segSize
    walkSegment rd j b (b + c.segSize) (c.segSize / 32) 0 none)
  let voided := fun (r : WalkRec) => match r.commit with
    | some k => recs.any (fun v => decide (r.seq < v.seq) && v.voids.contains k)
    | none => false
  let oldest := valid.foldl (fun m g => min m g.1) top
  ⟨segs, oldest, recs.filter (fun r => !voided r)⟩

/-- The scan of journal `j`'s region on its drive. -/
def State.scanJournal (s : State) (j : Nat) (c : JCfg) : Scan := scan (s.mediaRead c) j c

/-- The configured persistent journals (R328). -/
def State.persistentJournals (s : State) : List (Nat × JCfg) :=
  (List.range (s.secLE 0x31 0 4)).filterMap (fun i =>
    let j := s.secLE 0x31 (8 + 32 * i) 2
    match s.jcfg j with
    | some c => if c.ring then none else some (j, c)
    | none => none)

/-- The transactional records after the last SYNC record of a scan: tail(J) of R373. -/
def Scan.tail (x : Scan) : List WalkRec :=
  let last := (x.records.filter (fun r => r.ty == 3)).foldl (fun m r => max m (r.seq + 1)) 0
  x.records.filter (fun r => r.commit.isSome && decide (last ≤ r.seq))

/-- RECOVERED_MSEQ of the resolved directory, and its other counts (R362). -/
def State.directory (s : State) : Nat × Nat × Nat × Nat :=
  match s.resolve 0 with
  | .copy _ _ b => (ofBytesLE (b.take 8), ofBytesLE ((b.drop 8).take 4), ofBytesLE ((b.drop 12).take 4),
      ofBytesLE ((b.drop 16).take 4))
  | _ => (0, 0, 0, 0)

/-- The commits covered by the intact markers above RECOVERED_MSEQ: the set C of R373. -/
def State.markedCommits (s : State) : List (Nat × Nat) :=
  (List.range 48).flatMap (fun k =>
    let bs := s.line (16 + k)
    if lineIntact (16 + k) bs ∧ s.directory.1 < lineSeq bs then
      let b := lineBody bs
      ((List.range 32).filter (fun i => (ofBytesLE ((b.drop 8).take 4)).testBit i)).map (fun i =>
        ((b.getD 0 0#8).toNat % 16, (ofBytesLE ((b.drop 4).take 4) + i) % 2 ^ 32))
    else [])

/-- The open scan of journal `j` has succeeded: its tail is noted, and recovery will decide on it (R373). -/
def State.noteScan (s : State) (j : Nat) (c : JCfg) : State :=
  let recs := (s.scanJournal j c).tail.filterMap (fun r => r.commit.map (fun k => (k.1, k.2, field r.txn 42 38)))
  { s with jw := { s.jw with
    scanned := s.jw.scanned ++ [j]
    tails := s.jw.tails ++ recs
    toRecover := s.jw.toRecover ++ [j] } }

/-- The tail record `r` is kept (R373): a durable one when its commit is marked, a volatile one when all records of
its commit lie in tails. -/
def keepRecord (marked : List (Nat × Nat)) (tails : List (Nat × Nat × Nat)) (r : WalkRec) : Bool :=
  match r.commit with
  | none => true
  | some k =>
    if bit r.txn 37 then marked.contains k
    else (List.range (field r.txn 47 43 + 1)).all (fun n => tails.contains (k.1, k.2, n))

/-- The first failed check of R330 among those that read the drive's description; 0 when all pass. -/
def State.openCheck (s : State) (c : JCfg) : Nat :=
  if !(s.flag (Reg.JW_CTRL c.ctrl) 0 && s.flag (Reg.JW_CTRL c.ctrl) 1) then 1
  else match (smGet none s.drives c.ctrl).bind (fun d => d.spaces.find? (fun n => n.nsid == c.nsid)) with
    | none => 2
    | some n =>
      if n.lbaShift ≠ 9 ∧ n.lbaShift ≠ 12 then 3
      else if n.metadata then 4
      else if c.base % 2 ^ n.lbaShift ≠ 0 ∨ c.size % 2 ^ n.lbaShift ≠ 0 ∨ n.capacity < c.base + c.size then 5
      else if n.readOnly then 6
      else 0

/-- The admin commands that make a controller ready: its description, its write cache, which is switched on where there
is one, and its four queue pairs (R347; their order is the model's, log 122). -/
def controllerStart (vwc : Bool) : List NvmeAdmin :=
  [.identify 1 0, .volatileWriteCache] ++ (if vwc then [.setVolatileWriteCache true] else [])
    ++ [.numberOfQueues 4, .getNumberOfQueues] ++ (List.range 4).flatMap (fun q =>
    [.createCq (q + 1), .createSq (q + 1)])

/-- The admin commands that take a controller's queue pairs away again, when the JW's domain is about to be switched off
(R347, log 122). -/
def controllerStop : List NvmeAdmin := (List.range 4).flatMap (fun q => [.deleteSq (q + 1), .deleteCq (q + 1)])

/-- The queue pairs of every ready controller taken away before the JW's domain is switched off. -/
def State.stopControllers (s : State) : State :=
  (List.range 16).foldl (fun s i => if s.flag (Reg.JW_CTRL i) 1 then s.sendAdmins i controllerStop else s) s

/-- The admin commands of an open: the namespaces, and the one that holds the journal (R330, R347). -/
def JCfg.openAdmin (c : JCfg) : List NvmeAdmin := [.identify 2 0, .identify 0 c.nsid]

/-- Read number `p` of the open scan, counted round the slots: the SEG_OPEN record of a slot (R330). -/
def State.sendScan (s : State) (c : JCfg) (p : Nat) : State :=
  let n := recordSize 40
  let m := s.stageJw n
  let r := m.1.sendIo c.ctrl .read c.nsid (c.base + p % c.slots * c.segSize) n (prpEntries m.2 n)
  r.1.nvmeWrites [(r.1.cqEntry c.ctrl r.2.1 r.2.2, 16)]

/-- The commands of an open, each issued once more where it fails (`timely` the admin commands, `readOk` the reads), up to
the first that fails finally (R330, R348). -/
def State.sendOpen (s : State) (c : JCfg) (readOk timely : List IoRetry) : State :=
  let again := fun k (s : State) => s.sendAdmins c.ctrl (c.openAdmin[k % c.openAdmin.length]?).toList
  let s := (s.sendAdmins c.ctrl c.openAdmin).ioRetries c.ctrl again timely
  if ioCode timely ≠ 0 then s
  else ((List.range c.slots).foldl (fun s p => s.sendScan c p) s).ioRetries c.ctrl (fun k s => s.sendScan c k) readOk

/-- Controller `i` as the firmware finds it and makes it ready before it opens a journal on it: `JW_CTRLi` (R347). -/
def State.enumerate (s : State) (i : Nat) : State :=
  let a := Reg.JW_CTRL i
  match smGet none s.drives i with
  | none => (s.setFlag a 0 false).setFlag a 1 false
  | some d =>
    let s := if d.ready && !s.flag a 1 then s.sendAdmins i (controllerStart d.vwc ++ [.asyncEvent]) else s
    let s := ((s.setFlag a 0 true).setFlag a 1 d.ready).setFlag a 2 d.vwc
    let s := (s.setFld a 15 8 d.mdts.toNat).setFld a 23 16 d.bus.toNat
    (s.setFld a 28 24 d.device.toNat).setFld a 31 29 d.function.toNat

/-- Journal `j` OPEN, or FULL when no slot is free for its next segment. -/
def State.opened (s : State) (j : Nat) (c : JCfg) : State :=
  s.setJstate j (if (s.journal j).segOpen || s.slotFree j c then 2 else 3) 0

/-- Journal `j` resumed after the last record its scan kept, in a new segment (R330). The transactions of its tail are
those of the scan: what this JW knows of one stands, a VOID record that the scan did not find being written again; of
the rest, those of `drop` are to be voided. -/
def State.resume (s : State) (j : Nat) (c : JCfg) (x : Scan) (drop : List (Nat × Nat)) : State :=
  let old := s.journal j
  let tail := ((x.tail.filterMap (fun r => r.commit)).eraseDups).map (fun k =>
    match old.tail.find? (fun t => t.grove == k.1 && t.cnum == k.2) with
    | some t => { t with settled := t.settled && !t.void, sync := 0 }
    | none => ⟨k.1, k.2, !drop.contains k, drop.contains k, 0⟩)
  let next := x.records.foldl (fun m r => max m (r.seq + 1)) 0
  let seg := (x.segs.getLast?.map (fun g => g.1 + 1)).getD 0
  let s := s.setJournal j { Journal.reset with
    segs := x.segs
    nextSeg := seg
    tail := tail
    dirty := old.dirty
    lastSync := old.durSync
    durSync := old.durSync }
  let s := s.wr (Reg.JW_JSEQ j) (w64 next)
  let s := if s.flag (Reg.JW_JCFG j) 0 then s
    else s.wr (Reg.JW_JREL j) (w64 x.oldest)
  let s := s.setFld (Reg.JW_JSTATE j) 19 16 (s.lbaShift c)
  if s.slotFree j c then s.openSegment j c else s

/-- What recovery does in journal `j` (R373): it resumes, VOID records list what is not kept, and where its tail is not
empty a SYNC record and a Flush follow, at the end of which it is open; a SYNC record waits where a commit still in
flight forbids it (R344). -/
def State.recoverJournal (s : State) (j : Nat) (c : JCfg) : State :=
  let x := s.scanJournal j c
  let marked := s.jw.marked.getD []
  let drop := ((x.tail.filter (fun r => !keepRecord marked s.jw.tails r)).filterMap (fun r => r.commit)).eraseDups
  let s := s.resume j c x drop
  if x.tail.isEmpty then s.opened j c
  else
    let s := s.writeVoids j c
    let s := if s.maySync j then (s.laySync j c).1 else s
    (s.setJstate j 1 0).issueFlush j c 0 .recovered

/-- Recovery decides on the journals scanned once every configured persistent journal has been scanned or has failed its
open; its set C is that of the markers then intact (R373; log 123). -/
def State.pollRecovery (s : State) : State :=
  if s.jw.toRecover.isEmpty || s.persistentJournals.any (fun p => s.jstate p.1 == 0) then s
  else
    let js := s.jw.toRecover
    let marked := s.jw.marked.getD s.markedCommits
    let s : State := { s with jw := { s.jw with toRecover := [], marked := some marked } }
    js.foldl (fun s j =>
      match s.jcfg j with
      | some c => s.recoverJournal j c
      | none => s) s

/-- The commits of C of which some record is missing from every journal that was scanned, and the journals that hold the
others (R373). -/
def State.missing (s : State) : List (Nat × Nat × List Nat) :=
  let read := s.persistentJournals.filter (fun p => s.jw.scanned.contains p.1)
  let all := read.flatMap (fun p => ((s.scanJournal p.1 p.2).records.map (fun r => (p.1, r))))
  (s.jw.marked.getD s.markedCommits).filterMap (fun k =>
    let mine := all.filter (fun r => r.2.commit == some k)
    let last := (mine.head?.map (fun r => field r.2.txn 47 43)).getD 0
    if (List.range (last + 1)).all (fun n => mine.any (fun m => field m.2.txn 42 38 == n)) then none
    else some (k.1, k.2, (mine.map (fun m => m.1)).eraseDups))

/-- Recovery is over when the negotiation is locked and no configured persistent journal is UNCONFIGURED or OPENING
(R328, R373). -/
def State.recoveryOver (s : State) : Bool :=
  s.flag Reg.NEG_LOCK 0
    && (!s.accepted 1 || s.persistentJournals.all (fun p => s.jstate p.1 != 0 && s.jstate p.1 != 1))

/-- The end of recovery: journals of commits with a missing record go to ERROR, the last-fault record is resolved too, so
that the directory counts its split (R360), every marker slot is free, with the MSEQ of its line (R368; a line that is
not intact is taken as written least recently, log 115), and the directory is written last: RECOVERED is set when its
lines are complete (R373, R375). -/
def State.finishRecovery (s : State) : State :=
  if s.flag Reg.HW_SB_STATUS 22 ∨ s.keeper.recovering = true ∨ !s.recoveryOver then s
  else
    let s := (s.resolveReported 0).1
    let s := (s.resolveReported 2).1
    let d := s.directory
    let lines := (List.range 48).map (fun k => (16 + k, s.line (16 + k)))
    let torn := (lines.filter (fun p => !lineIntact p.1 p.2 && !allZero p.2)).length
    let top := (lines.filter (fun p => lineIntact p.1 p.2)).foldl (fun m p => max m (lineSeq p.2)) 0
    let s := s.missing.foldl (fun s m =>
      let s := m.2.2.foldl (fun s j => s.setJstate j 4 7) s
      s.recordError .heartwood { ErrInfo.of 0x1C m.2.1 with lasting := true, req := 4, glade := m.1 }) s
    let mseq := max d.1 top
    let body := bytesLE 8 mseq ++ bytesLE 4 (d.2.1 + 1) ++ bytesLE 4 (min (d.2.2.1 + torn) 0xFFFFFFFF)
      ++ bytesLE 4 (min (d.2.2.2 + s.keeper.splits) 0xFFFFFFFF) ++ List.replicate 76 0#8
    let slots := lines.foldl (fun m p =>
      smSet Slot.reset m p.1 { Slot.reset with written := if lineIntact p.1 p.2 then lineSeq p.2 else 0 }) []
    let s := { s with keeper := { s.keeper with splits := 0, slots := slots, recovering := true } }
    let s := s.wr Reg.HW_SB_MSEQ (w64 (mseq + 1))
    s.updateRecord 0 body

end Sys2Proof.Machine
end

