-- ==== Sys2Proof/Machine/Txu.lean ====
section
/-! DEFINITION. The transaction units: decision in FREE and TICKET order (R317 to R321), the steps of a durable commit
(R314 to R316, R336) and application (R312, R313, R320). -/

namespace Sys2Proof.Machine

/-- The records of a transaction that go to persistent journals. -/
def State.persistentRecords (s : State) (t : Txn) : List Rec := t.records.filter (fun r => s.persistent r.journal)

/-- A durable commit that is carried out as one (R315). -/
def State.isDurable (s : State) (t : Txn) : Bool := t.wantDurable && !(s.persistentRecords t).isEmpty

/-- Each record of a transaction with its INDEX (R341). -/
def Txn.indexed (t : Txn) : List (Nat × Rec) := (List.range t.records.length).zip t.records

/-- Code with which a journal refuses a record at application: 8 JOURNAL when FULL, or not configured any more, 12 MEDIA
in ERROR or SEALED (R336; SEALED and not configured as a close answers them, log 16); none when it accepts. -/
def State.refusesRecord (s : State) (j : Nat) : Option Nat :=
  match s.jcfg j with
  | none => some 8
  | some c =>
    match s.jstate j with
    | 2 =>
      let x := s.journal j
      if x.segOpen ∨ s.slotFree j c = true then none else some 8
    | 3 => some 8
    | 4 => some 12
    | 5 => some 12
    | _ => some 8

/-- The code with which the journals of some records refuse them: the lowest that applies (R322, R336). -/
def State.refusalOf (s : State) (rs : List Rec) : Option Nat :=
  (rs.filterMap (fun r => s.refusesRecord r.journal)).foldl (fun m c => match m with
    | some k => some (min k c)
    | none => some c) none

/-- A record's journal is OPENING: no record is accepted there yet (R328). -/
def State.awaitsOpen (s : State) (t : Txn) : Bool := t.records.any (fun r => s.jstate r.journal == 1)

/-- One record of Glade `i`'s transaction numbered and placed (R336, R341); false when no slot was free for it. In
step 2 (`step2`) it is written with FUA where its journal is persistent, and its transaction stays unsettled. -/
def State.placeRecord (s : State) (i : Nat) (t : Txn) (step2 : Bool) (p : Nat × Rec) : State × Bool :=
  let r := p.2
  match s.jcfg r.journal with
  | none => (s, false)
  | some c =>
    let g := i / 16
    let txn := txnField t.cnum g (t.step != .volatile) p.1 (t.records.length - 1)
    match s.append r.journal c r.rtype r.src txn r.payload step2 (if step2 then .durable i t.cnum else .none) with
    | (s, some q) =>
      let s := s.updJournal r.journal (fun x => { x with
        tail := x.tail.filter (fun e => !(e.grove == g && e.cnum == t.cnum)) ++ [⟨g, t.cnum, !step2, false, 0⟩] })
      (match s.txn i with
      | some t' => (s.setTxn i (some { t' with placed := joinPlaced t'.placed [(r.journal, q)] }), true)
      | none => (s, true))
    | (s, none) => (s, false)

/-- Records placed in order until one finds no slot. -/
def State.placeRecords (s : State) (i : Nat) (t : Txn) (step2 : Bool) : List (Nat × Rec) → State × Bool
  | [] => (s, true)
  | p :: ps =>
    match s.placeRecord i t step2 p with
    | (s, true) => s.placeRecords i t step2 ps
    | (s, false) => (s, false)

/-- A durable commit that fails after step 2 began: VOID records where its records stand, and its abort (R344). -/
def State.failDurable (s : State) (i code : Nat) : State :=
  match s.txn i with
  | none => s
  | some t =>
    let s := s.voidTxn (i / 16) t.cnum (t.placed.map (fun p => p.1))
    (s.dropCost t.cost).retireAbort i code (if s.ticketMode (i / 16) then t.ticket else 0)

/-- Step 2 of R314 for Glade `i`: its records are numbered (R336) and laid in their journals, with FUA in the persistent
ones; a refusal retires it. -/
def State.beginStep2 (s : State) (i : Nat) : State :=
  match s.txn i with
  | none => s
  | some t =>
    match s.refusalOf t.records with
    | some code => s.failDurable i code
    | none =>
      let r := (s.setTxn i (some { t with step := .write })).placeRecords i t true t.indexed
      if r.2 then r.1 else r.1.failDurable i 8

/-- Records are numbered in decision order (R336, R320): step 2 starts for each admitted commit of Grove `g` that no
commit with records not yet numbered precedes, once none of its journals is OPENING. In a FREE Grove nothing orders
them. -/
def State.advance (s : State) (g : Nat) : State :=
  ((s.txu g).decided.foldl (fun (acc : State × Bool) k =>
    match acc.1.txn (16 * g + k) with
    | none => acc
    | some t =>
      if t.step = .admitted ∧ acc.2 = true ∧ acc.1.awaitsOpen t = false then (acc.1.beginStep2 (16 * g + k), acc.2)
      else if (t.step = .admitted ∨ t.step = .volatile) ∧ t.records ≠ [] ∧ s.ticketMode g = true then (acc.1, false)
      else acc) (s, true)).1

/-- Glade `i`'s commit with CNUM `cnum` is in step 2 of R314. -/
def State.inStep2 (s : State) (i cnum : Nat) : Bool :=
  match s.txn i with
  | some t => t.state == .decided && t.step == .write && t.cnum == cnum
  | none => false

/-- The write of step 2 that carried `.durable i cnum` is complete; with none left the commit waits for its marker. -/
def State.step2Done (s : State) (i cnum : Nat) : State :=
  let left := s.jw.queues.any (fun q => q.2.any (fun c => c.purpose == .durable i cnum))
  match s.txn i with
  | some t =>
    if s.inStep2 i cnum = true ∧ left = false then
      let n := s.keeper.readied
      let s : State := { s with keeper := { s.keeper with readied := n + 1 } }
      (s.setTxn i (some { t with step := .marker, readied := n })).checkStall (i / 16)
    else s
  | none => s

/-! ### Decision -/

/-- Granules (64 bytes) a transaction wrote. -/
def Txn.wgranules (t : Txn) : List Nat := (t.wset.map (fun e => e.1 / 64)).eraseDups

/-- Glade `i`'s COMMITTING transaction decided as a commit with ticket `n` (R312): it counts in the window (R319) and,
with records, in the count of CNUMs. Then step 1 of R314: a durable one is admitted or, in HOLDUP, refused by the
estimator (R414). -/
def State.decideCommit (s : State) (i n : Nat) : State :=
  let g := i / 16
  match s.txn i with
  | none => s
  | some t =>
    let x := s.txu g
    let cnum := if s.ticketMode g then n else x.cnum
    let durable := s.isDurable t
    let cost := s.mediaNs + 1100
    let s := s.setTxu g { x with
      received := x.received.erase (i % 16)
      decided := x.decided ++ [i % 16]
      cnum := if t.records.isEmpty then x.cnum else (x.cnum + 1) % 2 ^ 32
      window := if s.ticketMode g then x.window ++ [(n, t.wgranules)] else x.window }
    if durable && s.inHoldup && decide (s.availNs < cost) then s.retireAbort i 11 n
    else
      let held := if durable ∧ s.inHoldup = true then cost else 0
      let s := (s.addCost held).setTxn i (some { t with
        state := .decided
        ticket := n
        cnum := cnum
        step := if durable then .admitted else .volatile
        cost := held })
      s.advance g

/-- The TXU of a FREE Grove decides the commit it received first: a conflict is a granule read, or a word written, that
a commit decided and not yet applied writes (R303, R317). -/
def State.freeDecide (s : State) (g : Nat) : State :=
  match (s.txu g).received with
  | [] => s
  | k :: _ =>
    let i := 16 * g + k
    match s.txn i with
    | none => s.setTxu g { s.txu g with received := (s.txu g).received.erase k }
    | some t =>
      if t.dooms ≠ 0#16 then s.retireAbort i t.code 0
      else
        let meets := fun (u : Txn) => u.wset.any (fun e =>
          t.rset.contains (e.1 / 64) || t.wset.any (fun f => f.1 == e.1))
        if (s.decidedTxns g).any (fun p => meets p.2) then s.retireAbort i 1 0
        else s.decideCommit i 0

/-- PASSes of Grove `g` whose last turn is reached and whose earlier decided tickets have been applied, or have failed,
retire (R320). -/
def State.settlePasses (s : State) (g : Nat) : State :=
  (s.txu g).passDone.foldl (fun s p =>
    if (s.decidedTxns g).any (fun d => decide ((p.2 + 2 ^ 32 - d.2.ticket) % 2 ^ 32 < 2 ^ 31)) then s
    else
      let x := s.txu g
      let s := s.setTxu g { x with passDone := x.passDone.erase p, passLen := smSet 0 x.passLen p.1 0 }
      s.retireTxu (16 * g + p.1) (statusWord false false true 0 (smGet 0 x.passLen p.1) p.2)) s

/-- The rotation after ticket `n` of member `k` (R318). -/
def State.nextTurn (s : State) (g n k : Nat) : State :=
  let x := s.txu g
  let next := (n + 1) % 2 ^ 32
  let near := fun t => decide ((next + 2 ^ 32 - t) % 2 ^ 32 < x.size)
  s.setTxu g { x with
    next := next
    turn := nextMember x.members k
    window := x.window.filter (fun w => near w.1)
    versions := x.versions.filter (fun v => near v.1) }

/-- The COMMIT or PASS of Glade `i` orders after the stores before it: they have drained (R176). -/
def State.turnReady (s : State) (i : Nat) : Bool :=
  match (s.glade i).txuOp with
  | some o => s.drainedBefore i o.seq
  | none => true

/-- Glade `i` stopped while its transaction was COMMITTING: the ticket of that COMMIT is still its own (log 16). -/
def State.haltedCommit (s : State) (i : Nat) : Bool :=
  match s.txn i with
  | some t => t.state == .committing && t.halted
  | none => false

/-- The TXU of a TICKET Grove decides the ticket whose turn it is, once its member's turn action is there (R318 to
R321). The ticket at which a member leaves is the last turn of a PASS that it still has in progress (log 118); a COMMIT
that it made after a restart is aborted there with INTERRUPTED (log 16). -/
def State.ticketDecide (s : State) (g : Nat) : State :=
  let x := s.txu g
  let n := x.next
  let k := x.turn
  let i := 16 * g + k
  if !s.ticketMode g || x.members == 0#16 || decide (x.decided.length ≥ 32) then s
  else if x.leaving.getLsbD k && !s.haltedCommit i then
    let s := match s.txn i with
      | some t => if t.state = TxnState.committing then s.retireAbort i 14 n else s
      | none => s
    let x := s.txu g
    let p := smGet 0 x.passes k
    let s := s.setTxu g { x with
      members := x.members &&& ~~~(1#16 <<< k)
      leaving := x.leaving &&& ~~~(1#16 <<< k)
      passes := smSet 0 x.passes k 0
      passLen := if p = 0 then x.passLen else smSet 0 x.passLen k (smGet 0 x.passLen k + 1 - p)
      passDone := if p = 0 then x.passDone else x.passDone ++ [(k, n)] }
    (s.tallyInc (dev (96 + g)) 1).nextTurn g n k
  else if s.turnReady i = false then s
  else if smGet 0 x.passes k ≠ 0 then
    let p := smGet 0 x.passes k
    let s := s.setTxu g { x with
      passes := smSet 0 x.passes k (p - 1)
      passDone := if p = 1 then x.passDone ++ [(k, n)] else x.passDone }
    s.nextTurn g n k
  else match s.txn i with
    | some t =>
      if t.state ≠ .committing then s
      else
        let s' := if x.window.any (fun w => w.2.any (fun gr => t.rset.contains gr)) then s.retireAbort i 1 n
          else if t.dooms ≠ 0#16 then s.retireAbort i t.code n
          else s.decideCommit i n
        s'.nextTurn g n k
    | none => s

/-! ### Application -/

/-- The write set of Glade `i`'s commit written to Grove memory; a TICKET Grove keeps the words it replaces (R312,
R318); a word that entered poisoned is written poisoned (R309). Each word passes the dual-port rule (R247). -/
def State.applyWrites (s : State) (i : Nat) (t : Txn) : State :=
  let g := i / 16
  t.wset.foldl (fun s e =>
    let s := if s.ticketMode g then
        s.setTxu g { s.txu g with versions := (s.txu g).versions ++ [(t.ticket, e.1, s.codeAt e.1)] }
      else s
    let p := s.portAnswer (.txu g) true e.1
    if p.2.failed then p.1
    else (p.1.storeCode e.1 (if e.2.2 then poisonWord else encodeWord e.2.1 true)).spoil (.txu g) e.1 8) s

/-- In a FREE Grove every other transaction not yet decided whose read set meets the applied write set is doomed with
CONFLICT (R317). -/
def State.doomReaders (s : State) (i : Nat) (t : Txn) : State :=
  let g := i / 16
  let met := fun (u : Txn) => u.rset.any (fun r => t.wgranules.contains r)
  if s.ticketMode g then s
  else (List.range 16).foldl (fun s k =>
    if k = i % 16 then s
    else match s.txn (16 * g + k) with
      | some u => if met u then s.setTxn (16 * g + k) (some (u.doom 1)) else s
      | none => s) (s.setTxu g ((s.txu g).doomKept (some (i % 16)) met 1))

/-- The decided transaction of Glade `i` may be applied: volatile, with none of its journals OPENING, or durable with its
marker complete; in a TICKET Grove only the earliest (R312, R314, R320, R328). Memory that answers no access holds it back
(R265). -/
def State.canApply (s : State) (i : Nat) : Bool :=
  match s.txn i with
  | some t =>
    t.state == .decided && !s.memoryWaits (i / 16) && t.packets.all (fun w => !s.queueWaits w.queue)
      && (t.step == .durable || (t.step == .volatile && !s.awaitsOpen t))
      && (!s.ticketMode (i / 16) || (s.txu (i / 16)).decided.head? == some (i % 16))
  | none => false

/-- Application of Glade `i`'s decided transaction (R312), a durable one's records standing already (R336). `fail`: it
meets an uncorrectable error in the TXU's own storage, applies nothing and retires with MEMORY. A journal that refuses
a record retires it with that code (R336). -/
def State.applyTxn (s : State) (i : Nat) (fail : Bool) : State :=
  let g := i / 16
  match s.txn i with
  | none => s
  | some t =>
    let durable := t.step == .durable
    let recs := if durable then [] else t.indexed
    let refused := if fail then some 13 else s.refusalOf (recs.map (fun p => p.2))
    match refused with
    | some code => (s.failDurable i code).advance g
    | none =>
      let placed := s.placeRecords i t false recs
      if !placed.2 then (s.failDurable i 8).advance g
      else
      let s := (placed.1.applyWrites i t).doomReaders i t
      let s := t.packets.foldl (fun s w =>
        if (s.peekDesc w.queue).broken then s.freeCells w.queue w.cells
        else (s.linkPacket w.queue w.cells w.words.length false false i 0).1) s
      let s := s.wrapAdd (Reg.GRV_TXU_COMMITS g) (if durable then 63 else 31) (if durable then 32 else 0) 1
      let s := s.setTxu g { s.txu g with decided := (s.txu g).decided.erase (i % 16) }
      let s := s.setTxn i none
      let s := s.retireTxu i (statusWord true durable false 0 0 (if s.ticketMode g then t.ticket else 0))
      s.advance g

end Sys2Proof.Machine
end

