-- ==== Sys2Proof/Machine/JwOps.lean ====
section
/-! DEFINITION. The commands and events of the journal writer: `JW_CMD` (R328 to R338), acceptance of records (R334 to
R337), drive completions (R348), captures (R350) and sealing in hold-up and SAFE (R351). -/

namespace Sys2Proof.Machine

/-! ### `JW_CMD` -/

/-- A command of `JW_CMD` taken up: GO and BUSY set. -/
def State.jwStart (s : State) (op j : Nat) (issued : Bool) : State :=
  let v := setField (setField (setField (setField (s.rd Reg.JW_CMD) 3 0 op) 27 16 j) 62 62 1) 63 63 1
  { s.wr Reg.JW_CMD v with jw := { s.jw with command := some ⟨op, j, issued, [], []⟩ } }

/-- The command of `JW_CMD` complete with `code`: BUSY and GO clear. -/
def State.jwDone (s : State) (code : Nat) : State :=
  let s := (s.setFlag Reg.JW_CMD 62 false).setFlag Reg.JW_CMD 63 false
  { s.setFld Reg.JW_CMD_STATUS 3 0 code with jw := { s.jw with command := none } }

/-- A command of `JW_CMD` that completes at once. -/
def State.jwAtOnce (s : State) (op j code : Nat) : State := (s.jwStart op j false).jwDone code

/-- BUSY of `JW_CMD`: GO is ignored. -/
def State.jwBusy (s : State) : Bool := s.flag Reg.JW_CMD 62

/-- A write of `JW_CMD` with GO, OP `op` and JOURNAL `j`: `f` carries the command out; while one is in progress GO is
ignored, and the two fields alone are written (R10, R348). -/
def State.jwIfIdle (s : State) (op j : Nat) (f : State → State) : State :=
  if s.jwBusy then s.fieldsWrite Reg.JW_CMD (w64 (op + j * 2 ^ 16)) else f s

/-- Journal `j` is configured (R328): named by the Stand Map, and the feature its store needs accepted (R90). -/
def State.configured (s : State) (j : Nat) : Option JCfg :=
  (s.jcfg j).bind (fun c => if s.accepted (if c.ring then 2 else 1) then some c else none)

/-- The open of R330: checks 1 to 6, then 7 and 8 by the first command that fails finally, among the open's other
commands (`timely`) and the reads of the scan (`readOk`): 7 by an error, 8 by a timeout (R348, log 123). -/
def State.openCode (s : State) (c : JCfg) (readOk timely : List IoRetry) : Nat :=
  let k := s.openCheck c
  if k ≠ 0 then k else ioCode (timely ++ readOk)

/-- A persistent journal checked and scanned (R330), each command of the open being issued once more where it fails
(R348): in ERROR where a check fails; else OPENING until recovery is done with it (R328, R373). -/
def State.openPersistent (s : State) (op j : Nat) (c : JCfg) (readOk timely : List IoRetry) : State :=
  let s := s.enumerate c.ctrl
  let code := s.openCode c readOk timely
  let s := if s.openCheck c = 0 then s.sendOpen c readOk timely else s
  if code ≠ 0 then (s.setJstate j 4 code).jwAtOnce op j 4
  else ((s.noteScan j c).setJstate j 1 0).jwAtOnce op j 0

/-- OPEN (R328, R330, R373). A ring starts empty; a persistent journal is scanned and waits for recovery. -/
def State.jwOpen (s : State) (j : Nat) (readOk timely : List IoRetry) : State :=
  if s.jwBusy then s
  else match s.configured j with
    | none => s.jwAtOnce 1 j 1
    | some c =>
      if s.jstate j ≠ 0 then s.jwAtOnce 1 j 1
      else if c.ring then
        let s := ((s.unspoil c.base c.size).setJournal j Journal.reset).wr (Reg.JW_JSEQ j) 0#64
        ((s.openSegment j c).setJstate j 2 0).jwAtOnce 1 j 0
      else s.openPersistent 1 j c readOk timely

/-- A command of journal `j` is queued or at its drive, or a Flush that seals it (R351). -/
def State.journalBusy (s : State) (j : Nat) : Bool :=
  s.jw.queues.any (fun q => q.2.any (fun k => k.journal == j || (match k.purpose with
    | .sealed js => js.contains j
    | _ => false)))

/-- REOPEN, from ERROR or SEALED: the open of R330 again, with its recovery, resuming after the last record kept
(R348). It waits for the SEG_CLOSE and the Flush that sealed the journal: its scan is to find that record. -/
def State.jwReopen (s : State) (j : Nat) (readOk timely : List IoRetry) : State :=
  if s.jwBusy then s
  else match s.configured j with
    | none => s.jwAtOnce 5 j 1
    | some c =>
      if s.jstate j ≠ 4 ∧ s.jstate j ≠ 5 then s.jwAtOnce 5 j 1
      else if c.ring then
        let s := ((s.unspoil c.base c.size).setJournal j Journal.reset).wr (Reg.JW_JSEQ j) 0#64
        ((s.openSegment j c).setJstate j 2 0).jwAtOnce 5 j 0
      else if s.journalBusy j then
        let s := s.jwStart 5 j false
        { s with jw := { s.jw with command := some ⟨5, j, false, readOk, timely⟩ } }
      else s.openPersistent 5 j c readOk timely

/-- The SYNC record and SEG_CLOSE of a SEAL command written (R338, `JW_CMD` OP 2); where no slot is free for them the
journal is FULL, the wrong state. -/
def State.jwSealWrite (s : State) (j : Nat) (c : JCfg) : State :=
  let r := s.writeSync j c
  let s := r.1.closeSegment j c 1 false .none
  if r.2.isNone then s.jwDone 1
  else if c.ring then s.jwDone 0
  else
    let s := s.issueFlush j c 0 .command
    { s with jw := { s.jw with command := some ⟨2, j, true, [], []⟩ } }

/-- SEAL: SYNC and SEG_CLOSE with REASON 1, once no transaction before it is unsettled (R344). -/
def State.jwSeal (s : State) (j : Nat) : State :=
  if s.jwBusy then s
  else match s.configured j with
    | none => s.jwAtOnce 2 j 1
    | some c =>
      if s.jstate j ≠ 2 then s.jwAtOnce 2 j 1
      else
        let s := s.jwStart 2 j false
        if s.maySync j then s.jwSealWrite j c else s

/-- FORMAT: Write Zeroes over the region of a persistent journal that is UNCONFIGURED or in ERROR. -/
def State.jwFormat (s : State) (j : Nat) : State :=
  if s.jwBusy then s
  else match s.jcfg j with
    | none => s.jwAtOnce 3 j 1
    | some c =>
      if c.ring ∨ (s.jstate j ≠ 0 ∧ s.jstate j ≠ 4) then s.jwAtOnce 3 j 1
      else
        let s := (s.enumerate c.ctrl).jwStart 3 j true
        s.issue c.ctrl ⟨.zeroes, j, c.base, [], 0, true, false, false, 0, .command, [], [], 0, 0⟩

/-- A capture's TARGET: an OPEN persistent journal of the ring's partition (R350). -/
def State.captureTarget (s : State) (j : Nat) (c : JCfg) : Option (Nat × JCfg) :=
  let t := s.fld (Reg.JW_JCFG j) 27 16
  match s.jcfg t with
  | some ct => if !ct.ring && ct.part == c.part && s.jstate t == 2 then some (t, ct) else none
  | none => none

/-- A capture of ring `j` begun: CAPTURE_BEGIN in its target (R350 step 2). -/
def State.beginCapture (s : State) (j : Nat) (k : Capture) : State :=
  match s.jcfg k.target with
  | none => s
  | some ct =>
    let body := bytesLE 2 j ++ bytesLE 1 k.cause ++ List.replicate 5 0#8 ++ bytesLE 8 k.time ++ bytesLE 8 k.first
      ++ bytesLE 8 k.last
    let s := (s.append k.target ct 6 jwSrc 0 body false .none).1
    s.updJournal j (fun x => { x with capture := some k, queued := none })

/-- A capture of ring `j` started, queued behind the one in progress, or merged into the queued one (R350). -/
def State.captureOrQueue (s : State) (j : Nat) (k : Capture) : State :=
  match (s.journal j).capture, (s.journal j).queued with
  | none, _ => s.beginCapture j k
  | some a, none => s.updJournal j (fun x => { x with
      queued := some { k with first := a.last + 1, next := a.last + 1 } })
  | some _, some b => s.updJournal j (fun x => { x with queued := some { b with last := max b.last k.last } })

/-- FIRST_SEQ and LAST_SEQ of a capture begun now. -/
def State.ringBounds (s : State) (j : Nat) : Nat × Nat :=
  (((s.journal j).segs.head?.map (fun g => g.2)).getD 0, (s.rd (Reg.JW_JSEQ j)).toNat - 1)

/-- PERSIST (R350). -/
def State.jwPersist (s : State) (j : Nat) : State :=
  if s.jwBusy then s
  else match s.configured j with
    | none => s.jwAtOnce 4 j 1
    | some c =>
      if !c.ring || s.jstate j != 2 then s.jwAtOnce 4 j 1
      else match s.captureTarget j c with
        | none => s.jwAtOnce 4 j 3
        | some t =>
          let b := s.ringBounds j
          (s.captureOrQueue j ⟨b.1, b.2, b.1, t.1, 0, 0, 0, s.now⟩).jwAtOnce 4 j 0

/-- The oldest trigger point of ring `j` taken up (R350); one whose target is invalid writes nothing. -/
def State.captureTrigger (s : State) (j : Nat) : State :=
  match s.jw.triggers.find? (fun t => t.1 == j) with
  | none => s
  | some t =>
    let s := { s with jw := { s.jw with triggers := s.jw.triggers.erase t } }
    match s.configured j with
    | none => s
    | some c =>
      if !c.ring || s.jstate j != 2 then s
      else match s.captureTarget j c with
        | none => s
        | some g => s.captureOrQueue j ⟨t.2.1, t.2.2.1, t.2.1, g.1, 0, 0, 1, t.2.2.2⟩

/-- A capture of ring `j` ended with RESULT `result`, or 0 and 1 by its losses when `result` is 0: CAPTURE_END, Flush
at a cost of `cost` ns, CAPTURE_DONE (R350 step 4). Into a target no longer OPEN it writes nothing (log 120). -/
def State.endCapture (s : State) (j result cost : Nat) (p : Purpose) : State :=
  match (s.journal j).capture with
  | none => s
  | some k =>
    let r := if result = 0 then (if k.lost = 0 then 0 else 1) else result
    let body := bytesLE 2 j ++ bytesLE 1 r ++ List.replicate 5 0#8 ++ bytesLE 8 k.copied ++ bytesLE 8 k.lost
      ++ bytesLE 8 s.now
    let s := match s.jcfg k.target with
      | none => s
      | some ct =>
        if s.jstate k.target ≠ 2 then s
        else ((s.append k.target ct 8 jwSrc 0 body false .none).1.issueFlush k.target ct cost p).addCost cost
    let s := s.satAdd Reg.JW_ERR_COUNTS 63 48 k.lost
    let s := s.updJournal j (fun x => { x with capture := none })
    s.tallyInc (dev 185) 1

/-- The capture of ring `j` runs to its end: every record still to copy is copied, or lost when the ring no longer
holds it; then a queued capture begins, if its target, looked up again, is one (R350). -/
def State.finishCapture (s : State) (j : Nat) : State :=
  match (s.journal j).capture, s.jcfg j with
  | some k, some c =>
    let s := (List.range (k.last + 1 - k.next)).foldl (fun s _ => s.copyOne j c) s
    let s := s.endCapture j 0 0 (.capture j)
    match (s.journal j).queued, s.captureTarget j c with
    | some q, some t => s.beginCapture j { q with target := t.1 }
    | some _, none => s.updJournal j (fun x => { x with queued := none })
    | none, _ => s
  | _, _ => s

/-- RELEASED of journal `j` raised; a lower value is ignored; a FULL journal with a free slot is OPEN again (R329). -/
def State.jrelWrite (s : State) (j : Nat) (v : W64) : State :=
  if v.toNat < (s.rd (Reg.JW_JREL j)).toNat then s
  else
    let s := s.wr (Reg.JW_JREL j) v
    match s.jcfg j with
    | some c => if s.jstate j = 3 ∧ s.slotFree j c = true then s.setJstate j 2 0 else s
    | none => s

/-! ### Acceptance (R334, R337) -/

/-- The close status of R334. -/
def closeStatus (code len seq : Nat) : W64 :=
  w64 (code % 16 + (len % 2 ^ 15) * 2 ^ 8 + (if code = 0 then (seq % 2 ^ 32) * 2 ^ 32 else 0))

/-- The status of the oldest close not accepted delivered to Glade `i` or its pair. -/
def State.answerClose (s : State) (i : Nat) (handler : Bool) (w : W64) : State :=
  (s.receivers i).foldl (fun s i => s.updLate i (fun x => x.updBankOf handler (fun b =>
    { b with due := replaceDue (fun d => d.val == .jauWait) (.jau w) b.due }))) s

/-- Payload bytes above which a record is refused with LENGTH (R334, R349). -/
def JCfg.limit (c : JCfg) : Nat := if c.ring then 16320 else 16352

/-- Code with which journal `j` refuses a closed record of `len` payload bytes: 2, 3, 5 or 6, the lowest that applies
(log 13); none while it may accept it (R334). -/
def State.closeCode (s : State) (j len : Nat) : Option Nat :=
  match s.configured j with
  | none => some 2
  | some c =>
    let st := s.jstate j
    if st = 0 ∨ 5 < st then some 2
    else if c.limit < len then some 3
    else if st = 3 then some 5
    else if st = 4 ∨ st = 5 then some 6
    else none

/-- The staging area has room for `n` more bytes (R352). -/
def State.stageRoom (s : State) (n : Nat) : Bool :=
  decide (s.staged + n ≤ s.fld Reg.JW_STAGE_SIZE 31 0 * 2 ^ 20)

/-- The JW takes up the oldest closed record of Glade `i` (R334, R337): accepted and numbered, or refused; it waits
while the journal is OPENING or the staging area is full. -/
def State.recordAccept (s : State) (i : Nat) : State :=
  match s.jw.closed.find? (fun r => r.glade == i) with
  | none => s
  | some r =>
    let done := { s with jw := { s.jw with closed := s.jw.closed.erase r } }
    let j := r.record.journal
    let len := r.record.payload.length
    if !s.drainedBefore i r.seq ∨ (s.configured j).isSome ∧ s.jstate j = 1 then s
    else match s.closeCode j len, s.jcfg j with
    | some code, _ => done.answerClose i r.handler (closeStatus code len 0)
    | none, none => s
    | none, some c =>
      if !c.ring && !s.stageRoom (recordSize len) then s
      else match done.append j c r.record.rtype r.record.src 0 r.record.payload false .none with
        | (t, some q) => t.answerClose i r.handler (closeStatus 0 len q)
        | (t, none) => t.answerClose i r.handler (closeStatus 5 len 0)

/-! ### SEAL of a Glade (R338) -/

/-- A record of journal `j` that Glade `i` closed in a transaction whose COMMIT came before its operation number `seq` is
not yet accepted: it is numbered at the transaction's application or in step 2 of R314 (R336, R338). -/
def State.sealAwaitsCommit (s : State) (i j seq : Nat) : Bool :=
  match s.txn i, (s.glade i).txuOp with
  | some t, some o => decide (o.seq < seq) && t.records.any (fun r => r.journal == j)
      && (t.state == .committing || t.state == .decided && (t.step == .admitted || t.step == .volatile))
  | _, _ => false

/-- The SEAL of Glade `i`, of its pair's leading Glade where it has one (R335), gets its SYNC record as soon as the
Glade's earlier records are accepted, those of a COMMIT before it too, and R344 allows it. -/
def State.pollSeal (s : State) (i : Nat) : State :=
  match (s.glade i).sealOp with
  | none => s
  | some o =>
    let waiting := s.jw.closed.any (fun r => r.glade == i && r.record.journal == o.journal && decide (r.seq < o.seq))
      || s.sealAwaitsCommit i o.journal o.seq
    if o.code ≠ 0 ∨ o.syncSeq ≠ 0 ∨ waiting = true ∨ s.drainedBefore i o.seq = false then s
    else
      let bind := fun code (s : State) => s.updAsync i (fun x => { x with
        sealOp := x.sealOp.map (fun p => { p with code := code }) })
      match s.closeCode o.journal 0, s.jcfg o.journal with
      | some code, _ => bind (if code = 2 then 2 else 6) s
      | none, none => bind 2 s
      | none, some c =>
        if s.jstate o.journal ≠ 2 ∨ s.maySync o.journal = false then s
        else match s.writeSync o.journal c with
          | (s, some q) => s.updAsync i (fun x => { x with
              sealOp := x.sealOp.map (fun p => { p with syncSeq := q + 1 }) })
          | (s, none) => bind 6 s

/-- The journals in which a completed marker needs a SYNC record, none having been written that R344 does not forbid
(R367). -/
def State.syncNeeds (s : State) : List (Nat × JCfg) :=
  let needs := s.keeper.slots.flatMap (fun p => if p.2.inFlight && p.2.complete then p.2.needs else [])
  ((needs.map (fun n => n.1)).eraseDups).filterMap (fun j =>
    (s.jcfg j).bind (fun c =>
      let x := s.journal j
      if s.jstate j == 2 && s.maySync j && needs.any (fun n => n.1 == j && decide (x.lastSync ≤ n.2)) then some (j, c)
      else none))

/-- SYNC records in the journals `js`, with one Flush for each namespace (R367). -/
def State.writeSyncs (s : State) (js : List (Nat × JCfg)) : State :=
  let spaces := ((js.filter (fun p => !p.2.ring)).map (fun p => (p.2.ctrl, p.2.nsid))).eraseDups
  let s := (js.filter (fun p => p.2.ring)).foldl (fun s p => (s.laySync p.1 p.2).1) s
  spaces.foldl (fun s n =>
    let mine := js.filter (fun p => !p.2.ring && (p.2.ctrl, p.2.nsid) == n)
    let r := mine.foldl (fun (acc : State × List (Nat × Nat)) p =>
      match acc.1.laySync p.1 p.2 with
      | (s, some q) => (s, acc.2 ++ [(p.1, q)])
      | (s, none) => (s, acc.2)) (s, [])
    match mine, r.2 with
    | p :: _, _ :: _ => r.1.issueFlush p.1 p.2 0 (.synced r.2)
    | _, _ => r.1) s

/-- Work of the JW that waits for nothing but its turn: VOID records, the SYNC records that markers need, SEALs, and a
SEAL or REOPEN command. -/
def State.pollJw (s : State) : State :=
  let s := (s.jw.journals.map (fun p => p.1)).foldl (fun s j => s.pollVoids j) s
  let s := s.writeSyncs s.syncNeeds
  let s := (s.glades.filterMap (fun p => if p.2.sealOp.isSome && s.leaderOf p.1 == p.1 then some p.1 else none)).foldl
    (fun s i => s.pollSeal i) s
  match s.jw.command with
  | some ⟨2, j, false, _, _⟩ =>
    (match s.jcfg j with
    | some c =>
      if s.jstate j ≠ 2 then s.jwDone 1
      else if s.maySync j then s.jwSealWrite j c else s
    | none => s.jwDone 1)
  | some ⟨5, j, false, readOk, timely⟩ =>
    (match s.jcfg j with
    | some c => if s.journalBusy j then s else s.openPersistent 5 j c readOk timely
    | none => s.jwDone 1)
  | _ => s

/-- SEAL of Glade `i`, or of its pair, retires: bound to a failure, or its SYNC record durable (R335, R338). -/
def State.sealRetire (s : State) (i : Nat) : State :=
  match (s.glade (s.leaderOf i)).sealOp with
  | none => s
  | some o =>
    let durable := o.syncSeq != 0 && decide (o.syncSeq ≤ (s.journal o.journal).durSync)
    let failed := if o.code ≠ 0 then o.code
      else if durable = false ∧ (s.jstate o.journal = 4 ∨ s.jstate o.journal = 5) then 6 else 0
    if failed = 0 ∧ durable = false then s
    else
      let s := match s.jcfg o.journal with
        | some c => if failed = 0 ∧ o.segment = true ∧ s.jstate o.journal = 2 then
            s.closeSegment o.journal c 1 false .none else s
        | none => s
      let w := w64 (failed + b2n o.segment * 2 ^ 4
        + (if failed = 0 then ((o.syncSeq - 1) % 2 ^ 32) * 2 ^ 32 else 0))
      (s.receivers i).foldl (fun s i => s.updAsync i (fun x => match x.sealOp with
        | some p => { x.retireTo p.rd (TWord.plain w) with sealOp := none }
        | none => x)) s

/-! ### Completions (R348) -/

/-- What waited for a failed command fails with it. -/
def State.failPurpose (s : State) (p : Purpose) : State :=
  match p with
  | .durable i cnum => if s.inStep2 i cnum then s.failDurable i 12 else s
  | .command => s.jwDone 4
  | _ => s

/-- Journal `j` in ERROR with `err`, and what waited for its commands failed with them (R348). -/
def State.failJournal (s : State) (j err : Nat) : State :=
  let mine := (s.jw.queues.flatMap (fun q => q.2)).filter (fun k => k.journal == j)
  let s := (mine.foldl (fun s k => s.dropCost k.cost) s).journalError j err
  (mine.map (fun k => k.purpose)).eraseDups.foldl (fun s p => s.failPurpose p) s

/-- The journals that a command serves: a Flush serves all those whose records it is to make durable. -/
def NvmeCmd.journals (k : NvmeCmd) : List Nat :=
  match k.purpose with
  | .synced js => (k.journal :: js.map (fun p => p.1)).eraseDups
  | .sealed js => (k.journal :: js).eraseDups
  | _ => [k.journal]

/-- The head command of controller `ctrl` has failed finally: the journals it serves go to ERROR with `err`, and
everything that waited on their commands fails (R348). -/
def State.failHead (s : State) (ctrl err : Nat) : State :=
  match smGet [] s.jw.queues ctrl with
  | [] => s
  | k :: _ =>
    let js := k.journals
    let mine := (smGet [] s.jw.queues ctrl).filter (fun c => js.contains c.journal)
    let s := mine.foldl (fun s c => s.dropCost c.cost) s
    let s := (js.foldl (fun s j => s.stopJournal j err) s).driveFailed ctrl
    (mine.map (fun c => c.purpose)).eraseDups.foldl (fun s p => s.failPurpose p) s

/-- The head command of controller `ctrl` completes successfully. -/
def State.completeHead (s : State) (ctrl : Nat) : State :=
  match smGet [] s.jw.queues ctrl with
  | [] => s
  | k :: ks =>
    let s := { s with jw := { s.jw with queues := smSet [] s.jw.queues ctrl ks } }
    let s := s.dropCost k.cost
    let s := if k.retried then s.driveRetried ctrl else s
    match s.jcfg k.journal with
    | none => s
    | some c =>
      let s := match k.kind with
        | .write => s.mediaWrite c k.pos k.fua k.data
        | .flush => { s with unflushed := s.unflushed.filter (fun u =>
            !(u.block / 2 ^ 64 == ctrl * 2 ^ 32 + c.nsid)) }
        | .zeroes => { s with media := s.media.filter (fun m =>
            !(decide (mediaKey ctrl c.nsid c.base ≤ m.1 ∧ m.1 < mediaKey ctrl c.nsid (c.base + c.size)))) }
      match k.purpose with
      | .durable i cnum => s.step2Done i cnum
      | .synced js => js.foldl (fun s p => s.synced p.1 p.2) s
      | .command => s.jwDone 0
      | .recovered => 
        let n := (s.journal k.journal).lastSync
        (if n = 0 then s else s.synced k.journal (n - 1)).opened k.journal c
      | .blaze id => { s with jw := { s.jw with blazed := s.jw.blazed ++ [(k.journal, id)] } }
      | _ => s

/-- A command of step 2 of R314: a write of its records. -/
def NvmeCmd.isDurable (k : NvmeCmd) : Bool :=
  match k.purpose with
  | .durable _ _ => true
  | _ => false

/-- The command belongs to a durable commit past step 1, or the hold-up budget holds its cost (R351, R414). -/
def NvmeCmd.admitted (k : NvmeCmd) : Bool := k.isDurable || k.cost != 0

/-- The oldest command of a controller is at the drive: in HOLDUP only where it, or one behind it that it goes with, is
admitted (R351). -/
def State.headIssued (s : State) (q : List NvmeCmd) : Bool := !s.inHoldup || q.any (fun k => k.admitted)

/-- The JW serves the completion queues of controller `ctrl`, which it numbers 5 × ctrl to 5 × ctrl + 4 (log 122). The
controller's oldest command completes: 0 success; 1 an error that may be retried, so it is issued once
more; 2 an error with Do Not Retry (R348). -/
def State.nvmeCompletion (s : State) (ctrl status : Nat) : State :=
  let s : State := { s with jw := { s.jw with named := s.jw.named.filter (fun p => p.1 / 5 != ctrl) } }
  match smGet [] s.jw.queues ctrl with
  | [] => s
  | k :: ks =>
    if s.headIssued (k :: ks) = false then s
    else
    let s := s.nvmeWrites [(s.cqEntry ctrl k.pair k.entry, 16)]
    if status = 0 then s.completeHead ctrl
    else if status = 1 ∧ k.retried = false then
      { s with jw := { s.jw with queues := smSet [] s.jw.queues ctrl ({ k with retried := true, sent := false } :: ks) } }
    else s.failHead ctrl 7

/-- The oldest command of controller `ctrl` times out: aborted and issued once more, or failed finally (R348). -/
def State.nvmeTimeout (s : State) (ctrl : Nat) : State :=
  match smGet [] s.jw.queues ctrl with
  | [] => s
  | k :: ks =>
    if s.headIssued (k :: ks) = false then s
    else
    let s := s.driveTimeout ctrl
    if k.retried then s.failHead ctrl 8
    else
      { s with jw := { s.jw with queues := smSet [] s.jw.queues ctrl ({ k with retried := true, sent := false } :: ks) } }

/-- Controller Fatal Status: the controller is reset once, its queues and commands with it, each of which has failed
finally, and every journal on it goes to ERROR (R348); a REOPEN makes it ready again (log 122). -/
def State.nvmeFatal (s : State) (ctrl : Nat) : State :=
  let s := (s.setFlag (Reg.JW_CTRL ctrl) 3 true).setFlag (Reg.JW_CTRL ctrl) 1 false
  let s : State := { s with out := .nvmeReset ctrl :: s.out }
  let js := (s.persistentJournals.filter (fun p => p.2.ctrl == ctrl && s.jstate p.1 != 0 && s.jstate p.1 != 4)).map
    (fun p => p.1)
  let purposes := ((smGet [] s.jw.queues ctrl).map (fun c => c.purpose)).eraseDups
  let cost := ((smGet [] s.jw.queues ctrl).map (fun c => c.cost)).foldl (· + ·) 0
  let s := s.satAdd Reg.JW_ERR_COUNTS 31 16 (smGet [] s.jw.queues ctrl).length
  let s := (js.foldl (fun s j => (s.stopJournal j 7).driveLasting ctrl) s).dropCost cost
  let s := { s with jw := { s.jw with queues := smSet [] s.jw.queues ctrl [] } }
  purposes.foldl (fun s p => s.failPurpose p) s

/-! ### Sealing (R351) -/

/-- An item of R351 is admitted: in HOLDUP by the estimator (R414); in SAFE always. -/
def State.itemAdmitted (s : State) : Bool := !s.inHoldup || decide (s.mediaNs ≤ s.availNs)

/-- What the hold-up budget holds for an item of R351. -/
def State.itemCost (s : State) : Nat := if s.inHoldup then s.mediaNs else 0

/-- Item 2 of R351 in HOLDUP: of the records accepted and not written, those that the estimator admits, in their order,
are costed; those of durable commits are item 1. -/
def State.admitRecords (s : State) : State :=
  if !s.inHoldup then s
  else s.jw.queues.foldl (fun s q =>
    let new := (q.2.reverse.takeWhile (fun k => !k.admitted)).reverse
    let r := new.foldl (fun (acc : State × List NvmeCmd) k =>
      if !acc.1.itemAdmitted then (acc.1, acc.2 ++ [k])
      else (acc.1.addCost acc.1.mediaNs, acc.2 ++ [{ k with cost := acc.1.mediaNs }]))
      (s, q.2.take (q.2.length - new.length))
    { r.1 with jw := { r.1.jw with queues := smSet [] r.1.jw.queues q.1 r.2 } }) s

/-- A Flush that ends the sealing of journals (R351 item 4). -/
def NvmeCmd.isSeal (k : NvmeCmd) : Bool :=
  match k.purpose with
  | .sealed _ => true
  | _ => false

/-- Items 1 and 2 of R351 are done: no durable commit in step 2 and no record waiting to be written. -/
def State.recordsWritten (s : State) : Bool :=
  s.jw.queues.all (fun q => q.2.all (fun c => c.isSeal))
    && (List.range 16).all (fun g => (s.decidedTxns g).all (fun p => p.2.step != .admitted && p.2.step != .write))

/-- The OPEN persistent journals of one namespace closed with the REASON, each while it is admitted, and one Flush behind
them (R351 item 4). A journal so closed is SEALED at once and takes no further record (log 124). -/
def State.sealSpace (s : State) (js : List (Nat × JCfg)) : State :=
  let r := js.foldl (fun (acc : State × List Nat × Nat) p =>
    if !acc.1.itemAdmitted then acc
    else
      let cost := acc.1.itemCost
      let s := ((acc.1.closeSegment p.1 p.2 acc.1.jw.sealing false .none).setJstate p.1 5 0).addCost cost
      (s, acc.2.1 ++ [p.1], acc.2.2 + cost)) (s, [], 0)
  match js, r.2.1 with
  | p :: _, _ :: _ => r.1.issueFlush p.1 p.2 r.2.2 (.sealed r.2.1)
  | _, _ => r.1

/-- I/O commands a controller's four submission queues of 256 entries hold, each one less than its entries; taken in turn
they fill evenly, for a controller's commands complete oldest first (R347, log 122). -/
def nvmeRoom : Nat := 4 * 255

/-- The command as it leaves the device. -/
def NvmeCmd.io (k : NvmeCmd) : NvmeIo :=
  match k.kind with
  | .write => .write k.fua
  | .flush => .flush
  | .zeroes => .writeZeroes

/-- The command sent to controller `ctrl`, unless it has been. -/
def State.sendCmd (s : State) (ctrl : Nat) (k : NvmeCmd) : State × NvmeCmd :=
  if k.sent then (s, k)
  else
    let c := s.jcfg k.journal
    let r := s.sendIo ctrl k.io ((c.map (fun c => c.nsid)).getD 0) k.pos
      (if k.kind = .zeroes then (c.map (fun c => c.size)).getD 0 else k.data.length) k.prps
    (r.1, { k with sent := true, pair := r.2.1, entry := r.2.2 })

/-- Commands that find room in the queues of controller `ctrl` are put there; in HOLDUP only those that go with an
admitted one (R347, R351). -/
def State.sendQueue (s : State) (ctrl : Nat) (q : List NvmeCmd) : State :=
  let n := if s.inHoldup then q.length - (q.reverse.takeWhile (fun k => !k.admitted)).length else q.length
  let now := (q.take (min n nvmeRoom))
  let r := now.foldl (fun (acc : State × List NvmeCmd) k =>
    let p := acc.1.sendCmd ctrl k
    (p.1, acc.2 ++ [p.2])) (s, [])
  { r.1 with jw := { r.1.jw with queues := smSet [] r.1.jw.queues ctrl (r.2 ++ q.drop (min n nvmeRoom)) } }

/-- The same for every controller. -/
def State.sendNvme (s : State) : State :=
  s.jw.queues.foldl (fun s q => if q.2.all (fun k => k.sent) then s else s.sendQueue q.1 q.2) s

/-- Items 2 to 4 of R351, each while it is admitted and after the item before it: the records accepted, captures ended
with RESULT 2, and every OPEN persistent journal closed and flushed. The write of a SEG_CLOSE goes with its Flush. -/
def State.sealItems (s : State) : State :=
  if s.jw.sealing = 0 then s
  else
    let s := s.admitRecords
    if s.recordsWritten = false then s
    else
      let rings := s.jw.journals.filterMap (fun p => if p.2.capture.isSome then some p.1 else none)
      let s := rings.foldl (fun s j => if s.itemAdmitted then s.endCapture j 2 s.itemCost .none else s) s
      let beingSealed := (s.jw.queues.flatMap (fun q => q.2.filter (fun k => k.isSeal))).flatMap (fun k => k.journals)
      let due := s.persistentJournals.filter (fun p => s.jstate p.1 == 2 && !beingSealed.contains p.1)
      let spaces := (due.map (fun p => (p.2.ctrl, p.2.nsid))).eraseDups
      spaces.foldl (fun s n => s.sealSpace (due.filter (fun p => (p.2.ctrl, p.2.nsid) == n))) s

end Sys2Proof.Machine
end

