-- ==== Sys2Proof/Machine/MemCare.lean ====
section
/-! DEFINITION. The care of the memories: scrubbers (R249 to R252), DDR patrol and zero fill (R263, R264), page
retirement (R255), fault injection (R256), freeing error records (R253) and bits that flip of themselves (R487). -/

namespace Sys2Proof.Machine

/-! ### Scrubber -/

/-- Words of a Grove's pass (R249). -/
def passWords : Nat := 458752

/-- Address of word `k` of Grove `g`'s pass (R249). -/
def scrubAddr (g k : Nat) : Nat :=
  if k < 262144 then groveMemBase g + 8 * k
  else
    let j := (k - 262144) / 12288
    let r := (k - 262144) % 12288
    if r < 4096 then gladeBase (16 * g + j) + 8 * r else gladeBase (16 * g + j) + 0x10000 + 8 * (r - 4096)

/-- The modes in which scrubbers and patrols run (R252); REGROW among them, since R252 stops one Grove's only in its
last steps (DEDUCED, log 33). -/
def State.scrubMode (s : State) : Bool :=
  let m := s.mode
  m == 3 || m == 4 || m == 5 || m == 6 || m == 11 || m == 12

/-- RATE of Grove `g`: a larger value of `GRV_SCRUB_RATE` is taken as 1,000,000,000 (R250). -/
def State.scrubRate (s : State) (g : Nat) : Nat := min (s.fld (Reg.GRV_SCRUB_RATE g) 31 0) 1000000000

/-- Grove `g`'s scrubber runs (R249, R250, R252). -/
def State.scrubRuns (s : State) (g : Nat) : Bool := s.scrubMode && s.scrubRate g != 0 && s.domainOn (20 + g)

/-- The first word at or after `k` that lies on no retired page, within `n` pages. -/
def State.nextScrub (s : State) (g : Nat) : Nat → Nat → Nat
  | 0, k => k
  | n + 1, k =>
    if k ≥ passWords then k
    else if s.retired (scrubAddr g k) then s.nextScrub g n (k / 512 * 512 + 512)
    else k

/-- The scrubber's counters of Grove `g`: field `f` advanced. -/
def State.scrubCount (s : State) (g f : Nat) : State :=
  if g < 16 then s.satAdd (Reg.GRV_SCRUB_COUNTS g) (16 * f + 15) (16 * f) 1 else s

/-- The lasting-error source of a Grove's memories, or of the Heartwood's. -/
def lastingSource (g : Nat) : Nat := if g < 16 then dev (80 + g) else dev 172

/-- The scrubber's action on a correctable error (R251): the corrected word `c` is written back and read again once, a
clean re-read making the error transient. `p` and `syn`: the position that failed and the syndrome of the first read. -/
def State.scrubMend (s : State) (g w : Nat) (c : CodeWord) (p syn : Nat) : State :=
  let t := s.storeCode w c
  let lasting := (match decodeWord (t.detectOnly w) (t.readCode w) with | .ok _ => false | _ => true)
  let e := s.sramErr .scrubber w 2
  let t := (t.readOnce w).recordError e.1
    { e.2 with syndrome := syn, bitPos := p, rechecked := true, lasting := lasting }
  if lasting then (((t.scrubCount g 1).tallyInc (lastingSource g) 1).memFinding 3 2 w none) else t.scrubCount g 0

/-- What the scrubber does with the word at `w` of Grove `g` (16: the Heartwood memory): R251. An uncorrectable word is
read again once; a clean re-read has no position that failed (BIT 0x7F). -/
def State.scrubHandle (s : State) (g w : Nat) : State :=
  let c := s.readCode w
  let s := s.readOnce w
  match decodeWord (s.detectOnly w) c with
  | .ok _ => s
  | .poisoned => s
  | .corrected c' pos => s.scrubMend g w c' pos (syndrome c)
  | .uncorrectable =>
    let t := s.readOnce w
    match decodeWord (s.detectOnly w) (s.readCode w) with
    | .ok c' => t.scrubMend g w c' 0x7F (syndrome c)
    | .corrected c' pos => t.scrubMend g w c' pos (syndrome c)
    | .poisoned => t
    | .uncorrectable =>
      let t := t.storeCode w poisonWord
      let e := s.sramErr .scrubber w 4
      let t := t.recordError e.1 { e.2 with syndrome := syndrome c, lasting := true }
      (((t.scrubCount g 2).tallyInc (t.uncorrSource w) 1).memFinding 3 4 w none)

/-- Bytes of a pass of Grove `g`: retired pages left out (R249). -/
def State.passBytes (s : State) (g : Nat) : Nat :=
  8 * passWords - 4096 * ((List.range 896).filter (fun p => s.retired (scrubAddr g (512 * p)))).length

/-- Grove `g`'s pass ends (R250): PASSES, LAGGING, and the finding of a lagging pass (R491), with its record (R492),
whose KIND the manual does not give: a free value (log 47). -/
def State.endPass (s : State) (g : Nat) : State :=
  let a := Reg.GRV_SCRUB_STATUS g
  let took := s.now + 1 - smGet (s.now + 1) s.scrub.began g
  let lag := decide (s.passBytes g * 10 ^ 9 * 101 < took * s.scrubRate g * 100)
  let s := ((s.wrapAdd a 31 0 1).setFld a 50 32 0).setFlag a 62 lag
  let s := { s with scrub := { s.scrub with began := smSet 0 s.scrub.began g (s.now + 1) } }
  if lag then
    let f := s.freeWord
    (f.2.recordError (.grove g) { ErrInfo.of (f.1.toNat % 256) 0 with req := 5 }).find ⟨3, f.1.toNat % 256, some g, none, none, 0, 0⟩
  else s

/-- Grove `g`'s pass begins with the word about to be read, if it has not begun (R250). -/
def State.beginPass (s : State) (g : Nat) : State :=
  if smGet 0 s.scrub.began g = 0 then
    { s with scrub := { s.scrub with began := smSet 0 s.scrub.began g (s.now + 1) } }
  else s

/-- The scrubber reads the word at `w` of Grove `g`. `skip`: its read, or its write-back, met the other port twice, so
the word is skipped and counted (R248); only Grove memory has another port, the other memories being read in
maintenance cycles (R234). -/
def State.scrubAt (s : State) (g w : Nat) (skip : Bool) : State :=
  if skip && s.regionOf w == .groveMem g then s.scrubCount g 3 else s.scrubHandle g w

/-- The scrubber of Grove `g` reads the next word: first what waits in its write-back queue (R241), then the next word
of its pass. -/
def State.scrubGrove (s : State) (g : Nat) (skip : Bool) : State :=
  if !s.scrubRuns g then s
  else match smGet [] s.scrub.wback g with
    | w :: ws =>
      let t := { s with scrub := { s.scrub with wback := smSet [] s.scrub.wback g ws } }
      if t.retired w then t else t.scrubAt g w skip
    | [] =>
      let s := s.beginPass g
      let a := Reg.GRV_SCRUB_STATUS g
      let k := s.nextScrub g 896 (s.fld a 50 32)
      if k ≥ passWords then s.endPass g
      else
        let t := s.scrubAt g (scrubAddr g k) skip
        let k' := t.nextScrub g 896 (k + 1)
        if k' ≥ passWords then t.endPass g else t.setFld a 50 32 k'

/-- The Heartwood scrubber reads its next word (R249); its memory has one port, so no word is skipped. -/
def State.scrubHeartwood (s : State) : State :=
  if !s.scrubMode then s
  else match smGet [] s.scrub.wback 16 with
    | w :: ws => ({ s with scrub := { s.scrub with wback := smSet [] s.scrub.wback 16 ws } }).scrubHandle 16 w
    | [] =>
      let t := s.scrubHandle 16 (hwMemBase + 8 * s.scrub.hwWord)
      { t with scrub := { t.scrub with hwWord := (t.scrub.hwWord + 1) % 32768 } }

/-- SCRUB_WORD: the scrubber of Grove `g`, or of the Heartwood memory at 16. -/
def State.scrubWord (s : State) (g : Nat) (skip : Bool) : State :=
  if g < 16 then s.scrubGrove g skip else s.scrubHeartwood

/-! ### DRAM -/

/-- Global address of channel-local offset `l` of channel `n`: the inverse of R258. -/
def State.dramAddr (s : State) (n l : Nat) : Nat :=
  let pop := (List.range 4).filter (fun c => s.flag (Reg.DDR_CH_CFG c) 0)
  let k := pop.length
  if (k = 1 ∨ k = 2 ∨ k = 4) ∧ pop.all (fun c => s.chBytes c == s.chBytes (pop.getD 0 0)) = true then
    dramBase + (l / 4096 * k + pop.idxOf n) * 4096 + l % 4096
  else dramBase + ((pop.takeWhile (fun c => c != n)).map s.chBytes).foldl (· + ·) 0 + l

/-- ZERO_FILL: the engine of channel `n` fills `k` bursts (R263). -/
def State.zeroFill (s : State) (n k : Nat) : State := s.fillChannel n (s.fld (Reg.DDR_CH_WMARK n) 39 0 + 64 * k)

/-- What the patrol of channel `n` does with the burst at `b`: R251 with the burst in place of the word (R264). -/
def State.patrolHandle (s : State) (n b : Nat) : State :=
  let err := fun kind => State.dramErr .scrubber b kind
  let t := s.readOnce b
  match s.readBurst b with
  | .ok _ => t
  | .poisoned _ _ => t
  | .corrected bs chk d => t.classifyBurst n b (err 2) bs chk d
  | .uncorrectable =>
    let u := t.readOnce b
    match t.readBurst b with
    | .ok bs => u.classifyBurst n b (err 2) bs (encodeBurst bs 0#8).2 0x7F
    | .corrected bs chk d => u.classifyBurst n b (err 2) bs chk d
    | .poisoned _ _ => u
    | .uncorrectable =>
      let p := encodeBurst (u.burstAt b) 0xFF#8
      let u := (u.setBurst b p.1 p.2).recordError (.ddr n) { err 4 with lasting := true }
      (u.crossInc (12 + n) (dev (168 + n)) 1).find ⟨2, 4, none, none, none, 0, b⟩

/-- PATROL_BURST: channel `n`'s patrol reads its next burst, while the channel's domain is on (R264, R397). -/
def State.patrolBurst (s : State) (n : Nat) : State :=
  let a := Reg.DDR_CH_PATROL n
  let count := s.chBytes n / 64
  if !s.scrubMode || s.fld a 31 0 == 0 || !s.flag (Reg.DDR_CH_WMARK n) 63 || count == 0 || !s.domainOn (36 + n) then s
  else
    let k := smGet 0 s.scrub.patrol n
    let b := s.dramAddr n (64 * k)
    let t := if s.retired b then s else s.patrolHandle n b
    let t := { t with scrub := { t.scrub with patrol := smSet 0 t.scrub.patrol n ((k + 1) % count) } }
    if k + 1 ≥ count then t.wrapAdd a 63 32 1 else t

/-! ### Registers of the Grove block -/

/-- A retire register of Grove `g` may name the page at `a` (R255). -/
def State.retirable (s : State) (g a : Nat) : Bool :=
  match s.regionOf a with
  | .groveMem h => h == g
  | .imem i => i / 16 == g
  | .dmem i => i / 16 == g
  | .dram => true
  | _ => false

/-- RETIRE_WRITE: `GRV_RETIREn` of Grove `g` (R255). -/
def State.retireWrite (s : State) (g n : Nat) (v : W64) : State :=
  if bit v 0 && !s.retirable g (4096 * field v 47 12) then s
  else s.wr (Reg.GRV_RETIRE g n) (w64 (field v 0 0 + field v 47 12 * 4096))

/-- INJECT_WRITE: `GRV_INJECT` of Grove `g` (R256). -/
def State.injectWrite (s : State) (g : Nat) (v : W64) : State :=
  let mode := field v 49 48
  let w := 8 * field v 47 3
  let own := match s.regionOf w with
    | .groveMem h => h == g
    | .imem i => i / 16 == g
    | .dmem i => i / 16 == g
    | _ => false
  if ((mode == 1 || mode == 2) && decide (72 < field v 56 50)) || (mode != 0 && !own) then s
  else
    let armed := bit v 63 || s.flag (Reg.GRV_INJECT g) 63
    s.wr (Reg.GRV_INJECT g) (w64 (8 * field v 47 3 + mode * 2 ^ 48 + field v 56 50 * 2 ^ 50 + b2n armed * 2 ^ 63))

/-- The record set that number `k` names: Groves 0 to 15, the Heartwood 16, channels 0 to 3 at 17. -/
def recSet (k : Nat) : RecSet := if k < 16 then .grove k else if k = 16 then .heartwood else .ddr (k - 17)

/-- ERR_RECORD_FREE: 1 written to VALID of record `n` (R253). -/
def State.errRecordFree (s : State) (r : RecSet) (n : Nat) : State :=
  (s.setFlag (r.info n) 0 false).setFlag r.status n false

/-! ### Bits that flip of themselves (R487) -/

/-- A bit of the word or burst at `a` that sticks at a value, or reads inverted for a while. -/
def State.failBit (s : State) (a pos : Nat) : FlipHow → State
  | .flips => s
  | .sticks v => { s with stuck := s.stuck.filter (fun k => !(k.addr == a && k.pos == pos)) ++ [⟨a, pos, v⟩] }
  | .reads n =>
    let others := s.readErrs.filter (fun k => !(k.addr == a && k.pos == pos))
    { s with readErrs := others ++ (if n = 0 then [] else [⟨a, pos, n⟩]) }

/-- A bit of a word of SRAM that fails (R487, R507). -/
def State.flipSram (s : State) (w pos : Nat) (how : FlipHow) : State :=
  if !s.isSram w then s
  else match how with
    | .flips =>
      let c := BitVec.ofNat 73 ((s.dataAt w).toNat + (smGet 0#9 s.ecc (w / 8)).toNat * 2 ^ 64)
      s.setCode w (c ^^^ BitVec.ofNat 73 (2 ^ pos))
    | how => s.failBit w pos how

/-- A bit of a burst of DRAM that fails (R487). -/
def State.flipDram (s : State) (b pos : Nat) (how : FlipHow) : State :=
  if s.regionOf b ≠ .dram then s
  else match how with
    | .flips =>
      if pos < 512 then s.setByte (b + pos / 8) (s.byteAt (b + pos / 8) ^^^ BitVec.ofNat 8 (2 ^ (pos % 8)))
      else
        let c := smGet 0#128 s.dramCheck (b / 64) ^^^ BitVec.ofNat 128 (2 ^ (pos - 512))
        { s with dramCheck := smSet 0#128 s.dramCheck (b / 64) c }
    | how => s.failBit b pos how

/-- An upset in register G`n` of Glade `c` (`n` below 64, bit 64 to 67 its tag) or in its program counter (`n` = 64);
a stuck bit stays in the results of its ALUs. -/
def State.flipGlade (s : State) (c n pos : Nat) (stuckAt : Option Bool) : State :=
  s.updGlade c (fun x => match stuckAt with
    | some v => { x with stuckBit := some (pos % 64, v) }
    | none =>
      if n = 64 then { x with pc := x.pc ^^^ w64 (2 ^ (pos % 15)) }
      else
        let r := x.g n
        x.setG n (if pos < 64 then { r with data := r.data ^^^ w64 (2 ^ pos) }
          else { r with tag := r.tag ^^^ BitVec.ofNat 4 (2 ^ (pos - 64)) }))

end Sys2Proof.Machine
end

