-- ==== Sys2Proof/Machine/Jau.lean ====
section
/-! DEFINITION. The JAU's triggers (R331 to R338). They act on the Glade's own record; the JW accepts a record, and
writes a SEAL, once the Glade's earlier stores have drained (R176). -/

namespace Sys2Proof.Machine

/-- What a JAU trigger other than SEAL does, by its trigger and the tag of its value (R333). -/
inductive JauAct where
  | append (close : Bool)
  /-- close without appending: CLOSE, which writes an empty record when none is open -/
  | close
  /-- PUTL of an NV word: closes an open record; with none open, status NOTHING -/
  | closeOpen
  | abandon
  /-- PUT of an NV word -/
  | silent
  /-- PUTT of an NV word: status NOTHING -/
  | nothing
deriving DecidableEq, Repr

def jauAct (op : JauOp) (tag : BitVec 4) : JauAct :=
  match op with
  | .close => .close
  | .abandon => .abandon
  | .put => if tag = 9#4 then .abandon else if tag = 8#4 then .silent else .append false
  | .putl => if tag = 9#4 then .abandon else if tag = 8#4 then .closeOpen else .append true
  | _ =>
    if tag = 9#4 then .abandon
    else if tag = 8#4 then .nothing
    else .append (tag == 2#4 || tag == 3#4)

/-- The record cursor of Glade `i`, or of its pair's leading Glade (R332, R335). -/
def State.openRec (s : State) (i : Nat) : Option OpenRecord := (s.glade (s.leaderOf i)).record

def State.setRecord (s : State) (i : Nat) (r : Option OpenRecord) : State :=
  s.updAsync (s.leaderOf i) (fun x => { x with record := r })

/-- The trigger opens a record. -/
def State.jauOpens (s : State) (i : Nat) (op : JauOp) (t : TWord) : Bool :=
  op != .seal && (s.openRec i).isNone && (match jauAct op t.tag with
    | .append _ => true
    | .close => true
    | _ => false)

/-- The trigger closes a record. -/
def State.jauCloses (s : State) (i : Nat) (op : JauOp) (t : TWord) : Bool :=
  op != .seal && (match jauAct op t.tag with
    | .append c => c
    | .close => true
    | .closeOpen => (s.openRec i).isSome
    | _ => false)

/-- `JAU.B` holds close options that R331 accepts. -/
def closeOptionsOk (b : W64) : Bool :=
  decide (field b 3 0 ≤ 8) && field b 7 4 == 0 && field b 63 15 == 0

/-- OPERAND_RANGE of a JAU trigger of core `i` (R178, R331, R333). -/
def State.jauRange (s : State) (i : Nat) (x : Glade) (op : JauOp) (t : TWord) : Bool :=
  (s.jauOpens i op t && field x.jauA 63 12 != 0)
    || (s.jauCloses i op t && !closeOptionsOk x.jauB)
    || (op == .seal && (field t.data 63 13 != 0 || decide (63 < x.jauRD.toNat)))
    || (op == .putt && (t.tag == 1#4 || t.tag == 3#4) && (s.openRec i).isSome)

/-- The journal is refused to Glade `i` at a Firebreak: it belongs to another partition (R332); one that the Stand Map
does not name belongs to partition 0 (R29). -/
def State.journalForeign (s : State) (i j : Nat) : Bool :=
  ((s.jcfg j).map (fun c => c.part)).getD 0 != s.groveGetPart (i / 16)

/-- The trigger is refused at a Firebreak: one that opens a record, and every SEAL (R332). -/
def State.jauRefused (s : State) (i : Nat) (x : Glade) (op : JauOp) (t : TWord) : Bool :=
  if op = .seal then s.journalForeign i (field t.data 11 0)
  else s.jauOpens i op t && s.journalForeign i (field x.jauA 11 0)

/-- Payload bytes in the append buffer of Grove `g`: those of the records closed there that the JW has not accepted; the
words of an open record are carried to the JW as they come (R352, log 121). -/
def State.appendBytes (s : State) (g : Nat) : Nat :=
  ((s.jw.closed.filter (fun r => r.glade / 16 == g)).map (fun r => r.record.payload.length)).foldl (· + ·) 0

/-- The trigger's bundle waits: a second SEAL until the first has retired, since the JAU holds one (log 15); PUT and PUTT
while the Grove's append buffer of 64 KiB has no room for a word (R352). -/
def State.jauWaits (s : State) (i : Nat) (op : JauOp) : Bool :=
  (op == .seal && (s.glade i).sealOp.isSome)
    || ((op == .put || op == .putt) && decide (65536 < s.appendBytes (i / 16) + 8))

/-- A record opened (R331, R336): it joins the open transaction, a thirty-third being discarded from its open. -/
def State.openRecord (s : State) (i j : Nat) : State :=
  match s.joinTxn i with
  | some t =>
    if t.recordCount ≥ 32 then (s.updTxn i (fun t => t.doom 6)).setRecord i (some ⟨j, [], false, 8⟩)
    else (s.updTxn i (fun t => { t with recordCount := t.recordCount + 1 })).setRecord i (some ⟨j, [], true, 0⟩)
  | none => s.setRecord i (some ⟨j, [], false, 0⟩)

/-- LENGTH of a record at its close (R334). -/
def recordLength (words : Nat) (b : W64) : Nat :=
  if words = 0 then 0 else 8 * (words - 1) + (if field b 3 0 = 0 then 8 else field b 3 0)

/-- The open record closed under options `b`: held in the transaction, answered with its error, or handed to the JW,
whose acceptance answers it (R334, R336). The second part is the status, when it is known at once. -/
def State.closeRecord (s : State) (i : Nat) (b : W64) : State × Option W64 :=
  match s.openRec i with
  | none => (s, none)
  | some r =>
    let len := recordLength r.words.length b
    let rec_ : Rec := {
      journal := r.journal
      rtype := 0x80 + field b 14 8
      src := s.leaderOf i
      payload := (r.words.flatMap (fun w => bytesLE 8 w.toNat)).take len }
    let s := s.setRecord i none
    if r.status ≠ 0 then (s, some (closeStatus r.status len 0))
    else if r.txn then
      let used := match s.openTxn i with | some t => t.recordBytes | none => 0
      if used + len > 65536 then (s.updTxn i (fun t => t.doom 6), some (closeStatus 8 len 0))
      else
        let s := s.updTxn i (fun t => { t with records := t.records ++ [rec_], recordBytes := t.recordBytes + len })
        let s := if (s.closeCode r.journal len).isSome then s.updTxn i (fun t => t.doom 8) else s
        (s, some (closeStatus 1 len 0))
    else
      let l := s.leaderOf i
      let c : ClosedRec := ⟨l, (s.glade l).opSeq, (s.glade l).inHandler, rec_⟩
      ({ s with jw := { s.jw with closed := s.jw.closed ++ [c] } }, none)

/-- A status, given once the Glade's earlier stores have drained (R176), or an answer still to come placed for `JAU.Q` of
the Glade, or of both Glades of its pair (R331, R334). -/
def State.giveJau (s : State) (i : Nat) (w : Option W64) : State :=
  match w with
  | some v => (s.beginQpu i 0 false (.jau v)).1
  | none => (s.receivers i).foldl (fun s j => s.updGlade j (fun x => x.addDue .jauWait)) s

/-- PUT, PUTL, PUTT, CLOSE and ABANDON (R331, R333). -/
def State.jauPut (s : State) (i : Nat) (op : JauOp) (t : TWord) : State :=
  let x := s.glade i
  let bump := fun (s : State) => s.updGlade i (fun x => { x with opSeq := x.opSeq + 1 })
  let close := fun (s : State) => let r := s.closeRecord i x.jauB; bump (r.1.giveJau i r.2)
  let opened := fun (_ : Unit) => if (s.openRec i).isNone then s.openRecord i (field x.jauA 11 0) else s
  match jauAct op t.tag with
  | .silent => s
  | .nothing => s.giveJau i (some (closeStatus 7 0 0))
  | .abandon =>
    let len := match s.openRec i with | some r => recordLength r.words.length 0#64 | none => 0
    (s.setRecord i none).giveJau i (some (closeStatus 4 len 0))
  | .closeOpen => if (s.openRec i).isNone then s.giveJau i (some (closeStatus 7 0 0)) else close s
  | .close => close (opened ())
  | .append c =>
    let s := opened ()
    let s := match s.openRec i with
      | some r => s.setRecord i (some { r with words := r.words ++ [t.data] })
      | none => s
    if c then close s else s

/-- SEAL: a long operation into G[RD] (R338). -/
def State.jauSeal (s : State) (i : Nat) (t : W64) : State :=
  (s.receivers i).foldl (fun s j => s.updGlade j (fun x =>
    let rd := x.jauRD.toNat % 64
    { x.setScore rd true with
      sealOp := some ⟨rd, x.opSeq, field t 11 0, bit t 12, 0, 0⟩
      opSeq := x.opSeq + 1 })) s

/-- A JAU trigger of core `i`, carried out once for a pair (R335). -/
def State.doJau (s : State) (i : Nat) (op : JauOp) (t : TWord) : State :=
  if op = .seal then s.jauSeal i t.data else s.jauPut i op t

end Sys2Proof.Machine
end

