-- ==== Sys2Proof/Machine/TxuPort.lean ====
section
/-! DEFINITION. The TXU port's triggers (R304 to R308, R320, R325). They act on the Glade's own transaction; what a
COMMIT, PASS, ABORT or PROBE does beyond that waits until the Glade's earlier stores have drained (R176). -/

namespace Sys2Proof.Machine

/-- Glade `i`, or its pair's leading Glade, is a current member of its Grove's rotation, as MEMBERS shows it (R305,
R321). -/
def State.isMember (s : State) (i : Nat) : Bool := (s.txu (i / 16)).members.getLsbD (s.leaderOf i % 16)

/-- OPERAND_RANGE of a TXU trigger of core `i` (R178, R305). -/
def State.txuRange (s : State) (i : Nat) (x : Glade) (op : TxuOp) (t : W64) : Bool :=
  let foreign := s.ticketMode (i / 16) && !s.isMember i
  match op with
  | .begin_ => (s.txn (s.leaderOf i)).isSome || foreign
  | .commit => (s.openTxn i).isNone || field t 63 1 != 0 || decide (63 < x.txuRD.toNat)
  | .pass => t == 0#64 || decide (65535 < t.toNat) || !s.ticketMode (i / 16) || foreign || (s.openTxn i).isSome
      || decide (63 < x.txuRD.toNat)
  | _ => false

/-- A BEGIN or PASS bundle waits until the previous COMMIT or PASS has retired (R305); a COMMIT does so too, since the
port holds one (log 16). -/
def State.txuWaits (s : State) (i : Nat) (op : TxuOp) : Bool :=
  (op == .begin_ || op == .pass || op == .commit) && (s.glade i).txuOp.isSome

/-- Codes a COMMIT adds: 7 for an open or failed packet (R289), 8 for an open record (R322), 10 for a durable commit
without quota or without DURABLE accepted (R315). -/
def State.commitDooms (s : State) (i : Nat) (t : Txn) (durable : Bool) : BitVec 16 :=
  let x := s.glade (s.leaderOf i)
  let packet := t.queueFail || x.writes.any (fun p => match p.2 with | some w => w.txn | none => false)
  let record := match x.record with | some r => r.txn | none => false
  let quota := durable && (s.quota (i / 16) == 0 || !s.accepted 0)
  (if packet then 1#16 <<< 7 else 0#16) ||| (if record then 1#16 <<< 8 else 0#16)
    ||| (if quota then 1#16 <<< 10 else 0#16)

/-- The port's long operation begun in the Glade, or in both Glades of its pair. -/
def State.startTxu (s : State) (i : Nat) : State :=
  (s.receivers i).foldl (fun s j => s.updGlade j (fun x =>
    let rd := x.txuRD.toNat % 64
    { x.setScore rd true with
      txuOp := some ⟨rd, x.opSeq, TWord.plain 0#64, none, none⟩
      opSeq := x.opSeq + 1 })) s

/-- The COMMIT of Glade `i` is received by the TXU of its FREE Grove, its earlier stores drained (R176, R317). In a
TICKET Grove one of a Glade that has left the rotation since its BEGIN has no turn and is aborted with INTERRUPTED (log
16). -/
def State.receiveCommit (s : State) (i : Nat) : State :=
  let x := s.txu (i / 16)
  match s.txn i with
  | some t =>
    if t.state == .committing && s.ticketMode (i / 16) && !s.isMember i && s.turnReady i then s.retireAbort i 14 0
    else if t.state == .committing && !s.ticketMode (i / 16) && !x.received.contains (i % 16) && s.turnReady i then
      s.setTxu (i / 16) { x with received := x.received ++ [i % 16] }
    else s
  | none => s

/-- ABORT of Glade `l` (R322): the transaction is over in the Glade; its cells become free, it is counted and its stubs
are linked after the Glade's earlier stores (R176, R290). -/
def State.abortNow (s : State) (l : Nat) : State :=
  (s.txnPackets l).foldl (fun s w => (s.beginQpu l 0 false (.stub 0 w)).1)
    ((s.closeTxn l).beginQpu l 0 false (.abort (s.heldPackets l))).1

/-- A TXU trigger of core `i`, carried out once for a pair (R325). -/
def State.doTxu (s : State) (i : Nat) (op : TxuOp) (t : W64) : State :=
  let l := s.leaderOf i
  let g := i / 16
  match op with
  | .begin_ => s.setTxn l (some (if (s.txu g).quiescing then Txn.new.doom 15 else Txn.new))
  | .commit =>
    match s.openTxn i with
    | none => s
    | some u =>
      let s := s.startTxu i
      let s := s.setTxn l (some { u with
        state := .committing
        dooms := u.dooms ||| s.commitDooms i u (bit t 0)
        wantDurable := bit t 0 })
      s.receiveCommit l
  | .abort => if (s.openTxn i).isSome then s.abortNow l else s
  | .pass =>
    let s := s.startTxu i
    let x := s.txu g
    s.setTxu g { x with
      passes := smSet 0 x.passes (l % 16) t.toNat
      passLen := smSet 0 x.passLen (l % 16) t.toNat }
  | .probe => (s.beginQpu i 0 false .probe).1

end Sys2Proof.Machine
end

