-- ==== Sys2Proof/Machine/Reactions.lean ====
section
/-! DEFINITION. Power domains and side resets (R397, R428), fences (R494, R495), entry to HOLDUP (R413 to R416) and to
SAFE (R510), and the reactions to findings (R489 to R492, R508, R512). -/

namespace Sys2Proof.Machine

/-! ### Crossings (R421 to R429) -/

/-- The increments held during sleep are applied (R388). -/
def State.releaseHeld (s : State) : State :=
  let held := s.sampler.held
  held.foldl (fun s p => s.tallyInc (p.1 % 8192) p.2) { s with sampler := { s.sampler with held := [] } }

/-- The outstanding loads that `p` selects, by core, will end with BUS_ERROR `detail` (R428, R439). -/
def State.killLoads (s : State) (p : Nat → LoadFlight → Bool) (detail : Nat) : State :=
  { s with glades := s.glades.map (fun g => (g.1, { g.2 with
      loads := g.2.loads.map (fun l => if p g.1 l && l.dead.isNone then { l with dead := some detail } else l) })) }

/-- The control registers from address `lo` to below `hi` hold their reset values. -/
def State.resetRegs (s : State) (lo hi : Nat) : State :=
  { s with ctl := s.ctl.filter (fun p => !decide (lo ≤ p.1 ∧ p.1 < hi)) }

/-- Island `i` loses its state (R424, R427): its registers are at reset but for the progress of its lanes and links, which
go down beside it (R433, R464), error records, and what the endpoint keeps (R443); its FIFOs, tables and commands are
empty. -/
def State.clearIsland (s : State) (i : Nat) : State :=
  if i < 12 then
    (List.range 8).foldl (fun s k =>
      let n := 8 * i + k
      ((s.setFld (Reg.LANE_STATE n) 31 16 0).setFlag (Reg.LANE_STATE n) 6 false).resetRegs (Reg.LANE_EQ n) (Reg.LANE_ETH_CFG n)) s
  else if i < 16 then s.resetRegs (Reg.DDR_CH_WMARK (i - 12)) (Reg.DDR_ERR_STATUS (i - 12))
  else if i < 18 then
    { s.resetRegs (Reg.LANE_PCIE_CFG (i - 16)) (Reg.LANE_PCIE_CFG (i - 15)) with
      bridges := s.bridges.filter (fun b => b.1 / 16 != i - 16) }
  else if i = 18 then { s with msix := Msix.reset }
  else if i < 23 then
    (List.range 96).foldl (fun s n =>
      if s.quadMac (n / 4) = i - 19 then s.resetRegs (Reg.LANE_ETH_CFG n) (Reg.LANE_STATE n + 0x100) else s) s
  else if i < 25 then
    (s.linkEntries.map (fun e => byteN e 0)).foldl (fun s l =>
      let a := Reg.RTL_LINK_STATE l
      if s.linkEngine l = i - 23 then
        let v := s.rd a &&& 0xC7#64
        (s.resetRegs a (a + 0x40)).wr a v
      else s) s
  else if i = 25 then
    let s := (s.setFlag Reg.UST_TIME_CTL 1 false).setFlag Reg.UST_TIME_CTL 0 false
    { s.resetRegs Reg.UST_TIME_STEP (Reg.UST_TIME_RATE + 8) with time := { s.time with frac := 0 } }
  else if i = 26 then
    { s.resetRegs (Reg.UST_GPI_CFG 0) (Reg.UST_SSO + 8) with
      sampler := { s.sampler with fired := 0#16, pend := [], active := [] } }
  else if i = 27 then
    { s.resetRegs Reg.UST_XSPI_CMD Reg.UST_I2C_CMD with board := { s.board with flashReady := 0 } }
  else if i = 28 then s.resetRegs Reg.UST_I2C_CMD Reg.UST_UART_CFG
  else if i = 29 then { s.resetRegs Reg.UST_UART_CFG (Reg.UST_UART_RX + 8) with uart := Uart.reset }
  else s

/-- Island `i` is put in reset: SIDE_RESET; its state is lost, the counts it has not handed over with it (R427, R429), and
the loads in flight through it end with BUS_ERROR 0x01 (R428). -/
def State.resetIsland (s : State) (i : Nat) : State :=
  if !s.flag (Reg.UST_ISL i) 0 then s
  else
    let s := (s.setFlag (Reg.UST_ISL i) 0 false).setFlag (Reg.UST_ISL i) 1 true
    let s := { s with sampler := { s.sampler with held := s.sampler.held.filter (fun p => p.1 / 8192 != i) } }
    (s.killLoads (fun _ l => s.servedBy l.addr == some i) 1).clearIsland i

/-- Island `i` released: it runs, a time base from the value it last delivered, no longer SYNCED (R425); with both sides
of its crossings up, the token is exchanged, and SIDE_RESET and RESETS follow (R429); a clockless side that is off,
stalled in retention or still waking exchanges none. The exchange takes no time here (log 135). -/
def State.releaseIsland (s : State) (i : Nat) : State :=
  if !s.flag (Reg.UST_ISL i) 1 then s
  else
    let anew := !s.flag (Reg.UST_ISL i) 0
    let s := s.setFlag (Reg.UST_ISL i) 0 true
    let s := if i = 25 ∧ anew = true then
        { (s.setFlag Reg.UST_TIME_CTL 1 true).setFlag Reg.UST_TIME_CTL 0 false with
          time := { s.time with count := s.time.delivered } }
      else s
    if s.domState 2 ≠ 1 then s else (s.setFlag (Reg.UST_ISL i) 1 false).wrapAdd (Reg.UST_ISL i) 47 32 1

/-- The clockless side of every crossing is reset (R428): what islands have sent and had not acknowledged is lost, and
every running island shows SIDE_RESET. -/
def State.resetClockless (s : State) : State :=
  let held := s.sampler.held
  let s := { s with sampler := { s.sampler with held := [] } }
  let s := held.foldl (fun s p => s.loseEvents (p.1 / 8192) p.2) s
  (List.range 31).foldl (fun s i =>
    if s.flag (Reg.UST_ISL i) 0 then s.setFlag (Reg.UST_ISL i) 1 true else s) s

/-- The clockless side is back: the crossings of every island that runs are synchronised (R429). -/
def State.releaseClockless (s : State) : State :=
  (List.range 31).foldl (fun s i => if s.flag (Reg.UST_ISL i) 0 then s.releaseIsland i else s) s

/-- Islands that sit in domain `d` (R54, R420, R432). -/
def domainIslands (d : Nat) : List Nat :=
  if 36 ≤ d ∧ d < 40 then [12 + (d - 36)]
  else if d = 42 then [2, 18]
  else if 40 ≤ d ∧ d < 52 then [d - 40]
  else if 52 ≤ d ∧ d < 56 then [19 + (d - 52)]
  else if 56 ≤ d ∧ d < 58 then [23 + (d - 56)]
  else if 58 ≤ d ∧ d < 60 then [16 + (d - 58)]
  else if d = 63 then [26]
  else []

/-! ### Lanes and links that go down (R433, R464) -/

/-- Lane `n` leaves UP (R433): DOWNS, and LANE_OCTET of its octet unless it is a Rootlink lane. -/
def State.laneLeaves (s : State) (n dest : Nat) : State :=
  let a := Reg.LANE_STATE n
  let up := s.fld a 2 0 == 3
  let s := (s.setFld a 2 0 dest).setFld a 11 8 0
  if up then
    let s := s.wrapAdd a 31 16 1
    if s.quadRole (n / 4) = 5 then s else s.crossInc (n / 8) (dev (152 + n / 8)) 1
  else s

/-- The link beside its registers. -/
def State.link (s : State) (l : Nat) : Link := smGet Link.reset s.rootlink.links l

def State.setLink (s : State) (l : Nat) (x : Link) : State :=
  { s with rootlink := { s.rootlink with links := smSet Link.reset s.rootlink.links l x } }

def State.updLink (s : State) (l : Nat) (f : Link → Link) : State := s.setLink l (f (s.link l))

/-- STATE of link `l`. -/
def State.linkState (s : State) (l : Nat) : Nat := s.fld (Reg.RTL_LINK_STATE l) 2 0

def State.linkUp (s : State) (l : Nat) : Bool := s.linkState l == 2

/-- LINKS_UP as `RTL_STATUS` shows it. -/
def State.countLinks (s : State) : State :=
  s.setFld Reg.RTL_STATUS 12 8 ((List.range 24).filter s.linkUp).length

/-- `n` buffer slots of link `l` freed (R463). -/
def State.freeFlits (s : State) (l n : Nat) : State := s.updLink l (fun x => { x with freed := x.freed + n })

/-- A packet that link `l` forwards, and that is not whole. -/
def OutPkt.openFrom (p : OutPkt) (l : Nat) : Bool := p.src == some l && !p.whole

/-- Link `k` gives up the packet that link `l` was forwarding on it: its flits not yet sent leave their slots. -/
def State.abandonOut (s : State) (k l : Nat) : State :=
  let x := s.link k
  let gone := (x.data.toList ++ x.fwd).filter (fun p => p.openFrom l)
  let n := (gone.flatMap (fun p => p.flits.filter (fun f => f.2))).length
  let data := match x.data with
    | some p => if p.openFrom l then none else some p
    | none => none
  (s.setLink k { x with data := data, fwd := x.fwd.filter (fun p => !p.openFrom l) }).freeFlits l n

/-- What link `l` has passed on of packet `c`, which does not come whole, is given up: on the link that forwards it, or in
the cells that it has. -/
def State.giveUp (s : State) (l : Nat) (c : RxPkt) : State :=
  match c with
  | .forward k _ _ _ => s.abandonOut k l
  | .own _ _ (.queue q _ cells) => s.freeCells q cells
  | _ => s

/-- Part of a packet has been received on link `x`, and its end has not. -/
def Link.receiving (x : Link) : Bool :=
  match x.rx.getLast? with
  | some f => !f.last
  | none => x.cur.isSome && x.cur != some .drop

/-- Packets that link `x` has sent in part: the one it is sending, and those whose last flit is not acknowledged. -/
def Link.sending (x : Link) : Nat :=
  (match x.data with
    | some p => b2n (p.begun && (!p.flits.isEmpty || !p.whole))
    | none => 0)
  + (x.retry.filter (fun p => p.2.ty == 1 && p.2.top.testBit 4)).length

/-- A packet whose flits have no slot to free. -/
def OutPkt.slotless (p : OutPkt) (l : Nat) : OutPkt :=
  if p.src = some l then { p with flits := p.flits.map (fun f => (f.1, false)) } else p

/-- What a link keeps when it goes down: whole packets received and not passed on, and packets to send that are not
begun; the rest is discarded (R464). -/
def Link.afterDown (x : Link) : Link :=
  let whole := (x.rx.reverse.dropWhile (fun f => !f.last)).reverse
  { Link.reset with
    rx := whole.map (fun f => { f with slot := false })
    cur := if whole.isEmpty then none else x.cur
    data := match x.data with
      | some p => if p.begun then none else some p
      | none => none
    fwd := x.fwd
    ownTurn := x.ownTurn }

/-- Slots of other links that the packet being sent on `x` holds, link by link. -/
def Link.heldSlots (x : Link) : Option (Nat × Nat) :=
  match x.data with
  | some p => match p.src with
    | some j => if p.begun then some (j, (p.flits.filter (fun f => f.2)).length) else none
    | none => none
  | none => none

/-- Link `l` leaves UP for state `dest` (R464): unacknowledged flits and packets partly sent or received are discarded,
the packets counted in LOST; ROOTLINK_LINK; a command in flight on it completes with CODE 1. -/
def State.linkDown (s : State) (l dest : Nat) : State :=
  let a := Reg.RTL_LINK_STATE l
  if !s.linkUp l then s.setFld a 2 0 dest
  else
    let x := s.link l
    let s := (s.setFld a 2 0 dest).wrapAdd a 47 32 1
    let s := s.satAdd (Reg.RTL_LINK_ERR l) 47 32 (x.sending + b2n x.receiving)
    let s := match x.cur with
      | some c => if x.afterDown.cur.isNone then s.giveUp l c else s
      | none => s
    let s := match x.heldSlots with
      | some (j, n) => s.freeFlits j n
      | none => s
    let s := s.setLink l x.afterDown
    let s : State := { s with rootlink := { s.rootlink with links := s.rootlink.links.map (fun (p : Nat × Link) =>
      (p.1, { p.2 with data := p.2.data.map (fun o => o.slotless l), fwd := p.2.fwd.map (fun o => o.slotless l) })) } }
    let s := if s.rootlink.command = some l then
        { ((s.setFld Reg.RTL_CMD 63 62 0).setFld Reg.RTL_CMD_STATUS 3 0 1) with
          rootlink := { s.rootlink with command := none } }
      else s
    let s : State := { s with rootlink := { s.rootlink with runs := s.rootlink.runs.map (fun (r : BlazeRun) =>
      { r with
        flits := r.flits.filter (fun k => k != l)
        missing := r.missing + b2n (r.answers.contains l)
        answers := r.answers.filter (fun k => k != l) }) } }
    (s.countLinks).crossInc (23 + s.linkEngine l) (dev 186) 1

/-- The links that a lane belongs to. -/
def State.linkOfLane (s : State) (n : Nat) : Option Nat :=
  (s.linkEntries.find? (fun e => decide (byteN e 2 ≤ n ∧ n < byteN e 2 + byteN e 3))).map (fun e => byteN e 0)

/-- Root port of lane `n` (R437): complex and port. -/
def State.portOfLane (s : State) (n : Nat) : Option (Nat × Nat) :=
  let c := if n < 16 then 0 else 1
  if (n < 16 ∨ (24 ≤ n ∧ n < 40)) ∧ s.quadRole (n / 4) = 1 then
    some (c, (n - 24 * c) / (16 / 2 ^ s.pcieByte c 1))
  else none

/-- The lanes of link `l` (R455). -/
def State.linkLanes (s : State) (l : Nat) : List Nat :=
  match s.linkEntry l with
  | some e => (List.range (byteN e 3)).map (fun k => byteN e 2 + k)
  | none => []

/-- Link `l` falls to DOWN with its lanes, to train again (R433, R464); one in DEPTH stays there (R471). -/
def State.linkFalls (s : State) (l : Nat) : State :=
  if s.linkState l = 5 then (s.linkLanes l).foldl (fun s n => if s.fld (Reg.LANE_STATE n) 2 0 = 3 then s.laneLeaves n 4 else s) s
  else
  (((s.linkLanes l).foldl (fun s n => if s.fld (Reg.LANE_STATE n) 2 0 = 3 then s.laneLeaves n 4 else s) s).linkDown l 3).setFld
    (Reg.RTL_LINK_STATE l) 6 6 1

/-- Some port of PCIe entry `c` is UP. -/
def State.anyPort (s : State) (c : Nat) : Bool := (List.range 16).any (fun p => s.flag (Reg.LANE_PCIE_STAT c p) 0)

/-- The outstanding reads on the link of port `p` of complex `c`, which left UP, end as timeouts, each counted in its
ERRORS (R439). Where the bridges name no port for a read, and another port is UP, the read is on that link or not by a
free choice (log 30). -/
def State.dropReads (s : State) (c p : Nat) : State :=
  let others := s.anyPort c
  s.glades.foldl (fun s g => g.2.loads.foldl (fun s l =>
    if s.regionOf l.addr = .pcie c ∧ l.asked = true ∧ l.dead = none then
      let r := match s.portFor c (windowOffset c l.addr) with
        | some q => (q == p, s)
        | none => if others then s.freeBool else (true, s)
      if r.1 then (r.2.killLoads (fun i m => i == g.1 && m.seq == l.seq) 4).portError c p (missAer .timeout)
      else r.2
    else s) s) s

/-- The endpoint's island reset: its configuration and its MSI-X table are at reset (R443). -/
def State.resetEndpoint (s : State) : State := { s.resetIsland 18 with msix := Msix.reset }

/-- Port `p` of PCIe entry `c` leaves UP: LINK_DOWNS, its outstanding reads (R439); the endpoint's island is reset
(R443). -/
def State.portDown (s : State) (c p : Nat) : State :=
  let b := Reg.LANE_PCIE_STAT c p
  if !s.flag b 0 then s
  else
    let s := ((s.setFlag b 0 false).setFld b 5 1 0).setFld b 8 6 0
    let s := s.wrapAdd b 31 16 1
    if c = 2 then s.resetEndpoint else s.dropReads c p

/-- Lane `n` put in STATE `dest`, and the link or port on it brought down. -/
def State.laneDown (s : State) (n dest : Nat) : State :=
  let s := s.laneLeaves n dest
  let s := match s.linkOfLane n with
    | some l =>
      if dest = 4 then (if s.linkUp l then s.linkFalls l else s) else s.linkDown l (if dest = 5 then 6 else 0)
    | none => s
  let port := if s.quadRole (n / 4) = 2 then some (2, 0) else s.portOfLane n
  match port with
  | some (c, p) => s.portDown c p
  | none => s

/-- Lane `n` belongs to PCIe entry `c`; the endpoint's is entry 2 (R437). -/
def State.laneOfEntry (s : State) (c n : Nat) : Bool :=
  if c = 2 then s.quadRole (n / 4) == 2 else (s.portOfLane n).any (fun p => p.1 == c)

/-- The links of PCIe entry `c` are lost: its lanes leave UP for DOWN, and its ports go down (R428, R433, R439). -/
def State.entryDown (s : State) (c : Nat) : State :=
  let s := (List.range 96).foldl (fun s n =>
    if s.laneOfEntry c n = true ∧ s.fld (Reg.LANE_STATE n) 2 0 = 3 then s.laneDown n 4 else s) s
  (List.range 16).foldl (fun s p => s.portDown c p) s

/-- Every lane of octet `o` put in STATE `dest`. -/
def State.octetDown (s : State) (o dest : Nat) : State :=
  (List.range 8).foldl (fun s k => s.laneDown (8 * o + k) dest) s

/-- Lanes, ports and links on island `i` whose side is reset (R428). -/
def State.islandLinks (s : State) (i : Nat) : State :=
  if i < 12 then
    (List.range 8).foldl (fun s k => if s.fld (Reg.LANE_STATE (8 * i + k)) 2 0 = 3 then s.laneDown (8 * i + k) 4 else s) s
  else if 16 ≤ i ∧ i < 19 then s.entryDown (i - 16)
  else if i = 23 ∨ i = 24 then
    (s.linkEntries.map (fun e => byteN e 0)).foldl (fun s l =>
      if s.linkEngine l = i - 23 ∧ s.linkUp l = true then s.linkFalls l else s) s
  else s

/-! ### Domains -/

/-- The measured voltage of rail `r` follows its target: TARGET_MV, or MV of `PWR_LEAN_CFG` for a Grove rail in LEAN
(R391, R398); 0 while what it feeds is off. -/
def State.followRail (s : State) (r : Nat) : State :=
  let off := if r < 16 then s.domState (4 + r) == 0 && s.domState (20 + r) == 0 else s.domState 2 == 0
  let t := if off then 0
    else if s.mode = 4 ∧ r < 16 then s.fld Reg.PWR_LEAN_CFG 9 0 else s.fld (Reg.PWR_RAIL r) 9 0
  s.setFld (Reg.PWR_RAIL r) 25 16 t

/-- Every rail follows its target. -/
def State.followRails (s : State) : State := (List.range 17).foldl (fun s r => s.followRail r) s

/-- The rail that feeds domain `d`, where it has one of its own (R398). -/
def domainRail (d : Nat) : Option Nat :=
  if d = 2 then some 16 else if 4 ≤ d ∧ d < 20 then some (d - 4) else if 20 ≤ d ∧ d < 36 then some (d - 20) else none

/-- Rail `r` is switched off once everything that it feeds is. -/
def State.railStops (s : State) (r : Nat) : State :=
  let off := if r < 16 then s.domState (4 + r) == 0 && s.domState (20 + r) == 0 else s.domState 2 == 0
  if off then (s.setFlag (Reg.PWR_RAIL r) 28 false).setFld (Reg.PWR_RAIL r) 25 16 0 else s

/-- What follows from domain `d` being on or off, beside its STATE: engines (R266, `RTL_STATUS`), DRAM channels (R397),
lanes (R433). -/
def State.domainEffect (s : State) (d : Nat) (on : Bool) : State :=
  if d = 60 ∨ d = 61 then s.setFlag Reg.QM_STATUS (d - 60) on
  else if d = 56 ∨ d = 57 then s.setFlag Reg.RTL_STATUS (d - 56) on
  else if d = 62 then s.setFlag Reg.JW_STATUS 0 on
  else s

/-- Domain `d` switched off: its contents are lost, its islands are reset (R399, R428). -/
def State.domainOff (s : State) (d : Nat) : State :=
  if s.domState d = 0 then s
  else
    let s := s.setDomState d 0
    let s := { s with power := { s.power with
      lost := s.power.lost ||| (1#64 <<< d)
      retry := s.power.retry.filter (fun k => k != d) } }
    let s := if 40 ≤ d ∧ d < 52 then s.octetDown (d - 40) 0 else s
    let s := (domainIslands d).foldl (fun s i => (if 12 ≤ i then s.islandLinks i else s).resetIsland i) s
    let s := match domainRail d with
      | some r => s.railStops r
      | none => s
    let s := if d = 2 then s.resetClockless else s
    s.domainEffect d false

/-- Every domain but those of `keep` switched off. -/
def State.allOffBut (s : State) (keep : List Nat) : State :=
  (List.range 64).foldl (fun s d => if keep.contains d then s else s.domainOff d) s

/-! ### Fences -/

/-- The stop-cause registers of core `c` and its partner read 0: a stop that has no cause of R124 or R201. -/
def State.noStopCause (s : State) (c : Nat) : State :=
  (s.receivers c).foldl (fun s j => s.updGlade j (fun x => { x with
    stopEcause := 0#64
    stopEpc := 0#64
    stopEaddr := 0#64 })) s

/-- A started Glade (with its pair) stopped or fenced at its bundle boundary (R493, R494); one that is stopped already
keeps its cause. -/
def State.haltGlade (s : State) (c : Nat) (dest : RunState) : State :=
  if s.buses c = 0 ∨ (s.glade c).run = .off then s
  else if (s.glade c).run = .fenced then s
  else (if (s.glade c).run = .stopped then s else s.noStopCause c).halt c dest

/-- Glade `c` (with its pair) fenced (R494), started or not. -/
def State.fenceGlade (s : State) (c : Nat) : State :=
  if s.buses c = 0 ∨ (s.glade c).run = .fenced then s
  else (if (s.glade c).run = .stopped then s else s.noStopCause c).halt c .fenced

/-- Grove `g` fenced (R495): every Glade fenced, its memories closed to every requester but the Heartwood. -/
def State.fenceGrove (s : State) (g : Nat) : State :=
  let s := s.setFlag Reg.SAF_STATUS (32 + g) true
  (List.range 16).foldl (fun s k => s.fenceGlade (16 * g + k)) s

/-- Grove `g` is fenced. -/
def State.groveFenced (s : State) (g : Nat) : Bool := s.flag Reg.SAF_STATUS (32 + g)

/-! ### HOLDUP -/

/-- A mode entered: CURRENT and PREV, no transition in progress, MODE_DONE (R395). -/
def State.setMode (s : State) (m : Nat) : State :=
  let a := Reg.PWR_MODE
  let s := s.setFld a 27 24 s.mode
  let s := (((s.setFld a 3 0 m).setFld a 7 4 0).setFlag a 8 false)
  { s with power := { s.power with waking := false } }.tallyInc (dev 180) 1

/-- The request in the queue, or waiting for Clearing, completes with RESULT `r` (R395, R396). -/
def State.dropQueued (s : State) (r : Nat) : State :=
  let a := Reg.PWR_MODE
  if s.flag a 9 ∨ s.power.idleWait = true then
    let s := (((s.setFlag a 9 false).setFld a 15 12 0).setFld a 19 16 r)
    { s with power := { s.power with idleWait := false } }
  else s

/-- Octet `o` carries a lane with HOLDUP set (R50). -/
def State.octetHolds (s : State) (o : Nat) : Bool := s.secLE 0x20 (8 * o + 5) 1 != 0

/-- Lane `n` has HOLDUP set. -/
def State.laneHolds (s : State) (n : Nat) : Bool := (s.secLE 0x20 (8 * (n / 8) + 5) 1).testBit (n % 8)

/-- The MAC, Rootlink engine or PCIe complex of domain `d` (52 to 59) serves lane `n`. -/
def State.blockLane (s : State) (d n : Nat) : Bool :=
  let role := s.quadRole (n / 4)
  if d < 52 ∨ 60 ≤ d then false
  else if d < 56 then (role == 3 || role == 4) && s.quadMac (n / 4) == d - 52
  else if d < 58 then role == 5 && (match s.linkOfLane n with
    | some l => s.linkEngine l == d - 56
    | none => false)
  else if d = 58 then role == 1 && decide (n < 16)
  else role == 1 && decide (24 ≤ n ∧ n < 40)

/-- A block domain that carries a lane with HOLDUP set (R413 step 2). -/
def State.blockHolds (s : State) (d : Nat) : Bool := (List.range 96).any (fun n => s.laneHolds n && s.blockLane d n)

/-- Grove `g` has a durable commit in flight. -/
def State.durableInFlight (s : State) (g : Nat) : Bool :=
  (s.decidedTxns g).any (fun p => p.2.step != .volatile && p.2.step != .durable)

/-- The budget of the durable commits past step 1 and not durable (R413 step 4). -/
def State.chargeCommits (s : State) : State :=
  (List.range 16).foldl (fun s g =>
    (s.decidedTxns g).foldl (fun s p =>
      let cost := match p.2.step with
        | .volatile => 0
        | .durable => 0
        | .marker => 1100
        | .inMarker => 1100
        | _ => s.mediaNs + 1100
      (s.setTxn (16 * g + p.1) (some { p.2 with cost := cost })).addCost cost) s) s

/-- Every domain but AON, SEEDBANK and SAMPLER is switched off (R415). -/
def State.shutDown (s : State) : State :=
  let s := (List.range 256).foldl (fun s i =>
    if (s.glade i).run = .off ∨ (s.glade i).run = .fenced then s else s.haltOne i .held) s
  let s := (s.haltOne 256 .held).allOffBut [0, 1, 63]
  { s with power := { s.power with down := true } }

/-- A REGROW in progress is abandoned, and the Grove keeps its structure (R72, R73). -/
def State.abandonRegrow (s : State) : State :=
  match s.regrow with
  | none => s
  | some r =>
    let s := ((s.setFld Reg.SM_REGROW_STATUS 2 0 6).setFlag Reg.SM_REGROW 32 false).setFlag Reg.SM_STATUS 4 false
    let s := s.setTxu r.grove { s.txu r.grove with quiescing := false }
    { s with regrow := none }

/-- EXTEST, CLAMP and HIGHZ outside R452's conditions act as BYPASS. -/
def State.endPinTest (s : State) : State :=
  if s.jtag.pins = 0 then s else { s with jtag := { s.jtag with ir := 0xFF, pins := 0 } }

/-- SERVICE ends for HOLDUP: JTAG debug access and the status of SERVICE (R416); FAULT_N and the outputs stay (R512). -/
def State.leaveService (s : State) : State :=
  if s.mode ≠ 11 then s
  else ((s.setFlag Reg.SAF_STATUS 3 false).wr Reg.UST_SVC (s.rd Reg.UST_SVC &&& 0x300#64)).endPinTest

/-- The lanes of octet `o` that do not have HOLDUP set go down (R413 step 2, R435). -/
def State.lanesOff (s : State) (o : Nat) : State :=
  (List.range 8).foldl (fun s k =>
    let n := 8 * o + k
    let st := s.fld (Reg.LANE_STATE n) 2 0
    if s.laneHolds n || st == 0 || st == 5 then s else s.laneDown n 0) s

/-- Entry to HOLDUP (R413, R416); with HOLDUP_OUT the device itself drives HOLDUP_N low (R486), and a cut that is open is
skipped (R483). From DOZE, RETAIN and LOOKOUT the domains go off at once, but not from a wake, whose ready domains stay
on (R407). -/
def State.enterHoldup (s : State) : State :=
  let atOnce := (s.mode == 6 || s.mode == 7 || s.mode == 8) && !s.power.waking
  let s := s.leaveService.dropQueued 4
  let s := s.abandonRegrow
  let s := { s with power := { s.power with down := false } }
  let s := ((s.setMode 9).setFlag Reg.PWR_STATUS 1 true).tallyInc (dev 179) 1
  let s := if s.flag Reg.RTL_BOARD 8 then
      { s.setFlag Reg.PWR_STATUS 0 false with power := { s.power with high := 0 } } else s
  let s := if s.rootlink.cutting.isSome then s.setFlag Reg.RTL_BLAZE_STATUS 3 true else s
  let s := { s with rootlink := { s.rootlink with cutting := none } }
  if atOnce then s.shutDown
  else
    let s := s.followRails
    let s := (List.range 12).foldl (fun s o => if s.octetHolds o then s.lanesOff o else s.domainOff (40 + o)) s
    let s := [52, 53, 54, 55, 56, 57, 58, 59].foldl (fun s d => if s.blockHolds d then s else s.domainOff d) s
    let s := if s.flag Reg.PWR_HOLDUP_CFG 16 then
        let s := (List.range 256).foldl (fun s i => s.haltGlade i .fenced) s
        (List.range 16).foldl (fun s g =>
          if s.durableInFlight g then s else (s.domainOff (4 + g)).domainOff (20 + g)) s
      else s
    let s := s.chargeCommits
    { s with jw := { s.jw with sealing := if s.jw.sealing = 0 then 2 else s.jw.sealing } }

/-- HOLDUP becomes due with cause `c` of HCAUSE (1 HOLDUP_N, 2 VSENSE): in STRUCTURE the ROM's step is abandoned, so
that no push, image or link is taken any more (STAGE 0, log 113), and every domain but AON and SEEDBANK goes off (R89);
during a transition it waits for its end (R396), and a wake is abandoned (R407); otherwise HOLDUP is entered. -/
def State.holdupNow (s : State) (c : Nat) : State :=
  let s := s.setFld Reg.PWR_STATUS 3 2 (s.fld Reg.PWR_STATUS 3 2 ||| c)
  if s.mode = 1 ∨ s.mode = 9 then s
  else if s.mode = 2 then
    let s := s.allOffBut [0, 1]
    let s := if s.fld Reg.HW_BOOT 7 4 = 15 then s else s.setFld Reg.HW_BOOT 7 4 0
    { s with power := { s.power with down := true }, board := { s.board with pushing := false } }
  else if s.flag Reg.PWR_MODE 8 then
    if s.power.waking then
      let s := (List.range 64).foldl (fun s d => if s.domState d = 3 then s.domainOff d else s) s
      { s with power := { s.power with retry := [] } }.enterHoldup
    else { s with power := { s.power with holdupDue := true } }
  else s.enterHoldup

/-! ### SAFE (R510) -/

/-- SAFE_OUT of the SAFETY section (R56). -/
def State.safeOut (s : State) : Nat := s.secLE 0x50 0 1

/-- The levels that the outputs drive in the present mode (R451); in OFF and while PORST_N is low they are not driven. -/
def State.ssoDriven (s : State) : Nat :=
  match s.mode with
  | 1 => 0
  | 2 => 0
  | 7 => if s.power.ssoSafe then s.safeOut else s.power.ssoHeld
  | 8 => if s.power.ssoSafe then s.safeOut else s.power.ssoHeld
  | 10 => s.safeOut
  | 11 => s.safeOut
  | _ => if s.power.ssoSafe then s.safeOut else s.fld Reg.UST_SSO 7 0

/-- FAULT_N and the outputs as in SAFE, until a restart (R510 step 1, R511, R512). -/
def State.driveSafe (s : State) : State :=
  { s.setFlag Reg.SAF_STATUS 2 true with power := { s.power with ssoSafe := true } }

/-- A cause of SAFE is more than recorded: SAFE may be entered from the present mode, and is not due already (R393,
R510). -/
def State.safeOpen (s : State) : Bool :=
  s.mode != 1 && s.mode != 9 && s.mode != 10 && s.mode != 11 && s.power.safeDue == 0

/-- Step 6 of SAFE entry (R510). -/
def State.writeSafeRecord (s : State) : State :=
  if s.power.faultRecord.isEmpty then s
  else ({ s with power := { s.power with faultRecord := [] } }).updateRecord 2 s.power.faultRecord

/-- Steps 1, 2 and 4 of SAFE entry (R510): outputs and FAULT_N, fences, and the seals. -/
def State.safeBody (s : State) : State :=
  let s := s.abandonRegrow.driveSafe
  let s := ((s.dropQueued 4).setMode 10).setFld Reg.SAF_STATUS 2 1 3
  let s := (List.range 16).foldl (fun s g => s.fenceGrove g) s
  { s with jw := { s.jw with sealing := 3 } }

/-- SAFE entered with last-fault record SOURCE `source`, KIND `code`, which is written last (R510); during HOLDUP only the
outputs and FAULT_N follow (R416); during a transition they follow at once, and the rest waits for its end (R396). A
further cause is recorded only, in SAFE, OFF and SERVICE too, which only a restart ends (R393, R512). -/
def State.enterSafe (s : State) (source code grove addr info : Nat) : State :=
  if s.mode = 10 ∨ s.mode = 1 ∨ s.mode = 11 then s
  else
    let u := s.driveSafe
    if s.safeOpen then
      let u : State := { u with power := { u.power with faultRecord := s.faultBody source code grove addr info } }
      if s.flag Reg.PWR_MODE 8 then { u with power := { u.power with safeDue := source } } else u.safeBody
    else u

/-! ### Reactions (R489 to R492) -/

/-- A mechanism that may be disarmed (R56). -/
def mayDisarm (m : Nat) : Bool := m != 1 && m != 2 && m != 6 && m != 9

/-- The SAFETY entry of mechanism `m` as `SAF_MECHm` holds it. -/
def State.mech (s : State) (m : Nat) : W64 := s.rd (Reg.SAF_MECH (m - 1))

/-- Mechanism `m` is armed, for Grove `g` where the fault is Grove-bound (R489). -/
def State.armed (s : State) (m : Nat) (g : Option Nat) : Bool :=
  bit (s.mech m) 0 && (match g with
    | some g => (field (s.mech m) 31 16).testBit g || !mayDisarm m
    | none => true)

/-- REACTION that finding `f` carries (R489, R490, R492): 0 LOG, 1 EVENT, 2 FENCE_GROVE, 3 FENCE_PAIR, 4 SAFE; a stop
without a mechanism (0) is EVENT (R493). -/
def State.reactionOf (s : State) (f : Finding) : Nat :=
  let fenced := match f.grove with
    | some g => s.groveFenced g
    | none => false
  if f.mech = 0 then 1
  else if !bit (s.mech f.mech) 0 ∨ fenced = true ∨ s.mode = 10 then 0
  else match f.grove with
    | some g =>
      if (field (s.mech f.mech) 31 16).testBit g then field (s.mech f.mech) 3 1
      else if mayDisarm f.mech then 0 else 1
    | none => field (s.mech f.mech) 3 1

/-- Strength of a reaction, in the order of R492. -/
def strength (r : Nat) : Nat :=
  match r with
  | 4 => 4
  | 2 => 3
  | 3 => 2
  | 1 => 1
  | _ => 0

/-- HANDLING set and `SAF_FAULT` written for a reaction of EVENT or stronger. -/
def State.noteFault (s : State) (f : Finding) (r : Nat) : State :=
  let v := w64 (b2n (f.mech < 100) * (f.mech % 256) + (r % 8) * 2 ^ 8 + b2n f.grove.isNone * 2 ^ 11
    + (f.grove.getD 0) % 16 * 2 ^ 12 + f.glade % 16 * 2 ^ 16 + f.kind % 256 * 2 ^ 24)
  (s.setFlag Reg.SAF_STATUS 0 true).wr Reg.SAF_FAULT v

/-- The Glade a lasting divergence or a second watchdog expiry concerns. -/
def Finding.core (f : Finding) : Option Nat :=
  if f.mech = 4 ∨ f.mech = 8 then f.grove.map (fun g => 16 * g + f.glade) else none

/-- INFO of the last-fault record for `f` (R364): `ECAUSE` of the Glade that it stopped. -/
def State.stopInfo (s : State) (f : Finding) : Nat :=
  match f.core with
  | some c => if (s.glade c).run = .stopped then (s.glade c).stopEcause.toNat else 0
  | none => 0

/-- What the strongest reaction does (R492). A Glade that cannot continue is stopped when nothing fenced it. -/
def State.applyReaction (s : State) (f : Finding) (r : Nat) : State :=
  let s :=
    if r = 0 ∨ r = 1 then s
    else match r, f.grove, f.pair with
      | 4, _, _ => s.enterSafe 2 f.kind (f.grove.getD 0xFF) f.addr (s.stopInfo f)
      | 2, some g, _ => s.fenceGrove g
      | 3, _, some l => s.fenceGlade l
      | _, _, _ => s
  match f.core with
  | some c => if (s.glade c).run = .running ∨ (s.glade c).run = .clearing then s.haltGlade c .stopped else s
  | none => s

/-- CLASS of what caused Heartwood fault `f` (R119, R513): that of its stop, BUS_ERROR for an access, FETCH for a fetch,
WATCHDOG for the second expiry. -/
def State.heartwoodClass (s : State) (f : Finding) : Nat :=
  match f.mech with
  | 101 => 3
  | 102 => 2
  | 103 => 5
  | _ => field (s.glade 256).stopEcause 7 0

/-- A Heartwood fault (R508): SAFE with SOURCE 3 while HANDLING is 1; a stop while it is 0, SAFE with SOURCE 2. Where it
enters SAFE, the Heartwood stays stopped, and its KIND 0x1D record is written. In SAFE and SERVICE it is logged only
(R492, R512); a second expiry of the watchdog, which no other record reports, as KIND 0x12 (log 144). -/
def State.heartwoodFault (s : State) (f : Finding) : State :=
  let cls := s.heartwoodClass f
  let logged := if f.mech = 103 && !s.safeOpen then
      s.recordError .heartwood { ErrInfo.of 0x12 0 with syndrome := 5, bitPos := 1, count := (s.glade 256).pc.toNat % 2 ^ 16 }
    else s
  if s.mode = 10 ∨ s.mode = 11 then logged
  else
    let source := if s.flag Reg.SAF_STATUS 0 then 3 else 2
    let s := if s.safeOpen then
        (if f.mech = 101 ∨ f.mech = 102 then (s.noStopCause 256).haltOne 256 .stopped else s).recordError .heartwood
          { ErrInfo.of 0x1D f.addr with syndrome := cls }
      else logged
    (s.noteFault f 4).enterSafe source 0x1D 0xFF f.addr ((s.glade 256).stopEcause.toNat)

/-- Heartwood faults first, then every finding's own source, then the strongest of the reactions once (R492); in SERVICE
fences and SAFE are recorded as LOG (R512). -/
def State.react (s : State) : State :=
  let fs := s.findings
  if fs.isEmpty then s
  else
    let s := { s with findings := [] }
    let hw := fs.find? (fun f => decide (100 ≤ f.mech))
    let s := match hw with
      | some f => s.heartwoodFault f
      | none => s
    let fs := (fs.filter (fun f => decide (f.mech < 100))).map (fun f => (s.reactionOf f, f))
    let s := fs.foldl (fun s p => match p.2.source with
      | some k => if p.1 = 0 then s else s.tallyInc k 1
      | none => s) s
    let fs := if s.mode = 11 then fs.map (fun p => (if 2 ≤ p.1 then 0 else p.1, p.2)) else fs
    match fs with
    | [] => s
    | p :: ps =>
      let top := ps.foldl (fun a b => if strength a.1 < strength b.1 then b else a) p
      let s := if top.1 = 0 then s else s.noteFault top.2 top.1
      (p :: ps).foldl (fun s q =>
        if q.2.core.isSome ∨ q = top then s.applyReaction q.2 (if q = top then q.1 else 0) else s) s

/-! ### What follows a step -/

/-- Nothing of R351 is admitted or waiting, and every durable commit has ended. A JW that is off seals nothing. -/
def State.sealingDone (s : State) : Bool :=
  let waiting := s.jw.queues.flatMap (fun q => q.2)
  (List.range 16).all (fun g => !s.durableInFlight g)
    && (!s.domainOn 62 || (waiting.isEmpty && s.persistentJournals.all (fun p => s.jstate p.1 != 2))
      || (!s.itemAdmitted && waiting.all (fun k => !k.admitted)))

/-- After the seals of HOLDUP every domain but three goes off (R415); after those of SAFE the Groves, the QM and every
lane but the endpoint's and the upstream link's, and DRAM goes to self-refresh (R510 step 5), and the last-fault record is
written (step 6). -/
def State.pollShutdown (s : State) : State :=
  if s.power.down then s
  else if s.mode = 9 then
    if s.est.budget = 0 ∧ s.sealingDone = true then s.writeSafeRecord.shutDown else s
  else if s.mode = 10 then
    if s.sealingDone then
      let up := (s.linkEntries.filter (fun e => byteN e 4 == 0)).map (fun e => byteN e 2 / 8)
      let s := (List.range 16).foldl (fun s g => (s.domainOff (4 + g)).domainOff (20 + g)) s
      let s := (s.domainOff 60).domainOff 61
      let keeps := fun (n : Nat) => s.quadRole (n / 4) == 2 || (match s.linkOfLane n with
        | some l => (match s.linkEntry l with | some e => byteN e 4 == 0 | none => false)
        | none => false)
      let s := (List.range 12).foldl (fun s o => if o = 2 ∨ up.contains o = true then s else s.domainOff (40 + o)) s
      let s := (List.range 96).foldl (fun s n =>
        if keeps n || s.fld (Reg.LANE_STATE n) 2 0 == 0 then s else s.laneDown n 0) s
      let s := (List.range 4).foldl (fun s n => if s.domState (36 + n) = 1 then s.setDomState (36 + n) 2 else s) s
      let s := s.writeSafeRecord
      { s with power := { s.power with down := true } }
    else s
  else if s.mode = 11 ∧ s.sealingDone = true then s.writeSafeRecord
  else s

end Sys2Proof.Machine
end

