-- ==== Sys2Proof/Machine/TimeOps.lean ====
section
/-! DEFINITION. The time base (R425), the timers (R389), and the clock monitors with what a clock fault does (R426 to
R429). -/

namespace Sys2Proof.Machine

/-! ### The time base -/

/-- PERIOD_US of timer `t` in nanoseconds; 0: off (R389). -/
def State.timerPeriod (s : State) (t : Nat) : Nat := 1000 * s.fld (Reg.TLY_TIMER t) 31 0

/-- Timer increments when the count goes on from `c` to `c'`, `once` by a step (R389). -/
def State.timersPass (s : State) (c c' : Nat) (once : Bool) : State :=
  (List.range 8).foldl (fun s t =>
    let p := s.timerPeriod t
    if p = 0 then s
    else
      let k := c' / p - c / p
      s.crossInc 25 (dev (144 + t)) (if once then min k 1 else k)) s

/-- The count set; what is delivered never decreases (R425). -/
def State.setCount (s : State) (c : Nat) : State :=
  let v := w64 c
  { s with time := { s.time with
      count := v
      delivered := if s.time.delivered.toNat < v.toNat then v else s.time.delivered } }

/-- `n` nanoseconds pass on the time base (R425). -/
def State.advanceTime (s : State) (n : Nat) : State :=
  let c := s.time.count.toNat
  (s.setCount (c + n)).timersPass c ((c + n) % 2 ^ 64) false

/-- PPB of `UST_TIME_RATE`, within its limits. -/
def State.ppb (s : State) : Int := max (-500000) (min 500000 (int32 (s.fld Reg.UST_TIME_RATE 31 0)))

/-- One 250 MHz period: 4 ns, or 8 or 0 when the rate correction has accumulated a step (R425). -/
def State.tick (s : State) : State :=
  if !s.timeRuns then s
  else
    let f := s.time.frac + 4 * s.ppb
    let r : Int × Nat := if f ≥ 4000000000 then (f - 4000000000, 8)
      else if f ≤ -4000000000 then (f + 4000000000, 0) else (f, 4)
    { s with time := { s.time with frac := r.1 } }.advanceTime r.2

/-- A write of `UST_TIME_STEP`: the signed amount, rounded toward zero to a multiple of 4, is added to the count; a
forward step that passes multiples of a period increments its timer once (R389, R425). -/
def State.timeStep (s : State) (v : W64) : State :=
  if !s.flag (Reg.UST_ISL 25) 0 then s
  else
    let step := 4 * Int.tdiv v.toInt 4
    let c := s.time.count.toNat
    let c' := (s.time.count + BitVec.ofInt 64 step).toNat
    let s := s.setCount c'
    if step > 0 ∧ c < c' then s.timersPass c c' true else s

/-- The device time reaches the next multiple of timer `t`'s period (R389). -/
def State.timerPeriodDone (s : State) (t : Nat) : State :=
  let p := s.timerPeriod t
  if !s.timeRuns || p == 0 then s
  else s.advanceTime (p - s.time.count.toNat % p)

/-! ### Clock monitors -/

/-- Twice the periods per 4 µs window that the clock of quad `q` gives by its role (R420, R432). -/
def State.quadExpect2 (s : State) (q : Nat) : Nat := if s.quadRole q = 1 ∨ s.quadRole q = 2 then 2000 else 2500

/-- Twice the periods per 4 µs window that island `i`'s configured clock gives (R420, R426); 0: no monitor. An octet is
shown by its first quad that has a role, and by quad 0 when none has (log 135). -/
def State.expect2 (s : State) (i : Nat) : Nat :=
  if i < 12 then s.quadExpect2 (if s.quadRole (2 * i) = 0 ∧ s.quadRole (2 * i + 1) ≠ 0 then 2 * i + 1 else 2 * i)
  else if i < 16 then
    let sp := s.fld (Reg.DDR_CH_CFG (i - 12)) 9 8
    if sp = 0 then 4800 else if sp = 1 then 5600 else 6400
  else if i < 19 then 4000
  else if i < 25 then 3125
  else if i = 25 then 2000
  else if i < 30 then 800
  else 0

/-- A clock fault of island `i` with CLK_FAULT `code` (R427): side reset, source and reaction while MECH 0x05 is
armed, its record; a second fault within 1 s is lasting. -/
def State.clockFault (s : State) (i code : Nat) : State :=
  let before := smGet 0 s.monitors.since i
  let again := before != 0 && decide (s.now + 1 - before < 10 ^ 9)
  let s := (s.islandLinks i).resetIsland i
  let s := (s.setFld (Reg.UST_ISL i) 6 4 code).setFlag (Reg.UST_ISL i) 7 again
  let s := { s with monitors := { s.monitors with
    misses := smSet 0 (smSet 0 s.monitors.misses (2 * i) 0) (2 * i + 1) 0
    since := smSet 0 s.monitors.since i (s.now + 1) } }
  let s := s.recordError .heartwood { ErrInfo.of 0x17 i with lasting := again }
  if s.armed 5 none then (s.crossInc i (dev 176) 1).find ⟨5, 0x17, none, none, none, 0, i⟩ else s

/-- A window's count `count` misses `e2` / 2 periods by more than 0.5 % (R426). -/
def countMisses (count e2 : Nat) : Bool :=
  decide (5 * e2 < 1000 * (if 2 * count < e2 then e2 - 2 * count else 2 * count - e2))

/-- The window of one clock of a monitor after `before` consecutive misses, `e2` / 2 periods being expected: the misses
now, and CLK_FAULT where two in a row have made a fault (R426). A loss of lock is a miss at once, and the window's end
another where the PLL is still unlocked or the count is out. -/
def clockWindow (before e2 : Nat) (w : ClockWindow) : Nat × Nat :=
  let n := if w.lock = .held then before else before + 1
  let bad := w.lock == .lost || countMisses w.count e2
  let n' := if bad then n + 1 else if w.lock ≠ .held ∧ 2 ≤ n then n else 0
  (n', if n' < 2 then 0 else if w.lock ≠ .held then 4 else if w.count = 0 then 1 else if 2 * w.count < e2 then 2 else 3)

/-- The clocks of island `i`'s monitor, as numbers of its windows and twice their expected counts: one of each quad of an
octet that has a role (R432), otherwise one. -/
def State.monitorClocks (s : State) (i : Nat) : List (Nat × Nat) :=
  if i < 12 then
    ([0, 1].filter (fun q => s.quadRole (2 * i + q) != 0)).map (fun q => (q, s.quadExpect2 (2 * i + q)))
  else [(0, s.expect2 i)]

/-- The end of a 4 µs window of island `i`: what its monitor saw of the island's clock, of an octet the clocks of quads 0
and 1, and whether the 25 MHz reference passes its check (R426). -/
def State.monitorWindow (s : State) (i : Nat) (w0 w1 : ClockWindow) (reference : Bool) : State :=
  let seen := fun q => if q = 0 then w0 else w1
  if i ≥ 30 then s
  else if !reference then
    let s := { s with monitors := { s.monitors with refBad := true } }
    if s.flag (Reg.UST_ISL 25) 0 then s.clockFault 25 (if w0.count = 0 then 1 else 2) else s
  else
    let s := { s with monitors := { s.monitors with refBad := false } }
    if !s.flag (Reg.UST_ISL i) 0 then s
    else
      let clocks := s.monitorClocks i
      let shown := (seen ((clocks.map (fun c => c.1)).headD 0)).count
      let s := (s.setFld (Reg.UST_ISL_MON i) 23 0 (min shown (2 ^ 24 - 1))).setFld (Reg.UST_ISL_MON i) 55 32 (s.expect2 i / 2)
      let r := clocks.map (fun c => (c.1, clockWindow (smGet 0 s.monitors.misses (2 * i + c.1)) c.2 (seen c.1)))
      match r.find? (fun c => c.2.2 != 0) with
      | some c => s.clockFault i c.2.2
      | none => r.foldl (fun s c =>
          { s with monitors := { s.monitors with misses := smSet 0 s.monitors.misses (2 * i + c.1) c.2.1 } }) s

/-- The domain of island `i` (R420): the always-on side for islands 25 to 30. -/
def islandDomain (i : Nat) : Nat :=
  if i < 12 then 40 + i
  else if i < 16 then 36 + (i - 12)
  else if i < 18 then 58 + (i - 16)
  else if i = 18 then 42
  else if i < 23 then 52 + (i - 19)
  else if i < 25 then 56 + (i - 23)
  else if i = 26 then 63
  else 0

/-- The one relock of a faulted island: a clean restart makes the fault transient, a failed lock lasting (R427). An
island whose domain is off stays in reset until that is on. -/
def State.relock (s : State) (i : Nat) (clean : Bool) : State :=
  let a := Reg.UST_ISL i
  if i ≥ 30 ∨ s.fld a 6 4 = 0 ∨ s.flag a 7 = true then s
  else if clean then
    let s := s.setFld a 6 4 0
    if s.domainOn (islandDomain i) then s.releaseIsland i else s
  else (s.setFlag a 7 true).recordError .heartwood { ErrInfo.of 0x17 i with lasting := true }

/-- The reset side of island `i`'s crossings released (R429): not while a clock fault holds it in reset, nor while its
domain is off. -/
def State.sideRelease (s : State) (i : Nat) : State :=
  if s.fld (Reg.UST_ISL i) 6 4 ≠ 0 ∨ s.flag (Reg.UST_ISL i) 7 = true ∨ s.domainOn (islandDomain i) = false then s
  else s.releaseIsland i

end Sys2Proof.Machine
end

