-- ==== Sys2Proof/Machine/Wake.lean ====
section
/-! DEFINITION. Which domains a mode needs (R397), how a wake begins (R396, R399, R403), and how a domain's contents
are lost and made anew (R72, R292, R401, R403). -/

namespace Sys2Proof.Machine

/-- RUN_STATE of domain `d`. -/
def State.runState (s : State) (d : Nat) : Nat := s.fld (Reg.PWR_DOM d) 1 0

/-- Wake-capable lane `n` (R50). -/
def State.laneWakes (s : State) (n : Nat) : Bool := (s.secLE 0x20 (8 * (n / 8) + 4) 1).testBit (n % 8)

/-- A quad that the negotiation keeps down: Clause 108 FEC without RS_FEC (R90, R433). -/
def State.quadBarred (s : State) (q : Nat) : Bool := s.quadFec q == 2 && !s.accepted 13

/-- The role and the negotiation let lane `n` train: before the lock only the endpoint and the upstream Rootlink link
come up (R91); downstream links need DOWNLINKS (R90). -/
def State.laneUsable (s : State) (n : Nat) : Bool :=
  let role := s.quadRole (n / 4)
  let up := (s.linkOfLane n).map (fun l => match s.linkEntry l with | some e => byteN e 4 == 0 | none => false)
  role != 0 && !s.quadBarred (n / 4) && (s.flag Reg.NEG_LOCK 0 || role == 2 || up == some true)
    && (role != 5 || up == some true || (up == some false && s.accepted 6))

/-- The block of domain `d` (52 to 59) serves some lane that may train (R397). -/
def State.blockUsed (s : State) (d : Nat) : Bool := (List.range 96).any (fun n => s.blockLane d n && s.laneUsable n)

/-- Lane `n` is down (R397): its link has been lost, or its PLL or domain has failed. -/
def State.laneIsDown (s : State) (n : Nat) : Bool :=
  let st := s.fld (Reg.LANE_STATE n) 2 0
  st == 4 || st == 5

/-- An automatic octet `o` is wanted on: some lane of it may train and is not down, or wakes (R397). One that went off
because every lane was down stays off (log 136). -/
def State.octetWanted (s : State) (o : Nat) : Bool :=
  let off := s.domState (40 + o) == 0
  !(off && s.power.dead.contains o)
    && (List.range 8).any (fun k => s.laneUsable (8 * o + k) && (off || !s.laneIsDown (8 * o + k) || s.laneWakes (8 * o + k)))

/-- Domain `d` is wanted on in RUN, LEAN (`lean`) and IDLE by its policy (R397). -/
def State.wantOn (s : State) (d : Nat) (lean : Bool) : Bool :=
  let st := s.runState d
  if d < 4 ∨ d = 63 then true
  else if st = 1 then false
  else if lean && decide (40 ≤ d ∧ d < 52) && s.flag Reg.PWR_LEAN_CFG (16 + (d - 40)) then false
  else if st = 0 then true
  else if d < 36 then true
  else if d < 40 then s.flag (Reg.DDR_CH_CFG (d - 36)) 0
  else if d < 52 then s.octetWanted (d - 40)
  else if d < 60 then s.blockUsed d
  else true

/-- Domain `d` starts waking unless a failure bars it, or it pauses before a retry (R399, R405). -/
def State.wakeDomain (s : State) (d : Nat) : State :=
  if s.flag (Reg.PWR_DOM d) 8 ∨ s.domState d = 3 ∨ s.domState d = 1 ∨ s.power.retry.contains d = true then s
  else
    let s := (s.setFld (Reg.PWR_DOM d) 10 9 0).setDomState d 3
    { s with power := { s.power with dead := s.power.dead.filter (fun o => 40 + o != d) } }

/-- The target mode `m` of a wake needs domain `d` woken: DRAM stays in self-refresh in DOZE, and from DOZE a Grove in
Grove Clearing is on already. -/
def State.mustWake (s : State) (m d : Nat) : Bool :=
  s.wantOn d false && !(m == 6 && decide (36 ≤ d ∧ d < 40) && s.domState d == 2)
    && !(s.mode == 6 && decide (4 ≤ d ∧ d < 20) && s.domState d == 2)

/-- A wake begun, with its cause (WAKE of `PWR_MODE`) and target mode (R396, R399). -/
def State.startWake (s : State) (cause target : Nat) : State :=
  let a := Reg.PWR_MODE
  let s := (((s.setFld a 31 28 cause).setFld a 7 4 target).setFlag a 8 true)
  let s := { s with power := { s.power with waking := true, wake := none } }
  (List.range 64).foldl (fun s d => if s.mustWake target d then s.wakeDomain d else s) s

/-- The mode from which a wake that arrives now is taken: during an entry the one entered (R396). -/
def State.sleepMode (s : State) : Nat :=
  if s.flag Reg.PWR_MODE 8 && !s.power.waking then s.fld Reg.PWR_MODE 7 4 else s.mode

/-- The wake target that `PWR_WAKE_CFG` names; in DOZE a target DOZE is taken as RUN (log 28). -/
def State.wakeTarget (s : State) : Nat :=
  let t := s.fld Reg.PWR_WAKE_CFG 19 16
  if t = 5 ∨ (t = 6 ∧ s.sleepMode ≠ 6) then t else 3

/-- A wake with its cause and target: taken at once in DOZE, RETAIN and LOOKOUT, kept during an entry until it has
completed (R396), and without effect elsewhere. -/
def State.wakeNow (s : State) (cause target : Nat) : State :=
  if s.flag Reg.PWR_MODE 8 then
    let t := s.fld Reg.PWR_MODE 7 4
    if s.power.waking = false ∧ s.power.wake = none ∧ (t = 6 ∨ t = 7 ∨ t = 8) then
      { s with power := { s.power with wake := some (cause, target) } }
    else s
  else if s.mode = 6 ∨ s.mode = 7 ∨ s.mode = 8 then s.startWake cause target
  else s

/-! ### Contents lost -/

/-- Queues stored in Grove `g` whose descriptor is not all zero, from the cache and the descriptor table. -/
def State.groveQueues (s : State) (g : Nat) : List Nat :=
  let qs := (s.qm.cache.map (fun e => e.queue)) ++ (s.mem.filterMap (fun p =>
    if s.descBase ≤ p.1 ∧ p.1 < s.descBase + 2 ^ 25 then some ((p.1 - s.descBase) / 32) else none))
  qs.eraseDups.filter (fun q => let n := s.queueInfo q; !n.dram && n.grove == g)

/-- A kept operation whose packet lay in a pool that is emptied, of the queues `here`: its cells are gone, and a packet that
was still to be linked closes as an open one does whose queue has no pool (R176, R292). -/
def PendKind.without (here : Nat → Bool) : PendKind → PendKind
  | .link w => if here w.queue then .answer none (some (qpuStatus 3 w.words.length 0)) else .link w
  | .answer w st => .answer (w.filter (fun k => !here k.queue)) st
  | .abort ws => .abort (ws.filter (fun k => !here k.queue))
  | .free w => .free (if here w.queue then { w with cells := [] } else w)
  | k => k

/-- The Grove pool and every queue stored in Grove `g` set empty; packets that other Groves hold open in that pool are
lost (R292), and so is one that a Rootlink engine is writing there. -/
def State.emptyQueues (s : State) (g : Nat) : State :=
  let here := fun (q : Nat) => let n := s.queueInfo q; !n.dram && n.grove == g
  let s' := (s.groveQueues g).foldl (fun s q =>
    s.updDesc q (fun d => { d with head := 0, tail := 0, packets := 0, cells := 0 })) s
  let s' := s'.setPool g Pool.reset
  let s' : State := { s' with rootlink := { s'.rootlink with links := s'.rootlink.links.map (fun p => (p.1, { p.2 with
    cur := p.2.cur.map (fun c => match c with
      | .own ws n (.queue q i cells) => if here q && !cells.isEmpty then .own ws n .gone else .own ws n (.queue q i cells)
      | c => c) })) } }
  (List.range 256).foldl (fun s i =>
    let x := s.glade i
    let r := x.reads.filter (fun p => match p.2 with | some k => here k.queue | none => false)
    let w := x.writes.filter (fun p => match p.2 with | some k => here k.queue | none => false)
    let s := if r.isEmpty && w.isEmpty && x.qpuPend.isEmpty then s else s.updAsync i (fun x => { x with
      qpuPend := x.qpuPend.map (fun d => { d with kind := d.kind.without here })
      reads := x.reads.map (fun p => (p.1, p.2.map (fun k =>
        if here k.queue then { k with lost := true, cells := [], buf := [] } else k)))
      writes := x.writes.map (fun p => (p.1, p.2.map (fun k =>
        if here k.queue then { k with cells := [], status := if k.status = 0 then 3 else k.status } else k))) })
    match s.txn i with
    | some t =>
      if t.packets.any (fun k => here k.queue) then
        s.setTxn i (some { t with packets := t.packets.filter (fun k => !here k.queue), queueFail := true })
      else s
    | none => s) s'

/-- The processor of Glade `i` anew, with its structure; `run` is its state until it is started (R72, R401). A fence
stays (R494). -/
def State.freshGlade (s : State) (i : Nat) (run : RunState) : State :=
  let run := if s.buses i = 0 then .off else if (s.glade i).run = .fenced then .fenced else run
  { s.setGlade i { Glade.reset with run := run } with snaps := s.snaps.filter (fun p => p.1 != i) }

/-- The TXU of Grove `g` as at reset: every member of TICKET_MEMBERS takes part, tickets count from 0 (R318, R321). -/
def State.freshTxu (s : State) (g : Nat) : State :=
  let m := s.ticketMembers g
  let first := ((List.range 16).find? (fun k => m.testBit k)).getD 0
  s.setTxu g { Txu.reset with members := BitVec.ofNat 16 m, turn := first }

/-- The transaction that Glade `i` has not had decided is gone with its TXU: aborted with INTERRUPTED. -/
def State.loseTxn (s : State) (i : Nat) : State :=
  let s := s.interruptTxn i
  match s.txn i with
  | some t => if t.state = .committing then s.abortTxn i 14 else s
  | none => s

/-- Grove `g`'s Glades lose everything: open packets and records discarded, transactions aborted with INTERRUPTED, the
Glades as `run` and the TXU as at reset (R323, R401). -/
def State.loseGlades (s : State) (g : Nat) (run : RunState) : State :=
  let s := (List.range 16).foldl (fun s k =>
    let i := 16 * g + k
    ((s.discardOpen i).loseTxn i).freshGlade i run) s
  s.freshTxu g

/-- Grove `g`'s memories lose everything. -/
def State.loseMemories (s : State) (g : Nat) : State := (s.clearGrove g).emptyQueues g

/-- The Heartwood's memory and processor anew: its memory bulk-cleared (R240), its scrubber at word 0 (R252), the processor
held without firmware. -/
def State.loseHeartwood (s : State) : State :=
  { (s.bulkClear hwMemBase 0x40000).setGlade 256 { Glade.reset with run := .held } with
    scrub := { s.scrub with hwWord := 0 }
    snaps := s.snaps.filter (fun p => p.1 != 256) }

/-- The registers of octet `o`'s lanes that its island holds (R424) at reset, and those of the endpoint, which sits in
octet 2 (R432). -/
def State.resetOctet (s : State) (o : Nat) : State :=
  let s := (List.range 8).foldl (fun s k =>
    let n := 8 * o + k
    (s.resetRegs (Reg.LANE_STATE n) (Reg.LANE_ETH_CFG n)).setFld (Reg.LANE_STATE n) 5 3 (s.quadRole (n / 4))) s
  if o = 2 then (s.resetRegs (Reg.LANE_PCIE_CFG 2) (Reg.LANE_PCIE_CFG 3)).resetRegs Reg.LANE_EP_WIN 0x407091000 else s

/-- The queue manager's engine `e` anew: the descriptors it had cached are gone (R274); with both engines lost, the pools
and the registers that they share are at reset too (log 137). Group partitions stay until PORST_N (R383). -/
def State.resetEngine (s : State) (e : Nat) : State :=
  let s := { s with qm := { s.qm with cache := s.qm.cache.filter (fun c => c.queue % 2 != e) } }
  if s.power.lost.getLsbD (61 - e) then
    { (s.resetRegs Reg.QM_STATUS 0x403000000) with
      qm := { Qm.reset with groupPart := s.qm.groupPart, unwritten := s.qm.unwritten, cells := s.qm.cells } }
  else s

/-- The registers of Grove `g`'s logic, its TXU's, at reset (R401, R403). -/
def State.resetGroveL (s : State) (g : Nat) : State :=
  let a := Reg.GRV_TXU_STATUS g
  s.resetRegs a (a + 0x100)

/-- The registers of Grove `g`'s memories at reset, but for error records and retire registers; its scrub rate as the Stand
Map set it (R401, R403). -/
def State.resetGroveM (s : State) (g : Nat) : State :=
  (s.resetRegs (Reg.GRV_SCRUB_RATE g) (Reg.GRV_INJECT g + 8)).wr (Reg.GRV_SCRUB_RATE g) (w64 (s.secLE 0x11 (32 * g + 4) 4))

/-- What was lost while domain `d` was off is made anew when it is ready again, and its registers are at reset, but for
error records, retire registers and what the Stand Map set (R265, R399, R403, log 137). -/
def State.restart (s : State) (d : Nat) : State :=
  if !s.power.lost.getLsbD d then s
  else
    let s := { s with power := { s.power with lost := s.power.lost &&& ~~~(1#64 <<< d) } }
    if d = 2 then s.loseHeartwood
    else if 4 ≤ d ∧ d < 20 then (s.resetGroveL (d - 4)).loseGlades (d - 4) .off
    else if 20 ≤ d ∧ d < 36 then (s.resetGroveM (d - 20)).loseMemories (d - 20)
    else if 36 ≤ d ∧ d < 40 then s.clearIsland (12 + (d - 36))
    else if 40 ≤ d ∧ d < 52 then s.resetOctet (d - 40)
    else if 52 ≤ d ∧ d < 56 then s.clearIsland (19 + (d - 52))
    else if 56 ≤ d ∧ d < 58 then
      (s.linkEntries.map (fun e => byteN e 0)).foldl (fun s l =>
        if s.linkEngine l = d - 56 then
          let dir := s.fld (Reg.RTL_LINK_STATE l) 7 7
          (s.resetRegs (Reg.RTL_LINK_STATE l) (Reg.RTL_LINK_STATE l + 0x40)).setFld (Reg.RTL_LINK_STATE l) 7 7 dir
        else s) s
    else if 58 ≤ d ∧ d < 60 then s.clearIsland (16 + (d - 58))
    else if d = 60 ∨ d = 61 then s.resetEngine (d - 60)
    else if d = 62 then { (s.resetRegs Reg.JW_STATUS 0x404000000) with jw := Jw.reset }
    else if d = 63 then s.clearIsland 26
    else s

end Sys2Proof.Machine
end

