-- ==== Sys2Proof/Machine/TallyOps.lean ====
section
/-! DEFINITION. The Tally controller's commands (R380 to R384) and the GPIO trigger inputs (R386 to R388). -/

namespace Sys2Proof.Machine

/-- A subtract of `n` from source `k` (R380). -/
def State.tallySub (s : State) (k n : Nat) : State :=
  if k ≥ 4352 then s else s.setFld (Reg.TLY_CNT k) 15 0 (s.tallyCount k - n)

/-- A `TLY_RAISE` write that passed its check: a SOFT source is incremented, any other sets RAISE_ERR (R384). -/
def State.tallyRaise (s : State) (v : W64) : State :=
  let k := field v 12 0
  if dev 192 ≤ k ∧ k ≤ dev 255 then s.tallyInc k (field v 31 16) else s.setFlag Reg.TLY_STATUS 1 true

/-- The partitions that the non-zero masks of a route word name (R383). -/
def State.routeParts (s : State) (v : W64) : List Nat :=
  (if field v 31 16 = 0 then [] else [s.groveGetPart (field v 11 8)])
    ++ (if field v 63 48 = 0 then [] else [s.groveGetPart (field v 35 32)])

/-- The checks of a route write for source `k` (R383). -/
def State.routeOk (s : State) (k : Nat) (v : W64) : Bool :=
  let ps := s.routeParts v
  let fixed := smGet 0 s.qm.groupPart k
  !(bit v 0 && field v 31 16 == 0) && !(bit v 1 && field v 63 48 == 0)
    && (decide (4096 ≤ k) || (ps.all (fun p => p == ps.headD 0) && (ps.isEmpty || fixed == 0 || fixed == ps.headD 0 + 1)))

/-- A write of `TLY_ROUTEs` (R383): it takes effect, and may fix the group's partition, or is ignored with
ROUTE_ERR. -/
def State.routeWrite (s : State) (k : Nat) (v : W64) : State :=
  if k ≥ 4352 then s
  else if !s.routeOk k v then s.setFlag Reg.TLY_STATUS 0 true
  else
    let s := s.wr (Reg.TLY_ROUTE k) (v &&& 0xFFFF000FFFFF0F03#64)
    match s.routeParts v with
    | p :: _ => if k < 4096 then s.fixGroup k p else s
    | [] => s

/-! ### Delivery -/

/-- Glade `i` (and its partner) woken from Clearing by a delivery (R206). -/
def State.wakeGlade (s : State) (i : Nat) : State :=
  let s := (s.receivers i).foldl (fun s j => s.updGlade j (fun x =>
    { x with run := if x.run = .clearing then .running else x.run, woken := true, savedWoken := true })) s
  s.groveWakes (i / 16)

/-- The entry to a mode that holds the Glades, or lets them rest in DOZE, is in progress. -/
def State.enteringSleep (s : State) : Bool :=
  let t := s.fld Reg.PWR_MODE 7 4
  s.flag Reg.PWR_MODE 8 && !s.power.waking && (t == 6 || t == 7 || t == 8)

/-- TALLY_DELIVERY of source `k` (R382): every Glade of its effective route is woken; in DOZE the device wakes. During an
entry to DOZE, RETAIN or LOOKOUT the delivery is a wake that waits for the end of the entry (R396), and the source stays
pending. -/
def State.deliverTally (s : State) (k : Nat) : State :=
  if k ≥ 4352 ∨ s.tallyPending k = false ∨ s.tallyOn = false then s
  else
    let route := (s.effRoute k).1
    if route.isEmpty then s
    else if s.enteringSleep then s.wakeNow 5 s.wakeTarget
    else
      let asleep := route.any (fun i => (s.glade i).run == .clearing)
      let s := route.foldl (fun s i => s.wakeGlade i) s
      if asleep then s.wakeNow 5 s.wakeTarget else s

/-! ### GPIO trigger inputs -/

/-- The pin sampler runs (R388). -/
def State.samplerOn (s : State) : Bool := s.flag (Reg.UST_ISL 26) 0

/-- Consecutive samples that change the filtered level of input `n`: FILTER within its limits (R386). -/
def State.gpioFilter (s : State) (n : Nat) : Nat := max 1 (min 1024 (s.fld (Reg.UST_GPI_CFG n) 10 0))

/-- Consecutive samples of input `n` at the level that its filtered level does not have, and samples for which that has
been active, set. -/
def State.setSamples (s : State) (n pend active : Nat) : State :=
  { s with sampler := { s.sampler with
    pend := smSet 0 s.sampler.pend n pend
    active := smSet 0 s.sampler.active n active } }

/-- Input `n` has stayed active for STUCK_US, 100 samples a microsecond: counted once per episode (R387). -/
def State.gpioStuck (s : State) (n : Nat) : State :=
  let a := Reg.UST_GPI_CFG n
  if !s.samplerOn || !s.flag a 63 || s.fld a 39 16 == 0 || s.sampler.fired.getLsbD n
      || decide (smGet 0 s.sampler.active n < 100 * s.fld a 39 16) then s
  else
    { s with sampler := { s.sampler with fired := s.sampler.fired ||| (1#16 <<< n) } }.crossInc 26 (dev (16 + n)) 1

/-- A counted edge of input `n` (R386); it wakes as a GPIO wake where `PWR_WAKE_CFG` enables it (R403). -/
def State.gpioCounted (s : State) (n : Nat) : State :=
  let s := s.crossInc 26 (dev n) 1
  if s.flag Reg.PWR_WAKE_CFG n then s.wakeNow 2 s.wakeTarget else s

/-- The filtered level of input `n` becomes `active` (R386): an edge that EDGE selects is counted; the episode of
activity that ends is over (R387). -/
def State.gpioLevel (s : State) (n : Nat) (active : Bool) : State :=
  let a := Reg.UST_GPI_CFG n
  let s := (s.gpioStuck n).setFlag a 63 active
  let s := if active then s else
    { s with sampler := { s.sampler with fired := s.sampler.fired &&& ~~~(1#16 <<< n) } }
  let edge := s.fld a 13 12
  if edge = 3 ∨ (edge = 1 ∧ active = true) ∨ (edge = 2 ∧ active = false) then s.gpioCounted n else s

/-- A run of samples of input `n` at one level of the pin (R386, R387): the filtered level changes at the FILTER-th
consecutive sample of the new level. -/
def State.gpioRun (s : State) (n : Nat) (r : PinRun) : State :=
  let a := Reg.UST_GPI_CFG n
  let level := r.high != s.flag a 14
  let now := s.flag a 63
  let was := smGet 0 s.sampler.active n
  if !s.samplerOn || r.samples == 0 then s
  else if level == now then s.setSamples n 0 (if now then was + r.samples else 0)
  else
    let need := s.gpioFilter n - smGet 0 s.sampler.pend n
    if r.samples < need then
      s.setSamples n (smGet 0 s.sampler.pend n + r.samples) (if now then was + r.samples else 0)
    else
      let s := s.setSamples n 0 (if now then was + need else 0)
      (s.gpioLevel n level).setSamples n 0 (if level then r.samples - need else 0)

/-- A write of `UST_GPIn_CFG` (R386, R387): the filtered level is kept, so it never makes an edge; the count of
consecutive samples and the measurement of STUCK_US begin again. -/
def State.gpiWrite (s : State) (n : Nat) (v : W64) : State :=
  let a := Reg.UST_GPI_CFG n
  let s := (s.gpioStuck n).setSamples n 0 0
  s.wr a ((s.rd a &&& 0x8000000000000000#64) ||| (v &&& 0xFFFFFF77FF#64))

end Sys2Proof.Machine
end

