-- ==== Sys2Proof/Machine/PowerOps.lean ====
section
/-! DEFINITION. Power modes and their requests (R393 to R396), domains and regulators (R397 to R402), wakes (R399,
R403 to R407), Lookout (R408 to R410), hold-up (R412 to R416), and the supply and temperature monitors (R504 to
R506). -/

namespace Sys2Proof.Machine

/-! ### Requests (R394) -/

/-- No started Glade is outside Clearing; a stopped or fenced one issues nothing (log 29). -/
def State.allClearing (s : State) : Bool := s.glades.all (fun p => decide (256 ≤ p.1) || p.2.run != .running)

/-- The JW has no NVMe command outstanding. -/
def State.nvmeQuiet (s : State) : Bool := s.jw.queues.all (fun q => q.2.isEmpty)

/-- The TXU has no transaction COMMITTING. -/
def Txu.quiet (x : Txu) : Bool :=
  x.txns.all (fun q => match q.2 with
    | some t => t.state == .isOpen || t.state == .doomed
    | none => true)

/-- No transaction is COMMITTING. -/
def State.txnQuiet (s : State) : Bool := s.txus.all (fun p => p.2.quiet)

/-- No capture is in progress. -/
def State.captureQuiet (s : State) : Bool := s.jw.journals.all (fun p => p.2.capture.isNone)

/-- The table of R393 allows a request for mode `m` in the present mode. -/
def State.requestAllowed (s : State) (m : Nat) : Bool :=
  let c := s.mode
  match m with
  | 3 => c == 4 || c == 5
  | 4 => c == 3
  | 5 => c == 3
  | 6 => c == 3 || c == 4 || c == 5
  | 7 => c == 3 || c == 4 || c == 5 || c == 6
  | 8 => c == 3 || c == 4 || c == 5 || c == 6
  | _ => false

/-- A request for mode `m` meets the quiet conditions of R394. -/
def State.requestQuiet (s : State) (m : Nat) : Bool :=
  match m with
  | 6 => s.allClearing && s.nvmeQuiet
  | 7 => s.allClearing && s.nvmeQuiet && s.txnQuiet && s.captureQuiet
  | 8 => s.allClearing && s.nvmeQuiet && s.txnQuiet && s.captureQuiet
  | _ => true

/-- An entry to mode `m` begins (R395): TARGET and BUSY. LOOKOUT without a Lookout program, or not accepted, is RETAIN
(R90, R393); an entry to LOOKOUT ends a fallback of the RC oscillator (R406). -/
def State.beginEntry (s : State) (m : Nat) : State :=
  let a := Reg.PWR_MODE
  let m := if m = 8 ∧ (s.secLE 0x40 0x20 4 = 0 ∨ s.accepted 9 = false) then 7 else m
  let s := (s.setFld a 7 4 m).setFlag a 8 true
  let s := { s with power := { s.power with idleWait := false } }
  if m = 8 then s.setFlag Reg.PWR_STATUS 4 false else s

/-- A request for mode `m` taken up: checked against the mode the device is in (R394). -/
def State.takeUp (s : State) (m : Nat) : State :=
  let a := Reg.PWR_MODE
  if !s.requestAllowed m then s.setFld a 19 16 1
  else if !s.requestQuiet m then s.setFld a 19 16 2
  else if m = 5 ∧ s.allClearing = false then { s with power := { s.power with idleWait := true } }
  else s.beginEntry m

/-- A write of MODE and GO (R394, R395): queued during a transition, replacing a queued request or one that waits for
Clearing, which completes with RESULT 3; otherwise taken up. GO reads 0 again. -/
def State.requestMode (s : State) (m : Nat) : State :=
  let a := Reg.PWR_MODE
  let s := (s.setFld Reg.PWR_MODE_REQ 3 0 m).setFlag Reg.PWR_MODE_REQ 63 false
  if s.flag a 8 then
    let s := if s.flag a 9 then s.setFld a 19 16 3 else s
    (s.setFlag a 9 true).setFld a 15 12 m
  else
    let s := if s.power.idleWait then
        { s.setFld a 19 16 3 with power := { s.power with idleWait := false } }
      else s
    s.takeUp m

/-- IDLE_ENTRY: the entry that waited for Clearing begins, in a mode that allows it (R393, R394). -/
def State.idleEntry (s : State) : State :=
  if s.power.idleWait = true ∧ s.allClearing = true ∧ s.flag Reg.PWR_MODE 8 = false ∧ s.requestAllowed 5 = true then
    s.beginEntry 5
  else s

/-! ### Effects of a mode -/

/-- Glades in Clearing, and those that a watchdog has let run during the entry, are held, the Heartwood too (R391,
R403). -/
def State.holdGlades (s : State) : State :=
  { s with glades := s.glades.map (fun p =>
      (p.1, if p.2.run = .clearing ∨ p.2.run = .running then
          { p.2 with run := .held, heldRun := p.2.run == .running } else p.2)) }

/-- Held Glades and the Heartwood go on as they were when they were held (R403). -/
def State.unholdGlades (s : State) : State :=
  { s with glades := s.glades.map (fun p =>
      (p.1, if p.2.run = .held then
          { p.2 with run := if p.2.heldRun then .running else .clearing, heldRun := false } else p.2)) }

/-- RETAIN or LOOKOUT entered (R403): kept domains in retention, the others off, rails in low power, Glades held. AON
and SEEDBANK stay on, and SAMPLER when it is kept; the AON pads hold the levels of the outputs (R451). -/
def State.sleep (s : State) : State :=
  let s := s.holdGlades
  let s : State := { s with power := { s.power with ssoHeld := s.fld Reg.UST_SSO 7 0 } }
  let s := if s.domState 62 = 1 then s.stopControllers else s
  let s := (List.range 64).foldl (fun s d =>
    let keep := s.flag (Reg.PWR_DOM d) 2
    if d < 2 ∨ s.domState d = 0 then s
    else if d = 63 then (if keep then s else s.domainOff d)
    else if keep then (if 40 ≤ d ∧ d < 52 then s.octetDown (d - 40) 0 else s).setDomState d 2
    else s.domainOff d) s
  (List.range 17).foldl (fun s r =>
    let kept := s.domState (if r < 16 then 4 + r else 2) == 2 || (decide (r < 16) && s.domState (20 + r) == 2)
    if kept then (s.setFlag (Reg.PWR_RAIL r) 28 true).setFld (Reg.PWR_RAIL r) 25 16 500
    else (s.setFlag (Reg.PWR_RAIL r) 28 false).setFld (Reg.PWR_RAIL r) 25 16 0) s

/-- DRAM that is on goes to self-refresh (R391). -/
def State.selfRefresh (s : State) : State :=
  (List.range 4).foldl (fun s n => if s.domState (36 + n) = 1 then s.setDomState (36 + n) 2 else s) s

/-- Every lane goes to electrical idle (R391): PCIe lanes are in L1 and their links stay UP; an Ethernet lane and a
Rootlink link have no such state, so they are lost and train again after the wake (DESIGN CHOICE, log 136). -/
def State.idleLanes (s : State) : State :=
  (List.range 96).foldl (fun s n =>
    let role := s.quadRole (n / 4)
    if s.fld (Reg.LANE_STATE n) 2 0 = 3 ∧ (role = 3 ∨ role = 4 ∨ role = 5) then s.laneDown n 4 else s) s

/-- The Grove of domain `d`, where it is a Grove's. -/
def groveOfDomain (d : Nat) : Option Nat :=
  if 4 ≤ d ∧ d < 20 then some (d - 4) else if 20 ≤ d ∧ d < 36 then some (d - 20) else none

/-- Domain `d` switched off by its policy: a Grove with an enabled Glade is fenced (R397). -/
def State.policyOff (s : State) (d : Nat) : State :=
  let s := match groveOfDomain d with
    | some g => if s.domState d ≠ 0 ∧ (List.range 16).any (fun k => s.buses (16 * g + k) != 0) = true then
        s.fenceGrove g else s
    | none => s
  let s : State := { s with power := { s.power with retry := s.power.retry.filter (fun k => k != d) } }
  s.domainOff d

/-- Domains that their policy does not want on are off in RUN, LEAN and IDLE (R397). -/
def State.dropUnwanted (s : State) : State :=
  (List.range 64).foldl (fun s d => if s.domState d = 0 ∨ s.wantOn d false = true then s else s.policyOff d) s

/-- RUN_STATE of every domain as it acts in RUN, LEAN (`lean`: with OCTET_OFF) and IDLE (R391, R397): a domain that is off
and wanted wakes, one whose WAKE_FAIL has been cleared too (R405), and one that is on and not wanted goes off. -/
def State.domainPolicy (s : State) (lean : Bool) : State :=
  (List.range 64).foldl (fun s d =>
    if s.wantOn d lean then (if s.domState d = 0 then s.wakeDomain d else s) else s.policyOff d) s

/-- What reaching mode `m` by an entry does, beside the mode itself. -/
def State.entered (s : State) (m : Nat) : State :=
  match m with
  | 3 => s.followRails.domainPolicy false
  | 4 => s.followRails.domainPolicy true
  | 5 => s.domainPolicy false
  | 6 => s.followRails.selfRefresh.idleLanes
  | 7 => s.sleep
  | 8 => { s.sleep with sampler := { s.sampler with sample := 0 } }
  | _ => s

/-- IDLE ends in RUN of itself once a Glade has left Clearing (R393). -/
def State.pollIdle (s : State) : State :=
  if s.mode = 5 ∧ s.flag Reg.PWR_MODE 8 = false ∧ s.allClearing = false then (s.setMode 3).domainPolicy false else s

/-- The end of a wake to mode `m` after `slept` ns of sleep (R388, R397, R403, R425); a wake by a Lookout match raises
LOOKOUT_WAKE now that the Tally side is awake (R409). -/
def State.woken (s : State) (m slept : Nat) : State :=
  let from_ := s.mode
  let s := (s.setMode m).followRails
  let s := if m = 3 ∨ m = 5 then s.dropUnwanted else s
  let s := if m = 6 then s.selfRefresh.idleLanes else s
  if from_ = 6 then s
  else
    let s := s.unholdGlades.releaseHeld
    let s := if from_ = 8 ∧ s.fld Reg.PWR_MODE 31 28 = 4 then s.crossInc 26 (dev 181) 1 else s
    let s := (List.range 17).foldl (fun s r => s.setFlag (Reg.PWR_RAIL r) 28 false) s
    let c := s.time.count.toNat + slept
    (s.setCount c).setFlag Reg.UST_TIME_CTL 0 false

/-! ### Completion of a transition (R395, R396) -/

/-- The modes from which SERVICE may be entered (R393). -/
def serviceFrom (m : Nat) : Bool := m == 2 || m == 3 || m == 4 || m == 5 || m == 6 || m == 10

/-- SERVICE entered (R393, R453, R512): FAULT_N asserted. -/
def State.enterService (s : State) (auth : Bool) (slot : Nat) : State :=
  let s := ((s.dropQueued 4).setMode 11).driveSafe.setFlag Reg.SAF_STATUS 3 true
  let s := { s with power := { s.power with wake := none } }
  s.wr Reg.UST_SVC ((s.rd Reg.UST_SVC &&& 0x300#64) ||| w64 (1 + b2n auth * 2 + (if auth then slot * 4 else 0)))

/-- SERVICE that was granted during the transition: entered from a mode that allows it, else dropped (R393, R395,
log 138). -/
def State.takeService (s : State) : State :=
  match s.power.serviceDue with
  | none => s
  | some (auth, slot) =>
    let s : State := { s with power := { s.power with serviceDue := none } }
    if serviceFrom s.mode then s.enterService auth slot else s

/-- What became due during the transition, in the order of R396: HOLDUP, SAFE, SERVICE, a wake, the queued request, and
RUN when IDLE finds a Glade that has left Clearing (R393). -/
def State.afterTransition (s : State) : State :=
  let a := Reg.PWR_MODE
  if s.power.holdupDue then
    ({ s with power := { s.power with
      holdupDue := false
      safeDue := 0
      faultRecord := []
      wake := none
      serviceDue := none } }).enterHoldup
  else if s.power.safeDue ≠ 0 then
    ({ s with power := { s.power with safeDue := 0, wake := none } } : State).safeBody.takeService
  else if s.power.serviceDue.isSome && serviceFrom s.mode then s.takeService
  else
    let s := s.takeService
    let s : State := match s.power.wake with
      | some (c, t) => ({ s with power := { s.power with wake := none } }).wakeNow c t
      | none => s
    let s := s.pollIdle
    if s.flag a 9 ∧ s.flag a 8 = false then
      let m := s.fld a 15 12
      ((s.setFlag a 9 false).setFld a 15 12 0).takeUp m
    else s

/-- Lanes of octet `o` wait for their PLLs (R433). -/
def State.octetLocks (s : State) (o : Nat) : Bool :=
  (List.range 8).any (fun k => s.fld (Reg.LANE_STATE (8 * o + k)) 2 0 == 1)

/-- Every domain that the wake needs is ready, its PLLs locked, or has failed (R399, R405). -/
def State.wakeReady (s : State) : Bool :=
  s.power.retry.isEmpty && (List.range 64).all (fun d => s.domState d != 3)

/-- MODE_TRANSITION_DONE: the transition in progress completes (R395, R396). `slept` is the sleep that the RC oscillator
measured, in ns, for a wake. -/
def State.transitionDone (s : State) (slept : Nat) : State :=
  let a := Reg.PWR_MODE
  let t := s.fld a 7 4
  if !s.flag a 8 then s
  else if s.power.waking then
    if s.wakeReady then (s.woken t slept).afterTransition else s
  else
    ((((s.setMode t).setFld a 19 16 0).entered t)).afterTransition

/-! ### Wake steps -/

/-- An island of a domain that came on runs: it is released from its side reset, or runs for the first time. An island
that a clock fault holds stays in reset (R427, R429). -/
def State.islandUp (s : State) (i : Nat) : State :=
  if s.fld (Reg.UST_ISL i) 6 4 ≠ 0 then s
  else if s.flag (Reg.UST_ISL i) 1 then s.releaseIsland i
  else s.setFlag (Reg.UST_ISL i) 0 true

/-- The block that serves lane `n` has failed to wake (R405). -/
def State.blockFailed (s : State) (n : Nat) : Bool :=
  (List.range 8).any (fun k => s.flag (Reg.PWR_DOM (52 + k)) 8 && s.blockLane (52 + k) n)

/-- The lanes of octet `o` that may train wait for their PLL (R433), but for those whose block has failed (R405). -/
def State.octetUp (s : State) (o : Nat) : State :=
  (List.range 8).foldl (fun s k =>
    let n := 8 * o + k
    if s.laneUsable n = true ∧ s.blockFailed n = false ∧ (s.fld (Reg.LANE_STATE n) 2 0 = 0 ∨ s.fld (Reg.LANE_STATE n) 2 0 = 5) then
      (s.setFld (Reg.LANE_STATE n) 2 0 1).setFld (Reg.LANE_STATE n) 5 3 (s.quadRole (n / 4)) else s) s

/-- The record set of domain `d`: its Grove's, or the Heartwood's (R513). -/
def domainSet (d : Nat) : RecSet :=
  if 4 ≤ d ∧ d < 20 then .grove (d - 4) else if 20 ≤ d ∧ d < 36 then .grove (d - 20) else .heartwood

/-- A wake of domain `d` that succeeded on a retry is logged as transient in the Heartwood's records (R405). -/
def State.noteRetried (s : State) (d : Nat) : State :=
  if s.fld (Reg.PWR_DOM d) 10 9 = 0 then s else s.recordError .heartwood (ErrInfo.of 0x19 d)

/-- The wake of domain `d` is complete (R399): on, WAKES counted, and logged where a retry brought it (R405). -/
def State.domainWoken (s : State) (d : Nat) : State :=
  (((s.setDomState d 1).wrapAdd (Reg.PWR_DOM d) 31 16 1).noteRetried d).domainEffect d true

/-- DOMAIN_READY of octet `o`: its wake steps up to its PLLs are done, and its lanes wait for them. With a lane that may
train it is ready, and has woken, only when they lock (R399, R433). -/
def State.octetReady (s : State) (o : Nat) : State :=
  let s := ((domainIslands (40 + o)).foldl (fun s i => s.islandUp i) (s.restart (40 + o))).octetUp o
  if s.octetLocks o then s else s.domainWoken (40 + o)

/-- DOMAIN_READY: the wake steps of domain `d` are done (R399), those of an octet up to its PLLs. -/
def State.domainReady (s : State) (d : Nat) : State :=
  if s.domState d ≠ 3 then s
  else if 40 ≤ d ∧ d < 52 then (if s.octetLocks (d - 40) then s else s.octetReady (d - 40))
  else
    let s := (s.restart d).domainWoken d
    let s := match groveOfDomain d with
      | some g =>
        let s := if s.mode = 7 ∨ s.mode = 8 then s.setFlag (Reg.PWR_RAIL g) 28 false else s.groveWakes g
        s.followRail g
      | none => if d = 2 then (s.setFlag (Reg.PWR_RAIL 16) 28 false).followRail 16 else s
    let s := (domainIslands d).foldl (fun s i => s.islandUp i) s
    let s := if d = 2 then s.releaseClockless else s
    if 52 ≤ d ∧ d < 60 then
      (List.range 96).foldl (fun s n =>
        if s.blockLane d n = true ∧ s.fld (Reg.LANE_STATE n) 2 0 = 5 ∧ s.domState (40 + n / 8) = 1
            ∧ s.laneUsable n = true then s.setFld (Reg.LANE_STATE n) 2 0 1 else s) s
    else s

/-- ELAPSED of a Lookout record (R410): the periods of the RC oscillator since Lookout was entered, or with RC_FALLBACK
what the formula gives for sample `n`. -/
def State.lookoutElapsed (s : State) (n periods : Nat) : Nat :=
  if s.flag Reg.PWR_STATUS 4 then s.secLE 0x40 0x20 4 * 32768 * n / 1000 else periods

/-- Lookout ends because SAMPLER failed to wake for a sample, `periods` of the RC oscillator after the entry: its record,
and a wake to LK_WAKE_MODE (R405, R410). -/
def State.samplerFailed (s : State) (periods : Nat) : State :=
  if s.mode ≠ 8 ∨ s.flag Reg.PWR_MODE 8 = true then s
  else
    let m := s.secLE 0x40 0x24 1
    let n := s.sampler.sample + 1
    let body := bytesLE 8 (s.lookoutElapsed n periods) ++ bytesLE 4 (min n (2 ^ 32 - 1)) ++ List.replicate 6 (0#8 : Byte)
      ++ bytesLE 1 (8 + 4 * b2n (s.flag Reg.PWR_STATUS 4)) ++ bytesLE 1 m
      ++ List.replicate 12 0#8 ++ bytesLE 4 (s.fld Reg.SM_IMAGE_SEQ 31 0) ++ List.replicate 12 0#8
    (s.writeLookout body).wakeNow 6 m

/-- Domain `d` left off after its retries (R405): WAKE_FAIL, its source, records, the reaction of MECH 0x0A, and the
outcome of its kind. `periods`: of the RC oscillator since Lookout was entered. -/
def State.domainFailed (s : State) (d periods : Nat) : State :=
  let g := groveOfDomain d
  let s := (s.domainOff d).setFlag (Reg.PWR_DOM d) 8 true
  let s := s.recordError (domainSet d) { ErrInfo.of 0x19 d with lasting := true }
  let s := s.tallyInc (match g with | some g => dev (128 + g) | none => dev 173) 1
  let s := s.writeLastFault 1 0x19 (g.getD 0xFF) d 0
  let s := s.find ⟨10, 0x19, g, none, none, 0, d⟩
  match g with
  | some g => (s.fenceGrove g).setFlag (Reg.PWR_DOM d) 6 true
  | none =>
    if d = 2 ∨ d = 3 then s.enterSafe 2 0x19 0xFF d 0
    else if 40 ≤ d ∧ d < 52 then
      (List.range 8).foldl (fun s k =>
        if s.quadRole ((8 * (d - 40) + k) / 4) = 0 then s else s.setFld (Reg.LANE_STATE (8 * (d - 40) + k)) 2 0 5) s
    else if 52 ≤ d ∧ d < 60 then
      (List.range 96).foldl (fun s n => if s.blockLane d n then s.laneDown n 5 else s) s
    else if d = 62 then s.journalEntries.foldl (fun s e => s.failJournal (leN e 0 2) 8) s
    else if d = 63 then s.samplerFailed periods
    else s

/-- SAMPLER is off in LOOKOUT between two samples, and its wake for the next one may begin (R403, R408). -/
def State.samplerRests (s : State) : Bool :=
  s.mode == 8 && !s.flag Reg.PWR_MODE 8 && s.domState 63 == 0 && !s.power.retry.contains 63

/-- WAKE_STEP_TIMEOUT: domain `d` is switched off, and pauses for a retry, at most three times, or has failed (R405).
SAMPLER's wake in LOOKOUT is that for a sample, `periods` of the RC oscillator after the entry; an octet's wake includes
its PLLs (R433). -/
def State.stepTimeout (s : State) (d periods : Nat) : State :=
  let s := if d = 63 ∧ s.samplerRests = true then s.wakeDomain 63 else s
  if s.domState d ≠ 3 then s
  else if s.fld (Reg.PWR_DOM d) 10 9 < 3 then
    let s := s.domainOff d
    { s with power := { s.power with retry := s.power.retry ++ [d] } }
  else s.domainFailed d periods

/-- WAKE_RETRY: after its pause domain `d` is woken again (R405). -/
def State.wakeRetry (s : State) (d : Nat) : State :=
  if !s.power.retry.contains d then s
  else
    let n := s.fld (Reg.PWR_DOM d) 10 9
    let s := { s with power := { s.power with retry := s.power.retry.filter (fun k => k != d) } }
    (s.setFld (Reg.PWR_DOM d) 10 9 (n + 1)).setDomState d 3

/-- WAKE_EVENT from GPIO input `n`'s filter or from lane `n`'s signal detect, as `PWR_WAKE_CFG` and the LANE section
enable it (R403). While SAMPLER runs in RETAIN and LOOKOUT, counted edges wake in place of the filter. -/
def State.gpioWake (s : State) (n : Nat) : State :=
  if (s.mode = 7 ∨ s.mode = 8) ∧ s.samplerOn = true then s
  else if s.flag Reg.PWR_WAKE_CFG n then s.wakeNow 2 s.wakeTarget else s

def State.laneWake (s : State) (n : Nat) : State :=
  if s.flag Reg.PWR_WAKE_CFG 20 && s.laneWakes n && s.quadRole (n / 4) != 0 then
    (s.setFlag (Reg.LANE_STATE n) 6 true).wakeNow 3 s.wakeTarget
  else s

/-- RC_OSC_TIMEOUT (R406). -/
def State.rcTimeout (s : State) : State :=
  let entering := s.flag Reg.PWR_MODE 8 && s.fld Reg.PWR_MODE 7 4 == 8 && !s.power.waking
  if (s.mode = 8 ∨ entering = true) ∧ s.flag Reg.PWR_STATUS 4 = false then
    (s.setFlag Reg.PWR_STATUS 4 true).tallyInc (dev 173) 1
  else s

/-! ### Domain and rail registers -/

/-- A write of `PWR_DOMn` (R397): ignored as a whole with CFG_ERR, or the policy acts at once in RUN, LEAN and IDLE. -/
def State.domWrite (s : State) (d : Nat) (v : W64) : State :=
  let a := Reg.PWR_DOM d
  let rs := field v 1 0
  let bad := rs = 3 ∨ ((d < 4 ∨ d = 63) ∧ rs ≠ s.runState d) ∨ (d = 2 ∧ bit v 2 = false)
  if bad then s.setFlag Reg.PWR_STATUS 5 true
  else
    let s := s.setFld a 2 0 (field v 2 0)
    let s := if bit v 7 then s.setFlag a 7 false else s
    let fail := s.flag a 8
    let s := if bit v 8 then s.setFlag a 8 false else s
    if s.mode ≠ 3 ∧ s.mode ≠ 4 ∧ s.mode ≠ 5 then s
    else if s.wantOn d (s.mode == 4) then
      if fail then s else s.wakeDomain d
    else s.policyOff d

/-- A write of `PWR_RAILr` (R398). -/
def State.railWrite (s : State) (r : Nat) (v : W64) : State :=
  let t := field v 9 0
  if t < 400 ∨ 950 < t ∨ t % 5 ≠ 0 then s.setFlag Reg.PWR_STATUS 5 true
  else
    let s := s.setFld (Reg.PWR_RAIL r) 9 0 t
    if s.mode = 7 ∨ s.mode = 8 then s else s.followRail r

/-- A write of `PWR_LEAN_CFG`: a value out of range is ignored with CFG_ERR. -/
def State.leanWrite (s : State) (v : W64) : State :=
  let t := field v 9 0
  if t < 400 ∨ 600 < t ∨ t % 5 ≠ 0 then s.setFlag Reg.PWR_STATUS 5 true
  else
    let s := (s.setFld Reg.PWR_LEAN_CFG 9 0 t).setFld Reg.PWR_LEAN_CFG 27 16 (field v 27 16)
    if s.mode = 4 then s.followRails.domainPolicy true else s

/-- IVR_CURRENT_LIMIT: an IVR in normal mode limits its current and its rail sags to `mv` (R398). -/
def State.currentLimit (s : State) (r mv : Nat) : State :=
  let a := Reg.PWR_RAIL r
  if s.flag a 28 = true ∨ s.fld a 25 16 = 0 then s
  else (s.setFlag a 29 true).setFld a 25 16 (min (mv / 5 * 5) (s.fld a 25 16))

/-- Signed temperature of the last sample. -/
def State.temperature (s : State) : Int := (BitVec.ofNat 16 (s.fld Reg.SAF_STATUS 31 16)).toInt

/-- GROVE_CLEARING_ENTER (R400). -/
def State.groveClearing (s : State) (g : Nat) : State :=
  let x := s.txu g
  let quiet := (List.range 16).all (fun k =>
    s.buses (16 * g + k) == 0 || ((s.glade (16 * g + k)).run == .clearing && (s.glade (16 * g + k)).txuOp.isNone))
  if s.domState (4 + g) = 1 ∧ s.runState (4 + g) = 2 ∧ quiet = true ∧ x.received.isEmpty = true
      ∧ x.decided.isEmpty = true ∧ x.quiet = true ∧ s.scrubRate g = 0 ∧ s.temperature < 85
      ∧ s.mode ≠ 7 ∧ s.mode ≠ 8 then
    (s.setFlag (Reg.PWR_RAIL g) 28 true).setDomState (4 + g) 2
  else s

/-- A brown-out of the IVR of Grove `g` in low-power mode (R401). -/
def State.groveBrownout (s : State) (g : Nat) : State :=
  if !s.flag (Reg.PWR_RAIL g) 28 then s
  else
    let run := if s.mode = 7 ∨ s.mode = 8 then RunState.held else RunState.clearing
    let s := ((s.setFlag (Reg.PWR_DOM (4 + g)) 7 true).setFlag (Reg.PWR_DOM (20 + g)) 7 true)
    let s := (s.satAdd Reg.PWR_STATUS 31 16 1).tallyInc (dev 182) 1
    let s := s.recordError (.grove g) (ErrInfo.of 0x1E (4 + g))
    (((s.resetGroveL g).resetGroveM g).loseGlades g run).loseMemories g

/-! ### Lookout (R408 to R410) -/

/-- The VSENSE code of an input of `uv` µV against VSENSE_GND, as the converter sees it (R526): 1,024 codes to 1.200 V. -/
def vsenseCode (uv : Int) : Nat := min (uv.toNat * 1024 / 1200000) 1023

/-- The temperature that the monitor reports: that of the hottest sensor (R528). -/
def hottest (t : TempSensors) : BitVec 16 :=
  t.groves.foldl (fun a b => if a.toInt < b.toInt then b else a) t.heartwood

/-- A sample taken while SAMPLER is awake: a change or a match is recorded, and a match wakes the device (R408 to
R410). -/
def State.lookoutTaken (s : State) (r : LookoutReading) : State :=
  let f := s.secLE 0x40 0x25 1
  let n := s.sampler.sample + 1
  let mask := BitVec.ofNat 16 (s.secLE 0x40 0x26 2)
  let expect := BitVec.ofNat 16 (s.secLE 0x40 0x28 2)
  let lanes := BitVec.ofNat 96 (s.secLE 0x40 0x38 12)
  let gpio := if f.testBit 2 then r.gpio &&& mask else 0#16
  let sd := if f.testBit 3 then r.sd &&& lanes else 0#96
  let temp := if f.testBit 0 then (hottest r.temp).toInt else 0
  let vs := if f.testBit 1 then vsenseCode r.vsense else 0
  let short := fun (o : Nat) => (BitVec.ofNat 16 (s.secLE 0x40 o 2)).toInt
  let first := n == 1
  let isMatch := (f.testBit 2 && gpio != (expect &&& mask))
    || (f.testBit 0 && (decide (temp < short 0x2A) || decide (short 0x2C < temp)))
    || (f.testBit 1 && (decide (vs < s.secLE 0x40 0x2E 2) || decide (s.secLE 0x40 0x30 2 < vs)))
    || (f.testBit 3 && !first && sd != s.sampler.sd)
  let change := first || gpio != s.sampler.gpio || sd != s.sampler.sd
    || (f.testBit 0 && decide (2 ≤ (temp - s.sampler.temp).natAbs))
    || (f.testBit 1 && decide (8 ≤ ((vs : Int) - s.sampler.vsense).natAbs))
  let record := isMatch || change
  let s := { s with sampler := { s.sampler with
    sample := min n (2 ^ 32 - 1)
    gpio := gpio
    sd := sd
    temp := if record then temp else s.sampler.temp
    vsense := if record then vs else s.sampler.vsense } }
  if !record then s
  else
    let fallback := s.flag Reg.PWR_STATUS 4
    let elapsed := s.lookoutElapsed n r.elapsed.toNat
    let m := if isMatch then s.secLE 0x40 0x24 1 else 0
    let body := bytesLE 8 elapsed ++ bytesLE 4 (min n (2 ^ 32 - 1)) ++ bytesLE 2 gpio.toNat
      ++ bytesLE 2 (BitVec.ofInt 16 temp).toNat ++ bytesLE 2 vs
      ++ bytesLE 1 (b2n change + 2 * b2n isMatch + 4 * b2n fallback) ++ bytesLE 1 m ++ bytesLE 12 sd.toNat
      ++ bytesLE 4 (s.fld Reg.SM_IMAGE_SEQ 31 0) ++ List.replicate 12 0#8
    let s := s.writeLookout body
    if isMatch then s.wakeNow 4 m else s

/-- LOOKOUT_SAMPLE: SAMPLER wakes, or is on when it is kept, takes its sample, and sleeps again (R403, R408). A SAMPLER
that failed to wake, or pauses before a retry, takes none (R405). -/
def State.lookoutSample (s : State) (r : LookoutReading) : State :=
  if s.mode ≠ 8 ∨ s.flag Reg.PWR_MODE 8 = true then s
  else
    let s := if s.samplerRests then s.wakeDomain 63 else s
    let s := s.domainReady 63
    if s.domState 63 ≠ 1 then s
    else
      let s := s.lookoutTaken r
      if s.flag (Reg.PWR_DOM 63) 2 ∨ s.flag Reg.PWR_MODE 8 = true then s else s.domainOff 63

/-! ### Hold-up -/

/-- The bus voltage in mV that VSENSE code `c` reports (R54). -/
def State.busMv (s : State) (c : Nat) : Int :=
  Int.tdiv ((c : Int) * s.secLE 0x40 4 4 + int32 (s.secLE 0x40 8 4)) 1000

/-- remain_ns of R412 for code `c`. -/
def State.remainNs (s : State) (c : Nat) : Nat :=
  let v := s.busMv c
  let vmin := s.secLE 0x40 0x0C 4
  if v ≤ vmin then 0
  else (w64 (s.secLE 0x40 0 4) * (w64 (v.toNat * v.toNat) - w64 (vmin * vmin))).toNat / (2 * s.secLE 0x40 0x10 4)

/-- `PWR_EST` as the estimator holds it (R412). -/
def State.estWord (s : State) : W64 :=
  let c := (s.est.codes.foldl min 1023) % 1024
  let c := if s.est.codes.isEmpty then 0 else c
  w64 (c + min (s.est.remain / 1000) 1048575 * 2 ^ 10 + (s.est.budget / 1000) % 2 ^ 20 * 2 ^ 32
    + b2n s.applied * 2 ^ 52)

/-- The device's own drive of HOLDUP_N ends after 1 ms of samples, 1 µs apart, at least 5 % above VTHRESH_MV
(R486). -/
def State.releaseHoldupN (s : State) (code : Nat) : State :=
  let ok := decide ((s.secLE 0x40 0x14 4 : Int) * 105 ≤ 100 * s.busMv code)
  let n := if ok then s.power.high + 1 else 0
  let s := { s with power := { s.power with high := min n 1000 } }
  if s.mode = 9 ∧ n = 1000 ∧ s.flag Reg.RTL_BOARD 8 = true ∧ s.power.extLow = false then
    s.setFlag Reg.PWR_STATUS 0 true
  else s

/-- VSENSE_SAMPLE: the estimate refreshed (R412), and HOLDUP due after two samples below VTHRESH_MV (R413). -/
def State.vsenseSample (s : State) (code : Nat) : State :=
  if !s.applied then s
  else
    let codes := (code :: s.est.codes).take 4
    let low := if s.busMv code < s.secLE 0x40 0x14 4 then s.power.low + 1 else 0
    let s : State := { s with
      est := { s.est with codes := codes, remain := s.remainNs (codes.foldl min 1023) }
      power := { s.power with low := min low 3 } }
    let s := s.releaseHoldupN code
    if low = 2 then s.holdupNow 2 else s

/-- HOLDUP_N_LOW (R413). -/
def State.holdupLow (s : State) : State :=
  { s.setFlag Reg.PWR_STATUS 0 false with power := { s.power with extLow := true } }.holdupNow 1

/-! ### Supply and temperature monitors -/

/-- The record of `kind` at `addr` in the Heartwood's set marked LASTING. -/
def State.markLasting (s : State) (kind addr : Nat) : State :=
  match (List.range 8).find? (fun n =>
      s.flag (Reg.SAF_ERR_INFO n) 0 && s.fld (Reg.SAF_ERR_INFO n) 15 8 == kind
        && s.fld (Reg.SAF_ERR_ADDR n) 47 0 == addr % 2 ^ 48) with
  | some n => s.setFlag (Reg.SAF_ERR_INFO n) 1 true
  | none => s

/-- Bit of SUPPLY of supply `k` (8 to 14; IVR rail r is 16 + r). -/
def supplyBit (k : Nat) : Nat := if k < 16 then k else 15

/-- SUPPLY_OUT_OF_WINDOW (R402, R504, R505): recorded and shown; outside HOLDUP its source is raised and the reaction
of MECH 0x06 applied. It is lasting when it left again within 1 ms of its return. Numbers 0 to 7 and 15 name no supply.
A rail (16 and up) is watched in normal mode only, neither in low power nor off. -/
def State.supplyOut (s : State) (k : Nat) : State :=
  let a := Reg.PWR_RAIL (k - 16)
  if k < 8 ∨ k = 15 ∨ s.monitors.outside.contains k = true ∨ (16 ≤ k ∧ (s.flag a 28 = true ∨ s.fld a 25 16 = 0)) then s
  else
    let back := smGet 0 s.monitors.returned k
    let again := back != 0 && decide (s.now + 1 - back < 10 ^ 6)
    let addr := if k < 16 then 0 else k - 16
    let s : State := { s.setFlag Reg.SAF_STATUS (supplyBit k) true with
      monitors := { s.monitors with outside := s.monitors.outside ++ [k] } }
    let s := s.recordError .heartwood { ErrInfo.of 0x15 addr with syndrome := supplyBit k, lasting := again }
    if s.mode = 9 then s else (s.crossInc 25 (dev 174) 1).find ⟨6, 0x15, none, none, none, 0, addr⟩

/-- SUPPLY_RETURN (R505). -/
def State.supplyReturn (s : State) (k : Nat) : State :=
  if !s.monitors.outside.contains k then s
  else
    let out := s.monitors.outside.filter (fun j => j != k)
    let s := { s with monitors := { s.monitors with
      outside := out
      returned := smSet 0 s.monitors.returned k (s.now + 1) } }
    if out.any (fun j => supplyBit j == supplyBit k) then s else s.setFlag Reg.SAF_STATUS (supplyBit k) false

/-- SUPPLY_RETURN_TIMEOUT (R505). -/
def State.supplyTimeout (s : State) (k : Nat) : State :=
  if s.monitors.outside.contains k then s.markLasting 0x15 (if k < 16 then 0 else k - 16) else s

/-- TEMP_SAMPLE (R506): the sample shown; two in a row above PARAM are a fault while MECH 0x0B is armed; its record is
lasting when the temperature does not fall below PARAM − 5 °C within 1 s of it. -/
def State.tempSample (s : State) (t : BitVec 16) : State :=
  let s := s.setFld Reg.SAF_STATUS 31 16 t.toNat
  let most := (BitVec.ofNat 16 (s.fld Reg.SAF_STATUS 63 48)).toInt
  let s := if s.monitors.tempSeen = false ∨ most < t.toInt then s.setFld Reg.SAF_STATUS 63 48 t.toNat else s
  let s := { s with monitors := { s.monitors with tempSeen := true } }
  if !s.armed 11 none then { s with monitors := { s.monitors with tempHigh := 0, tempFaults := [] } }
  else
    let param := int32 (field (s.mech 11) 63 32)
    let n := if param < t.toInt then s.monitors.tempHigh + 1 else 0
    let s := { s with monitors := { s.monitors with tempHigh := min n 2 } }
    let late := fun (f : Nat × Nat) => decide (10 ^ 9 < s.now - f.1)
    let faults := s.monitors.tempFaults
    let s : State := { (faults.filter late).foldl (fun s f => s.markLasting 0x16 f.2) s with
      monitors := { s.monitors with
        tempFaults := if t.toInt < param - 5 then [] else faults.filter (fun f => !late f) } }
    if n ≠ 2 then s
    else
      let addr := (BitVec.ofInt 48 t.toInt).toNat
      let s := s.recordError .heartwood (ErrInfo.of 0x16 addr)
      let s : State := { s with monitors := { s.monitors with tempFaults := s.monitors.tempFaults ++ [(s.now, addr)] } }
      (s.crossInc 25 (dev 175) 1).find ⟨11, 0x16, none, none, none, 0, addr⟩

end Sys2Proof.Machine
end

