-- ==== Sys2Proof/Machine/LaneOps.lean ====
section
/-! DEFINITION. Lanes (R433), PCIe root ports and their inbound requests (R437 to R439), the endpoint (R443) and its
MSI-X messages (R442). -/

namespace Sys2Proof.Machine

/-! ### Lanes (R433) -/

/-- A link whose lanes begin training trains at rate 1 first (R455); a worker at level 5 does not train its downstream
links (R471). -/
def State.linkTrains (s : State) (e : List Byte) : State :=
  let l := byteN e 0
  let a := Reg.RTL_LINK_STATE l
  let s := s.setFld a 7 7 (byteN e 4)
  if byteN e 4 = 1 ∧ s.fld Reg.HW_ROLE 1 0 = 1 ∧ s.flag Reg.HW_ROLE 3 = true ∧ s.fld Reg.HW_ROLE 24 22 = 5 then
    s.setFld a 2 0 5
  else (s.setFld a 2 0 1).setFld a 6 6 1

/-- PLL_LOCK: the PLLs of octet `o` lock, and its waiting lanes and their links train; an octet that was waking has then
woken (R399, R433). -/
def State.pllLock (s : State) (o : Nat) : State :=
  if !s.octetLocks o || s.flag (Reg.UST_ISL o) 0 = false then s
  else
    let s := if s.domState (40 + o) = 3 then s.domainWoken (40 + o) else s
    let ls := s.linkEntries.filter (fun e =>
      byteN e 2 / 8 == o && s.fld (Reg.LANE_STATE (byteN e 2)) 2 0 == 1 && !s.linkUp (byteN e 0))
    let s := (List.range 8).foldl (fun s k =>
      let a := Reg.LANE_STATE (8 * o + k)
      if s.fld a 2 0 = 1 then s.setFld a 2 0 2 else s) s
    ls.foldl (fun s e => s.linkTrains e) s

/-- PCIe entry and port of lane `n`: the endpoint is entry 2, port 0; a disabled entry or port has none (R437). -/
def State.pcieOf (s : State) (n : Nat) : Option (Nat × Nat) :=
  if s.quadRole (n / 4) = 2 then (if s.pcieByte 2 0 = 0 then none else some (2, 0))
  else match s.portOfLane n with
    | some (c, p) =>
      let w := 16 / 2 ^ s.pcieByte c 1
      if s.pcieByte c 0 ≠ 0 ∧ (List.range w).all (fun k => s.quadRole ((24 * c + p * w + k) / 4) == 1) = true then some (c, p)
      else none
    | none => none

/-- LANE_UP: lane `n` completes training while its islands run, not in DOZE or on the way there (R391, R427, R433); a PCIe port or the
endpoint it belongs to is up as `t` says (R437); the boot path's endpoint lets the push begin (STAGE 0x3, R86). A
Rootlink lane is up with its link. -/
def State.laneUp (s : State) (n : Nat) (t : Trained) : State :=
  let a := Reg.LANE_STATE n
  let st := s.fld a 2 0
  let role := s.quadRole (n / 4)
  let s1 := fun (rate : Nat) =>
    (((s.setFld a 2 0 3).setFld a 11 8 rate).setFlag a 6 true).crossInc (n / 8) (dev (152 + n / 8)) 1
  let dozes := s.mode = 6 ∨ (s.flag Reg.PWR_MODE 8 = true ∧ s.fld Reg.PWR_MODE 7 4 = 6)
  if (st ≠ 2 ∧ st ≠ 4) ∨ role = 0 ∨ role = 5 ∨ s.laneUsable n = false ∨ dozes ∨ s.flag (Reg.UST_ISL (n / 8)) 0 = false then s
  else if role = 3 then s1 6
  else if role = 4 then s1 7
  else match s.pcieOf n with
    | none => s
    | some (c, p) =>
      if t.speed.val = 0 ∨ t.width.val = 0 ∨ s.pcieMax c < t.speed.val ∨ s.pcieWidth c < t.width.val
          ∨ s.flag (Reg.UST_ISL (16 + c)) 0 = false then s
      else
        let b := Reg.LANE_PCIE_STAT c p
        let s1 := fun (rate : Nat) =>
          if c = 2 ∧ s.pushPath = true then (s1 rate).setFld Reg.HW_BOOT 7 4 3 else s1 rate
        ((((s1 t.speed.val).setFlag b 0 true).setFld b 5 1 t.width.val).setFld b 8 6 t.speed.val).setFlag b 9 t.reversed

/-- ENDPOINT_RESET: a link loss, hot reset or Function Level Reset resets the endpoint's island; `LANE_EP_WIN`, the
MSI-X bindings, the negotiation lock and pushed bytes are kept (R443). -/
def State.endpointReset (s : State) (linkLoss : Bool) : State :=
  if linkLoss then s.entryDown 2 else s.resetEndpoint

/-- An automatic octet `o` goes off in RUN, LEAN and IDLE once every lane of it is down and none wakes (R397, log
136). -/
def State.autoOff (s : State) (o : Nat) : State :=
  if s.runState (40 + o) = 2 ∧ (s.mode = 3 ∨ s.mode = 4 ∨ s.mode = 5) ∧ s.octetWanted o = false then
    let s := s.domainOff (40 + o)
    { s with power := { s.power with dead := o :: s.power.dead.filter (fun k => k != o) } }
  else s

/-- LANE_LINK_LOSS: lane `n` leaves UP for DOWN, its port or link with it (R433, R439, R443, R464). -/
def State.laneLoss (s : State) (n : Nat) : State :=
  if s.fld (Reg.LANE_STATE n) 2 0 ≠ 3 then s
  else
    let s := s.laneLeaves n 4
    let s := if s.quadRole (n / 4) = 2 then s.portDown 2 0
      else if s.quadRole (n / 4) = 5 then
        match s.linkOfLane n with
        | some l => s.linkFalls l
        | none => s
      else match s.pcieOf n with
        | some (c, p) => s.portDown c p
        | none => s
    s.autoOff (n / 8)

/-! ### MSI-X (R442) -/

/-- The endpoint may send messages: it is up in D0, as a bus master, with MSI-X enabled and the function not masked. -/
def State.mayInterrupt (s : State) : Bool :=
  s.flag (Reg.LANE_PCIE_STAT 2 0) 0 && s.msix.command.getLsbD 2 && !s.msix.d3 && s.msix.enable && !s.msix.masked

/-- MSIX_SEND: a pending vector that is not masked sends its message, as the standard requires (R442). -/
def State.msixSend (s : State) (v : Nat) : State :=
  let e := smGet (0#64, 0#32, 1#32) s.msix.table v
  if s.msix.pending.getLsbD v = true ∧ e.2.2.getLsbD 0 = false ∧ s.mayInterrupt = true then
    { s with
      out := .msix v e.1 e.2.1 :: s.out
      msix := { s.msix with pending := s.msix.pending &&& ~~~(1#32 <<< v) } }
  else s

/-! ### Inbound requests (R439) -/

/-- `n` bytes at bus address `a` lie in one of the JW's areas (R439). -/
def State.inJwArea (s : State) (a n : Nat) : Bool :=
  let g := a - busDram + dramBase
  let inside := fun (b m : Nat) => b != 0 && decide (b ≤ g ∧ g + n ≤ b + m)
  decide (busDram ≤ a) && (inside (s.fld Reg.JW_NVME_BASE 47 0) nvmeAreaBytes
    || inside (s.fld Reg.JW_STAGE_BASE 47 0) (s.fld Reg.JW_STAGE_SIZE 31 0 * 2 ^ 20))

/-- A request answered Unsupported Request and counted for port `p`. -/
def State.inboundUr (s : State) (c p : Nat) : State :=
  { s.satAdd (Reg.LANE_PCIE_STAT c p) 63 48 1 with out := .pcieUr c :: s.out }

/-- PCIE_INBOUND_REQUEST at port `p` of complex `c`: accepted in the JW's areas, an MSI-X message that names a
completion queue, or refused. The JW serves its queues when NVME_COMPLETION says what they hold. An access that memory
refuses is recorded (R27, R28, R254). -/
def State.inbound (s : State) (c p : Nat) (r : InboundReq) : State :=
  match r with
  | .write a d =>
    if d.isEmpty then s
    else if a = 0x00FFFFFFF000 ∧ d.length = 4 then
      { s with jw := { s.jw with named := smSet false s.jw.named (leN d 0 2) true } }
    else if s.inJwArea a d.length then
      let g := a - busDram + dramBase
      match s.engineRefuses g d.length with
      | some e => s.recordRefusal .jw g e
      | none => s.writeMem .jw .agent none g d
    else s.inboundUr c p
  | .read a n =>
    if n = 0 then s
    else if s.inJwArea a n then
      let g := a - busDram + dramBase
      match s.engineRefuses g n with
      | some e => let s := s.recordRefusal .jw g e; { s with out := .pcieReply c [] :: s.out }
      | none => match s.readMem .jw g n with
        | (s, .ok d) => { s with out := .pcieReply c d :: s.out }
        | (s, .error _) => { s with out := .pcieReply c [] :: s.out }
    else s.inboundUr c p
  | .other => s.inboundUr c p

end Sys2Proof.Machine
end

