-- ==== Sys2Proof/Machine/PortOps.lean ====
section
/-! DEFINITION. The low-speed ports: xSPI boot flash (R447, R448), I2C (R449), UART (R450), the safe-state outputs
(R451), and the JTAG port up to SVC_ENTER (R452, R453). -/

namespace Sys2Proof.Machine

/-! ### xSPI flash -/

/-- Byte `a` of the boot flash; an unlisted byte is erased. -/
def State.flashByte (s : State) (a : Nat) : Byte := smGet 0xFF#8 s.board.flash a

/-- `n` flash bytes from `a`. -/
def State.flashBytesAt (s : State) (a n : Nat) : List Byte := (List.range n).map (fun k => s.flashByte (a + k))

def State.storeFlash (s : State) (ws : List (Nat × Byte)) : State :=
  { s with board := { s.board with flash := ws.foldl (fun m p => smSet 0xFF#8 m p.1 p.2) s.board.flash } }

/-- The first `n` bytes held in the data words from register `base`. -/
def State.dataBytes (s : State) (base n : Nat) : List Byte :=
  (List.range n).map (fun i => byteOf (s.rd (base + 8 * (i / 8))).toNat (i % 8))

/-- Bytes placed in the data words from register `base`. -/
def State.putData (s : State) (base : Nat) (bs : List Byte) : State :=
  ((List.range bs.length).zip bs).foldl (fun s p =>
    s.setFld (base + 8 * (p.1 / 8)) (8 * (p.1 % 8) + 7) (8 * (p.1 % 8)) p.2.toNat) s

/-- XSPI_CMD: a write of `UST_XSPI_CMD` (R448); GO is ignored while BUSY is set. BUSY stays set while the flash is
polled and not ready. No rule clears GO (log 139). -/
def State.xspiCmd (s : State) (v : W64) (r : FlashReply) : State :=
  let a := Reg.UST_XSPI_CMD
  let s := s.setFld a 24 0 (field v 24 0)
  if !bit v 63 || s.flag a 62 then s
  else
    let s := s.setFlag a 63 true
    let n := min 256 (field v 18 10)
    let addr := if bit v 8 then some (s.fld Reg.UST_XSPI_ADDR 31 0) else none
    let sent := if bit v 9 then s.dataBytes (Reg.UST_XSPI_DATA 0) n else []
    let s : State := { s with out := .flash (field v 7 0) addr sent :: s.out }
    let s := s.storeFlash r.stored
    let s := if bit v 9 then s else s.putData (Reg.UST_XSPI_DATA 0) (r.data.take n)
    if bit v 24 = false ∨ r.ready = some 0 then s.setFld a 61 60 0
    else
      let at_ := match r.ready with
        | some ns => if ns ≤ 10 ^ 10 then s.time.count.toNat + ns + 1 else 0
        | none => 0
      { s.setFlag a 62 true with board := { s.board with flashReady := at_ } }

/-- The flash that is polled has become ready: the command ends with RESULT 0 (R448). -/
def State.pollFlash (s : State) : State :=
  let a := Reg.UST_XSPI_CMD
  if s.flag a 62 = true ∧ s.board.flashReady ≠ 0 ∧ s.board.flashReady ≤ s.time.count.toNat + 1 then
    { (s.setFlag a 62 false).setFld a 61 60 0 with board := { s.board with flashReady := 0 } }
  else s

/-- XSPI_READY_TIMEOUT (R448): 10 s have passed, and the flash has not become ready. -/
def State.xspiTimeout (s : State) : State :=
  let a := Reg.UST_XSPI_CMD
  if s.flag a 62 = true ∧ s.board.flashReady = 0 then (s.setFlag a 62 false).setFld a 61 60 1 else s

/-! ### I2C -/

/-- I2C_TRANSFER: a write of `UST_I2C_CMD` with GO (R449), its RESULT and the bytes read; a transfer is one step, so BUSY
is never seen. -/
def State.i2cTransfer (s : State) (v : W64) (result : Nat) (bytes : List Byte) : State :=
  let a := Reg.UST_I2C_CMD
  let keep := 0x7FFFFFF#64
  let s := s.wr a ((s.rd a &&& ~~~keep) ||| (v &&& 0x73F3F7F#64))
  if !bit v 63 then s
  else
    let s := s.setFlag a 63 true
    let w := min 32 (field v 13 8)
    let r := min 32 (field v 21 16)
    let s : State := { s with out := .i2c (field v 6 0) (s.dataBytes (Reg.UST_I2C_DATA 0) w) r :: s.out }
    let s := if result = 0 then s.putData (Reg.UST_I2C_DATA 0) (bytes.take r) else s
    s.setFld a 30 28 result

/-! ### UART (R450) -/

/-- The UART's island runs. -/
def State.uartOn (s : State) : Bool := s.flag (Reg.UST_ISL 29) 0

/-- UART_TX: a byte queued; ignored while TX_FULL is 1. -/
def State.uartTx (s : State) (b : Byte) : State :=
  if s.uartOn && decide (s.uart.tx.length < 64) then { s with uart := { s.uart with tx := s.uart.tx ++ [b] } } else s

/-- UART_BYTE_SENT. -/
def State.uartSent (s : State) : State :=
  match s.uart.tx with
  | b :: bs => if s.uartOn then { s with uart := { s.uart with tx := bs }, out := .uart b :: s.out } else s
  | [] => s

/-- UART_RECEIVE. -/
def State.uartReceive (s : State) (b : Byte) (framing : Bool) : State :=
  if !s.uartOn then s
  else if s.uart.rx.length < 64 then { s with uart := { s.uart with rx := s.uart.rx ++ [(b, framing)] } }
  else { s with uart := { s.uart with overrun := true } }

/-- `UST_UART_RX` as read. -/
def Uart.rxWord (u : Uart) : W64 :=
  match u.rx with
  | p :: _ => w64 (p.1.toNat + 2 ^ 8 + b2n u.overrun * 2 ^ 9 + b2n p.2 * 2 ^ 10)
  | [] => w64 (b2n u.overrun * 2 ^ 9)

/-- UART_RX_READ: the oldest byte leaves the FIFO, OVERRUN is cleared. -/
def State.uartRead (s : State) : State :=
  { s with uart := { s.uart with rx := s.uart.rx.drop 1, overrun := false } }

/-- `UST_UART_CFG` as read. -/
def State.uartCfg (s : State) : W64 :=
  let v := s.rd Reg.UST_UART_CFG
  setField (setField v 24 24 (b2n (decide (64 ≤ s.uart.tx.length)))) 25 25 (b2n (!s.uart.rx.isEmpty))

/-! ### Safe-state outputs (R451) -/

/-- A write of `UST_SSO` by the Heartwood, or by Glade `i`, which reaches the LEVEL bits of its partition only. -/
def State.ssoWrite (s : State) (who : Option Nat) (v : W64) : State :=
  let a := Reg.UST_SSO
  match who with
  | none => (s.setFld a 7 0 (field v 7 0)).setFld a 31 16 (field v 31 16)
  | some i =>
    (List.range 8).foldl (fun s n =>
      if s.fld a (2 * n + 17) (2 * n + 16) = s.groveGetPart (i / 16) then s.setFlag a n (bit v n) else s) s

/-! ### JTAG (R452, R453) -/

/-- EXTEST, CLAMP and HIGHZ act only with PORST_N low or in SERVICE (R452). -/
def State.pinTest (s : State) : Bool := !s.board.porst || s.mode == 11

/-- Instruction `code` in the instruction register, the pins as `pins` says: 0 functional, 1 from the boundary
register, 2 floating. -/
def State.jtagSelect (s : State) (code pins : Nat) : State :=
  { s with jtag := { s.jtag with ir := code, pins := pins } }

/-- An instruction that acts as BYPASS outside R452's conditions. -/
def State.jtagPinTest (s : State) (code pins : Nat) : State :=
  if s.pinTest then s.jtagSelect code pins else s.jtagSelect 0xFF 0

/-- SVC_CHAL: a fresh random challenge captured (R452); its value is free. -/
def State.svcChal (s : State) : State :=
  let a := s.freeWord
  let b := a.2.freeWord
  let c := b.2.freeWord
  let d := c.2.freeWord
  let n := a.1.toNat + b.1.toNat * 2 ^ 64 + c.1.toNat * 2 ^ 128 + d.1.toNat * 2 ^ 192
  let s := d.2.jtagSelect 0x20 0
  { s with jtag := { s.jtag with challenge := some (BitVec.ofNat 256 n) }, out := .jtag n :: s.out }

/-- The checks of R453 on a request that answers challenge `ch`. -/
def State.svcHolds (s : State) (r : SvcRequest) (ch : BitVec 256) : Bool :=
  let k := s.keySlots
  let pub := bytesLE 64 r.pubkey.toNat
  let m := bytesLE 32 ch.toNat ++ bytesLE 8 (s.rd Reg.HW_ID).toNat
  k.complete r.slot.val && !k.revoked.getLsbD r.slot.val && k.digest r.slot.val == sha256 pub
    && ecdsaVerify m (ofBytesBE (pub.take 32)) (ofBytesBE (pub.drop 32))
      (ofBytesBE (bytesLE 32 r.sigR.toNat)) (ofBytesBE (bytesLE 32 r.sigS.toNat))

/-- SERVICE granted: entered at once, or at the end of the transition in progress, which completes first (R395). -/
def State.grantService (s : State) (auth : Bool) (slot : Nat) : State :=
  if s.flag Reg.PWR_MODE 8 then { s with power := { s.power with serviceDue := some (auth, slot) } }
  else s.enterService auth slot

/-- SVC_ENTER (R453): granted, refused and counted, or refused uncounted in a mode R393 does not list. -/
def State.svcEnter (s : State) (r : SvcRequest) : State :=
  let s := s.jtagSelect 0x21 0
  let m := s.mode
  let ch := s.jtag.challenge
  let n := s.fld Reg.UST_SVC 9 8
  let s : State := { s with jtag := { s.jtag with challenge := none } }
  if serviceFrom m = false then s
  else if 3 ≤ n then s
  else if !s.keySlots.any then s.grantService false 0
  else match ch with
    | some c => if s.svcHolds r c then s.grantService true r.slot.val else s.setFld Reg.UST_SVC 9 8 (n + 1)
    | none => s.setFld Reg.UST_SVC 9 8 (n + 1)

end Sys2Proof.Machine
end

