-- ==== Sys2Proof/Machine/Ethernet.lean ====
section
/-! DEFINITION. Ethernet: reception and its filters (R445), ingress classification (R295 to R297), and egress (R298,
R446). -/

namespace Sys2Proof.Machine

/-! ### Packets written by ingress -/

/-- What ingress has written of a packet: all of it, with its cells; or it met no cell for a word, those it took being
free again (R287); or a LINK word that was refused (R299). -/
inductive Written where
  | ok (s : State) (cells : List Nat)
  | noCell (s : State)
  | broken (s : State)

/-- Words written into an open ingress packet of queue `q` from data word `n` on (R287). -/
def State.writeWords (s : State) (q : Nat) : List Nat → Nat → List W64 → Written
  | cells, _, [] => .ok s cells
  | cells, n, v :: vs =>
    match s.appendWord q cells n v with
    | .ok s cells => s.writeWords q cells (n + 1) vs
    | .noCell _ => .noCell (s.freeCells q cells)
    | .broken s => .broken s

/-- A drop counter of `QM_DROPS0` (fields 0 to 3) or `QM_DROPS1` (4 to 7) advanced. -/
def State.qmDrop (s : State) (k : Nat) : State :=
  let a := if k < 4 then Reg.QM_DROPS0 else Reg.QM_DROPS1
  s.satAdd a (16 * (k % 4) + 15) (16 * (k % 4)) 1

/-- A whole ingress packet of `len` words linked with producer number `src`; discarded where its queue takes none now
(R285, R288, R296). -/
def State.linkIngress (s : State) (q src len : Nat) (cells : List Nat) : State :=
  if s.queueCode q ≠ 0 ∨ (s.peekDesc q).egress = true then (s.freeCells q cells).qmDrop 4
  else match s.linkPacket q cells len false true src 0 with
    | (s, some _) => s
    | (s, none) => s.qmDrop 4

/-- A packet of `words` written by ingress and linked in queue `q` with producer number `src`; dropped and counted where a
cell cannot be taken, or the queue is found BROKEN (R287, R288, R299). -/
def State.enqueue (s : State) (q src : Nat) (words : List W64) : State :=
  match s.writeWords q [] 1 words with
  | .ok s cells => s.linkIngress q src words.length cells
  | .noCell s => s.qmDrop 0
  | .broken s => s.qmDrop 4

/-- Where the classifier sends traffic of source `n` (R295, R296): a queue with the entry index that word 1 carries, or
a drop counter. Only Glades enqueue to a crossing queue (R31). `key`: none for the default queue. `part`: the source's
partition. -/
inductive ClassOut where
  | queue (q index : Nat)
  | drop (k : Nat)
  | firebreak
deriving DecidableEq, Repr

def State.classify (s : State) (n part : Nat) (key : Option Nat) : State × ClassOut :=
  let src := s.rd (Reg.QM_ISRC n)
  let dflt : Option (Nat × Nat) := if bit src 20 then some (field src 19 0, 0xFFFF) else none
  let named : Except Unit (Option (Nat × Nat)) := match key with
    | none => .ok dflt
    | some k =>
      let i := (field src 47 32 + k) % 65536
      let e := s.rd (Reg.QM_CLS i)
      if bit e 20 then (if bit e 21 then .error () else .ok (some (field e 19 0, i))) else .ok dflt
  match named with
  | .error _ => (s, .drop 3)
  | .ok none => (s, .drop 3)
  | .ok (some (q, i)) =>
    let n := s.queueInfo q
    if n.part ≠ part ∨ n.crossing = true then (s, .firebreak)
    else
      let p := s.getDesc q
      if s.queueCode q ≠ 0 ∨ p.2.egress = true then (p.1, .drop 4)
      else (p.1, .queue q i)

/-- An ingress refused at a Firebreak (R28, R296); the spec gives the access no address, so the record's is free
(log 20). -/
def State.ingressRefused (s : State) : State :=
  let f := s.freeWord
  (f.2.qmDrop 1).recordRefusal .qm (f.1.toNat % 2 ^ 48) 3

/-! ### Ethernet frames -/

/-- The 802.1Q tags of a frame and the EtherType after them (R295, R444): up to two tags, as (TCI) values. -/
def frameTags (f : List Byte) : List Nat × Nat :=
  let at16 := fun o => ofBytesBE ((f.drop o).take 2)
  let isTag := fun t => t == 0x8100 || t == 0x88A8
  if isTag (at16 12) then
    if isTag (at16 16) then ([at16 14, at16 18], at16 20) else ([at16 14], at16 16)
  else ([], at16 12)

/-- Index of EtherType `t` in MAC block `m`'s list (R295). -/
def State.etypeIndex (s : State) (m t : Nat) : Option Nat :=
  if t = 0 then none
  else (List.range 16).find? (fun i => s.fld (Reg.QM_ETYPE m (i / 4)) (16 * (i % 4) + 15) (16 * (i % 4)) == t)

/-- The classifier key of a frame on lane `l` (R295). -/
def State.frameKey (s : State) (l m : Nat) (f : List Byte) : Option Nat :=
  let t := frameTags f
  match s.fld (Reg.QM_ISRC l) 23 21, t.1 with
  | 1, tci :: _ => some (tci % 4096)
  | 1, [] => none
  | 2, tci :: _ => some (tci / 2 ^ 13)
  | 2, [] => none
  | 3, _ => s.etypeIndex m t.2
  | 4, tci :: _ => some (tci % 4096 * 8 + tci / 2 ^ 13)
  | 4, [] => none
  | _, _ => some 0

/-- Bytes laid in words, the last padded with zeros. -/
def toWords (bs : List Byte) : List W64 :=
  (List.range ((bs.length + 7) / 8)).map (fun k => w64 (ofBytesLE ((bs.drop (8 * k)).take 8)))

/-- The packet words of a frame (R297). -/
def frameWords (l m index stamp : Nat) (f : List Byte) : List W64 :=
  let t := frameTags f
  let tci := t.1.headD 0
  w64 (f.length % 2 ^ 16 + (l % 128) * 2 ^ 16 + (m % 4) * 2 ^ 23 + b2n (!t.1.isEmpty) * 2 ^ 25
      + (tci / 2 ^ 13 % 8) * 2 ^ 26 + (tci % 4096) * 2 ^ 29 + index * 2 ^ 48) :: w64 stamp :: toWords f

/-- A MAC timestamp as it is reported: 0 when PTP is not accepted (R446). -/
def State.stampOf (s : State) (t : Nat) : Nat := if s.accepted 8 then t else 0

/-- The timestamp of a frame sent now. -/
def State.stamp (s : State) : Nat := s.stampOf s.now

/-- Lane `l` carries Ethernet and is UP, and its octet's and its MAC block's islands run (R427, R431, R433). -/
def State.ethUp (s : State) (l : Nat) : Bool :=
  (s.quadRole (l / 4) == 3 || s.quadRole (l / 4) == 4) && s.fld (Reg.LANE_STATE l) 2 0 == 3
    && s.flag (Reg.UST_ISL (l / 8)) 0 && s.flag (Reg.UST_ISL (19 + s.quadMac (l / 4))) 0

/-- A MAC counter of lane `l`: fields 0 to 3 of `LANE_ETHn_CNT0`, 4 to 6 of `LANE_ETHn_CNT1`. -/
def State.macCount (s : State) (l k : Nat) : State :=
  let a := if k < 4 then Reg.LANE_ETH_CNT0 l else Reg.LANE_ETH_CNT1 l
  s.satAdd a (16 * (k % 4) + 15) (16 * (k % 4)) 1

/-- The destination of a frame is accepted on lane `l` (R445 check 6). -/
def State.destOk (s : State) (l : Nat) (f : List Byte) : Bool :=
  let d := ofBytesLE (f.take 6)
  let cfg := s.rd (Reg.LANE_ETH_CFG l)
  bit cfg 16 || (d != 0 && d == s.fld (Reg.LANE_ETH_ADDR l) 47 0) || d == 2 ^ 48 - 1 || (d % 2 == 1 && bit cfg 17)

/-- MAX_LEN of lane `l`, taken into its limits. -/
def State.maxLen (s : State) (l : Nat) : Nat := max 60 (min 16376 (s.fld (Reg.LANE_ETH_CFG l) 13 0))

/-- The MAC check a received frame fails first, as its counter (R445): `check` 1: an FCS error; 2: an uncorrectable FEC
block. -/
def State.macRefuses (s : State) (l : Nat) (f : List Byte) (check : Nat) : Option Nat :=
  if check = 2 then some 4
  else if check = 1 then some 0
  else if f.length < 60 then some 1
  else if s.maxLen l < f.length then some 2
  else if (frameTags f).2 = 0x8808 then some 5
  else if !s.destOk l f then some 3
  else none

/-- A frame that the classifier has sent to queue `q`, entry `i`, with MAC timestamp `time`, linked or dropped (R297). -/
def State.frameLink (s : State) (l : Nat) (f : List Byte) (time q i : Nat) : State :=
  s.enqueue q l (frameWords l (s.quadMac (l / 4)) i (s.stampOf time) f)

/-- A frame that the MAC of lane `l` has passed, with MAC timestamp `time`, classified as it arrives (R295, R296, R300).
During a cut one with a MAC timestamp at or after CUT_TIME is held (R478). -/
def State.frameIn (s : State) (l : Nat) (f : List Byte) (time : Nat) : State :=
  match s.classify l (s.secLE 0x20 (120 + 8 * s.quadMac (l / 4)) 1) (s.frameKey l (s.quadMac (l / 4)) f) with
  | (s, .drop k) => s.qmDrop k
  | (s, .firebreak) => s.ingressRefused
  | (s, .queue q i) =>
    if s.rootlink.cutting.isSome ∧ (s.rd Reg.RTL_BLAZE_CUT).toNat ≤ time then
      { s with rootlink := { s.rootlink with held := s.rootlink.held ++ [.frame l f time q i] } }
    else s.frameLink l f time q i

/-- ETH_FRAME_RECEIVE: frame `f` (without its FCS) on lane `l`, whose start passed `ago` ns before, in
the 4 ns steps of the time base (R446). `overrun`: it arrives faster than the engines can take (R297). -/
def State.frameReceive (s : State) (l : Nat) (f : List Byte) (check : Nat) (overrun : Bool) (ago : Nat) : State :=
  if !s.ethUp l then s
  else match s.macRefuses l f check with
    | some k => s.macCount l k
    | none =>
      if f.length > 16368 then s.qmDrop 2
      else if overrun then s.qmDrop 5
      else s.frameIn l f (s.now - ago / 4 * 4)

/-! ### Egress (R298) -/

/-- Partition of Rootlink engine `e` (R58). -/
def State.enginePart (s : State) (e : Nat) : Nat := s.secLE 0x60 2 1 / 4 ^ e % 4

/-- Partition of an egress port: that of the MAC block of an Ethernet lane, or of a link's engine (R29). -/
def State.portPart (s : State) (kind : Bool) (port : Nat) : Nat :=
  if kind then s.enginePart (s.linkEngine port) else s.secLE 0x20 (120 + 8 * s.quadMac (port / 4)) 1

/-- Bindings of a port (binding numbers) that its partition may serve (`own`), or whose queue belongs to another
partition or is a crossing queue, which only Glades dequeue (R30, R31). -/
def State.egBound (s : State) (kind : Bool) (port : Nat) (own : Bool) : List Nat :=
  (List.range 128).filter (fun n =>
    let v := s.rd (Reg.QM_EGQ n)
    let i := s.queueInfo (field v 19 0)
    bit v 20 && bit v 31 == kind && field v 30 24 == port && (i.part == s.portPart kind port && !i.crossing) == own)

/-- Bindings of a port that have a packet to send. -/
def State.egReady (s : State) (kind : Bool) (port : Nat) : List Nat :=
  (s.egBound kind port true).filter (fun n =>
    let q := s.fld (Reg.QM_EGQ n) 19 0
    s.linkedIn q && !s.queueWaits q)

/-- Key of a port in the rotation among its bindings of one priority. -/
def portKey (kind : Bool) (port pri : Nat) : Nat := 1024 * b2n kind + 8 * port + pri

/-- The binding a port serves next: the highest PRIORITY, and among equals the next after the one of them served last
(R298). -/
def State.egPick (s : State) (kind : Bool) (port : Nat) : Option Nat :=
  let ns := s.egReady kind port
  let pri := fun n => s.fld (Reg.QM_EGQ n) 34 32
  let top := (ns.map pri).foldl max 0
  let best := ns.filter (fun n => pri n == top)
  let last := smGet 0 s.qm.rotation (portKey kind port top)
  match best.find? (fun n => decide (last ≤ n)) with
  | some n => some n
  | none => best.head?

/-- The words of a packet, and whether all could be read; an unreadable word is a free value (log 20). -/
def State.packetWords (s : State) (cells : List Nat) : Nat → State × List W64
  | 0 => (s, [])
  | n + 1 =>
    let r := s.packetWords cells n
    match r.1.pktWord cells (n + 1) with
    | (s, .data v) => (s, r.2 ++ [v])
    | (s, _) => let f := s.freeWord; (f.2, r.2 ++ [f.1])

/-- The next packet taken for a port: its queue and words; its cells are freed. Its bindings to queues it may not serve are
refused at the Firebreak (R28, R30, R31); the spec gives such an access no address, so the record's is free (log 20).
DESIGN CHOICE (log 132): each attempt to take a packet for a port with such a binding is one refused access, whether
the queue holds a packet or not. -/
def State.egTake (s : State) (kind : Bool) (port : Nat) : State × Option (Nat × List W64) :=
  let s := if (s.egBound kind port false).isEmpty then s
    else let f := s.freeWord; f.2.recordRefusal .qm (f.1.toNat % 2 ^ 48) 3
  let s := (s.egBound kind port true).foldl (fun s n => s.touchDesc (s.fld (Reg.QM_EGQ n) 19 0)) s
  match s.egPick kind port with
  | none => (s, none)
  | some n =>
    let q := s.fld (Reg.QM_EGQ n) 19 0
    let key := portKey kind port (s.fld (Reg.QM_EGQ n) 34 32)
    let s : State := { s with qm := { s.qm with rotation := smSet 0 s.qm.rotation key (n + 1) } }
    match s.openHead q with
    | (s, none) => (s, none)
    | (s, some (h, cells)) =>
      let r := s.packetWords cells (field h 11 0)
      (r.1.freeCells q cells, some (q, r.2))

/-- An Ethernet egress packet is well formed (R298). -/
def egressOk (ws : List W64) : Bool :=
  match ws with
  | [] => false
  | w :: rest =>
    let len := field w 15 0
    decide (14 ≤ len ∧ len ≤ 16376) && field w 63 17 == 0 && rest.length == (len + 7) / 8

/-- The transmit timestamp of a TS_REQ packet (R446). -/
def State.txStamp (s : State) (l : Nat) : State :=
  let a := Reg.LANE_ETH_TXTS l
  if s.flag a 63 then s.macCount l 6
  else (s.wr a (w64 (s.stamp % 2 ^ 63 + 2 ^ 63))).crossInc (19 + s.quadMac (l / 4)) (dev 187) 1

/-- EGRESS_TAKE of Ethernet lane `l`: the next packet is sent, padded to 60 bytes (R298, R444). -/
def State.egressEth (s : State) (l : Nat) : State :=
  if !s.ethUp l then s
  else match s.egTake false l with
    | (s, none) => s
    | (s, some (_, ws)) =>
      if !egressOk ws then s.qmDrop 6
      else
        let w := ws.headD 0#64
        let f := ((ws.drop 1).flatMap (fun v => bytesLE 8 v.toNat)).take (field w 15 0)
        let f := f ++ List.replicate (60 - f.length) 0#8
        let s := { s with out := .frame l f :: s.out }
        if bit w 16 then s.txStamp l else s

end Sys2Proof.Machine
end

