-- ==== Sys2Proof/Machine/RootlinkOps.lean ====
section
/-! DEFINITION. Rootlink (R455 to R486): training, flits and their delivery, packets and forwarding, control flits, the
tree, time distribution, the Blaze, and the commands of `RTL_CMD`. The IDLE flits that fill a line, and the TRAIN flits
that repeat one already sent, are not listed among the outputs (log 31). -/

namespace Sys2Proof.Machine

/-! ### Role and links -/

/-- ROLE of `HW_ROLE` is worker, or manager (R35). -/
def State.isWorker (s : State) : Bool := s.fld Reg.HW_ROLE 1 0 == 1

def State.isManager (s : State) : Bool := s.fld Reg.HW_ROLE 1 0 == 2

/-- The device's ID, while it is valid (R35). -/
def State.ownId (s : State) : Option Nat := if s.flag Reg.HW_ROLE 3 then some (s.fld Reg.HW_ROLE 21 8) else none

/-- LEVEL of `HW_ROLE`. -/
def State.level (s : State) : Nat := s.fld Reg.HW_ROLE 24 22

/-- The upstream link (R471). -/
def State.upstream (s : State) : Option Nat := (s.linkEntries.find? (fun e => byteN e 4 == 0)).map (fun e => byteN e 0)

/-- Link `l` is downstream. -/
def State.isDown (s : State) (l : Nat) : Bool :=
  match s.linkEntry l with
  | some e => byteN e 4 == 1
  | none => false

/-- The links that are UP. -/
def State.upLinks (s : State) : List Nat := (List.range 24).filter s.linkUp

/-- ISOLATED of `RTL_STATUS` (R472). -/
def State.isolated (s : State) : Bool := s.flag Reg.RTL_STATUS 13

/-! ### Sending (R458 to R463, R468) -/

/-- The eight words of a flit: header, payload, CRC (R458, R460). -/
def flitWords (header : W64) (payload : List W64) : List W64 :=
  let body := header :: (payload ++ List.replicate 6 0#64).take 6
  body ++ [w64 (CrcFamily.c64.steps (2 ^ 64 - 1) (body.flatMap (fun v => bytesLE 8 v.toNat)))]

/-- A block payload scrambled with the polynomial 1 + x^39 + x^58 of IEEE 802.3 Clause 49, lowest bit first; bit `k` of
`st` is the bit sent `k + 1` bits ago (R457). -/
def scramble (st : BitVec 58) (v : W64) : BitVec 58 × W64 :=
  (List.range 64).foldl (fun (a : BitVec 58 × W64) i =>
    let b := v.getLsbD i ^^ a.1.getLsbD 38 ^^ a.1.getLsbD 57
    ((a.1 <<< 1) ||| (if b then 1#58 else 0#58), if b then a.2 ||| (1#64 <<< i) else a.2)) (st, 0#64)

/-- The blocks of a flit that lane `k` of a link of width `w` carries: block `m` goes to lane `m` modulo the width, with
sync header 0b10 for block 0 and 0b01 for the others (R457). -/
def laneBlocks (st : BitVec 58) (ws : List W64) (w k : Nat) : BitVec 58 × List (BitVec 2 × W64) :=
  ((List.range 8).filter (fun m => m % w == k)).foldl (fun (a : BitVec 58 × List (BitVec 2 × W64)) m =>
    let p := scramble a.1 (ws.getD m 0#64)
    (p.1, a.2 ++ [(if m = 0 then 2#2 else 1#2, p.2)])) (st, [])

/-- The eight words of a flit leave on the lanes of link `l` (R457). -/
def State.sendBlocks (s : State) (l : Nat) (ws : List W64) : State :=
  let w := max 1 (s.fld (Reg.RTL_LINK_STATE l) 5 3)
  let first := ((s.linkEntry l).map (fun e => byteN e 2)).getD 0
  (List.range w).foldl (fun s k =>
    let n := first + k
    let r := laneBlocks (smGet 0#58 s.rootlink.scramblers n) ws w k
    { s with
      out := .blocks n r.2 :: s.out
      rootlink := { s.rootlink with scramblers := smSet 0#58 s.rootlink.scramblers n r.1 } }) s

/-- Flit `f` placed on link `l` with sequence number `fseq`, its ACK and LIMIT as they stand now. -/
def State.placeFlit (s : State) (l fseq : Nat) (f : OutFlit) : State :=
  let x := s.link l
  let h := w64 (f.ty % 16 + (f.sub % 16) * 2 ^ 4 + (fseq % 4096) * 2 ^ 8 + ((x.expect + 4095) % 4096) * 2 ^ 20
    + ((x.freed + 256) % 65536) * 2 ^ 32 + (f.top % 65536) * 2 ^ 48)
  let ws := flitWords h f.words
  { s with out := .flit l ws :: s.out }.sendBlocks l ws

/-- Flit `f` leaves on link `l`; before the 4,096th flit since the last IDLE flit, an IDLE flit does (R457). -/
def State.sendFlit (s : State) (l fseq : Nat) (f : OutFlit) : State :=
  let s := if 4095 ≤ (s.link l).streak then (s.placeFlit l 0 ⟨0, 0, 0, []⟩).updLink l (fun x => { x with streak := 0 })
    else s
  (s.placeFlit l fseq f).updLink l (fun x => { x with streak := x.streak + 1 })

/-- Sequenced flits that the credit of link `l` still allows (R463). -/
def Link.credit (x : Link) : Nat :=
  let n := (x.limit + 65536 - x.sent % 65536) % 65536
  if n ≤ 256 then n else 0

/-- A packet of the link's own egress queues waits to be sent (R298, R468). -/
def State.ownWaits (s : State) (l : Nat) : Bool :=
  s.flag Reg.HW_ROLE 3 && !s.isolated && !(s.egReady true l).isEmpty

/-- No packet is being sent on the link. -/
def Link.free (x : Link) : Bool :=
  match x.data with
  | some p => p.flits.isEmpty && p.whole
  | none => true

/-- The link with the next packet to forward taken up, when the one before it has been sent and the turn is not that of
the egress queues (R468). -/
def State.nextForward (s : State) (l : Nat) (x : Link) : Link :=
  match x.free, x.fwd with
  | true, p :: ps => if x.ownTurn && s.ownWaits l then x else { x with data := some p, fwd := ps, ownTurn := true }
  | _, _ => x

/-- The next waiting flit of link `l` sent, with room in the retry buffer and credit: CTRL and BLAZE before DATA
(R461, R463, R468). A forwarded flit leaves its slot. -/
def State.pumpOne (s : State) (l : Nat) : Option State :=
  let x := s.nextForward l (s.link l)
  if s.linkUp l = false ∨ 256 ≤ x.retry.length ∨ x.credit = 0 then none
  else
    let n := x.sent % 4096
    let go := fun (f : OutFlit) (y : Link) =>
      some ((s.setLink l { y with retry := y.retry ++ [(n, f)], sent := y.sent + 1 }).sendFlit l n f)
    match x.ctrl, x.data with
    | f :: fs, _ => go f { x with ctrl := fs }
    | [], some p =>
      (match p.flits with
      | f :: fs =>
        let sent := go f.1 { x with data := some { p with flits := fs, begun := true } }
        (match p.src, f.2 with
        | some j, true => sent.map (fun t => t.freeFlits j 1)
        | _, _ => sent)
      | [] => none)
    | [], none => none

/-- Every flit that may be sent now on link `l` is sent. -/
def State.pumpLink (s : State) (l : Nat) : State :=
  iter 256 (fun s => match s.pumpOne l with | some t => t | none => s) s

/-- A CTRL flit queued on link `l`; a link that is not UP takes none (R464). -/
def State.queueCtrl (s : State) (l : Nat) (f : OutFlit) : State :=
  if s.linkUp l then (s.updLink l (fun x => { x with ctrl := x.ctrl ++ [f] })).pumpLink l else s

/-- A CTRL flit of this device (R459): SUB, HOP, DST, words 2 to 6. -/
def State.ctrlFlit (s : State) (sub : Nat) (hop : Bool) (dst : Nat) (words : List W64) : OutFlit :=
  let id := match s.ownId with
    | some n => n + 2 ^ 14
    | none => 0
  ⟨3, sub, dst % 2 ^ 14 + b2n hop * 2 ^ 14, w64 id :: words⟩

/-- NAK for the FSEQ that link `l` expects (R459, R462). -/
def State.sendNak (s : State) (l : Nat) : State :=
  s.sendFlit l 0 ⟨5, 0, 0, [w64 ((s.link l).expect % 4096)]⟩

/-! ### Failures (R462) -/

/-- A lasting failure of link `l`: counted, recorded, ROOTLINK_ERROR and the reaction while MECH 0x07 is armed; the link
goes DOWN. -/
def State.lastingFailure (s : State) (l : Nat) : State :=
  let s := s.satAdd (Reg.RTL_LINK_ERR l) 31 16 1
  let s := s.recordError .heartwood { ErrInfo.of 0x18 l with lasting := true }
  let s := if s.armed 7 none then (s.crossInc (23 + s.linkEngine l) (dev 177) 1).find ⟨7, 0x18, none, none, none, 0, l⟩ else s
  s.linkFalls l

/-- FLIT_FAIL on link `l`: NAK at once; a second failure before the expected flit is lasting (R462). -/
def State.flitFail (s : State) (l : Nat) : State :=
  if (s.link l).failing then s.lastingFailure l
  else (s.updLink l (fun x => { x with failing := true })).sendNak l

/-- NAK_REPEAT: 2 µs without the expected flit. -/
def State.nakRepeat (s : State) (l : Nat) : State :=
  if s.linkUp l && (s.link l).failing then s.sendNak l else s

/-- NAK_TIMEOUT: a NAK unanswered for 10 µs. -/
def State.nakTimeout (s : State) (l : Nat) : State :=
  if s.linkUp l && (s.link l).failing then s.lastingFailure l else s

/-! ### Receiving (R460 to R463) -/

/-- The reserved bits of a header's [63:48] are zero for TYPE `ty` (R458). -/
def topOk (ty : Nat) (top : BitVec 16) : Bool :=
  if ty = 3 then !top.getLsbD 15
  else if ty = 1 then top.toNat < 32
  else top == 0#16

/-- Flits that ACK reports received leave the retry buffer (R461). -/
def ackRetry (ack : Nat) (q : List (Nat × OutFlit)) : List (Nat × OutFlit) :=
  if q.any (fun p => p.1 == ack) then (q.dropWhile (fun p => p.1 != ack)).drop 1 else q

/-- The TYPE of a received flit is the `ty` of its command and no reserved one (R459), and its CRC matches, its SUB being
`sub` (R460). -/
def flitIntact (f : Flit) (ty sub : Nat) : Bool :=
  let h := w64 (ty + sub * 2 ^ 4 + f.fseq.toNat * 2 ^ 8 + f.ack.toNat * 2 ^ 20 + f.limit.toNat * 2 ^ 32 + f.top.toNat * 2 ^ 48)
  f.reserved.isNone && (flitWords h f.words).getD 7 0#64 == f.crc

/-- What every flit of TYPE `ty` and SUB `sub` does on an UP link before its content: it fails, or is discarded, or its
ACK and LIMIT count and, if it is sequenced, its FSEQ is the one expected (R460 to R462). Answers whether its content is
taken. -/
def State.flitTaken (s : State) (l : Nat) (f : Flit) (ty sub : Nat) : State × Bool :=
  let x := s.link l
  let seqd := ty == 1 || ty == 2 || ty == 3
  if s.linkUp l = false then (s, false)
  else if flitIntact f ty sub = false ∨ topOk ty f.top = false then (s.flitFail l, false)
  else if seqd = true ∧ f.fseq.toNat ≠ x.expect % 4096 then (s, false)
  else if seqd = false ∧ x.failing = true then (s, false)
  else
    let s := if seqd && x.failing then s.satAdd (Reg.RTL_LINK_ERR l) 15 0 1 else s
    let s := s.setLink l { x with
      retry := ackRetry f.ack.toNat x.retry
      limit := f.limit.toNat
      expect := if seqd then x.expect + 1 else x.expect
      failing := false }
    (s, true)

/-- A flit taken, and what its ACK and LIMIT let go sent. -/
def State.flitIn (s : State) (l : Nat) (f : Flit) (ty sub : Nat) : State × Bool :=
  match s.flitTaken l f ty sub with
  | (s, true) => (s.pumpLink l, true)
  | r => r

/-- IDLE: only its ACK and LIMIT count. -/
def State.rtlIdle (s : State) (l : Nat) (f : Flit) : State := (s.flitIn l f 0 0).1

/-- NAK received: every flit from the expected FSEQ is sent again in order, and then the link goes on (R462). -/
def State.rtlNak (s : State) (l : Nat) (f : Flit) : State :=
  match s.flitTaken l f 5 0 with
  | (s, false) => s
  | (s, true) =>
    let n := field (f.words.headD 0#64) 11 0
    (((s.link l).retry.dropWhile (fun p => p.1 != n)).foldl (fun s p => s.sendFlit l p.1 p.2) s).pumpLink l

/-! ### Training (R455, R456) -/

/-- Word `k` of a flit's payload, from 1. -/
def wordOf (f : Flit) (k : Nat) : W64 := f.words.getD (k - 1) 0#64

/-- The first `w` lanes of link entry `e`, its engine and their islands can train. -/
def State.linkReady (s : State) (e : List Byte) (w : Nat) : Bool :=
  s.domainOn (56 + byteN e 1) && s.flag (Reg.UST_ISL (23 + byteN e 1)) 0 && s.mode != 6
    && (List.range w).all (fun k =>
      let n := byteN e 2 + k
      let st := s.fld (Reg.LANE_STATE n) 2 0
      (st == 2 || st == 4) && s.laneUsable n && s.flag (Reg.UST_ISL (n / 8)) 0)

/-- The ROM tries link `l` at width 1 (R87). -/
def State.romNarrow (s : State) (l : Nat) : Bool := s.stage == 2 && s.fld (Reg.RTL_LINK_STATE l) 5 3 == 1

/-- The width at which link `l` of entry `e` is tried. -/
def State.triedWidth (s : State) (l : Nat) (e : List Byte) : Nat := if s.romNarrow l then 1 else byteN e 3

/-- A TRAIN flit on every lane on which link `l` is tried (R456, R459). No command carries the engine's clock, so its
count at transmission, word 2, is a free value; word 4 is that count less the one at which the peer's word 2 came, free
while none has come (log 20). -/
def State.sendTrain (s : State) (l : Nat) (e : List Byte) : State :=
  let x := s.link l
  let c := s.freeWord
  let d := match x.peerAt with
    | some p => (c.1 - p, c.2)
    | none => c.2.freeWord
  let w := s.triedWidth l e
  (List.range w).foldl (fun s k =>
    let w1 := byteN e 4 % 2 + w % 8 * 2 + k % 4 * 2 ^ 4 + s.fld Reg.HW_ROLE 1 0 * 2 ^ 6 + s.fld Reg.HW_ID 15 0 * 2 ^ 8
    let h := 6 + (x.expect + 4095) % 4096 * 2 ^ 20 + (x.freed + 256) % 65536 * 2 ^ 32
    let n := byteN e 2 + k
    let r := laneBlocks (smGet 0#58 s.rootlink.scramblers n) (flitWords (w64 h) [w64 w1, c.1, x.peerCount, d.1]) 1 0
    { s with
      out := .blocks n r.2 :: s.out
      rootlink := { s.rootlink with scramblers := smSet 0#58 s.rootlink.scramblers n r.1 } }) d.2

/-- The links that can begin an attempt send their TRAIN flits (R456 step 1). -/
def State.sendTrains (s : State) : State :=
  s.linkEntries.foldl (fun s e =>
    let l := byteN e 0
    if (s.linkState l = 1 ∨ s.linkState l = 3) ∧ (s.link l).trained = false ∧ s.linkReady e 1 = true then
      (s.updLink l (fun x => { x with trained := true })).sendTrain l e
    else s) s

/-- TRAIN: with the lanes locked and deskewed, its contents are compared, and they match or the link goes to MISMATCH;
with a round trip measured the link is UP, and until then it answers with its own TRAIN flits. A wider side trains at
width 1 with a peer of width 1, the ROM's link tried at width 1 among them (R87, R456). -/
def State.train (s : State) (l : Nat) (f : TrainFlit) : State :=
  match s.linkEntry l with
  | none => s
  | some e =>
    let a := Reg.RTL_LINK_STATE l
    let st := s.linkState l
    let rom := s.romNarrow l
    let w := s.triedWidth l e
    let word1 := wordOf f.flit 1
    let peer := field word1 3 1
    let one := (peer = 1 ∨ (rom = true ∧ (peer = 2 ∨ peer = 4))) ∧ field word1 5 4 = 0
    let width := if one then 1 else peer
    if (st ≠ 1 ∧ st ≠ 3) ∨ f.locked = false ∨ flitIntact f.flit 6 0 = false ∨ topOk 6 f.flit.top = false ∨ s.linkReady e 1 = false
      then s
    else if field word1 0 0 = byteN e 4 ∨ ¬(peer = w ∨ one) then s.setFld a 2 0 4
    else
      let s := s.updLink l (fun x => { x with peerCount := wordOf f.flit 2, peerAt := some f.cycles })
      if s.linkReady e width = false then s
      else if wordOf f.flit 3 = 0#64 then s.sendTrain l e
      else
        let lat := (f.cycles - wordOf f.flit 3 - wordOf f.flit 4).toNat * 32 / 25
        let s := (((s.setFld a 2 0 2).setFld a 5 3 width).setFld a 7 7 (byteN e 4)).setFld a 22 8 0
        let s := s.setFld (Reg.RTL_LINK_LAT l) 15 0 (min lat 65535)
        let s := (List.range width).foldl (fun s k =>
          let b := Reg.LANE_STATE (byteN e 2 + k)
          ((s.setFld b 2 0 3).setFld b 11 8 8).setFlag b 6 true) s
        let s := s.updLink l (fun x => { x.afterDown with limit := f.flit.limit.toNat })
        (s.countLinks).crossInc (23 + byteN e 1) (dev 186) 1

/-- An attempt of link `l` begins anew at the other rate (R455). -/
def State.trainAgain (s : State) (l : Nat) : State :=
  let a := Reg.RTL_LINK_STATE l
  ((s.setFld a 2 0 1).setFld a 6 6 (1 - s.fld a 6 6)).updLink l (fun x => { x with trained := false })

/-- LINK_TRAIN_TIMEOUT: the attempt is repeated at the other rate (R456). -/
def State.linkTrainTimeout (s : State) (l : Nat) : State :=
  if s.linkState l = 1 ∨ s.linkState l = 3 then s.trainAgain l else s

/-- LINK_MISMATCH_RETRY: a link in MISMATCH, an attempt that has failed, trains again (R455, R456). -/
def State.linkMismatchRetry (s : State) (l : Nat) : State := if s.linkState l = 4 then s.trainAgain l else s

/-- BOOT_LINK_ALTERNATE: the ROM turns from width 4 on lanes 88 to 91 to width 1 on lane 88, or back, and sends the TRAIN flits of a new attempt
(R87, R456). -/
def State.bootLinkAlternate (s : State) : State :=
  let a := Reg.RTL_LINK_STATE 0
  if s.stage ≠ 2 ∨ s.linkUp 0 = true then s
  else (((s.setFld a 5 3 (if s.fld a 5 3 = 1 then 4 else 1)).setFld a 2 0 1).setFld a 6 6 1).updLink 0
    (fun x => { x with trained := false })

/-! ### Routes (R467) -/

/-- Where traffic for device `dst` goes: here, on a link, or nowhere. -/
inductive Way where
  | here
  | link (l : Nat)
  | nowhere
deriving DecidableEq, Repr

/-- R467 for traffic that arrived on link `from_` (24: sent by this device). -/
def State.wayTo (s : State) (dst from_ : Nat) : Way :=
  let e := Reg.RTL_ROUTE dst
  if s.ownId = some dst then .here
  else if s.flag e 5 = true ∧ s.fld e 4 0 ≠ from_ then .link (s.fld e 4 0)
  else if s.isWorker then
    (match s.upstream with
    | some u => if u = from_ then .nowhere else .link u
    | none => .nowhere)
  else .nowhere

/-! ### Packets (R465 to R467) -/

/-- The DATA flits of a packet's words (R466). -/
def dataFlits (first : Bool) : Nat → List W64 → List OutFlit
  | 0, _ => []
  | fuel + 1, ws =>
    let last := ws.length ≤ 6
    ⟨1, 0, min 6 ws.length + b2n first * 8 + b2n last * 16, ws.take 6⟩ :: (if last then [] else dataFlits false fuel (ws.drop 6))

/-- A packet of the link's own egress queue `q` taken up, which gives the next turn to forwarding (R468). -/
def State.ownData (s : State) (l q : Nat) (ws : List W64) : State :=
  let p : OutPkt := ⟨none, some q, (dataFlits true ws.length ws).map (fun f => (f, false)), true, false⟩
  (s.updLink l (fun x => { x with data := some p, ownTurn := false })).pumpLink l

/-- A flit of the packet that link `l` forwards placed on link `k` (R467). -/
def State.forwardFlit (s : State) (k l : Nat) (f : RxFlit) : State :=
  let o : OutFlit × Bool := (⟨1, 0, f.words.length + b2n f.first * 8 + b2n f.last * 16, f.words⟩, f.slot)
  let add := fun (p : OutPkt) => if p.openFrom l then { p with flits := p.flits ++ [o], whole := f.last } else p
  (s.updLink k (fun x =>
    if f.first then { x with fwd := x.fwd ++ [⟨some l, none, [o], f.last, false⟩] }
    else { x with data := x.data.map add, fwd := x.fwd.map add })).pumpLink k

/-- DROPPED of link `l`. -/
def State.dropPacket (s : State) (l : Nat) : State := s.satAdd (Reg.RTL_LINK_ERR l) 63 48 1

/-- A packet for this device that begins on link `l` with route header `h`, classified as ingress of its engine (R295,
R296, R300, R467). -/
def State.openIngress (s : State) (l : Nat) (h : W64) : State × RxDest :=
  let e := s.linkEngine l
  match s.classify (96 + e) (s.enginePart e) (some (field h 25 14)) with
  | (s, .drop k) => (s, .drop k)
  | (s, .firebreak) => (s, .firebreak)
  | (s, .queue q i) => (s, .queue q i [])

/-- Words `ws` of a packet of link `l`, `n` of which have come before, handed to the QM, the first being the route header;
none while its queue in FULL_MODE WAIT has no cell for them, or memory that answers no access (R265, R287, R297, R463). -/
def State.putIngress (s : State) (l n : Nat) (ws : List W64) (d : RxDest) : Option (State × RxDest) :=
  match d with
  | .queue q i cells =>
    let h := ws.headD 0#64
    let first := w64 (field h 39 26 + field h 25 14 * 2 ^ 14 + (l % 32) * 2 ^ 26 + (i % 65536) * 2 ^ 48)
    if s.queueWaits q then none
    else match s.writeWords q cells (n + 1) (if n = 0 then first :: ws.drop 1 else ws) with
      | .ok s cells => some (s, .queue q i cells)
      | .noCell t => if (s.peekDesc q).drop then some (t.qmDrop 0, .gone) else none
      | .broken t => some (t.qmDrop 4, .gone)
  | _ => some (s, d)

/-- A packet of `len` words of link `l` has come whole: linked, or its drop counted (R288, R296). -/
def State.endIngress (s : State) (l len : Nat) (d : RxDest) : State :=
  match d with
  | .queue q _ cells => s.linkIngress q (96 + l) len cells
  | .drop k => s.qmDrop k
  | .firebreak => s.ingressRefused
  | .gone => s

/-- The flits and words of a packet of LENGTH `len` agree with it, when `flits` have brought `words` of it, the last one
among them if `last` (R466). -/
def lengthOk (len words flits : Nat) (last : Bool) : Bool :=
  let need := (len + 6) / 6
  if last then decide (words = len + 1 ∧ flits = need) else decide (words ≤ len ∧ flits < need)

/-- What becomes of a packet of link `l` with route header `h` (R466, R467). -/
def State.packetWay (s : State) (l : Nat) (h : W64) : RxPkt :=
  let len := field h 51 40
  if len = 0 ∨ 2047 < len ∨ field h 63 52 ≠ 0 then .drop
  else match s.wayTo (field h 13 0) l with
    | .nowhere => .drop
    | .here => .own [] 0 .gone
    | .link k =>
      if s.linkUp k = false ∨ s.isolated = true
          ∨ s.enginePart (s.linkEngine k) ≠ s.enginePart (s.linkEngine l) then .drop
      else .forward k len 0 0

/-- The packet of link `l` in passing set. -/
def State.setCur (s : State) (l : Nat) (c : Option RxPkt) : State := s.updLink l (fun x => { x with cur := c })

/-- The slot of a flit that has been passed on or discarded. -/
def State.freeSlotOf (s : State) (l : Nat) (f : RxFlit) : State := if f.slot then s.freeFlits l 1 else s

/-- Flit `f` of link `l` discarded, with the rest of its packet. -/
def State.dropFlit (s : State) (l : Nat) (f : RxFlit) : State :=
  (s.setCur l (if f.last then none else some .drop)).freeSlotOf l f

/-- Flit `f` passed on as part of packet `c` of link `l` (R466, R467); none while a cut holds it (R478) or its queue has
no room (R463). A packet whose forwarding link has gone down meanwhile is discarded (R464). -/
def State.passFlit (s : State) (l : Nat) (f : RxFlit) (c : RxPkt) : Option State :=
  let held := f.cut && s.rootlink.cutting.isSome
  match c with
  | .drop => some (s.dropFlit l f)
  | .own ws n d =>
    let all := ws ++ f.words
    if f.words.isEmpty || !lengthOk (field (all.headD 0#64) 51 40) all.length (n + 1) f.last then
      some (((s.giveUp l c).dropPacket l).dropFlit l f)
    else if f.last && held then none
    else (s.putIngress l ws.length f.words d).map (fun r =>
      if f.last then ((r.1.endIngress l all.length r.2).setCur l none).freeSlotOf l f
      else (r.1.setCur l (some (.own all (n + 1) r.2))).freeSlotOf l f)
  | .forward k len w n =>
    let w := w + f.words.length
    let out := s.link k
    if f.words.isEmpty || !lengthOk len w (n + 1) f.last then
      some (((s.abandonOut k l).dropPacket l).dropFlit l f)
    else if !s.linkUp k || (!f.first && !(out.data.toList ++ out.fwd).any (fun p => p.openFrom l)) then
      some (s.dropFlit l f)
    else if f.first && held then none
    else some ((s.setCur l (if f.last then none else some (.forward k len w (n + 1)))).forwardFlit k l f)

/-- Flit `f` of link `l` passed on as the first of packet `c`; a packet that is discarded counts in DROPPED. -/
def State.passAnew (s : State) (l : Nat) (f : RxFlit) (c : RxPkt) : Option State :=
  if c = .drop then some ((s.dropPacket l).dropFlit l f) else s.passFlit l f c

/-- A packet of link `l` cut short by the first flit of another (R466). -/
def State.cutShort (s : State) (l : Nat) : State :=
  match (s.link l).cur with
  | none => s
  | some .drop => s.setCur l none
  | some c => ((s.giveUp l c).dropPacket l).setCur l none

/-- The packet for this device whose first flit link `l` has not passed on yet, though it has been classified. -/
def RxPkt.justBegun (c : RxPkt) : Bool :=
  match c with
  | .own _ 0 _ => true
  | _ => false

/-- What the oldest flit of link `l` that begins a packet decides of it: for this device, its ingress (R300). -/
def State.beginPacket (s : State) (l : Nat) (f : RxFlit) : State :=
  let s := if f.first && !(s.link l).cur.any RxPkt.justBegun then s.cutShort l else s
  match (s.link l).cur, s.packetWay l (f.words.headD 0#64) with
  | none, .own ws n _ =>
    if f.first && !f.words.isEmpty then
      let r := s.openIngress l (f.words.headD 0#64)
      r.1.setCur l (some (.own ws n r.2))
    else s
  | _, _ => s

/-- The oldest DATA flit of link `l` that has not been passed on, once it may pass: one that begins a packet decides
where the packet goes; one without a packet is discarded, its run counted in DROPPED once (R466). -/
def State.passOne (s : State) (l : Nat) : Option State :=
  match (s.link l).rx with
  | [] => none
  | f :: fs =>
    let r := match (s.link l).cur with
      | some c => s.passFlit l f c
      | none => s.passAnew l f (if f.first && !f.words.isEmpty then s.packetWay l (f.words.headD 0#64) else .drop)
    r.map (fun t => t.updLink l (fun x => { x with rx := fs }))

/-- The oldest DATA flit of link `l` begun, and passed on if it may be. -/
def State.passNext (s : State) (l : Nat) : State :=
  match (s.link l).rx with
  | [] => s
  | f :: _ => let t := s.beginPacket l f; (t.passOne l).getD t

/-- DATA flits of link `l` pass in order (R294). -/
def State.passWaiting (s : State) (l : Nat) : State := iter (s.link l).rx.length (fun s => s.passNext l) s

/-- DATA received on link `l` (R463, R466, R467). -/
def State.rtlData (s : State) (l : Nat) (f : Flit) : State :=
  match s.flitIn l f 1 0 with
  | (s, false) => s
  | (s, true) =>
    if s.isolated then s.freeFlits l 1
    else
      let nw := f.top.toNat % 8
      let r : RxFlit := {
        first := f.top.getLsbD 3
        last := f.top.getLsbD 4
        words := if nw = 7 then [] else f.words.take nw
        cut := s.rootlink.cutting.isSome
        slot := true }
      (s.updLink l (fun x => { x with rx := x.rx ++ [r] })).passWaiting l

/-- EGRESS_TAKE of link `l`: the next packet of its bound queues is sent, or discarded as malformed (R298, R465), when no
packet is being sent and it is their turn (R468). -/
def State.egressLink (s : State) (l : Nat) : State :=
  match s.ownId with
  | none => s
  | some own =>
    if s.linkUp l = false ∨ s.isolated = true ∨ (s.link l).free = false
        ∨ ((s.link l).fwd.isEmpty = false ∧ (s.link l).ownTurn = false) then s
    else match s.egTake true l with
      | (s, none) => s
      | (s, some (q, ws)) =>
        let h := ws.headD 0#64
        let n := ws.length - 1
        if field h 63 26 ≠ 0 ∨ n = 0 ∨ field h 13 0 = own then s.qmDrop 6
        else s.ownData l q (w64 (field h 25 0 + own * 2 ^ 26 + n * 2 ^ 40) :: ws.drop 1)

/-! ### Control flits (R469 to R474) -/

/-- A message for the mailbox (R470). -/
def State.mailPush (s : State) (sub l : Nat) (words : List W64) : State :=
  if 16 ≤ s.rootlink.mailbox.length then s.setFlag Reg.RTL_MBOX_STATUS 5 true
  else { s with rootlink := { s.rootlink with mailbox := s.rootlink.mailbox ++ [⟨sub, l, words⟩] } }

/-- MBOX_POP: 1 removes the oldest message. -/
def State.mboxPop (s : State) (v : W64) : State :=
  if bit v 0 then { s with rootlink := { s.rootlink with mailbox := s.rootlink.mailbox.drop 1 } } else s

/-- A CTRL flit of subtype `sub` accepted on link `l`: its slot is freed, a flit from the peer names the peer's ID, and
one that is for another device is sent on (R467, R469). Answers whether this device handles it: JOIN and ASSIGN are
handled on every hop. -/
def State.ctrlIn (s : State) (l : Nat) (f : Flit) (sub : Nat) : State × Bool :=
  match s.flitIn l f 3 sub with
  | (s, false) => (s, false)
  | (s, true) =>
    let s := s.freeFlits l 1
    let hop := f.top.getLsbD 14
    let w := f.words.headD 0#64
    let a := Reg.RTL_LINK_STATE l
    let s := if hop && bit w 14 then (s.setFld a 21 8 (field w 13 0)).setFlag a 22 true else s
    if hop ∨ sub = 1 ∨ sub = 2 then (s, true)
    else match s.wayTo (f.top.toNat % 2 ^ 14) l with
      | .here => (s, true)
      | .link k => (if k = l then s else s.queueCtrl k ⟨3, sub, f.top.toNat, f.words⟩, false)
      | .nowhere => (s, false)

/-- JOIN (R472): the arrival link enters PATH, and the flit goes on to ID 0; the manager's mailbox takes it. -/
def State.rtlJoin (s : State) (l : Nat) (f : Flit) : State :=
  match s.ctrlIn l f 1 with
  | (s, false) => s
  | (s, true) =>
    if s.isManager = false ∧ s.ownId = none then s
    else
      let path := (field (wordOf f 2) 24 0 * 32 + l) % 2 ^ 25
      let len := (field (wordOf f 2) 27 25 + 1) % 8
      let ws := [wordOf f 1, w64 (path + len * 2 ^ 25), wordOf f 3, wordOf f 4, wordOf f 5, wordOf f 6]
      if s.isManager then s.mailPush 1 l ws
      else match s.wayTo 0 l with
        | .link k => s.queueCtrl k ⟨3, 1, 0, ws⟩
        | _ => s

/-- Element `i` of a PATH (R472). -/
def pathElement (path i : Nat) : Nat := path / 32 ^ i % 32

/-- The route entry of device `x` set to link `l` (R472). -/
def State.setRoute (s : State) (x l : Nat) : State :=
  (s.setFld (Reg.RTL_ROUTE x) 4 0 l).setFlag (Reg.RTL_ROUTE x) 5 true

/-- What an isolated device keeps on a link: CTRL flits alone, sent or to be sent, and no packet received (R472). -/
def Link.isolated (x : Link) : Link :=
  { x with
    ctrl := x.ctrl.filter (fun f => f.ty == 3)
    retry := x.retry.filter (fun p => p.2.ty == 3)
    data := none
    fwd := []
    rx := []
    cur := none
    freed := x.freed + (x.rx.filter (fun f => f.slot)).length }

/-- The device is ISOLATED until PORST_N: packets and BLAZE flits neither leave nor count (R472). -/
def State.isolate (s : State) : State :=
  let s := (s.setFlag Reg.RTL_STATUS 13 true).crossInc (23 + s.linkEngine (s.upstream.getD 0)) (dev 186) 1
  let held := s.rootlink.links.flatMap (fun p => (p.2.data.toList ++ p.2.fwd).filterMap (fun o =>
    o.src.map (fun j => (j, (o.flits.filter (fun f => f.2)).length))))
  let s := held.foldl (fun s h => s.freeFlits h.1 h.2) s
  let s := s.rootlink.links.foldl (fun s p => match p.2.cur with
    | some c => s.giveUp p.1 c
    | none => s) s
  { s with rootlink := { s.rootlink with links := s.rootlink.links.map (fun p => (p.1, p.2.isolated)) } }

/-- NEG_OFFER sent to the manager by a worker in RUN that has joined and whose negotiation is unlocked, whenever it comes
to be so with its upstream link UP (R474, log 31). -/
def State.sendOffer (s : State) : State :=
  let offered := fun (s : State) b => ({ s with rootlink := { s.rootlink with offered := b } } : State)
  match s.upstream with
  | some u =>
    if s.mode ≠ 3 ∨ s.isWorker = false ∨ s.ownId = none ∨ s.linkUp u = false then
      (if s.rootlink.offered then offered s false else s)
    else if s.rootlink.offered = true ∨ s.flag Reg.NEG_LOCK 0 = true then s
    else (offered s true).queueCtrl u (s.ctrlFlit 7 false 0 [s.rd (Reg.NEG_OFFER 0), s.rd (Reg.NEG_OFFER 1)])
  | none => s

/-- The target of an ASSIGN takes its ID; at level 5 its downstream links, which it does not train, go to DEPTH and their
lanes down (R471, R472). -/
def State.takeId (s : State) (id len : Nat) : State :=
  let a := Reg.HW_ROLE
  let s := ((s.setFld a 21 8 id).setFld a 24 22 len).setFlag a 3 true
  if len = 5 then ((List.range 24).filter s.isDown).foldl (fun s l => (s.linkDown l 5).linkFalls l) s else s

/-- ASSIGN (R472). During STRUCTURE the role is not settled and the device has asked for no ID: it takes none (R34, R35;
log 114). -/
def State.rtlAssign (s : State) (l : Nat) (f : Flit) : State :=
  match s.ctrlIn l f 2 with
  | (s, false) => s
  | (s, true) =>
    let path := field (wordOf f 2) 24 0
    let len := field (wordOf f 2) 27 25
    let id := field (wordOf f 3) 13 0
    if s.isWorker = false ∨ s.mode = 2 ∨ s.upstream ≠ some l then s
    else match s.ownId with
      | none => if len = 0 ∨ 5 < len then s else s.takeId id len
      | some own =>
        if s.level < len then
          let k := pathElement path s.level
          (s.setRoute id k).queueCtrl k ⟨3, 2, f.top.toNat, f.words⟩
        else if s.level = len ∧ own ≠ id then s.isolate
        else s

/-- MSG, or a CTRL flit of a subtype that R469 does not define, which is routed as any other and discarded where it is
handled. -/
def State.rtlMsg (s : State) (l : Nat) (f : Flit) : State :=
  let sub := f.sub.toNat
  if 1 ≤ sub ∧ sub ≤ 10 then s
  else match s.ctrlIn l f sub with
    | (s, false) => s
    | (s, true) => if sub = 11 then s.mailPush 11 l f.words else s

/-- A flit that the mailbox of this device takes when `ok` holds (R469). -/
def State.toMailbox (s : State) (l : Nat) (f : Flit) (sub : Nat) (ok : State → Bool) : State :=
  match s.ctrlIn l f sub with
  | (s, false) => s
  | (s, true) => if ok s then s.mailPush sub l f.words else s

/-- BOOT_DATA (R474): 32 image bytes into the staging area, while the ROM waits for a Rootlink link. -/
def State.rtlBootData (s : State) (l : Nat) (f : Flit) : State :=
  match s.ctrlIn l f 4 with
  | (s, false) => s
  | (s, true) =>
    if s.stage ≠ 2 then s
    else
      let o := field (wordOf f 2) 31 8 / 32 * 32
      let data := [3, 4, 5, 6].flatMap (fun k => bytesLE 8 (wordOf f k).toNat)
      if bit (wordOf f 2) 0 then s.engineWrite .heartwood (groveMemBase (o / 2 ^ 21) + o % 2 ^ 21) data
      else if o < 2 ^ 21 then s.engineWrite .heartwood (groveMemBase 8 + o) data
      else s

/-- JOIN_SEND: a worker in RUN without an ID asks for one (R472). -/
def State.joinSend (s : State) : State :=
  match s.upstream with
  | some u =>
    if s.mode = 3 ∧ s.isWorker = true ∧ s.ownId = none then
      s.queueCtrl u (s.ctrlFlit 1 true 0 [0#64, 0#64, s.rd Reg.HW_ID])
    else s
  | none => s

/-- BOOT_REQ_SEND: the ROM asks on its trained link (R474). -/
def State.bootReqSend (s : State) : State :=
  if s.stage = 2 then s.queueCtrl 0 (s.ctrlFlit 3 true 0 [s.rd Reg.HW_ID]) else s

/-! ### Time (R475) -/

/-- TIME_SYNC_SEND on a downstream link. -/
def State.timeSyncSend (s : State) (l : Nat) : State :=
  if s.linkUp l && s.isDown l then s.sendFlit l 0 ⟨4, 1, 0, [s.time.count]⟩ else s

/-- SYNC received: t2, and a REQ with t3 at once. -/
def State.timeSync (s : State) (l : Nat) (f : Flit) : State :=
  match s.flitIn l f 4 1 with
  | (s, false) => s
  | (s, true) =>
    if s.upstream ≠ some l then s
    else
      let t := s.time.count
      (s.updLink l (fun x => { x with exchange := some (wordOf f 1, t, t) })).sendFlit l 0 ⟨4, 2, 0, [t]⟩

/-- REQ received: t4, and a RESP. -/
def State.timeReq (s : State) (l : Nat) (f : Flit) : State :=
  match s.flitIn l f 4 2 with
  | (s, false) => s
  | (s, true) => if s.isDown l then s.sendFlit l 0 ⟨4, 3, 0, [s.time.count, wordOf f 1]⟩ else s

/-- RESP received: t1 to t4 of the exchange it answers, and SEQ. -/
def State.timeResp (s : State) (l : Nat) (f : Flit) : State :=
  match s.flitIn l f 4 3 with
  | (s, false) => s
  | (s, true) =>
    match (s.link l).exchange with
    | some (t1, t2, t3) =>
      if wordOf f 2 ≠ t3 then s
      else
        let s := (((s.wr (Reg.RTL_TIME_T 0) t1).wr (Reg.RTL_TIME_T 1) t2).wr (Reg.RTL_TIME_T 2) t3).wr
          (Reg.RTL_TIME_T 3) (wordOf f 1)
        (s.wr Reg.RTL_TIME_SEQ (s.rd Reg.RTL_TIME_SEQ + 1#64)).updLink l (fun x => { x with exchange := none })
    | none => s

/-! ### The Blaze (R476 to R483) -/

/-- The device may take a cut (R483). -/
def State.mayCut (s : State) : Bool := s.accepted 7 && [3, 4, 5, 11, 12].contains s.mode

/-- A cut begun: CUT_TIME, and the holds (R478 step 1). -/
def State.startCut (s : State) (id : Nat) (links : List Nat) : State :=
  let s := (s.wr Reg.RTL_BLAZE_CUT s.time.delivered).setFlag Reg.RTL_BLAZE_STATUS 3 false
  { s with rootlink := { s.rootlink with cutting := some (id, links) } }

/-- Every run whose own Blaze is complete and whose answers are in is finished: a worker reports upstream, the manager
in its status (R482). -/
def State.pollBlaze (s : State) : State :=
  let done := s.rootlink.runs.filter (fun r => r.raised && r.answers.isEmpty)
  let s := { s with rootlink := { s.rootlink with
    runs := s.rootlink.runs.filter (fun r => !(r.raised && r.answers.isEmpty)) } }
  done.foldl (fun s r =>
    if s.isManager then
      (s.setFld Reg.RTL_BLAZE_STATUS 46 32 r.devices).setFld Reg.RTL_BLAZE_STATUS 62 48 r.missing
    else match s.upstream with
      | some u => s.queueCtrl u (s.ctrlFlit 10 true 0 [w64 r.id, w64 (r.devices % 2 ^ 15 + r.missing % 2 ^ 15 * 2 ^ 16)])
      | none => s) s

/-- A run updated. -/
def State.updRun (s : State) (id : Nat) (f : BlazeRun → BlazeRun) : State :=
  { s with rootlink := { s.rootlink with runs := s.rootlink.runs.map (fun r => if r.id = id then f r else r) } }

/-- A BLAZE flit with ID `id` of link `l` (R478, R479, R482, R483). -/
def State.blazeFlit (s : State) (l id : Nat) : State :=
  if id ≤ (s.rd Reg.RTL_BLAZE_LAST).toNat then
    s.updRun id (fun r => { r with flits := r.flits.filter (fun k => k != l) })
  else match s.rootlink.cutting with
    | some (c, ls) =>
      if id = c then { s with rootlink := { s.rootlink with cutting := some (c, ls ++ [l]) } }
      else if s.isManager then s
      else { s with rootlink := { s.rootlink with later := s.rootlink.later ++ [(id, l)] } }
    | none =>
      if s.isManager then s
      else if s.mayCut then s.startCut id [l]
      else s.setFlag Reg.RTL_BLAZE_STATUS 3 true

/-- BLAZE received. -/
def State.rtlBlaze (s : State) (l : Nat) (f : Flit) : State :=
  match s.flitIn l f 2 0 with
  | (s, false) => s
  | (s, true) =>
    let s := s.freeFlits l 1
    if s.isolated then s else s.blazeFlit l (wordOf f 1).toNat

/-- What a cut held is passed on once it has ended, and what waited for room or for its turn is tried again (R287, R468,
R478). -/
def State.releaseRootlink (s : State) : State :=
  let s := match s.rootlink.cutting with
    | some _ => s
    | none =>
      let held := s.rootlink.held
      let s := { s with rootlink := { s.rootlink with held := [] } }
      held.foldl (fun s h => match h with | HeldIn.frame l d t q i => s.frameLink l d t q i) s
  let s := (s.rootlink.links.map (fun p => p.1)).foldl (fun s l => (s.passWaiting l).pumpLink l) s
  match s.rootlink.cutting with
  | some _ => s
  | none =>
    let later := s.rootlink.later
    let s := { s with rootlink := { s.rootlink with later := [] } }
    later.foldl (fun s p => s.blazeFlit p.2 p.1) s

/-- Every journal of the applied Stand Map with its entry. -/
def State.allJournals (s : State) : List (Nat × JCfg) :=
  s.journalEntries.filterMap (fun e => (s.jcfg (leN e 0 2)).map (fun c => (leN e 0 2, c)))

/-- The BLAZE record of Blaze `id` placed in every OPEN journal (R343, R345): the persistent journals that received it,
and whether one could not. -/
def State.placeBlaze (s : State) (id : Nat) : State × List Nat × Bool :=
  let body := bytesLE 8 id ++ bytesLE 8 (s.rd Reg.RTL_BLAZE_CUT).toNat ++ bytesLE 2 (s.fld Reg.HW_ROLE 21 8)
    ++ bytesLE 1 s.level ++ List.replicate 5 0#8
  s.allJournals.foldl (fun (acc : State × List Nat × Bool) p =>
    if acc.1.jstate p.1 ≠ 2 then acc
    else match acc.1.append p.1 p.2 4 jwSrc 0 body false .none with
      | (s, some _) =>
        if p.2.ring then (s, acc.2)
        else (s.issueFlush p.1 p.2 0 (.blaze id), acc.2.1 ++ [p.1], acc.2.2)
      | (s, none) => (s, acc.2.1, true)) (s, [], false)

/-- CUT_POINT (R478 steps 3 and 4): records, BLAZE flits ahead of everything unsent on every UP link, LAST_ID, the end
of the holds. -/
def State.cutPoint (s : State) : State :=
  match s.rootlink.cutting with
  | none => s
  | some (id, arrived) =>
    let s := s.satAdd Reg.RTL_BLAZE_STATUS 31 16 (id - (s.rd Reg.RTL_BLAZE_LAST).toNat - 1)
    let r := s.placeBlaze id
    let s := r.1.wr Reg.RTL_BLAZE_LAST (w64 id)
    let ups := s.upLinks
    let run : BlazeRun := {
      id := id
      journals := r.2.1
      flits := ups.filter (fun l => !arrived.contains l)
      answers := ups.filter s.isDown
      devices := 1
      missing := b2n r.2.2
      raised := false }
    let s := { s with rootlink := { s.rootlink with cutting := none, runs := s.rootlink.runs ++ [run] } }
    let s := if s.isolated then s else ups.foldl (fun s l =>
      (s.updLink l (fun x => { x with ctrl := ⟨2, 0, 0, [w64 id]⟩ :: x.ctrl })).pumpLink l) s
    s.releaseRootlink

/-- The device's own Blaze is complete (R482). -/
def State.blazeDoneHere (s : State) (r : BlazeRun) : Bool :=
  r.flits.isEmpty && r.journals.all (fun j => s.jw.blazed.contains (j, r.id))

/-- BLAZE_COMPLETE: the oldest Blaze that is complete here and not reported raises BLAZE (R482). -/
def State.blazeComplete (s : State) : State :=
  match s.rootlink.runs.find? (fun r => !r.raised && s.blazeDoneHere r) with
  | none => s
  | some r =>
    let s := { s with jw := { s.jw with blazed := s.jw.blazed.filter (fun p => p.2 != r.id) } }
    ((s.tallyInc (dev 184) 1).updRun r.id (fun r => { r with raised := true })).pollBlaze

/-- BLAZE_DONE received (R482). -/
def State.rtlBlazeDone (s : State) (l : Nat) (f : Flit) : State :=
  match s.ctrlIn l f 10 with
  | (s, false) => s
  | (s, true) =>
    (s.updRun (wordOf f 2).toNat (fun r =>
      if r.answers.contains l then
        { r with
          answers := r.answers.filter (fun k => k != l)
          devices := r.devices + field (wordOf f 3) 14 0
          missing := r.missing + field (wordOf f 3) 30 16 }
      else r)).pollBlaze

/-- BLAZE_DONE_TIMEOUT: the oldest Blaze that still waits for answers counts them missing (R482). -/
def State.blazeTimeout (s : State) : State :=
  match s.rootlink.runs.find? (fun r => !r.answers.isEmpty) with
  | none => s
  | some r => (s.updRun r.id (fun r => { r with missing := r.missing + r.answers.length, answers := [] })).pollBlaze

/-- A trigger at the manager (R476): an initiation is pending. -/
def State.blazeTrigger (s : State) : State :=
  if s.isManager && s.accepted 7 then s.setFlag Reg.RTL_BLAZE_STATUS 2 true else s

/-- A request of a worker, merged with one that still waits to be sent (R477). -/
def State.blazeAsk (s : State) : State :=
  match s.upstream with
  | some u =>
    if s.isWorker = false ∨ s.accepted 7 = false ∨ (s.link u).ctrl.any (fun f => f.sub == 9) = true then s
    else s.queueCtrl u (s.ctrlFlit 9 true 0 [])
  | none => s

/-- BLAZE_REQ received. -/
def State.rtlBlazeReq (s : State) (l : Nat) (f : Flit) : State :=
  match s.ctrlIn l f 9 with
  | (s, false) => s
  | (s, true) => if s.isManager then s.blazeTrigger else if s.isDown l then s.blazeAsk else s

/-- BLAZE_PERIOD: PERIOD_MS has passed since the last initiation (R476). -/
def State.blazePeriod (s : State) : State :=
  if s.fld Reg.RTL_BLAZE_CFG 15 0 = 0 then s else s.blazeTrigger

/-- BLAZE_SYNC_EDGE: with SYNC_IN a trigger, or a request unless this device drove the edge (R476, R477). -/
def State.blazeEdge (s : State) : State :=
  let own := s.board.syncOut
  let s := { s with board := { s.board with syncOut := false } }
  if s.flag Reg.RTL_BLAZE_CFG 16 = false then s
  else if s.isManager then s.blazeTrigger
  else if own then s else s.blazeAsk

/-- BLAZE_INITIATE (R476): the pending initiation takes NEXT_ID and begins its cut, or is skipped where none may be
taken (R483). -/
def State.blazeInitiate (s : State) : State :=
  let last := s.rootlink.lastStart
  if s.isManager = false ∨ s.accepted 7 = false ∨ s.flag Reg.RTL_BLAZE_STATUS 2 = false
      ∨ s.rootlink.cutting.isSome = true ∨ (last ≠ 0 ∧ s.now + 1 < last + 1000000) then s
  else
    let id := s.rd Reg.RTL_BLAZE_NEXT
    let s := (s.setFlag Reg.RTL_BLAZE_STATUS 2 false).wr Reg.RTL_BLAZE_NEXT (id + 1#64)
    let s := { s with rootlink := { s.rootlink with lastStart := s.now + 1 } }
    if s.mayCut = false ∨ id.toNat ≤ (s.rd Reg.RTL_BLAZE_LAST).toNat then s.setFlag Reg.RTL_BLAZE_STATUS 3 true
    else s.startCut id.toNat []

/-! ### `RTL_CMD` -/

/-- The command of `RTL_CMD` in progress completes once no CTRL flit waits on its link (log 31). -/
def State.endCommand (s : State) : State :=
  match s.rootlink.command with
  | none => s
  | some l =>
    if (s.link l).ctrl.isEmpty then
      { s.setFld Reg.RTL_CMD 63 62 0 with rootlink := { s.rootlink with command := none } }
    else s

/-- A command of `RTL_CMD` written as `v` with OP `op`: GO is ignored while BUSY is set. It completes with the CODE that
`k` answers, within its step unless its flits have to wait on their link, which `k` answers too; then BUSY and GO stay
set until they have left (log 31). -/
def State.rtlCmd (s : State) (v : W64) (op : Nat) (k : State → State × Nat × Option Nat) : State :=
  let w := setField (setField v 3 0 op) 63 24 0
  let s := s.wr Reg.RTL_CMD (setField w 63 62 (s.fld Reg.RTL_CMD 63 62))
  if s.rootlink.command.isSome then s
  else
    let r := k s
    let s := r.1.setFld Reg.RTL_CMD_STATUS 3 0 r.2.1
    match r.2.2 with
    | some l =>
      if (s.link l).ctrl.isEmpty then s
      else { s.setFld Reg.RTL_CMD 63 62 3 with rootlink := { s.rootlink with command := some l } }
    | none => s

/-- A CTRL flit sent as `v` names it: by HOP on LINK, or routed to DST. -/
def State.rtlSend (s : State) (v : W64) (sub : Nat) (words : List W64) : State × Nat × Option Nat :=
  let dst := field v 23 10
  if bit v 9 then
    let l := field v 8 4
    if s.linkUp l then (s.queueCtrl l (s.ctrlFlit sub true dst words), 0, some l) else (s, 1, none)
  else match s.wayTo dst 24 with
    | .here => (s, 2, none)
    | .nowhere => (s, 5, none)
    | .link k => if s.linkUp k then (s.queueCtrl k (s.ctrlFlit sub false dst words), 0, some k) else (s, 1, none)

/-- The five arguments. -/
def State.rtlArgs (s : State) : List W64 := (List.range 5).map (fun k => s.rd (Reg.RTL_CMD_ARG k))

/-- ASSIGN at the manager (R472). -/
def State.rtlAssignCmd (s : State) (v : W64) : State :=
  s.rtlCmd v 1 (fun s =>
    let path := s.fld (Reg.RTL_CMD_ARG 0) 24 0
    let len := s.fld (Reg.RTL_CMD_ARG 0) 27 25
    let id := s.fld (Reg.RTL_CMD_ARG 1) 13 0
    let k := pathElement path 0
    if s.isManager = false then (s, 3, none)
    else if id = 0 ∨ len = 0 ∨ 5 < len then (s, 2, none)
    else if s.flag (Reg.RTL_ROUTE id) 5 = true ∧ s.fld (Reg.RTL_ROUTE id) 4 0 ≠ k then (s, 4, none)
    else if s.linkUp k = false then (s, 1, none)
    else ((s.setRoute id k).queueCtrl k (s.ctrlFlit 2 true 0 s.rtlArgs), 0, some k))

/-- BLAZE_START: a trigger, at the manager only (R476). -/
def State.blazeStartCmd (s : State) (v : W64) : State :=
  s.rtlCmd v 2 (fun s => if s.isManager && s.accepted 7 then (s.blazeTrigger, 0, none) else (s, 3, none))

/-- BLAZE_REQUEST: a worker's request, and with SYNC_OUT a pulse on BLAZE_SYNC (R477, R486). -/
def State.blazeRequestCmd (s : State) (v : W64) : State :=
  s.rtlCmd v 3 (fun s =>
    if s.isWorker = false ∨ s.accepted 7 = false then (s, 3, none)
    else
      let s := if s.flag Reg.RTL_BLAZE_CFG 17 then { s with board := { s.board with syncOut := true } } else s
      match s.upstream with
      | some u => if s.linkUp u then (s.blazeAsk, 0, some u) else (s, 1, none)
      | none => (s, 1, none))

/-- The BOOT_DATA flits of an image (R469). -/
def bootFlits (s : State) (target : Nat) (k : Nat) (data : List Byte) : Nat → List OutFlit
  | 0 => []
  | n + 1 =>
    let bs := data.take 32
    s.ctrlFlit 4 true 0 (w64 (target + 32 * k * 2 ^ 8) :: (List.range 4).map (fun i => w64 (ofBytesLE ((bs.drop (8 * i)).take 8))))
      :: bootFlits s target (k + 1) (data.drop 32) n

/-- `n` bytes of memory from `a` as BOOT_SEND reads them, in the Heartwood's name: a refused access is recorded (R28). -/
def State.bootImage (s : State) (a n : Nat) : State × Except Nat (List Byte) :=
  match (s.accessCheck .heartwood false a (min n 8) 0#64).or (s.engineRefuses (canon .heartwood a) n) with
  | some d => (s.recordRefusal .heartwood a d, .error d)
  | none =>
    if s.regionOf a = .flash then (s, .ok (s.flashBytesAt (a - 0x600000000) n)) else s.readMem .heartwood (canon .heartwood a) n

/-- BOOT_SEND: an image in this device's memory or flash sent to the child on LINK (R23, R474). -/
def State.bootSendCmd (s : State) (v : W64) : State :=
  s.rtlCmd v 4 (fun s =>
    let l := field v 8 4
    let n := (s.rd (Reg.RTL_CMD_ARG 1)).toNat
    if n % 8 ≠ 0 ∨ 16777216 < n then (s, 2, none)
    else if s.linkUp l = false then (s, 1, none)
    else if n = 0 then (s, 0, none)
    else match s.bootImage (s.rd (Reg.RTL_CMD_ARG 0)).toNat n with
      | (s, .error _) => (s, 2, none)
      | (s, .ok data) =>
        ((s.updLink l (fun x => { x with
          ctrl := x.ctrl ++ bootFlits s (s.fld (Reg.RTL_CMD_ARG 2) 0 0) 0 data ((n + 31) / 32) })).pumpLink l, 0, some l))

/-- BOOT_END: the image lengths sent to the child on LINK (R474). -/
def State.bootEndCmd (s : State) (v : W64) : State :=
  s.rtlCmd v 5 (fun s =>
    let l := field v 8 4
    if s.linkUp l then (s.queueCtrl l (s.ctrlFlit 5 true 0 s.rtlArgs), 0, some l) else (s, 1, none))

/-- NEG_SET: accepted bits sent by a manager that has locked, masked by its own (R474). -/
def State.negSetCmd (s : State) (v : W64) : State :=
  s.rtlCmd v 6 (fun s =>
    if s.isManager = false ∨ s.flag Reg.NEG_LOCK 0 = false then (s, 3, none)
    else s.rtlSend v 8 (((s.rd (Reg.RTL_CMD_ARG 0)) &&& s.rd (Reg.NEG_ACCEPT 0))
      :: ((s.rd (Reg.RTL_CMD_ARG 1)) &&& s.rd (Reg.NEG_ACCEPT 1)) :: s.rtlArgs.drop 2))

/-- MSG: a message of the firmware (R469). -/
def State.msgCmd (s : State) (v : W64) : State := s.rtlCmd v 7 (fun s => s.rtlSend v 11 s.rtlArgs)

/-- An OP that is not defined (R469): 0 or 8 to 15. -/
def State.rtlBadOp (s : State) (v : W64) : State :=
  if 1 ≤ field v 3 0 ∧ field v 3 0 ≤ 7 then s else s.rtlCmd v (field v 3 0) (fun s => (s, 2, none))

end Sys2Proof.Machine
end

