-- ==== Sys2Proof/Machine/SafetyOps.lean ====
section
/-! DEFINITION. Starting, stopping and viewing Glades (R91, R95, R493), the watchdogs (R501 to R503), and the writes of
`SAF_FAULT` and `SAF_CTL` (R508, R510). -/

namespace Sys2Proof.Machine

/-! ### Starting (R91, R95) -/

/-- A feature that Glade `i` needs is accepted (R90): TICKET, LOCKSTEP, STACK. -/
def State.featuresFor (s : State) (i : Nat) : Bool :=
  (!s.ticketMode (i / 16) || s.accepted 3) && ((s.pairOf i).isNone || s.accepted 4) && (!s.stackMode i || s.accepted 5)

/-- Glade `i` may be started (R91, R95): enabled, not started, its Grove on and not fenced, the negotiation locked and
journal recovery complete; a worker's ID is known, since FEAT3 holds it unchanged from the first fetch (R92, log 114). -/
def State.mayStart (s : State) (i : Nat) : Bool :=
  let x := s.glade i
  s.buses i != 0 && !x.started && (x.run == .off || x.run == .clearing) && s.flag Reg.NEG_LOCK 0
    && s.flag Reg.HW_ROLE 3
    && s.flag Reg.HW_SB_STATUS 22 && s.domainOn (4 + i / 16) && s.domainOn (20 + i / 16) && !s.groveFenced (i / 16)
    && s.featuresFor i && !(s.regrow.isSome && s.fld Reg.SM_REGROW_STATUS 11 8 == i / 16)

/-- A lockstep pair begins at the present state of its Glades: the shadow checkpoint (R498). -/
def State.pairBegins (s : State) (i : Nat) : State :=
  match s.pairOf i with
  | some (l, t) => { s with pairs := smSet Pair.reset s.pairs l { Pair.reset with
      lead := s.glade l
      trail := s.glade t
      leadBase := (s.glade l).cntIssued
      trailBase := (s.glade t).cntIssued } }
  | none => s

/-- The signature a Glade starts from (R497). -/
def freshSignature : W64 := 0xFFFFFFFFFFFFFFFF#64

/-- GLADE_START: Glade `i`, with its partner, begins at IMEM 0 in the thread bank, EVEC invalid, every scoreboard bit
clear (R95). -/
def State.gladeStart (s : State) (i : Nat) : State :=
  if !(s.receivers i).all s.mayStart then s
  else
    let now := s.now
    ((s.receivers i).foldl (fun s j => s.updGlade j (fun x => { x with
      run := .running
      pc := 0#64
      inHandler := false
      masked := false
      evec := 0#64
      score := 0#64
      started := true
      cntIssued := 0#64
      cntFetched := 0#64
      cntWaited := 0#64
      cntMispredict := 0#64
      cntBusy := 0#64
      wdogSince := now
      wdogFirst := false
      signature := freshSignature })) s).pairBegins i

/-! ### `SAF_GCTLi` (R493) -/

/-- GCTL_STOP: a started Glade, with its partner, stops at its bundle boundary; the stop has no cause of its own: a
KIND 0x12 record, GLADE_STOPPED, reaction EVENT. STOP is set (R10), and no rule clears it (log 139). -/
def State.gctlStop (s : State) (i : Nat) : State :=
  let s := s.setFlag (Reg.SAF_GCTL i) 62 true
  let x := s.glade i
  if s.buses i = 0 ∨ (x.run ≠ .running ∧ x.run ≠ .clearing ∧ ¬ (x.run = .held ∧ x.started = true)) then s
  else
    let s := s.haltGlade i .stopped
    let s := s.recordError (.grove (i / 16)) { ErrInfo.of 0x12 0 with
      glade := i % 16
      bitPos := 0
      count := x.pc.toNat % 2 ^ 16 }
    (s.tallyInc (dev (32 + i / 16)) 1).find ⟨0, 0x12, some (i / 16), none, none, i % 16, 0⟩

/-- GCTL_START: a stopped Glade, with its partner, resumes at START_PC in the thread bank, its repeat state cleared,
every scoreboard bit clear, events unmasked and its predictor flushed. -/
def State.gctlStart (s : State) (i : Nat) : State :=
  if (s.glade i).run ≠ .stopped then s
  else
    let s := s.setFlag (Reg.SAF_GCTL i) 63 true
    let pc := w64 (s.fld (Reg.SAF_GCTL i) 18 4)
    let now := s.now
    ((s.receivers i).foldl (fun s j => s.updGlade j (fun x => { x.flushPredictor with
      run := .running
      pc := pc
      inHandler := false
      masked := false
      rep := Repeat.none
      savedRep := Repeat.none
      savedBundle := none
      repBundle := none
      redirect := none
      annul := 0
      delay := 0
      barWait := .none
      woken := false
      savedBar := .none
      savedWoken := false
      savedWaited := false
      hasWaited := false
      hasFetched := false
      resumed := false
      guesses := []
      score := 0#64
      wdogSince := now
      wdogFirst := false
      wdogPending := false
      signature := freshSignature })) s).pairBegins i

/-! ### `SAF_GVIEWi_r` (R493) -/

/-- STATE of `SAF_GCTLi`. -/
def RunState.code (r : RunState) : Nat :=
  match r with
  | .off => 0
  | .running => 1
  | .clearing => 2
  | .stopped => 3
  | .fenced => 4
  | .held => 5

/-- The view of Glade `i` may be accessed: STATE 3 or 4. -/
def State.gviewOpen (s : State) (i : Nat) : Bool := (s.glade i).run == .stopped || (s.glade i).run == .fenced

/-- Register `r` of the view. -/
def Glade.view (x : Glade) (r : Nat) : W64 :=
  if r < 64 then (x.g r).data
  else if r < 68 then
    w64 ((List.range 16).foldl (fun a k => a + (x.g (16 * (r - 64) + k)).tag.toNat * 16 ^ k) 0)
  else match r with
    | 68 => w64 x.score.toNat
    | 69 => x.epc
    | 70 => x.ecause
    | 71 => x.eaddr
    | 72 => x.ebr
    | 73 => x.evec
    | 74 => x.stopEcause
    | 75 => x.stopEpc
    | 76 => x.stopEaddr
    | _ => 0#64

/-- Register `r` of a stopped Glade's view written; a read-only one keeps its value, as does `EBR` at PENDING 3 and
`EVEC` at a BASE out of range. -/
def State.viewSet (s : State) (i r : Nat) (v : W64) (x : Glade) : Glade :=
  if r < 64 then x.setG r { x.g r with data := v }
  else if r < 68 then
    (List.range 16).foldl (fun x k =>
      let n := 16 * (r - 64) + k
      x.setG n { x.g n with tag := BitVec.ofNat 4 (field v (4 * k + 3) (4 * k)) }) x
  else match r with
    | 69 => { x with epc := w64 (field v 14 0) }
    | 70 => { x with ecause := w64 (field v 33 0) }
    | 71 => { x with eaddr := w64 (field v 47 0) }
    | 72 => if field v 16 15 = 3 then x else { x with ebr := w64 (field v 16 0) }
    | 73 => if s.evecOk i v then { x with evec := w64 (field v 15 0) } else x
    | _ => x

/-- A write of register `r` of the view of Glade `i`; ignored while the Glade is fenced. -/
def State.viewWrite (s : State) (i r : Nat) (v : W64) : State :=
  if (s.glade i).run = .stopped then s.updGlade i (s.viewSet i r v) else s

/-- Address of `SAF_GVIEWi_r`. -/
def gviewAddr (i r : Nat) : Nat := 0x406100000 + 0x400 * i + 8 * r

/-- GVIEW_ACCESS of the Heartwood or of JTAG in SERVICE (`r`): a read answers among the outputs, a write takes effect;
outside STATE 3 and 4 the access is refused (R27). -/
def State.gviewAccess (s : State) (r : Requester) (i n : Nat) (w : Option W64) : State :=
  if s.gviewOpen i = false ∨ 76 < n then
    let s := s.recordRefusal r (gviewAddr i n) (if 76 < n then 1 else 2)
    { s with out := .refused (if 76 < n then 1 else 2) :: s.out }
  else match w with
    | some v => s.viewWrite i n v
    | none => { s with out := .reg ((s.glade i).view n) :: s.out }

/-! ### Watchdogs (R501 to R503) -/

/-- The device time reaches `t` at the latest now: the moment a timed event stands for (log 32). -/
def State.reachTime (s : State) (t : Nat) : State :=
  if s.time.count.toNat < t then s.advanceTime (t - s.time.count.toNat) else s

/-- GLADE_WATCHDOG_EXPIRY of Glade `i` or its pair: in the handler bank it stops (R201), and a second expiry stops it
with the reaction of MECH 0x08 (R503). A Glade that it wakes from a WAIT counts as woken, so that after the ERET a WAIT
of kind ENTER is over and takes its event entry; R206 does not say (DESIGN CHOICE, log 134). In DOZE, where every Glade is
in Clearing (R391), the device wakes with it (log 67). -/
def State.gladeWatchdog (s : State) (i : Nat) : State :=
  let i := s.leaderOf i
  let g := i / 16
  let x := s.glade i
  if x.started = false ∨ (x.run ≠ .running ∧ x.run ≠ .clearing) ∨ s.armed 8 (some g) = false ∨ s.timeRuns = false then s
  else
    let s := s.reachTime (x.wdogSince + 1000 * field (s.mech 8) 63 32)
    let s := (s.wrapAdd (Reg.SAF_GCTL i) 31 24 1).tallyInc (dev (48 + g)) 1
    let now := s.now
    let s := s.updGlade i (fun x => { x with wdogSince := now, wdogFirst := true })
    let second : Finding := ⟨8, 0x12, some g, (s.pairOf i).map (fun p => p.1), none, i % 16, 0⟩
    if x.inHandler then
      let s := s.stopFor i (Cause.of 5 1) x.pc
      if x.wdogFirst then s.find second else s
    else if x.wdogFirst then
      let s := s.recordError (.grove g) { ErrInfo.of 0x12 0 with
        glade := i % 16
        syndrome := 5
        bitPos := 1
        count := x.pc.toNat % 2 ^ 16 }
      s.find second
    else
      let asleep := (s.glade i).run == .clearing
      let s := (s.updGlade i (fun x => { x with wdogPending := true })).wakeGlade i
      if asleep then s.wakeNow 5 s.wakeTarget else s

/-- TIMEOUT_US of `SAF_HWDOG`, within its limits. -/
def State.hwTimeout (s : State) : Nat := max 1000 (min 1000000 (s.fld Reg.SAF_HWDOG 19 0))

/-- HEARTWOOD_WATCHDOG_EXPIRY. -/
def State.hwWatchdog (s : State) : State :=
  let x := s.glade 256
  if x.started = false ∨ (x.run ≠ .running ∧ x.run ≠ .clearing) ∨ s.timeRuns = false then s
  else
    let s := s.reachTime (x.wdogSince + 1000 * s.hwTimeout)
    let s := s.wrapAdd Reg.SAF_HWDOG 47 32 1
    let now := s.now
    let s := s.updGlade 256 (fun x => { x with wdogSince := now, wdogFirst := true })
    if x.inHandler then s.stopFor 256 (Cause.of 5 1) x.pc
    else if x.wdogFirst then ((s.noStopCause 256).haltOne 256 .stopped).find ⟨103, 0x1D, none, none, none, 0, 0⟩
    else
      let s := s.recordError .heartwood { ErrInfo.of 0x12 0 with
        syndrome := 5
        bitPos := 1
        count := x.pc.toNat % 2 ^ 16 }
      s.updGlade 256 (fun x => { x with
        wdogPending := true
        run := .running
        woken := true
        savedWoken := true })

/-! ### `SAF_FAULT` and `SAF_CTL` -/

/-- FAULT_ACK: ACK clears HANDLING (R508). -/
def State.faultAck (s : State) (v : W64) : State := if bit v 32 then s.setFlag Reg.SAF_STATUS 0 false else s

/-- A write of `SAF_CTL` (R10): FAULT_OUT as written, and a 1 to SAFE_REQ sets it, which no rule clears (log 139), and
enters SAFE (R510). -/
def State.safCtl (s : State) (v : W64) : State :=
  let s := s.codesWrite Reg.SAF_CTL v
  if bit v 1 then s.enterSafe 2 0 0xFF 0 0 else s

end Sys2Proof.Machine
end

