-- ==== Sys2Proof/Machine/Boot.lean ====
section
/-! DEFINITION. The ROM sequence (R75 to R89), the feature negotiation (R90, R91), the key slots (R65), REGROW (R71 to
R73), resets and loss of supply (R393, R401, R415, R520). -/

namespace Sys2Proof.Machine

/-! ### What outlives a reset -/

/-- The line write in progress is finished; a reset never cuts it short (R358, R520). -/
def State.finishLine (s : State) : State :=
  match s.keeper.port with
  | none => s
  | some w => s.setBytes (seedbankBase + 64 * w.line) w.bytes

/-- The device after a reset: only the Seedbank's lines, the flash, the drives and their media, the key slots, the
device's stuck bits, the JTAG port, the splits still to be counted (R360, log 115), and the model's own fields are as
before. -/
def State.afterReset (s : State) : State :=
  { State.reset with
    mem := s.mem.filter (fun p => decide (seedbankBase ≤ p.1 ∧ p.1 < seedbankBase + 4096))
    stuck := s.stuck
    drives := s.drives
    media := s.media
    unflushed := s.unflushed
    board := { Board.reset with flash := s.board.flash, keyWords := s.board.keyWords, keyRevoked := s.board.keyRevoked }
    keeper := { Keeper.reset with splits := s.keeper.splits }
    jtag := s.jtag
    out := s.out
    free := s.free
    pending := s.pending }

/-- PORST_N_ASSERT: PORST_N low (R520). -/
def State.porstAssert (s : State) : State := s.finishLine.afterReset

/-- The 64 bytes a line holds after a write was cut by the loss of supply: each 8-byte word old or new (R358). -/
def tornWords : Nat → State → List Byte → List Byte → State × List Byte
  | 0, s, _, _ => (s, [])
  | n + 1, s, old, new =>
    let r := s.freeBool
    let rest := tornWords n r.2 (old.drop 8) (new.drop 8)
    (rest.1, (if r.1 then new.take 8 else old.take 8) ++ rest.2)

/-- The zeroes of a FORMAT cut short on `c`'s region: each block that held something is zeroed or not, freely. -/
def State.landZeroes (s : State) (c : JCfg) : State :=
  let lo := mediaKey c.ctrl c.nsid c.base
  let b := 2 ^ s.lbaShift c
  let r := s.media.foldl (fun (acc : State × Option (Nat × Bool)) m =>
    if m.1 < lo ∨ lo + c.size ≤ m.1 then acc
    else
      let f : Bool × State := match acc.2 with
        | some (k, z) => if k = m.1 / b then (z, acc.1) else acc.1.freeBool
        | none => acc.1.freeBool
      (if f.1 then f.2.putMedia m.1 [0#8] else f.2, some (m.1 / b, f.1))) (s, none)
  r.1

/-- The commands that the drives had not completed: a write reaches the medium as writes that no Flush covered do. -/
def State.landQueued (s : State) : State :=
  s.jw.queues.foldl (fun s q => q.2.foldl (fun s k =>
    match s.jcfg k.journal, k.kind with
    | some c, .write => s.mediaWrite c k.pos false k.data
    | some c, .zeroes => s.landZeroes c
    | _, _ => s) s) s

/-- What the drives keep of the block writes that no Flush covered (R346): of each logical block, the writes up to some
point, freely chosen, since a block is written whole or not at all. -/
def State.dropUnflushed (s : State) : State :=
  let s := s.landQueued
  let r := s.unflushed.foldl (fun (acc : State × List Nat) u =>
    if acc.2.contains u.block then acc
    else
      let f := acc.1.freeBool
      if f.1 then (f.2, u.block :: acc.2) else (f.2.putMedia u.first u.bytes, acc.2)) (s, [])
  { r.1 with unflushed := [] }

/-- LOSS_OF_SUPPLY: OFF from any mode (R393). The supplies may fall in any order (R519), so that VIO33 may still be there
when VAON is gone: a free choice (log 146). -/
def State.lossOfSupply (s : State) : State :=
  let s := match s.keeper.port with
    | none => s
    | some w =>
      let r := tornWords 8 s (s.line w.line) w.bytes
      r.1.setBytes (seedbankBase + 64 * w.line) r.2
  let r := s.dropUnflushed.afterReset.freeBool
  let s := r.2.setFld Reg.PWR_MODE 3 0 1
  { s with board := { s.board with vio33 := r.1, vaon := false } }

/-! ### Failures (R88) -/

/-- FAIL and GROVE of `HW_BOOT`. -/
def State.noteFail (s : State) (code grove : Nat) : State :=
  (s.setFld Reg.HW_BOOT 15 8 code).setFld Reg.HW_BOOT 19 16 (if grove < 16 then grove else 0)

/-- A boot failure noted, with its last-fault record. -/
def State.bootFail (s : State) (code grove : Nat) : State := (s.noteFail code grove).writeLastFault 0 code grove 0 0

/-- STAGE set. -/
def State.setStage (s : State) (n : Nat) : State := s.setFld Reg.HW_BOOT 7 4 n

/-- Domain `d` that stays off during boot after its three retries (R405): its own last-fault record is that of a wake
failure. -/
def State.bootDomainFails (s : State) (d grove : Nat) : State :=
  ((s.setFld (Reg.PWR_DOM d) 10 9 3).domainFailed d 0).noteFail 8 grove

/-- Domain `d` woken by the ROM. -/
def State.bootWake (s : State) (d : Nat) : State :=
  if s.domState d = 1 then s else (s.setDomState d 3).domainReady d

/-! ### Step 1 and the board -/

/-- A register that only PORST_N resets: error records and retire registers (R253), a worker's route entries (R473). -/
def keptTillPorst (a : Nat) : Bool :=
  (decide (a < 0x401000000) && (let o := a % 0x100000; decide ((0x1000 ≤ o ∧ o < 0x1180) ∨ (0x1400 ≤ o ∧ o < 0x1600))))
    || (decide (Reg.SAF_ERR_STATUS ≤ a ∧ a < Reg.SAF_ERR_INFO 8))
    || (decide (0x409000000 ≤ a ∧ a < 0x409040000) && decide (0x100 ≤ a % 0x10000 ∧ a % 0x10000 < 0x190))
    || decide (Reg.RTL_ROUTE 0 ≤ a ∧ a < Reg.RTL_ROUTE 16384)

/-- The state after an internal restart, which keeps what only PORST_N resets: the records and retire registers (R253,
R512), the ID, level and routes of a worker and its isolation (R472, R473), and the refusals of SVC_ENTER (R453). -/
def State.afterRestart (s : State) : State :=
  let t := s.finishLine.afterReset
  let t : State := { t with ctl := s.ctl.filter (fun p => keptTillPorst p.1) }
  let t := (t.setFld Reg.UST_SVC 9 8 (s.fld Reg.UST_SVC 9 8)).setFlag Reg.RTL_STATUS 13 (s.flag Reg.RTL_STATUS 13)
  if s.fld Reg.HW_ROLE 1 0 = 1 then
    (t.setFld Reg.HW_ROLE 24 8 (s.fld Reg.HW_ROLE 24 8)).setFlag Reg.HW_ROLE 3 (s.flag Reg.HW_ROLE 3)
  else t

/-- Step 1: the straps are latched, and the state of R76 holds; a pin test of JTAG ends (R452). -/
def State.latch (s : State) (w : BootWorld) (cause : Nat) : State :=
  let s := s.endPinTest
  let s := { s with
    board := { s.board with porst := true }
    drives := w.drives.foldl (fun (m : SMap (Option Controller)) (p : Fin 16 × Controller) => smSet none m p.1.val (some p.2)) [] }
  let s := s.setFld Reg.HW_BOOT 1 0 w.bootSrc.val
  let s := if w.role.val = 3 then s.setFld Reg.HW_ROLE 2 0 5 else s.setFld Reg.HW_ROLE 2 0 w.role.val
  s.setFld Reg.PWR_STATUS 9 8 cause

/-- The mechanisms that may not be disarmed, armed with LOG over all Groves (R76). -/
def State.armBoot (s : State) : State :=
  [1, 2, 6, 9].foldl (fun s m => s.wr (Reg.SAF_MECH (m - 1)) 0xFFFF0001#64) s

/-- Capacity in GiB of a channel with `f` (R257); 0: not populated or not supported. -/
def dramGib (f : DramFound) : Nat :=
  let n := f.ranks.val * [32, 48, 64].getD f.density.val 0
  if 64 < n then 0 else n

/-- The DDR channels sized and trained (R257, R258); their zero-fill begins (R263). -/
def State.trainDram (s : State) (dram : List DramFound) : State :=
  let found := fun n => dram.getD n ⟨0, 0, 0⟩
  let sizes := (List.range 4).map (fun n => dramGib (found n))
  let used := sizes.filter (fun n => n != 0)
  let intlv := (used.length == 1 || used.length == 2 || used.length == 4) && used.all (fun n => n == used.headD 0)
  (List.range 4).foldl (fun s n =>
    let f := found n
    let size := sizes.getD n 0
    if size = 0 then s
    else
      let base := if intlv then 0 else (sizes.take n).foldl (· + ·) 0
      let s := s.wr (Reg.DDR_CH_CFG n) (w64 (1 + f.ranks.val * 2 + f.density.val * 2 ^ 4 + f.speed.val * 2 ^ 8
        + b2n intlv * 2 ^ 10 + size * 2 ^ 16 + base % 256 * 2 ^ 24))
      (s.wr (Reg.DDR_CH_WMARK n) 0#64).bootWake (36 + n)) s

/-! ### Images -/

/-- The firmware check (R81): its FAIL code, none when it passes. The signed message of an image of `n` bytes ends before
its last 64 bytes (R79, R80). DESIGN CHOICE (log 112): an image supplied by push or by the manager whose FW_LENGTH
differs from its IMAGE_LENGTH fails with 0x04, as R82 asks for a slot. -/
def fwCheck (keys : KeySlots) (fw : List Byte) (len : Nat) : Option Nat :=
  let n := leN fw 4 4
  let entry := leN fw 12 4
  if leN fw 0 4 ≠ 0x57464843 ∨ n < 160 ∨ 245760 < n ∨ n % 8 ≠ 0 ∨ n ≠ len ∨ entry % 12 ≠ 0 ∨ n - 136 ≤ entry then some 4
  else match checkSignature keys (fw.take (n - 64)) ((fw.drop (n - 136)).take 136) with
    | some _ => some 5
    | none => none

/-- A failure of R66 in `SM_ERROR` (R535). -/
def State.noteMapError (s : State) (e : MapError) : State :=
  s.wr Reg.SM_ERROR (w64 (e.code % 256 + e.check % 256 * 2 ^ 8 + e.section_ % 2 ^ 16 * 2 ^ 16 + e.offset % 2 ^ 24 * 2 ^ 32))

/-- A failure of a device's image (R67, R535). -/
def State.mapFails (s : State) (e : MapError) : State := (s.noteMapError e).setFld Reg.SM_STATUS 2 0 4

/-- One slot of the flash at `base` (R82, R83): its header read, logged when a read fails, and its firmware, Stand Map
and sequence when it is intact; a Stand Map that fails steps 1 to 4 of R66 is reported (R67). -/
def State.readSlot (s : State) (base reads : Nat) : State × Option (List Byte × List Byte × Nat) :=
  let h := s.flashBytesAt base 64
  let bad := reads = 2 ∨ leN h 60 4 ≠ crc32c (h.take 60)
  let s := if bad then s.recordError .heartwood { ErrInfo.of 0x1B base with lasting := true }
    else if reads = 1 then s.recordError .heartwood (ErrInfo.of 0x1B base) else s
  let fo := leN h 8 4
  let fl := leN h 12 4
  let mo := leN h 16 4
  let ml := leN h 20 4
  let slot := 0x2000000
  if bad ∨ leN h 0 4 ≠ 0x53424843 ∨ leN h 4 4 ≠ 1 ∨ fo % 8 ≠ 0 ∨ mo % 8 ≠ 0 ∨ ((h.drop 24).take 36).any (fun b => b != 0#8)
      ∨ slot < fo + fl ∨ slot < mo + ml ∨ ¬ (fo + fl ≤ mo ∨ mo + ml ≤ fo) then (s, none)
  else
    let fw := s.flashBytesAt (base + fo) fl
    let img := s.flashBytesAt (base + mo) ml
    match fwCheck s.keySlots fw fl with
    | some _ => (s, none)
    | none =>
      match s.checkMap s.keySlots false 0 img ml 4 with
      | .error e => (s.mapFails e, none)
      | .ok ss => (s, some (fw, img, leN (bodyOf ss 1) 4 4))

/-- The slot offsets: the boot-slot pointers where they are valid, else 0 and 32 MiB (R82, R363). -/
def State.slotOffsets (s : State) : State × Nat × Nat :=
  let r := s.resolveReported 1
  match r.2 with
  | .copy _ _ b =>
    let x := leN b 0 4
    let y := leN b 4 4
    if (byteN b 8).testBit 0 ∧ x % 0x2000000 = 0 ∧ y % 0x2000000 = 0 ∧ x ≠ y then (r.1, x, y)
    else (r.1, 0, 0x2000000)
  | _ => (r.1, 0, 0x2000000)

/-- The staging area (R78): the Stand Map in Grove memories 0 to 7, the firmware in Grove memory 8. -/
def State.stageMap (s : State) (r : Requester) (o : Nat) (data : List Byte) : State :=
  let put := fun (s : State) (a : Nat) (bs : List Byte) =>
    s.engineWrite r (groveMemBase (a / 2 ^ 21) + a % 2 ^ 21) bs
  let h := 64 - o % 64
  let rest := data.drop h
  let n := (rest.length + 63) / 64
  ((pieces 64 n rest).zip (List.range n)).foldl (fun s p => put s (o + h + 64 * p.2) p.1) (put s o (data.take h))

def State.stageFw (s : State) (r : Requester) (o : Nat) (data : List Byte) : State := s.stageMap r (8 * 2 ^ 21 + o) data

/-- `n` bytes of the staged Stand Map from byte `off`, as `r` reads them (R241, R242): memory by memory. -/
def State.stagedMap (s : State) (r : Requester) (off n : Nat) : State × Except Nat (List Byte) :=
  (List.range 8).foldl (fun (acc : State × Except Nat (List Byte)) g =>
    let lo := max off (2 ^ 21 * g)
    let hi := min (off + n) (2 ^ 21 * (g + 1))
    match acc.2 with
    | .error _ => acc
    | .ok bs =>
      if hi ≤ lo then acc
      else match acc.1.engineRead r (groveMemBase g + (lo - 2 ^ 21 * g)) (hi - lo) with
        | (s, .ok x) => (s, .ok (bs ++ x))
        | (s, .error d) => (s, .error d)) (s, .ok [])

/-- `n` bytes of the staged firmware from byte `off`, as `r` reads them. -/
def State.stagedFw (s : State) (r : Requester) (off n : Nat) : State × Except Nat (List Byte) :=
  if n = 0 then (s, .ok []) else s.engineRead r (groveMemBase 8 + off) n

/-- The staging area bulk-cleared. -/
def State.clearStaging (s : State) : State :=
  (List.range 9).foldl (fun s g => s.bulkClear (groveMemBase g) 0x200000) s

/-! ### Application (R69) -/

/-- `SAF_MECHm` from the SAFETY section (R56, R57). -/
def State.mechEntry (s : State) (m : Nat) : W64 :=
  match s.safetyEntries.find? (fun e => byteN e 0 == m) with
  | some e =>
    let scope := leN e 4 2
    w64 (byteN e 1 + byteN e 2 * 2 + (if scope = 0 then 0xFFFF else scope) * 2 ^ 16 + leN e 8 4 * 2 ^ 32)
  | none => if mayDisarm m then 0#64 else 0xFFFF0003#64

/-- The Tally routes of the TALLY section, with the group partitions they fix (R60, R383). -/
def State.applyTally (s : State) : State :=
  ((List.range s.tallyEntries.length).zip s.tallyEntries).foldl (fun s p =>
    let v := w64 (leN p.2 0 8)
    if v = 0#64 then s
    else
      let s := s.wr (Reg.TLY_ROUTE p.1) (v &&& 0xFFFF000FFFFF0F03#64)
      match s.routeParts v with
      | q :: _ => if p.1 < 4096 then s.fixGroup p.1 q else s
      | [] => s) s

/-- Domain policy of step 2 in force: domains wanted on are woken, others switched off; lane and port domains (40 to
59) that are not on wait for step 7. A Grove domain of `fails` does not wake, and its Grove is fenced (R70). -/
def State.applyDomains (s : State) (fails : GroveFails) : State :=
  (List.range 64).foldl (fun s d =>
    let s := s.setFld (Reg.PWR_DOM d) 2 0 (s.mapDomain d)
    if !s.wantOn d false then s.domainOff d
    else if 40 ≤ d ∧ d < 60 then s
    else if 4 ≤ d ∧ d < 20 ∧ fails.logic.getLsbD (d - 4) = true then s.domainFailed d 0
    else if 29 ≤ d ∧ d < 36 ∧ fails.mem.getLsbD (d - 20) = true then s.domainFailed d 0
    else s.bootWake d) s

/-- The sections applied in the order of R69. -/
def State.applyMap (s : State) (ss : List MapSection) (fails : GroveFails) : State :=
  let s := { s with sections := sectionMap ss }
  let s := (List.range 11).foldl (fun s k => s.wr (Reg.SAF_MECH k) (s.mechEntry (k + 1))) s
  let s := (List.range 17).foldl (fun s r => s.setFld (Reg.PWR_RAIL r) 9 0 (s.secLE 0x40 (0x48 + 2 * r) 2)) s
  let s := s.applyDomains fails
  let s := (List.range 16).foldl (fun s g => if g < 9 then
      (List.range 16).foldl (fun s k =>
        (s.bulkClear (gladeBase (16 * g + k)) 0x8000).bulkClear (gladeBase (16 * g + k) + 0x10000) 0x10000) s
    else s.clearGrove g) s
  let s := (List.range 16).foldl (fun s g =>
    (s.wr (Reg.GRV_SCRUB_RATE g) (w64 (s.secLE 0x11 (32 * g + 4) 4))).freshTxu g) s
  let s := s.applyTally
  (List.range 96).foldl (fun s n => s.setFld (Reg.LANE_STATE n) 5 3 (s.quadRole (n / 4))) s

/-! ### Negotiation (R90, R91) -/

/-- The feature bits that the applied Stand Map uses (R90). -/
def State.featureOffer (s : State) : W64 :=
  let js := s.journalEntries
  let quads := List.range 24
  let eth := fun q => s.quadRole q == 3 || s.quadRole q == 4
  let bits : List Bool := [
    (List.range 16).any (fun g => s.quota g != 0),
    js.any (fun e => byteN e 3 == 0),
    js.any (fun e => byteN e 3 == 1),
    (List.range 16).any s.ticketMode,
    (List.range 16).any (fun g => !(s.pairsOf g).isEmpty),
    (List.range 256).any s.stackMode,
    s.linkEntries.any (fun e => byteN e 4 == 1),
    s.fld Reg.HW_ROLE 1 0 != 0,
    quads.any eth,
    s.secLE 0x40 0x20 4 != 0,
    true,
    s.pcieByte 2 0 == 1,
    (List.range 3).any (fun e => s.pcieByte e 0 == 1 && s.pcieByte e 2 == 5),
    quads.any (fun q => s.quadFec q == 2)]
  w64 (((List.range 14).zip bits).foldl (fun n p => n + b2n p.2 * 2 ^ p.1) 0)

/-- The negotiation locked by party `party` of BY: what waited for it begins (R90, R91): lanes and ports that may train
now are woken, and recovery may be over. A worker with an enabled endpoint stands in two rows of R91's table: host and
manager may each lock, and the first lock holds (DESIGN CHOICE, log 116). -/
def State.lockNeg (s : State) (party : Nat) : State :=
  if s.flag Reg.NEG_LOCK 0 then s
  else
    let s := (s.setFld Reg.NEG_LOCK 2 1 party).setFlag Reg.NEG_LOCK 0 true
    let s := (List.range 20).foldl (fun s k =>
      let d := 40 + k
      if !s.wantOn d (s.mode == 4) then s
      else if s.domState d = 1 then (if d < 52 then s.octetUp k else s)
      else s.wakeDomain d) s
    s.finishRecovery

/-- The firmware accepts the full offer. -/
def State.acceptAll (s : State) : State :=
  ((s.wr (Reg.NEG_ACCEPT 0) (s.rd (Reg.NEG_OFFER 0))).wr (Reg.NEG_ACCEPT 1) (s.rd (Reg.NEG_OFFER 1))).lockNeg 2

/-- NEG_LOCK_WRITE: LOCK written by the host, which locks only through an enabled endpoint whose link is up, or by the
firmware, once RUN has been entered (R91). A lock by the firmware reads BY 2 also where it did not accept the full offer:
the spec names no code for that (DESIGN CHOICE, log 116). -/
def State.negLockWrite (s : State) (byHost : Bool) : State :=
  if s.stage ≠ 6 then s
  else if !byHost then s.lockNeg 2
  else if s.pcieByte 2 0 = 1 ∧ s.flag (Reg.LANE_PCIE_STAT 2 0) 0 = true then s.lockNeg 0 else s

/-- NEG_LOCK_TIMEOUT: 10 s after RUN with the endpoint enabled the firmware locks what is accepted (R91). -/
def State.negTimeout (s : State) : State :=
  if s.stage = 6 ∧ s.pcieByte 2 0 = 1 then s.lockNeg 3 else s

/-- A write of `NEG_ACCEPTn`: until the lock, the offered bits. -/
def State.negAccept (s : State) (n : Nat) (v : W64) : State :=
  if s.flag Reg.NEG_LOCK 0 then s else s.wr (Reg.NEG_ACCEPT n) (v &&& s.rd (Reg.NEG_OFFER n))

/-- NEG_SET received by a worker with an ID and an unlocked negotiation (R474). -/
def State.rtlNegSet (s : State) (l : Nat) (f : Flit) : State :=
  match s.ctrlIn l f 8 with
  | (s, false) => s
  | (s, true) =>
    if s.isWorker = true ∧ s.ownId.isSome = true ∧ s.flag Reg.NEG_LOCK 0 = false then
      ((s.negAccept 0 (wordOf f 2)).negAccept 1 (wordOf f 3)).lockNeg 1
    else s

/-! ### Steps 5 to 7 -/

/-- Step 7: the staging area is cleared, FAULT_N and the outputs are released, RUN is entered and the firmware begins
at ENTRY; its negotiation begins (R90, R91). An endpoint that the map disables goes down (R85). -/
def State.enterRun (s : State) (entry : Nat) : State :=
  let s := s.clearStaging
  let s : State := { s with board := { s.board with pushing := false } }
  let s := if s.pcieByte 2 0 = 0 then s.portDown 2 0 else s
  let s := ((s.setFlag Reg.SAF_STATUS 2 false).setMode 3).followRails
  let s := s.setStage 6
  let s := s.setGlade 256 { Glade.reset with
    run := .running, started := true, pc := w64 entry, wdogSince := s.now }
  let s := (List.range 20).foldl (fun s k => if s.wantOn (40 + k) false then s.wakeDomain (40 + k) else s) s
  let s := s.wr (Reg.NEG_OFFER 0) s.featureOffer
  if s.pcieByte 2 0 = 0 ∧ s.isWorker = false then s.acceptAll else s

/-- Step 5 of R77: the checked firmware image is copied to Heartwood memory. -/
def State.copyFw (s : State) (fw : List Byte) : State := s.writeMem .heartwood .agent none hwMemBase fw

/-- The images that passed their checks are applied (R69, R77 steps 6 and 7), from `source` of `SM_STATUS`. -/
def State.applyImages (s : State) (fw img : List Byte) (ss : List MapSection) (source : Nat) (fails : GroveFails) :
    State :=
  let keys := s.keySlots
  let s := (s.setStage 5).setFld Reg.SM_STATUS 2 0 2
  let s := s.applyMap ss fails
  let digest := sha256 img
  let s := (List.range 4).foldl (fun s n => s.wr (Reg.SM_DIGEST n) (w64 (leN digest (8 * n) 8))) s
  let s := s.wr Reg.SM_IMAGE_SEQ (w64 (leN (bodyOf ss 1) 4 4))
  let slot := if keys.any then byteN (bodyOf ss 0xF0) 0 else 0
  let s := s.wr Reg.SM_STATUS (w64 (3 + b2n keys.any * 2 ^ 3 + source * 2 ^ 8 + byteN img 8 * 2 ^ 16
    + byteN img 9 % 16 * 2 ^ 24 + slot % 4 * 2 ^ 28))
  let s := if s.flag Reg.HW_ROLE 2 then s.setFld Reg.HW_ROLE 1 0 (s.secLE 0x60 0 1) else s
  let s := if s.isWorker then s else s.setFlag Reg.HW_ROLE 3 true
  s.enterRun (leN fw 12 4)

/-- The ROM waits for a push, STAGE 0x3 from the time when the endpoint's link is up (R85, R86), or for a Rootlink link
(R87): its boot path comes on. -/
def State.awaitPush (s : State) : State :=
  let s := ({ s with board := { s.board with pushing := true } } : State).bootWake 42
  if s.flag (Reg.LANE_PCIE_STAT 2 0) 0 then s.setStage 3 else s

def State.awaitManager (s : State) : State :=
  (((s.setStage 2).setFld (Reg.RTL_LINK_STATE 0) 5 3 4).bootWake 56).bootWake 51

/-- The boot stops, or a push follows when BOOT_SRC is 0b11 (R88). -/
def State.noSlot (s : State) (code : Nat) : State :=
  let s := s.bootFail code 0xFF
  if s.fld Reg.HW_BOOT 1 0 = 3 then s.clearStaging.awaitPush else s.setStage 0xF

/-- A selected slot staged and applied, or its failure (R77, R84, R88). Staged bytes that cannot be read fail it as they
fail a push (DESIGN CHOICE, log 112). -/
def State.bootSlot (s : State) (x : List Byte × List Byte × Nat) (source : Nat) (fails : GroveFails) : State :=
  let s := ((s.stageFw .heartwood 0 x.1).stageMap .heartwood 0 x.2.1).setStage 4
  let s := s.setFld Reg.SM_STATUS 2 0 1
  match s.stagedFw .heartwood 0 x.1.length with
  | (s, .error _) => (s.setFld Reg.SM_STATUS 2 0 0).noSlot 4
  | (s, .ok fw) =>
    let s := s.copyFw fw
    match s.stagedMap .heartwood 0 x.2.1.length with
    | (s, .error _) => (s.mapFails ⟨4, 0, 0, 0⟩).noSlot 6
    | (s, .ok img) =>
      match s.checkMap s.keySlots false 0 img img.length 6 with
      | .error e => (s.mapFails e).noSlot 6
      | .ok ss => s.applyImages fw img ss source fails

/-- Boot from xSPI flash (R82 to R84). -/
def State.bootFlash (s : State) (w : BootWorld) : State :=
  let s := s.setStage 1
  if w.flash.isNone then s.noSlot 3
  else
    let p := s.slotOffsets
    let a := p.1.readSlot p.2.1 w.readA.val
    let b := a.1.readSlot p.2.2 w.readB.val
    let s := (b.1.setFlag Reg.HW_BOOT 24 a.2.isSome).setFlag Reg.HW_BOOT 25 b.2.isSome
    match a.2, b.2 with
    | none, none => s.noSlot 1
    | some x, none => s.bootSlot x 0 w.grovesFail
    | none, some y => s.bootSlot y 1 w.grovesFail
    | some x, some y =>
      if y.2.2 < x.2.2 then s.bootSlot x 0 w.grovesFail
      else if x.2.2 < y.2.2 then s.bootSlot y 1 w.grovesFail
      else if x.1 = y.1 ∧ x.2.1 = y.2.1 then s.bootSlot x 0 w.grovesFail
      else (s.recordError .heartwood { ErrInfo.of 0x1A 0xFFFF with lasting := true }).noSlot 2

/-- Steps 2 to 7 of the ROM (R77), from a latched state. -/
def State.rom (s : State) (w : BootWorld) : State :=
  let s := (s.setFlag Reg.SAF_STATUS 2 true).armBoot
  let s := s.setFlag Reg.PWR_STATUS 0 true
  let s := [0, 1, 63].foldl (fun s d => s.bootWake d) s
  let s := (List.range 6).foldl (fun s k => s.islandUp (25 + k)) s
  let s := s.setFlag Reg.UST_TIME_CTL 1 true
  let s := (List.range 17).foldl (fun s r => s.setFld (Reg.PWR_RAIL r) 9 0 750) s
  match w.hwFails with
  | some canopy =>
    (((s.bootWake (if canopy then 2 else 3)).bootDomainFails (if canopy then 3 else 2) 0xFF)).setStage 0xF
  | none =>
    let s := (s.bootWake 2).bootWake 3
    let s := (s.bulkClear hwMemBase 0x40000).clearStaging
    let s := (List.range 9).foldl (fun s g =>
      if w.stagingFail.map (fun k => k.val) = some g then s.bootDomainFails (20 + g) g else s.bootWake (20 + g)) s
    match w.stagingFail with
    | some _ => s.setStage 0xF
    | none =>
      let s := s.trainDram w.dram
      let s := s.setFld Reg.HW_BOOT 39 26 (min (w.flash.getD 0) (2 ^ 29) / 65536)
      match w.bootSrc.val with
      | 1 => s.awaitPush
      | 2 => s.awaitManager
      | _ => s.bootFlash w

/-- PORST_N_RELEASE (R77). -/
def State.porstRelease (s : State) (w : BootWorld) : State :=
  if s.board.porst then s else (s.finishLine.afterReset.latch w 0).rom w

/-- An internal restart, as if PORST_N had been released, with its RESET_CAUSE (R401, R415); the ROM writes the
last-fault record `fault` of what led to it, when there is one. -/
def State.restartDevice (s : State) (w : BootWorld) (cause : Nat) (fault : Option (List Byte)) : State :=
  let t := s.afterRestart.latch w cause
  (match fault with
    | some body => t.updateRecord 2 body
    | none => t).rom w

/-- HOLDUP_RETURN: 10 ms of restored supply after the shutdown of HOLDUP (R415). -/
def State.holdupReturn (s : State) (w : BootWorld) : State :=
  if s.mode = 9 ∧ s.power.down = true ∧ (s.flag Reg.RTL_BOARD 8 = false ∨ s.power.high = 1000) then
    s.restartDevice w 3 none
  else s

/-- HOLDUP_N rising again during STRUCTURE: the ROM restarts at its step 2 with the straps it latched (R89). -/
def State.holdupRise (s : State) (w : BootWorld) : State :=
  if s.mode = 2 ∧ s.power.down = true ∧ s.board.porst = true then
    let keep := fun (t : State) => ((t.wr Reg.HW_BOOT (s.rd Reg.HW_BOOT)).setStage 0).setFld Reg.PWR_STATUS 9 8
      (s.fld Reg.PWR_STATUS 9 8)
    let t := keep s.afterRestart
    let t := { t with board := { t.board with porst := true } }
    (t.setFld Reg.HW_ROLE 2 0 (s.fld Reg.HW_ROLE 2 0)).rom { w with bootSrc := Fin.ofNat 4 (s.fld Reg.HW_BOOT 1 0) }
  else s

/-- BROWNOUT of regulator `r`: a Grove's IVR; 16 the Heartwood's, 17 the AON LDO: the device restarts, and the ROM
writes the last-fault record with SOURCE 1 (R401); its error record is kept (R253, R513). The AON LDO is in low-power mode
in RETAIN and LOOKOUT but for the Seedbank line writes (R398). -/
def State.brownout (s : State) (r : Nat) (w : BootWorld) : State :=
  if r < 16 then s.groveBrownout r
  else
    let low := if r = 16 then s.flag (Reg.PWR_RAIL 16) 28 else (s.mode == 7 || s.mode == 8) && s.keeper.port.isNone
    if !low then s
    else
      let s := s.recordError .heartwood (ErrInfo.of 0x1E (if r = 16 then 2 else 0))
      s.restartDevice w (if r = 16 then 2 else 1) (some (s.faultBody 1 0x1E 0xFF (if r = 16 then 2 else 0) 0))

/-! ### Push and manager (R86, R87) -/

/-- ATTEMPTS advanced. -/
def State.countAttempt (s : State) : State := s.satAdd Reg.HW_BOOT 23 20 1

/-- The staged images checked: the firmware image, the Stand Map image and its sections, or on failure the state with its
FAIL code, the checks having changed nothing but the report (R86 step 4). The spec names no failure for staged bytes that
cannot be read: the model reports FAIL 0x04 for the firmware and CODE 0x04 for the map (DESIGN CHOICE, log 112). -/
def State.judgeStaged (s : State) (fwLen mapLen : Nat) :
    Except State (State × List Byte × List Byte × List MapSection) :=
  let s := s.countAttempt.setStage 4
  let s := s.setFld Reg.SM_STATUS 2 0 1
  match s.stagedFw .heartwood 0 (min fwLen 245760) with
  | (s, .error _) => .error ((s.setFld Reg.SM_STATUS 2 0 0).bootFail 4 0xFF)
  | (s, .ok fw) =>
    match fwCheck s.keySlots fw fwLen with
    | some c => .error ((s.setFld Reg.SM_STATUS 2 0 0).bootFail c 0xFF)
    | none =>
      match s.stagedMap .heartwood 0 (min mapLen (2 ^ 24)) with
      | (s, .error _) => .error ((s.mapFails ⟨4, 0, 0, 0⟩).bootFail 6 0xFF)
      | (s, .ok img) =>
        match s.checkMap s.keySlots false 0 img mapLen 6 with
        | .error e => .error ((s.mapFails e).bootFail 6 0xFF)
        | .ok ss => .ok (s, fw, img, ss)

/-- The staged images checked and applied, from `source`, the Groves of `fails` not waking (R86 steps 4 and 5). -/
def State.checkStaged (s : State) (fwLen mapLen source : Nat) (fails : GroveFails) : Except State State :=
  match s.judgeStaged fwLen mapLen with
  | .error t => .error t
  | .ok (t, fw, img, ss) => .ok ((t.copyFw fw).applyImages fw img ss source fails)

/-- PUSH_GO: a write of `HW_PUSH` while the ROM waits for a push, which SERVICE has not ended (R453); with GO the
staged images are checked. -/
def State.pushGo (s : State) (v : W64) (fails : GroveFails) : State :=
  if s.stage ≠ 3 ∨ s.mode ≠ 2 then s
  else
    let s := (s.setFld Reg.HW_PUSH 17 0 (field v 17 0)).setFld Reg.HW_PUSH 48 24 (field v 48 24)
    if !bit v 63 then s
    else match s.checkStaged (field v 17 0) (field v 48 24) 2 fails with
      | .ok t => t
      | .error t => t.clearStaging.setStage 3

/-- BAR0_STAGING_WRITE: `data` to offset `off` of BAR0 while the ROM waits for a push (R85, R86). Any other write is
discarded and reported through AER; so is, as a whole, one that leaves its staging region (log 33). -/
def State.bar0Write (s : State) (off : Nat) (data : List Byte) : State :=
  let n := data.length
  if s.flag (Reg.LANE_PCIE_STAT 2 0) 0 = false then s
  else if s.hostMemory = false then s.hostWriteUr
  else if s.stage = 3 ∧ off + n ≤ 0x1000000 then s.stageMap .host off data
  else if s.stage = 3 ∧ 0x1000000 ≤ off ∧ off + n ≤ 0x103C000 then s.stageFw .host (off - 0x1000000) data
  else s.hostWriteUr

/-- The answer to a host read: the bytes, or Completer Abort where they could not be read (R441). -/
def hostBytes (p : State × Except Nat (List Byte)) : State :=
  match p.2 with
  | .ok bs => { p.1 with out := .host 0 bs :: p.1.out }
  | .error _ => { p.1 with out := .host 2 [] :: p.1.out }

/-- A read of `n` bytes at offset `off` of BAR0: the staged bytes while the ROM waits for a push (DEDUCED, log 33),
otherwise an Unsupported Request (R85). -/
def State.bar0Read (s : State) (off n : Nat) : State :=
  if s.flag (Reg.LANE_PCIE_STAT 2 0) 0 = false then s
  else if s.hostMemory = false then { s with out := .host 1 [] :: s.out }
  else if s.stage = 3 ∧ off + n ≤ 0x1000000 then hostBytes (s.stagedMap .host off n)
  else if s.stage = 3 ∧ 0x1000000 ≤ off ∧ off + n ≤ 0x103C000 then hostBytes (s.stagedFw .host (off - 0x1000000) n)
  else { s with out := .host 1 [] :: s.out }

/-- BOOT_END: the child checks the images as for a push and answers with BOOT_RESULT (R87, R474). When the Stand Map
numbers the upstream link otherwise than 0, the boot link falls and the map's link trains anew (log 33). -/
def State.rtlBootEnd (s : State) (l : Nat) (f : Flit) (fails : GroveFails) : State :=
  match s.ctrlIn l f 5 with
  | (s, false) => s
  | (s, true) =>
    if s.stage ≠ 2 ∨ s.mode ≠ 2 then s
    else
      let answer := fun (t : State) (fail code : Nat) => t.queueCtrl l (t.ctrlFlit 6 true 0 [w64 (fail + code * 2 ^ 8)])
      match s.judgeStaged (field (wordOf f 2) 17 0) (field (wordOf f 2) 48 24) with
      | .error t => answer (t.clearStaging.setStage 2) (t.fld Reg.HW_BOOT 15 8) (t.fld Reg.SM_ERROR 7 0)
      | .ok (s, fw, img, ss) =>
        let apply := fun (s : State) => (s.copyFw fw).applyImages fw img ss 3 fails
        let t := apply s
        let s := answer s (t.fld Reg.HW_BOOT 15 8) (t.fld Reg.SM_ERROR 7 0)
        apply (if t.linkEntries.any (fun e => byteN e 0 == 0 && byteN e 2 == 88 && byteN e 4 == 0) then s else s.linkFalls 0)

/-! ### Key slots (R65) -/

/-- KEYPROG_WORD: word `w` of slot `n` programmed from `SM_KEYPROG_DATA`, once, in SERVICE. -/
def State.keyprogWord (s : State) (n w : Nat) : State :=
  let k := s.keySlots
  if s.mode ≠ 11 ∨ k.revoked.getLsbD n = true ∨ (k.word n w).isSome = true then s
  else { s with board := { s.board with
    keyWords := smSet none s.board.keyWords (4 * n + w) (some (s.rd Reg.SM_KEYPROG_DATA)) } }

/-- KEYPROG_REVOKE, in SERVICE. -/
def State.keyprogRevoke (s : State) (n : Nat) : State :=
  if s.mode ≠ 11 then s
  else { s with board := { s.board with keyRevoked := s.board.keyRevoked ||| (1#4 <<< n) } }

/-! ### REGROW (R71 to R73) -/

/-- The end of a REGROW with STATE `st`. -/
def State.endRegrow (s : State) (st : Nat) : State :=
  let s := ((s.setFld Reg.SM_REGROW_STATUS 2 0 st).setFlag Reg.SM_REGROW 32 false).setFlag Reg.SM_STATUS 4 false
  match s.regrow with
  | none => s
  | some r =>
    let s := s.setTxu r.grove { s.txu r.grove with quiescing := false }
    { s with regrow := none }

/-- A REGROW of Grove `g` accepted: STATE 1 while its fragment is checked (R72 step 1). -/
def State.regrowTaken (s : State) (g off : Nat) : State :=
  let s := ((s.setFld Reg.SM_REGROW 3 0 g).setFld Reg.SM_REGROW 25 8 off).setFlag Reg.SM_REGROW 32 true
  (s.wr Reg.SM_REGROW_STATUS (w64 (1 + g % 16 * 2 ^ 8))).setFlag Reg.SM_STATUS 4 true

/-- The fragment at `off` of Heartwood memory read, and checked for Grove `g` (R72 step 2). The spec gives no CODE for a
fragment whose bytes cannot be read: the model reports 0x01 where its preamble, and 0x04 where the rest cannot be read
(DESIGN CHOICE, log 112). A preamble that reaches past the end of Heartwood memory is a bad length. -/
def State.fragment (s : State) (g off : Nat) : State × Except MapError (List MapSection) :=
  if 0x40000 < off + 16 then (s, .error ⟨2, 0, 0, 4⟩)
  else match s.readMem .heartwood (hwMemBase + off) 16 with
  | (s, .error _) => (s, .error ⟨1, 0, 0, 0⟩)
  | (s, .ok head) =>
    let len := min (leN head 4 4) (0x40000 - off)
    match s.readMem .heartwood (hwMemBase + off) (max 16 len) with
    | (s, .error _) => (s, .error ⟨4, 0, 0, 0⟩)
    | (s, .ok img) => (s, s.checkMap s.keySlots true g img len 6)

/-- REGROW_START: the fragment at `off` of Heartwood memory checked for Grove `g`, and the Grove's TXU quiescing (R72
steps 1 to 3). OFFSET is taken as the multiple of 8 at or below what is written: the spec asks for a multiple and says
nothing of any other value (DESIGN CHOICE, log 112). While START is ignored, GROVE and OFFSET alone are written (R10,
R90, R393). A failure is reported in
`SM_ERROR` and in `SM_REGROW_STATUS` (R535). -/
def State.regrowStart (s : State) (g off : Nat) : State :=
  let a := Reg.SM_REGROW_STATUS
  let off := off / 8 * 8
  if s.flag Reg.SM_STATUS 4 = true ∨ s.accepted 10 = false ∨ s.mode ≠ 3 ∨ s.flag Reg.PWR_MODE 8 = true then
    s.fieldsWrite Reg.SM_REGROW (w64 (g % 16 + off % 2 ^ 18 * 2 ^ 8))
  else match (s.regrowTaken g off).fragment g off with
    | (s, .error e) => (((s.noteMapError e).setFld a 23 16 e.code).setFld a 31 24 e.check).endRegrow 5
    | (s, .ok ss) =>
      let s := (s.setFld a 2 0 2).setMode 12
      let s := s.setTxu g { s.txu g with quiescing := true }
      { s with regrow := some ⟨g, ss.map (fun x => (x.ty, x.body))⟩ }

/-- The TXU of Grove `g` has quiesced: no transaction is open, and none is decided or waits for its decision. A doomed one
that its Glade has not ended counts as no open work, and its application aborts it (DESIGN CHOICE, log 142). -/
def State.quiesced (s : State) (g : Nat) : Bool :=
  (s.txu g).decided.isEmpty && (s.txu g).received.isEmpty
    && (List.range 16).all (fun k => match s.txn (16 * g + k) with
      | none => true
      | some t => t.state == .doomed)

/-- REGROW_QUIESCE_TIMEOUT: STATE 6, and the Grove resumes unchanged, unless step 3 has finished (R72). RUN_STATE as written
meanwhile acts again (R397). -/
def State.regrowTimeout (s : State) : State :=
  match s.regrow with
  | none => s
  | some r => if s.quiesced r.grove then s else ((s.endRegrow 6).setMode 3).domainPolicy false

/-- The fences of Grove `g`'s Glades lifted (R494). -/
def State.liftFences (s : State) (g : Nat) : State :=
  (List.range 16).foldl (fun s k => s.updGlade (16 * g + k) (fun x =>
    { x with run := if x.run = .fenced then .clearing else x.run })) s

/-- REGROW_APPLY: steps 4 to 6 of R72. The Glades of the Grove stay in Clearing until they are started. RUN_STATE as written
meanwhile acts again (R397). -/
def State.regrowApply (s : State) : State :=
  match s.regrow with
  | none => s
  | some r =>
    if !s.quiesced r.grove then s
    else
      let g := r.grove
      let ss := r.sections.map (fun p => (⟨p.1, 0, 0, p.2, []⟩ : MapSection))
      let s := s.setFld Reg.SM_REGROW_STATUS 2 0 3
      let s := ((List.range 16).foldl (fun s k => (s.discardOpen (16 * g + k)).interruptTxn (16 * g + k)) s).loseMemories g
      let s := s.withFragment ss g
      let s := (s.liftFences g).loseGlades g .clearing
      let s := s.wr (Reg.GRV_SCRUB_RATE g) (w64 (s.secLE 0x11 (32 * g + 4) 4))
      let s := (s.setFlag Reg.SAF_STATUS (32 + g) false).endRegrow 4
      if s.mode = 12 then (s.setMode 3).domainPolicy false else s

/-! ### `HW_SB_CMD` (R359) -/

/-- An update of dual-copy record `record` from Heartwood memory, as `v` names it; while BUSY, GO is ignored and the
fields alone are written (R10). DESIGN CHOICE (log 132): a body that the Heartwood may not read ends the command with CODE
1, as R364 gives no other; the refused access is recorded (R28). -/
def State.sbUpdate (s : State) (record : Nat) (v : W64) : State :=
  let a := Reg.HW_SB_CMD
  if s.flag a 62 then s.fieldsWrite a (setField v 1 0 record)
  else
    let s := (s.setFld a 1 0 record).setFld a 25 8 (field v 25 8)
    if record = 3 then s.setFld Reg.HW_SB_CMD_STATUS 3 0 2
    else match s.engineRead .heartwood (hwMemBase + field v 25 8 / 8 * 8) 96 with
      | (s, .error _) => s.setFld Reg.HW_SB_CMD_STATUS 3 0 1
      | (s, .ok body) =>
        if !bodyReservedZero record body then s.setFld Reg.HW_SB_CMD_STATUS 3 0 1
        else
          let s := (s.setFlag a 62 true).setFlag a 63 true
          let s := { s with keeper := { s.keeper with updating := record + 1 } }
          (s.queueJob (.update record body true)).pump

end Sys2Proof.Machine
end

