-- ==== Sys2Proof/Machine/CtlRegs.lean ====
section
/-! DEFINITION. Reads and writes of the control registers (R9 to R11): the values that a read forms from the state, what
a read clears, and what a write of each register does. -/

namespace Sys2Proof.Machine

/-- Index of address `a` among `n` registers `stride` apart from `base`. -/
def nth (base stride n a : Nat) : Option Nat :=
  if base ≤ a ∧ (a - base) % stride = 0 ∧ (a - base) / stride < n then some ((a - base) / stride) else none

/-! ### Values formed on a read -/

/-- `GRV_TXU_STATUS`, `GRV_TXU_TICKET` and `GRV_TXU_OPEN` of Grove `g`. -/
def State.txuStatusWord (s : State) (g : Nat) : W64 :=
  let x := s.txu g
  w64 (b2n (s.ticketMode g) + b2n x.quiescing * 2 + x.members.toNat * 2 ^ 8 + x.turn % 16 * 2 ^ 24
    + x.decided.length % 64 * 2 ^ 32 + (s.stalledCommits g).length % 64 * 2 ^ 40)

def State.txuTicketWord (s : State) (g : Nat) : W64 :=
  let x := s.txu g
  if !s.ticketMode g then 0#64
  else
    let applied := match x.decided.head?.bind (fun k => s.txn (16 * g + k)) with
      | some t => t.ticket
      | none => x.next
    w64 (x.next % 2 ^ 32 + applied % 2 ^ 32 * 2 ^ 32)

def State.txuOpenWord (s : State) (g : Nat) : W64 :=
  w64 ((List.range 16).foldl (fun a k => match s.txn (16 * g + k) with
    | some t => if t.state = .isOpen ∨ t.state = .doomed then a + 2 ^ k else a + 2 ^ (16 + k)
    | none => a) 0)

/-- `SAF_LSg`: PAIRS, STOPPED and FENCED over its counters. -/
def State.lsWord (s : State) (g : Nat) : W64 :=
  let v := s.rd (Reg.SAF_LS g)
  (List.range 8).foldl (fun v p =>
    let b := s.groveByte g (8 + p)
    if b = 0 then v
    else
      let run := (s.glade (16 * g + b % 16)).run
      setField (setField (setField v p p 1) (8 + p) (8 + p) (b2n (run == .stopped))) (16 + p) (16 + p)
        (b2n (run == .fenced))) v

/-- `HW_SB_STATUS` and `HW_SB_GROVEg` with their counts of marker slots. -/
def State.sbInFlight (s : State) (g : Nat) : Nat := ((s.linesOf g).filter (fun n => (s.slot n).inFlight)).length

def State.sbStatusWord (s : State) : W64 :=
  let free := (List.range 16).foldl (fun n g => n + (s.quota g - s.sbInFlight g)) 0
  setField (setField (s.rd Reg.HW_SB_STATUS) 5 0 free) 8 8 (b2n s.keeper.port.isSome)

def State.sbGroveWord (s : State) (g : Nat) : W64 :=
  setField (setField (setField (s.rd (Reg.HW_SB_GROVE g)) 5 0 (s.quota g)) 13 8 (s.sbInFlight g)) 21 16
    (s.stalledCommits g).length

/-- `JW_STATUS`: controllers ready, journals open, captures. -/
def State.jwStatusWord (s : State) : W64 :=
  let ids := s.journalEntries.map (fun e => leN e 0 2)
  let ctrls := ((List.range 16).filter (fun i => s.flag (Reg.JW_CTRL i) 1)).length
  setField (setField (setField (s.rd Reg.JW_STATUS) 12 8 ctrls) 28 16 (ids.filter (fun j => s.jstate j == 2)).length)
    44 32 (ids.filter (fun j => (s.journal j).capture.isSome)).length

/-- `SM_KEYSTATE`. -/
def State.keyStateWord (s : State) : W64 :=
  let k := s.keySlots
  w64 ((List.range 4).foldl (fun a n =>
    a + b2n (k.programmed n) * 2 ^ n + b2n (k.revoked.getLsbD n) * 2 ^ (4 + n) + b2n (k.complete n) * 2 ^ (8 + n)) 0)

/-- `RTL_MBOXk` of the oldest message (R470). -/
def State.mboxWord (s : State) (k : Nat) : W64 :=
  match s.rootlink.mailbox with
  | [] => 0#64
  | m :: _ =>
    if k = 0 then
      let w := m.words.headD 0#64
      w64 (m.sub % 16 + m.link % 32 * 2 ^ 4 + field w 13 0 * 2 ^ 9 + b2n (bit w 14) * 2 ^ 23)
    else m.words.getD k 0#64

/-- The device drives FAULT_N low (R510). -/
def State.faultOut (s : State) : Bool := s.flag Reg.SAF_STATUS 2 || s.flag Reg.SAF_CTL 0

/-- The registers whose value a read by `r` forms from the state. -/
def State.formed (s : State) (r : Requester) (a : Nat) : Option W64 :=
  if a < 0x401000000 then
    let g := (a - 0x400000000) / 0x100000
    let o := a % 0x100000
    if o = 0x1800 then some (s.txuStatusWord g)
    else if o = 0x1808 then some (s.txuTicketWord g)
    else if o = 0x1810 then some (s.txuOpenWord g)
    else if o = 0x1208 then some (setField (s.rd a) 63 63 (b2n (s.scrubRuns g)))
    else none
  else if a = Reg.HW_SB_STATUS then some s.sbStatusWord
  else if a = Reg.QM_STATUS then
    some (setField (setField (s.rd a) 26 16 (s.pinnedIn 0)) 42 32 (s.pinnedIn 1))
  else if a = Reg.JW_STATUS then some s.jwStatusWord
  else if a = Reg.TLY_STATUS then some (setField (s.rd a) 28 16 s.pendingSources.length)
  else if a = Reg.TLY_SUM0 then some (sumWord s.pendWord 0 64)
  else if a = Reg.TLY_SUM1 then some (sumWord s.pendWord 64 4)
  else if a = Reg.TLY_MYSUM0 ∨ a = Reg.TLY_MYSUM1 then
    let f := match r with
      | .glade i => s.myPendWord (s.leaderOf i)
      | _ => s.pendWord
    some (if a = Reg.TLY_MYSUM0 then sumWord f 0 64 else sumWord f 64 4)
  else if a = Reg.PWR_EST then some s.estWord
  else if a = Reg.UST_TIME then some s.time.delivered
  else if a = Reg.SAF_STATUS then some (setField (s.rd a) 2 2 (b2n s.faultOut))
  else if a = Reg.SM_KEYSTATE then some s.keyStateWord
  else if a = Reg.UST_UART_CFG then some s.uartCfg
  else if a = Reg.UST_UART_RX then some s.uart.rxWord
  else if a = Reg.UST_SSO then some (setField (s.rd a) 15 8 s.ssoDriven)
  else if a = Reg.RTL_MBOX_STATUS then some (setField (s.rd a) 4 0 s.rootlink.mailbox.length)
  else if a = Reg.RTL_BLAZE_STATUS then
    some (setField (s.rd a) 1 0 (if s.rootlink.cutting.isSome then 1 else if s.rootlink.runs.isEmpty then 0 else 2))
  else if a = Reg.RTL_BOARD then
    some (setField (s.rd a) 2 2 (b2n (!s.flag Reg.PWR_STATUS 0)))
  else
    [ (nth (Reg.HW_SB_GROVE 0) 8 16 a).map s.sbGroveWord,
      (nth (Reg.QM_GPOOL 0) 8 16 a).map s.gpoolWord,
      (nth (Reg.QM_DPOOL_SIZE 0) 16 4 a).map s.dpoolSizeWord,
      (nth (Reg.QM_DPOOL_LOST 0) 8 4 a).map s.dpoolLostWord,
      (nth (Reg.JW_JSTATE 0) 8 4096 a).map (fun j =>
        setField (setField (s.rd a) 3 3 (b2n (s.journal j).capture.isSome)) 4 4 (b2n (s.journal j).queued.isSome)),
      (nth (Reg.TLY_PEND 0) 8 68 a).map s.pendWord,
      (nth (Reg.TLY_MYPEND 0) 8 68 a).map (fun w => match r with
        | .glade i => s.myPendWord (s.leaderOf i) w
        | _ => s.pendWord w),
      (nth (Reg.TLY_CNT 0) 8 4352 a).map s.cntWord,
      (nth (Reg.SAF_LS 0) 8 16 a).map s.lsWord,
      (nth (Reg.SAF_GCTL 0) 8 256 a).map (fun i => setField (s.rd a) 2 0 (s.gctlState i)),
      (nth (Reg.SM_KEYDIG 0 0) 8 16 a).map (fun k => (s.keySlots.word (k / 4) (k % 4)).getD 0#64),
      (nth (Reg.RTL_MBOX 0) 8 6 a).map s.mboxWord,
      (gviewAt a).map (fun p => (s.glade p.1).view p.2) ].findSome? id

/-- What a read shows of the levels of pins that other devices drive, which are free (log 75): EXT_FAULT and SYNC_LEVEL
of `RTL_BOARD`, FAULT_IN while the device itself does not drive FAULT_N (R486), and ALERT of `UST_I2C_CMD` (R449). -/
def State.pinLevels (s : State) (a : Nat) (v : W64) : State × W64 :=
  if a = Reg.RTL_BOARD then
    let f := s.freeWord
    let ext := bit f.1 0 && !s.faultOut
    (f.2, setField (setField (setField v 0 0 (b2n (s.faultOut || ext))) 1 1 (b2n ext)) 3 3 (b2n (bit f.1 1)))
  else if a = Reg.UST_I2C_CMD then
    let f := s.freeWord
    (f.2, setField v 27 27 (b2n (bit f.1 0)))
  else (s, v)

/-- A read of control register `a` by `r` (R10): WO and reserved bits read 0; RC fields are cleared in the same access,
and a read of `UST_UART_RX` takes the byte. -/
def State.regRead (s : State) (r : Requester) (a : Nat) : State × W64 :=
  let s := s.touch a
  match regAt a with
  | none => (s, (s.formed r a).getD 0#64)
  | some row =>
    let p := s.pinLevels a ((s.formed r a).getD (s.rd a))
    let s := p.1
    let v := p.2 &&& ~~~(w64 row.wo) &&& (w64 row.used)
    if a = Reg.UST_UART_RX then (s.uartRead, v)
    else if row.rc = 0 then (s, v)
    else (s.wr a (s.rd a &&& ~~~(w64 row.rc)), v)

/-! ### Writes -/

/-- A write of `JW_CMD`: GO starts OP, and is ignored while BUSY. -/
def State.jwCommand (s : State) (v : W64) (rep : BoardReply) : State :=
  let j := field v 27 16
  if !bit v 63 then s.codesWrite Reg.JW_CMD v
  else s.jwIfIdle (field v 3 0) j fun s => match field v 3 0 with
    | 1 => s.jwOpen j rep.readOk rep.timely
    | 2 => s.jwSeal j
    | 3 => s.jwFormat j
    | 4 => s.jwPersist j
    | 5 => s.jwReopen j rep.readOk rep.timely
    | op => s.jwAtOnce op j 2

/-- A write of `RTL_CMD`. -/
def State.rtlCommand (s : State) (v : W64) : State :=
  if !bit v 63 then s.codesWrite Reg.RTL_CMD v
  else match field v 3 0 with
    | 1 => s.rtlAssignCmd v
    | 2 => s.blazeStartCmd v
    | 3 => s.blazeRequestCmd v
    | 4 => s.bootSendCmd v
    | 5 => s.bootEndCmd v
    | 6 => s.negSetCmd v
    | 7 => s.msgCmd v
    | _ => s.rtlBadOp v

/-- A write of `SAF_GCTLi` (R10): START_PC, then STOP, then START (R493). -/
def State.gctlWrite (s : State) (i : Nat) (v : W64) : State :=
  let s := s.fieldsWrite (Reg.SAF_GCTL i) v
  let s := if bit v 62 then s.gctlStop i else s
  if bit v 63 then s.gctlStart i else s

/-- A write of `SM_KEYPROG`, from JTAG in SERVICE only (R65). -/
def State.keyprogWrite (s : State) (r : Requester) (v : W64) : State :=
  if r ≠ .jtag then s
  else if bit v 4 then s.keyprogRevoke (field v 1 0)
  else s.keyprogWord (field v 1 0) (field v 3 2)

/-- A write of `HW_SB_CMD`. -/
def State.sbCommand (s : State) (v : W64) : State :=
  if bit v 63 then s.sbUpdate (field v 1 0) v else s.codesWrite Reg.HW_SB_CMD v

/-- A write of `LANE_EQn`, ignored when the cursors exceed 63. -/
def State.eqWrite (s : State) (a : Nat) (v : W64) : State :=
  if 63 < field v 5 0 + field v 13 8 + field v 21 16 then s else s.codesWrite a v

/-- A write of an INFO register: 1 to VALID frees the record (R253). -/
def State.infoWrite (s : State) (r : RecSet) (n : Nat) (v : W64) : State := if bit v 0 then s.errRecordFree r n else s

/-- A board that answers nothing. -/
def noReply : BoardReply := ⟨⟨[], [], some 0⟩, 0, [], [], [], ⟨[], .timeout⟩, [], ⟨0#16, 0#16⟩⟩

/-- A write of `v` to control register `a` by `r`, which its check has allowed; `rep`: what the board answers to a
command that the write starts. -/
def State.regWrite (s : State) (r : Requester) (a : Nat) (v : W64) (rep : BoardReply) : State :=
  let s := s.touch a
  if a < 0x401000000 then
    let g := (a - 0x400000000) / 0x100000
    let o := a % 0x100000
    if 0x1100 ≤ o ∧ o < 0x1180 ∧ o % 16 = 0 then s.infoWrite (.grove g) ((o - 0x1100) / 16) v
    else if o = 0x1300 then s.injectWrite g v
    else if 0x1400 ≤ o ∧ o < 0x1600 then s.retireWrite g ((o - 0x1400) / 8) v
    else s.codesWrite a v
  else if a = Reg.HW_PUSH then s.pushGo v rep.fails
  else if a = Reg.HW_SB_CMD then s.sbCommand v
  else if a = Reg.NEG_LOCK then (if bit v 0 then s.negLockWrite (r == .host) else s)
  else if a = Reg.NEG_ACCEPT 0 then s.negAccept 0 v
  else if a = Reg.NEG_ACCEPT 1 then s.negAccept 1 v
  else if a = Reg.SM_KEYPROG then s.keyprogWrite r v
  else if a = Reg.SM_KEYPROG_DATA then s.wr a v
  else if a = Reg.SM_REGROW then
    (if bit v 32 then s.regrowStart (field v 3 0) (field v 25 8) else s.codesWrite a v)
  else if a = Reg.SAF_FAULT then s.faultAck v
  else if a = Reg.SAF_CTL then s.safCtl v
  else if a = Reg.QM_CMD then (if bit v 63 then s.qmCommand v else s.codesWrite a v)
  else if a = Reg.JW_CMD then s.jwCommand v rep
  else if a = Reg.TLY_RAISE then s.tallyRaise v
  else if a = Reg.UST_TIME_STEP then s.timeStep v
  else if a = Reg.UST_SSO then s.ssoWrite (match r with | .glade i => some i | _ => none) v
  else if a = Reg.UST_XSPI_CMD then s.xspiCmd v rep.flash
  else if a = Reg.UST_I2C_CMD then s.i2cTransfer v rep.i2cResult.val rep.i2cData
  else if a = Reg.UST_UART_TX then s.uartTx (BitVec.ofNat 8 (field v 7 0))
  else if a = Reg.PWR_MODE_REQ then (if bit v 63 then s.requestMode (field v 3 0) else s.codesWrite a v)
  else if a = Reg.PWR_LEAN_CFG then s.leanWrite v
  else if a = Reg.RTL_CMD then s.rtlCommand v
  else if a = Reg.RTL_MBOX_POP then s.mboxPop v
  else if a = Reg.RTL_BLAZE_NEXT then (if s.rootlink.cutting.isSome then s else s.wr a v)
  else
    ([ (nth (Reg.DDR_ERR_INFO 0 0) 16 8 (a % 0x10000 + Reg.DDR_CH_CFG 0)).bind (fun n =>
         if Reg.DDR_CH_CFG 0 ≤ a ∧ a < Reg.DDR_CH_CFG 4 then
           some (s.infoWrite (.ddr ((a - Reg.DDR_CH_CFG 0) / 0x10000)) n v) else none),
       (nth (Reg.SAF_ERR_INFO 0) 16 8 a).map (fun n => s.infoWrite .heartwood n v),
       (nth (Reg.SAF_GCTL 0) 8 256 a).map (fun i => s.gctlWrite i v),
       (gviewAt a).map (fun p => s.viewWrite p.1 p.2 v),
       (nth (Reg.QM_GPOOL 0) 8 16 a).map (fun k => s.poolWrite k v),
       (nth (Reg.QM_DPOOL_BASE 0) 16 4 a).map (fun k => s.poolWrite (16 + k) v),
       (nth (Reg.QM_DPOOL_SIZE 0) 16 4 a).map (fun k => s.poolWrite (20 + k) v),
       (nth (Reg.QM_EGQ 0) 8 128 a).map (fun n => s.egqWrite n v),
       (nth (Reg.JW_JREL 0) 8 4096 a).map (fun j => s.jrelWrite j v),
       (nth (Reg.TLY_SUB 0) 8 4352 a).map (fun k => s.tallySub k (field v 15 0)),
       (nth (Reg.TLY_ROUTE 0) 8 4352 a).map (fun k => s.routeWrite k v),
       (nth (Reg.UST_GPI_CFG 0) 8 16 a).map (fun n => s.gpiWrite n v),
       (nth (Reg.PWR_DOM 0) 8 64 a).map (fun d => s.domWrite d v),
       (nth (Reg.PWR_RAIL 0) 8 17 a).map (fun n => s.railWrite n v),
       (nth (Reg.LANE_EQ 0) 0x100 96 a).map (fun _ => s.eqWrite a v) ].findSome? id).getD (s.codesWrite a v)

/-- The registers that a write changes by their access codes alone. -/
def plainWrite (a : Nat) : Bool :=
  let o := a % 0x100000
  if a < 0x401000000 then !(decide (0x1100 ≤ o ∧ o < 0x1180) || o == 0x1300 || decide (0x1400 ≤ o ∧ o < 0x1600))
  else
    !([Reg.HW_PUSH, Reg.HW_SB_CMD, Reg.NEG_LOCK, Reg.NEG_ACCEPT 0, Reg.NEG_ACCEPT 1, Reg.SM_KEYPROG, Reg.SM_REGROW,
        Reg.SAF_FAULT, Reg.SAF_CTL, Reg.QM_CMD, Reg.JW_CMD, Reg.TLY_RAISE, Reg.UST_TIME_STEP, Reg.UST_SSO,
        Reg.UST_XSPI_CMD, Reg.UST_I2C_CMD, Reg.UST_UART_TX, Reg.PWR_MODE_REQ, Reg.PWR_LEAN_CFG, Reg.RTL_CMD,
        Reg.RTL_MBOX_POP, Reg.RTL_BLAZE_NEXT, Reg.SM_KEYPROG_DATA].contains a)
    && [ (Reg.SAF_ERR_INFO 0, 16, 8), (Reg.SAF_GCTL 0, 8, 256), (Reg.QM_GPOOL 0, 8, 16), (Reg.QM_DPOOL_BASE 0, 16, 4),
         (Reg.QM_DPOOL_SIZE 0, 16, 4), (Reg.QM_EGQ 0, 8, 128), (Reg.JW_JREL 0, 8, 4096), (Reg.TLY_SUB 0, 8, 4352),
         (Reg.TLY_ROUTE 0, 8, 4352), (Reg.UST_GPI_CFG 0, 8, 16), (Reg.PWR_DOM 0, 8, 64), (Reg.PWR_RAIL 0, 8, 17),
         (Reg.LANE_EQ 0, 0x100, 96)].all (fun p => (nth p.1 p.2.1 p.2.2 a).isNone)
    && (gviewAt a).isNone && !(decide (Reg.DDR_CH_CFG 0 ≤ a ∧ a < Reg.DDR_CH_CFG 4 ∧ 0x110 ≤ a % 0x10000))

/-- The registers whose writes follow a rule of their own and for which the opcode table has no row of their own. -/
def ruledWrite (a : Nat) : Bool :=
  [Reg.NEG_ACCEPT 0, Reg.NEG_ACCEPT 1, Reg.SM_KEYPROG_DATA, Reg.PWR_LEAN_CFG, Reg.RTL_BLAZE_NEXT].contains a
    || (nth (Reg.QM_EGQ 0) 8 128 a).isSome || (nth (Reg.LANE_EQ 0) 0x100 96 a).isSome

/-! ### Accesses to any address -/

/-- A read that its check has allowed, of `n` bytes within one word at address `a`. -/
def State.devRead (s : State) (r : Requester) (a n : Nat) (rep : BoardReply) : State × Except Nat (List Byte) :=
  match s.regionOf a with
  | .control =>
    let p := s.regRead r a
    (p.1, .ok (bytesLE 8 p.2.toNat))
  | .flash => (s, .ok (s.flashBytesAt (a - 0x600000000) n))
  | .pcie c => s.windowRead c (windowOffset c a) n rep.pcie
  | _ => s.readMem r a n

/-- A write that its check has allowed, of bytes within one word. -/
def State.devWrite (s : State) (r : Requester) (a : Nat) (data : List Byte) (rep : BoardReply) : State :=
  match s.regionOf a with
  | .control => s.regWrite r a (w64 (ofBytesLE data)) rep
  | .pcie c => s.postPcie c (windowOffset c a) data
  | _ => s.writeMem r .agent none a data

/-- REGISTER_WRITE by the Heartwood of a register whose write the opcode table gives no row of its own; a write to an
unmapped address is refused. -/
def State.registerWrite (s : State) (a : Nat) (v : W64) : State :=
  match s.accessCheck .heartwood true a 8 v with
  | some d => s.recordRefusal .heartwood a d
  | none =>
    if s.regionOf a ≠ .control then s
    else if ruledWrite a then s.regWrite .heartwood a v noReply
    else if plainWrite a then (s.touch a).codesWrite a v
    else s

/-- REGISTER_READ_CLEAR by the Heartwood: the value read is among the outputs. -/
def State.registerRead (s : State) (a : Nat) : State :=
  match s.accessCheck .heartwood false a 8 0#64 with
  | some d => { s.recordRefusal .heartwood a d with out := .refused d :: s.out }
  | none =>
    if s.regionOf a ≠ .control then s
    else
      let p := s.regRead .heartwood a
      { p.1 with out := .reg p.2 :: p.1.out }

/-! ### The host (R441) -/

/-- The BARs have their contents of after step 7 of R77 (R441); before it BAR2 has two windows alone, and BAR4 none
(R85). -/
def State.barsOpen (s : State) : Bool := s.stage == 6

/-- What BAR2 or BAR4 offset `off` names: a device address, or nothing. -/
def State.barAddr (s : State) (bar4 : Bool) (off : Nat) : Option Nat :=
  if bar4 then
    (if s.barsOpen ∧ s.flag Reg.LANE_EP_WIN 0 ∧ off < 2 ^ 30 then some (s.fld Reg.LANE_EP_WIN 47 30 * 2 ^ 30 + off) else none)
  else if off < 0x1000 then some (0x401000000 + off)
  else if s.barsOpen ∧ 0x8000 ≤ off ∧ off < 0x9000 then some (0x404000000 + (off - 0x8000))
  else if 0x10000 ≤ off ∧ off < 0x11000 then some (0x40C000000 + (off - 0x10000))
  else none

/-- The bytes of the MSI-X table's entry `v` (R441). -/
def State.msixBytes (s : State) (v : Nat) : List Byte :=
  let e := smGet (0#64, 0#32, 1#32) s.msix.table v
  bytesLE 8 e.1.toNat ++ bytesLE 4 e.2.1.toNat ++ bytesLE 4 e.2.2.toNat

/-- Bytes written into the MSI-X table at table offset `o`; of the vector control only the mask bit is kept. -/
def State.msixWrite (s : State) (o : Nat) (data : List Byte) : State :=
  let v := o / 16
  let b := splice (s.msixBytes v) (o % 16) data
  { s with msix := { s.msix with
    table := smSet (0#64, 0#32, 1#32) s.msix.table v
      (w64 (leN b 0 8), BitVec.ofNat 32 (leN b 8 4), BitVec.ofNat 32 (leN b 12 4 % 2)) } }

/-- One word's part of a host read: its bytes, or 1 Unsupported Request, 2 Completer Abort. -/
def State.hostReadPart (s : State) (bar4 : Bool) (off n : Nat) (rep : BoardReply) : State × Except Nat (List Byte) :=
  if s.barsOpen && !bar4 && decide (0x18000 ≤ off ∧ off < 0x18200) then
    (s, .ok (((s.msixBytes ((off - 0x18000) / 16)).drop (off % 16)).take n))
  else if s.barsOpen && !bar4 && decide (0x1C000 ≤ off ∧ off < 0x1C008) then
    (s, .ok (((bytesLE 8 s.msix.pending.toNat).drop (off % 8)).take n))
  else match s.barAddr bar4 off with
    | none => (s, .error 1)
    | some a =>
      match s.accessCheck .host false a n 0#64 with
      | some d => (s.recordRefusal .host a d, .error (if d = 1 then 1 else 2))
      | none => match s.devRead .host (canon .host a) n rep with
        | (s, .ok bs) => (s, .ok bs)
        | (s, .error _) => (s, .error 2)

/-- One word's part of a host write; a refused one is dropped. -/
def State.hostWritePart (s : State) (bar4 : Bool) (off : Nat) (data : List Byte) (rep : BoardReply) : State :=
  if s.barsOpen && !bar4 && decide (0x18000 ≤ off ∧ off < 0x18200) then s.msixWrite (off - 0x18000) data
  else match s.barAddr bar4 off with
    | none => s
    | some a =>
      match s.accessCheck .host true a data.length (w64 (ofBytesLE data)) with
      | some d => s.recordRefusal .host a d
      | none => s.devWrite .host (canon .host a) data rep

/-- A TLP to BAR2 or BAR4 while the endpoint is up, as a sequence of word accesses. One to memory that answers no access
yet waits (R265): nothing happens, and the TLP is still to come. -/
def State.hostWords (s : State) (bar4 : Bool) (off : Nat) (req : HostReq) (rep : BoardReply) : State :=
  let n := match req with
    | .write data => data.length
    | .read n => n
  let waits := (splitWords off (List.replicate n 0#8)).any (fun q => match s.barAddr bar4 q.1 with
    | some a => (s.accessCheck .host false a 1 0#64).isNone && s.accessWaits (canon .host a)
    | none => false)
  if !s.flag (Reg.LANE_PCIE_STAT 2 0) 0 then s
  else if !s.hostMemory then s.hostUr req
  else if waits then s
  else match req with
    | .write data => (splitWords off data).foldl (fun s p => s.hostWritePart bar4 p.1 p.2 rep) s
    | .read n =>
      let p := (splitWords off (List.replicate n 0#8)).foldl
        (fun (acc : State × Except Nat (List Byte)) q => match acc.2 with
          | .error _ => acc
          | .ok bs =>
            match acc.1.hostReadPart bar4 q.1 q.2.length { rep with pcie := restOf rep.pcie bs.length } with
            | (s, .ok cs) => (s, .ok (bs ++ cs))
            | (s, .error e) => (s, .error e)) (s, .ok [])
      match p.2 with
      | .ok bs => { p.1 with out := .host 0 bs :: p.1.out }
      | .error e => { p.1 with out := .host e [] :: p.1.out }

/-- HOST_BAR_ACCESS: a TLP to BAR2 or BAR4 (R441), to BAR0 (R85), or to the endpoint's configuration space (R440). -/
def State.hostAccess (s : State) (bar : HostBar) (off : Nat) (req : HostReq) (rep : BoardReply) : State :=
  match bar, req with
  | .config, _ => s.hostConfig off req
  | .bar0, .write data => s.bar0Write off data
  | .bar0, .read n => s.bar0Read off n
  | .bar2, _ => s.hostWords false off req rep
  | .bar4, _ => s.hostWords true off req rep

/-! ### SVC_ACCESS (R454) -/

/-- The answer that the next Capture-DR of SVC_ACCESS loads. -/
def State.svcAnswer (s : State) (status : Nat) (v : W64) : State :=
  { s with jtag := { s.jtag with ir := 0x22, pins := 0, status := status, data := v } }

/-- An access of SVC_ACCESS (OP 1 read, 2 write) made: a 64-bit access that the Heartwood would make; it is in progress
while its memory answers no access yet (R265, R454). -/
def State.svcMake (s : State) (op a : Nat) (v : W64) (rep : BoardReply) : State :=
  match s.accessCheck .jtag (op == 2) a 8 v with
    | some d => (s.recordRefusal .jtag a d).svcAnswer 1 s.jtag.data
    | none =>
      if s.accessWaits (canon .jtag a) then
        let t := s.svcAnswer 2 s.jtag.data
        { t with jtag := { t.jtag with access := some (op, a, v) } }
      else if op = 2 then (s.devWrite .jtag (canon .jtag a) (bytesLE 8 v.toNat) rep).svcAnswer 0 s.jtag.data
      else match s.devRead .jtag (canon .jtag a) 8 rep with
        | (t, .ok bs) => t.svcAnswer 0 (w64 (ofBytesLE bs))
        | (t, .error _) => t.svcAnswer 1 s.jtag.data

/-- SVC_ACCESS with OP `op`, in SERVICE (R454). While an access is still in progress, the answer is STATUS 2 and no other
access is made (log 132). DESIGN CHOICE (log 132): an address that is not 8-byte aligned, which R454 does not allow, is
answered with STATUS 1, without an access and without a record. -/
def State.svcAccess (s : State) (op a : Nat) (v : W64) (rep : BoardReply) : State :=
  if s.mode ≠ 11 then s.svcAnswer 3 s.jtag.data
  else if s.jtag.access.isSome then s.svcAnswer 2 s.jtag.data
  else if op ≠ 1 ∧ op ≠ 2 then s.svcAnswer 0 s.jtag.data
  else if a % 8 ≠ 0 then s.svcAnswer 1 s.jtag.data
  else s.svcMake op a v rep

/-- The access of SVC_ACCESS in progress goes on; one that SERVICE has not lived to see is dropped. -/
def State.pollSvc (s : State) : State :=
  match s.jtag.access with
  | none => s
  | some (op, a, v) =>
    let t : State := { s with jtag := { s.jtag with access := none } }
    if s.mode ≠ 11 then t else if s.accessWaits (canon .jtag a) then s else t.svcMake op a v noReply

end Sys2Proof.Machine
end

