-- ==== Sys2Proof/Machine/Drain.lean ====
section
/-! DEFINITION. What happens to loads, stores and block reads after their bundle: draining (R163 to R172), answers (R161,
R162, R168), root-port completions (R439), and block retirement (R145 to R147); with what the leading Glade of a pair
passes on (R496). -/

namespace Sys2Proof.Machine

/-! ### What a pair passes on (R496, R497) -/

/-- The lockstep pair led by `l`. -/
def State.pair (s : State) (l : Nat) : Pair := smGet Pair.reset s.pairs l

def State.setPair (s : State) (l : Nat) (p : Pair) : State := { s with pairs := smSet Pair.reset s.pairs l p }

/-- `c` leads a pair. -/
def State.isLeading (s : State) (c : Nat) : Bool := (s.pairOf c).isSome && !s.isTrailing c

/-- Bundles core `c` of a pair has issued since the last seal. -/
def State.sealPos (s : State) (c : Nat) : Nat :=
  let p := s.pair (s.leaderOf c)
  ((s.glade c).cntIssued - (if s.isTrailing c then p.trailBase else p.leadBase)).toNat

/-- What the leading Glade `c` obtained, kept for the trailing one. -/
def State.feed (s : State) (c : Nat) (f : Fed) : State :=
  if s.isLeading c then
    let p := s.pair c
    s.setPair c { p with feed := p.feed ++ [(s.sealPos c, f)] }
  else s

/-- The first value `p` selects of what the trailing Glade `c` has still to take, and the state without it. -/
def State.takeFeed (s : State) (c : Nat) (p : Nat × Fed → Bool) : Option (State × Fed) :=
  let l := s.leaderOf c
  let x := s.pair l
  match x.feed.find? p with
  | some e => some (s.setPair l { x with feed := x.feed.erase e }, e.2)
  | none => none

def Fed.isLoad : Fed → Bool
  | .load _ => true
  | .loadBad _ => true
  | _ => false

def Fed.isTime : Fed → Bool
  | .time _ _ => true
  | _ => false

/-! ### Store drain -/

/-- The target of R166 that holds storage address `a`, for the stores of core `c`: kind and number. The blocks of the
control space are its 16 Grove control blocks and its other 16 MiB ranges (R23). -/
def State.drainTarget (s : State) (c a : Nat) : Nat × Nat :=
  match s.regionOf a with
  | .imem i => if i = c then (1, 0) else (3, i)
  | .dmem i => if i = c then (0, 0) else (3, i)
  | .groveMem g => (2, g)
  | .hwMem => (4, 0)
  | .dram => (5, 0)
  | .control => if a < 0x401000000 then (6, (a - 0x400000000) / 0x100000) else (7, a / 0x1000000)
  | .pcie k => (8, k)
  | _ => (9, 0)

/-- The `n`-th buffered store of core `c` may drain now: no earlier one to its target is left (R166), no load before it
is unanswered and no DEQ before it can still fail (R120), a DRAM burst lies below its watermark (R263), and the memory
answers accesses (R265). -/
def State.mayDrain (s : State) (c n : Nat) : Bool :=
  let x := s.glade c
  match x.stores[n]? with
  | none => false
  | some e =>
    (x.stores.take n).all (fun d => s.drainTarget c d.addr != s.drainTarget c e.addr)
      && x.loads.all (fun l => decide (e.seq < l.seq)) && !x.heldBack e.seq
      && (s.regionOf e.addr != .dram || s.belowMark e.addr)
      && !s.accessWaits e.addr

/-- A buffered store of core `c` written at its target; one to an island that is reset is refused on the way (R27, R28,
R428).
`ans`: the dual-port rule's answer to a write to Grove memory (R246). -/
def State.performStore (s : State) (c : Nat) (e : StoreEntry) (ans : PortAnswer) (rep : BoardReply) : State :=
  let lost := (s.servedBy e.addr).any (fun i => s.flag (Reg.UST_ISL i) 1)
  match s.regionOf e.addr with
  | .control =>
    if lost then s.recordRefusal (coreRequester c) e.addr 1 else s.regWrite (coreRequester c) e.addr (w64 (ofBytesLE e.data)) rep
  | .pcie k => s.postPcie k (windowOffset k e.addr) e.data
  | _ =>
    if lost then s.recordRefusal (coreRequester c) e.addr 1 else (s.onPorts [ans] (fun s => (s.storeToMemory c e, ()))).1

/-- STORE_DRAIN: the `n`-th buffered store of core `c` is written at its target and leaves the buffer. -/
def State.storeDrain (s : State) (c n : Nat) (ans : PortAnswer) (rep : BoardReply) : State :=
  if !s.mayDrain c n then s
  else match (s.glade c).stores[n]? with
    | none => s
    | some e =>
      (s.updLate c (fun x => { x with stores := x.stores.filter (· != e) })).performStore c e ans rep

/-- The store buffer of core `c` drained as far as it can, before an M3 instruction. -/
def State.drainStores (s : State) (c : Nat) : Nat → State
  | 0 => s
  | k + 1 =>
    match (List.range (s.glade c).stores.length).find? (fun n => s.mayDrain c n) with
    | some n => (s.storeDrain c n .done noReply).drainStores c k
    | none => s

/-- Every store that the Glades of Grove `g` have issued written at its target, in order: each passed its check and is
performed, though its Glade has stopped for a REGROW (R72, R164). -/
def State.flushStores (s : State) (g : Nat) : State :=
  (List.range 16).foldl (fun s k =>
    let c := 16 * g + k
    (s.glade c).stores.foldl (fun s e =>
      (s.updAsync c (fun x => { x with stores := x.stores.filter (· != e) })).performStore c e .done noReply) s) s

/-- REGROW_APPLY (R72): the Glades stop at a bundle boundary, their issued stores are performed, and steps 4 to 6
follow. -/
def State.regrowFinish (s : State) : State :=
  match s.regrow with
  | some r => if s.quiesced r.grove then (s.flushStores r.grove).regrowApply else s
  | none => s

/-! ### Load answers -/

/-- What the target of load `l` of core `c` answers; none: not yet. A root-port window answers by a completion. -/
def State.loadTarget (s : State) (c : Nat) (l : LoadFlight) (ps : List PortAnswer) :
    Option (State × Except Nat (List Byte)) :=
  match s.servedFor c l with
  | .wait => none
  | .forward bs => some (s, .ok bs)
  | .memory =>
    if s.accessWaits l.addr then none
    else match s.regionOf l.addr with
      | .control => let p := s.regRead (coreRequester c) l.addr; some (p.1, .ok (bytesLE 8 p.2.toNat))
      | .flash => some (s, .ok (s.flashBytesAt (l.addr - 0x600000000) l.bytes))
      | .pcie k =>
        let o := windowOffset k l.addr
        if ownConfig o then some (s.bridgeRead k o l.bytes) else none
      | _ => some (s.loadMemory c l ps)

/-- Core `c`'s load ends with its value, or with an error; a leading Glade passes on what came from outside its own
memories, and folds it (R496, R497). -/
def State.loadDone (s : State) (c : Nat) (l : LoadFlight) (r : Except Nat (List Byte)) : State :=
  let local' := s.isLocal c l.addr
  match r with
  | .ok bs =>
    let v := extendLoad bs l.signed
    let s := s.answerWith c l v
    if local' then s else (s.feed c (.load v)).foldFor c (w64 l.addr) v
  | .error d =>
    let s := s.failLoad c l d
    if local' || !s.isLeading c then s
    else
      let p := s.pair c
      (s.setPair c { p with feed := p.feed.filter (fun e => decide (e.1 ≤ s.sealPos c)) }).feed c (.loadBad d)

/-- LOAD_ANSWER: the oldest unanswered load of core `c` is answered, `ps` being what the dual-port rule says of each of
its words. The trailing Glade of a pair receives what the leading one obtained. -/
def State.loadAnswer (s : State) (c : Nat) (ps : List PortAnswer) : State :=
  match (s.glade c).loads with
  | [] => s
  | l :: _ =>
    if s.isTrailing c && !s.isLocal c l.addr then
      match s.takeFeed c (fun e => e.2.isLoad) with
      | some (s, .load v) => (s.answerWith c l v).foldFor c (w64 l.addr) v
      | some (s, .loadBad d) => s.failLoad c l d
      | _ => s
    else if (s.glade c).heldBack l.seq then s
    else match l.dead with
      | some d => (if d = 1 then s.recordRefusal (coreRequester c) l.named 1 else s).loadDone c l (.error d)
      | none => match s.loadTarget c l ps with
        | some (s, r) => s.loadDone c l r
        | none => s

/-- The oldest load of core `c` ends at once where a reset or a lost link has cut it off (R428, R439). -/
def State.endDead (s : State) (c : Nat) : State :=
  if (s.glade c).loads.any (fun l => l.dead.isSome) then
    match (s.glade c).loads with
    | l :: _ => if l.dead.isSome then s.loadAnswer c [] else s
    | [] => s
  else s

/-- A completion of the oldest load of core `c`, of a root-port window: its data, or how it failed. -/
def State.pcieAnswer (s : State) (c : Nat) (r : Except PcieMiss W64) : State :=
  match (s.glade c).loads with
  | [] => s
  | l :: _ =>
    match s.regionOf l.addr with
    | .pcie k =>
      if !l.asked || l.dead.isSome then s
      else match r with
        | .ok v => s.loadDone c l (.ok ((bytesLE 8 v.toNat).take l.bytes))
        | .error m =>
          (if m = .unsupported then s else s.pcieError k (windowOffset k l.addr) (missAer m)).loadDone c l
            (.error (missDetail m))
    | _ => s

/-! ### Block retirement (R145 to R147) -/

/-- Word `w` of the own Grove memory as a block triggered in a transaction reads it: from the write set that the
transaction had at the trigger (R147), else as its loads do while a transaction of the Glade is open (R309), and from
memory after it. R301 speaks of loads and stores, so that such a read is transactional is the model's choice (DESIGN
CHOICE, log 140). -/
def State.blockWord (s : State) (c : Nat) (o : LongOp) (w : Nat) : State × ReadAns :=
  let open_ := s.isTransactional c w false
  match o.view.find? (fun e => e.1 == w) with
  | some (_, v, poisoned) =>
    (if open_ then s.updTxn c (fun t => t.readGranule w) else s, if poisoned then .err 5 else .ok v)
  | none => if open_ then s.txnLoadWord c w else s.readWord (coreRequester c) w

/-- One word's part of a block read of core `c` at global address `a`, under the rules of its loads (R146). `pcie`: what
root-port windows answer from there on. -/
def State.blockPart (s : State) (c : Nat) (o : LongOp) (pcie : PcieReply) (a k : Nat) :
    State × Except Nat (List Byte) :=
  let r := coreRequester c
  match s.regionOf a with
  | .control => let p := s.regRead r a; (p.1, .ok (bytesLE 8 p.2.toNat))
  | .flash => (s, .ok (s.flashBytesAt (a - 0x600000000) k))
  | .pcie p => s.windowRead p (windowOffset p a) k pcie
  | .groveMem _ =>
    if o.txn then s.gather a k (fun s w => s.blockWord c o w) else s.readMem r a k
  | _ => s.readMem r a k

/-- The bytes of a block read of core `c` from device address `a`, word by word; the failing byte's address and the
detail where a read fails. `pcie`: what root-port windows answer, in address order. -/
def State.blockRead (s : State) (c : Nat) (o : LongOp) (pcie : PcieReply) (a : Nat) :
    Nat → Nat → List Byte → State × Except (Nat × Nat) (List Byte)
  | 0, _, acc => (s, .ok acc)
  | fuel + 1, n, acc =>
    if n = 0 then (s, .ok acc)
    else
      let k := min (8 - a % 8) n
      let r := coreRequester c
      match s.accessCheck r false a k 0#64 with
      | some d => (s.recordRefusal r a d, .error (d, a))
      | none =>
        let p := s.blockPart c o (restOf pcie acc.length) (canon r a) k
        match p.2 with
        | .ok bs => p.1.blockRead c o pcie (a + k) fuel (n - k) (acc ++ bs)
        | .error d => (p.1, .error (d, a))

/-- Some word of the range of a block read waits (R265, R318, R448). -/
def State.blockWaits (s : State) (c : Nat) (o : LongOp) : Bool :=
  (List.range ((o.a.toNat % 8 + o.t.toNat + 7) / 8)).any (fun j =>
    let a := canon (coreRequester c) (o.a.toNat / 8 * 8 + 8 * j)
    s.accessWaits a || (o.txn && s.snapshotWaits c (a / 8 * 8)))

/-- The block operation of core `c` leaves its unit with `v` in G[RD], or with its failure pending (R123). -/
def Glade.endBlock (x : Glade) (o : LongOp) (r : Except (Nat × Nat) W64) : Glade :=
  let x := { x with ckuOp := none }
  match r with
  | .ok v => x.retireTo o.rd (TWord.plain v)
  | .error (d, a) => { x with failures := x.failures ++ [⟨o.seq, o.rd, d, a⟩] }

/-- Mask of a family's register. -/
def crcMask (f : Nat) : Nat :=
  match f with
  | 0 => 2 ^ 32
  | 1 => 2 ^ 64
  | _ => 2 ^ 16

/-- The final register value of a block over `bs` (R145). -/
def blockValue (o : LongOp) (bs : List Byte) : W64 := w64 ((crcOf o.op).steps (o.init.toNat % crcMask o.op) bs % crcMask o.op)

/-- The block `o` of core `c` may not read yet: a store before its trigger has not drained (R147), or a load or DEQ
before it can still fail, after which it would never have started (R120); and where a store has made its value
undefined, not while a load or DEQ before that store can still take the store back. -/
def State.blockHeld (s : State) (c : Nat) (o : LongOp) : Bool :=
  let x := s.glade c
  x.stores.any (fun e => decide (e.seq < o.seq)) || x.loads.any (fun l => o.spoiled || decide (l.seq < o.seq))
    || x.heldBack (if o.spoiled then x.opSeq else o.seq)

/-- CKU_BLOCK_RETIRE of core `c`: it waits for what `blockHeld` says and for memory that answers no access; `ps`: the
dual-port rule's answers to its words of Grove memory. A range the Glade stored to meanwhile gives a free value (R147, log
20). The stores of a COMMIT in flight are read where they have been applied, from memory (DESIGN CHOICE, log 140). In a
pair the leading Glade reads a range outside the local memories for both. -/
def State.blockRetire (s : State) (c : Nat) (pcie : PcieReply) (ps : List PortAnswer) : State :=
  match (s.glade c).ckuOp with
  | none => s
  | some o =>
    let own := s.isLocal c (canon (coreRequester c) o.a.toNat)
    if (s.isTrailing c && !own) || s.blockHeld c o || s.blockWaits c o then s
    else
      let p := s.onPorts ps (fun s => s.blockRead c o pcie o.a.toNat (o.t.toNat + 1) o.t.toNat [])
      let q : State × Except (Nat × Nat) W64 := match p.2 with
        | .error e => (p.1, .error e)
        | .ok bs => if o.spoiled then let f := p.1.freeWord; (f.2, .ok f.1) else (p.1, .ok (blockValue o bs))
      let end_ := fun (s : State) j => s.updAsync j (fun x => match x.ckuOp with
        | some u => x.endBlock u q.2
        | none => x)
      if own then end_ q.1 c else (q.1.receivers c).foldl end_ q.1

end Sys2Proof.Machine
end

