-- ==== Sys2Proof/Machine/Triggers.lean ====
section
/-! DEFINITION. One trigger of any unit: its socket, the checks that its bundle makes (R116, R121, R128, R164, R209),
what makes its bundle wait (R96, R127), and its operation. -/

namespace Sys2Proof.Machine

/-- Place of `o` in a list of operations. -/
def place {α : Type} [BEq α] (os : List α) (o : α) : Nat := os.idxOf o

/-- The socket ID of a trigger (the socket tables of each unit). -/
def Trig.id : Trig → Nat
  | .alu u o => 0x48 + 0x40 * u + place aluOps o
  | .mul o => 0xC8 + place [MulOp.mulu, .muls, .mulsu] o
  | .div o => 0xE8 + o.code
  | .shf o => 0x108 + place shfOps o
  | .crc f w => 0x148 + 4 * place [CrcFamily.c32c, .c64, .c16] f + w
  | .cku o => 0x154 + place [CkuOp.par, .parb, .brev8, .brev16, .brev32] o
  | .block f => 0x160 + f
  | .lsu o f => 0x188 + 11 * place [LsuForm.disp, .postInc, .preDec, .indexed] f + place lsuOps o
  | .bru o => 0x1C8 + place bruOps o
  | .immSet => 0x208
  | .timeNow => 0x218
  | .sys o => 0x228 + place sysOps o
  | .qpu o => 0x268 + place qpuOps o
  | .jau o => 0x2A8 + place jauOps o
  | .txu o => 0x2E8 + place txuOps o
  | .stkEnter => 0x308

/-- The unit takes a queue, journal or transaction operation, which acts outside the Glade (R176). -/
def Trig.external : Trig → Bool
  | .qpu _ => true
  | .jau _ => true
  | .txu _ => true
  | _ => false

/-- A load trigger. -/
def Trig.isLoad : Trig → Bool
  | .lsu o _ => !o.isStore
  | _ => false

/-- A trigger that acts only on the last issue of a repeated bundle (R194). -/
def Trig.lastOnly : Trig → Bool
  | .bru _ => true
  | .sys .rep => true
  | .sys .wait => true
  | .sys .eret => true
  | _ => false

/-- A field-specification trigger of SHF (R139). -/
def ShfOp.takesField : ShfOp → Bool
  | .bfextu => true
  | .bfexts => true
  | .bfins => true
  | _ => false

/-- OPERAND_RANGE of a trigger of core `c` whose ports are those of `x` (R128, R178). -/
def State.trigRange (s : State) (c : Nat) (x : Glade) (tr : Trig) (t : TWord) : Bool :=
  match tr with
  | .div _ => decide (63 < x.divRD.toNat)
  | .shf o => o.takesField && !fieldSpecOk t.data
  | .block _ => decide (16777216 < t.data.toNat) || decide (63 < x.ckuRD.toNat)
  | .lsu _ f => lsuRange f t.data
  | .sys o => s.sysRange c o t.data
  | .qpu o => s.qpuRange c x o t
  | .jau o => s.jauRange c x o t
  | .txu o => s.txuRange c x o t.data
  | .stkEnter => decide (0x7FFF < t.data.toNat)
  | _ => false

/-- RESERVED_TAG of a trigger value (R116). -/
def Trig.badTag (tr : Trig) (t : TWord) : Bool :=
  match tr with
  | .qpu _ => reservedTag t.tag
  | .jau _ => reservedTag t.tag
  | _ => false

/-- BUS_ERROR of a trigger: detail and address (R164, R278, R332). A queue or a journal has no device address: the address
is 0 there (DESIGN CHOICE, log 142). -/
def State.trigBus (s : State) (c : Nat) (x : Glade) (tr : Trig) (t : TWord) : Option (Nat × Nat) :=
  match tr with
  | .lsu o f => (s.lsuFault c x o f t.data).map (fun d => (d, (x.lsuAt f t.data).toNat))
  | .qpu o => if s.qpuRefused c x o t then some (3, 0) else none
  | .jau o => if s.jauRefused c x o t then some (3, 0) else none
  | _ => none

/-- The access is one whose refusal at a Firebreak dooms the open transaction: a store, an enqueue or an append
(R32, R322). -/
def Trig.dooms : Trig → Bool
  | .lsu o _ => o.isStore
  | .qpu o => o.writes
  | .jau o => o != .seal
  | _ => false

/-- STACK detail of an ENTER: PLACEMENT in a delay slot, in a repeated bundle or in the handler bank, else BAD_FRAME
(R209). `placed`: in a delay slot or repeated. -/
def trigStack (x : Glade) (tr : Trig) (placed : Bool) : Option Nat :=
  match tr with
  | .stkEnter => if placed || x.inHandler then some 4 else if !frameOk x.bank then some 5 else none
  | _ => none

/-- The named register of a long operation, when the trigger starts one (R114, R178). -/
def State.trigNames (s : State) (x : Glade) (tr : Trig) (t : TWord) : Option Nat :=
  match tr with
  | .div _ => some x.divRD.toNat
  | .block _ => some x.ckuRD.toNat
  | .qpu o => if (s.queueInfo (specQueue (x.qpuSpec o t))).dram then some x.qpuRD.toNat else none
  | .jau .seal => some x.jauRD.toNat
  | .txu .commit => some x.txuRD.toNat
  | .txu .pass => some x.txuRD.toNat
  | _ => none

/-- Scoreboard bit `n` of a Glade. -/
def Glade.busy (x : Glade) (n : Nat) : Bool := x.score.getLsbD n

/-- An operation kept by the QPU reads the cursor that `op` names, for another queue: whether the cursor still holds a
packet is not known yet (R277). -/
def Glade.cursorUnsure (x : Glade) (op : QpuOp) (t : TWord) : Bool :=
  let v := x.qpuSpec op t
  (op == .deq || op == .skip) && x.qpuPend.any (fun d => match d.kind with
    | .op o w => (o == .deq || o == .skip) && specCursor w == specCursor v && specQueue w != specQueue v
    | _ => false)

/-- The trigger's bundle waits (R96): for a register a long operation still names (R114), for a unit with one operation
in flight (R127), for store-buffer entries (R165), for a cell (R287), and, where the operation acts outside the Glade,
until every load is answered (R120, log 44). Two long operations of one bundle that name one
register both start, on its one scoreboard bit, which the first to retire clears (DESIGN CHOICE, log 134: R114 is
silent). -/
def State.trigWaits (s : State) (c : Nat) (x : Glade) (tr : Trig) (t : TWord) : Bool :=
  (match s.trigNames x tr t with
    | some n => x.busy n
    | none => false)
  || (tr.external && !x.loads.isEmpty)
  || (match tr with
    | .div _ => x.divOp.isSome
    | .block _ => x.ckuOp.isSome
    | .lsu o f => s.lsuWaits c x o f t.data
    | .timeNow => s.isTrailing c && !(s.pair (s.leaderOf c)).feed.any (fun e => e.2.isTime)
    | .qpu o => s.putWaits c x o t
    | .jau o => s.jauWaits c o
    | .txu o => s.txuWaits c o
    | _ => false)

/-- TIME.T.NOW of core `c`: the delivered count and status; the trailing Glade of a pair takes the leading one's
sample. -/
def State.doTimeNow (s : State) (c : Nat) : State :=
  if s.isTrailing c then
    match s.takeFeed c (fun e => e.2.isTime) with
    | some (s, .time a b) => s.updGlade c (fun x => x.doTime a b)
    | _ => s
  else
    let count := s.time.delivered
    let ctl := s.rd Reg.UST_TIME_CTL
    (s.updGlade c (fun x => x.doTime count ctl)).feed c (.time count ctl)

/-- Where a trigger stands: the bundle's address and bundle size, its bus, whether it is in a delay slot of a taken
branch, and what its slot says to the BRU (R100). -/
structure TrigSite where
  p : W64
  size : Nat
  bus : Nat
  inSlot : Bool
  flags : BranchFlags

/-- The operation a trigger starts in core `c`, its checks passed and its waits over; the second part is the precise
BUS_ERROR of a DEQ (R299). ERET takes effect last in its bundle. -/
def State.trigDo (s : State) (c : Nat) (tr : Trig) (t : TWord) (k : TrigSite) : State × Option (Nat × Nat) :=
  let v := t.data
  match tr with
  | .alu u o => (s.updGlade c (fun x => x.doAlu u o v), none)
  | .mul o => (s.updGlade c (fun x => x.doMul o v), none)
  | .div o => (s.updGlade c (fun x => x.doDiv o v), none)
  | .shf o => (s.updGlade c (fun x => x.doShf o v), none)
  | .crc f w => (s.updGlade c (fun x => x.doCrc f w v), none)
  | .cku o => (s.updGlade c (fun x => x.doCku o v), none)
  | .block f => (s.updGlade c (fun x => x.doBlock f v
      (if x.inHandler then none else (s.openTxn c).map (fun t => t.wset))), none)
  | .lsu o f => (s.doLsu c o f v k.bus, none)
  | .bru o => (s.updGlade c (fun x => x.doBru o k.flags v k.p k.size k.inSlot), none)
  | .immSet => (s.updGlade c (fun x => x.doImm v), none)
  | .timeNow => (s.doTimeNow c, none)
  | .sys .eret => (s, none)
  | .sys o => (s.updGlade c (fun x => s.doSys c x o t s.now), none)
  | .qpu o => s.doQpu c o t k.bus
  | .jau o => (s.doJau c o t, none)
  | .txu o => (s.doTxu c o v, none)
  | .stkEnter => (s.updGlade c (fun x => x.doEnter v k.p k.size), none)

/-- ERET of core `c` (R173, R202); in the thread bank it does not change the code stream (R205). -/
def State.eret (s : State) (c : Nat) : State :=
  (if (s.glade c).inHandler then s.syncCode c else s).updGlade c (fun x => x.doEret)

/-- A refused access of core `c` logged (R28), its open transaction doomed with FIREBREAK where R322 says so. -/
def State.refuseTrig (s : State) (c : Nat) (x : Glade) (tr : Trig) (detail addr : Nat) : State :=
  let s := s.recordRefusal (coreRequester c) addr detail
  if detail = 3 && tr.dooms && !x.inHandler && (s.openTxn c).isSome then s.updTxn c (fun t => t.doom 9) else s

/-! ### Taking a bundle's exception -/

/-- The refusal of the access that trigger `tr` makes is logged before its exception (R28). -/
def State.logCause (s : State) (c : Nat) (tr : Trig) (e : Cause) : State :=
  if e.cls = 3 && tr != .immSet then s.refuseTrig c (s.glade c) tr e.detail e.addr else s

/-- A precise exception of core `c` taken: a refused access is logged first. -/
def State.takeCause (s : State) (c : Nat) (tr : Trig) (e : Cause) : State :=
  ((s.logCause c tr e).updGlade c (fun x => { x with loadFault := none })).raise c e

end Sys2Proof.Machine
end

