-- ==== Sys2Proof/Machine/ByteCode.lean ====
section
/-! DEFINITION. Mboerlos M3 byte code (R208 to R218): the operand stack with its cache in G56 to G63, and the
instructions. -/

namespace Sys2Proof.Machine

/-- A read of memory by `r` that makes no other check: refused and logged on a retired page (R254). -/
def State.readPaged (s : State) (r : Requester) (a n : Nat) : State × Except Nat (List Byte) :=
  if s.retired a || s.retired (a + n - 1) then (s.recordRefusal r a 6, .error 6) else s.readMem r a n

/-- Fetch of code byte `off` of core `c` at position `n` (R173, R174): the newest version its stream sees. -/
def keepCode (n : Nat) : List OldCode → List OldCode
  | [] => []
  | e :: es =>
    if (e :: es).any (fun o => o.off == e.off && (match o.fromPos with | some p => decide (p ≤ n) | none => false))
    then keepCode n es else e :: keepCode n es

/-- Address of the code memory of core `c`: its IMEM; the Heartwood's memory (log 8). -/
def codeBase (c : Nat) : Nat := if c = 256 then hwMemBase else gladeBase c

/-- A code byte whose memory holds `b` and whose older contents the stream may still see are `old`, oldest first. In
the two bundles after an IFENCE, the old or the new contents of another agent's write, which of them is free (R174,
log 20). -/
def State.olderByte (s : State) (b : Byte) : List OldCode → State × Byte
  | [] => (s, b)
  | o :: os =>
    if o.agent && o.fromPos.isSome then
      let f := s.freeBool
      if f.1 then f.2.olderByte b os else (f.2, o.old)
    else (s, o.old)

/-- A Heartwood fault that the fetch found, as such (R508). -/
def State.fetchFinding (s : State) : State :=
  { s with findings := s.findings.map (fun f => if f.mech = 101 then { f with mech := 102 } else f) }

/-- `n` bytes of code from offset `off`: the memory's words, then what the stream still sees of older contents, then
the Glade's own stores that it already sees; none when a word cannot be read. -/
def State.fetchCode (s : State) (c off n : Nat) : State × Option (List Byte) :=
  let x := s.glade c
  let base := codeBase c
  let r := s.readPaged (coreRequester c) (base + off) n
  match r.2 with
  | .error _ => (r.1.fetchFinding, none)
  | .ok bs =>
    let pos := x.bank.pos
    let old := keepCode pos x.oldCode
    let own := fun a (b : Byte) =>
      match (x.stores.filter (fun e => e.handler == x.inHandler && decide (e.pos + 2 ≤ pos)
          && (e.byte (base + a)).isSome)).getLast? with
      | some e => (e.byte (base + a)).getD b
      | none => b
    let p := (List.range n).foldl (fun (acc : State × List Byte) k =>
      let v := acc.1.olderByte (bs.getD k 0#8) (old.filter (fun o => o.off == off + k))
      (v.1, acc.2 ++ [own (off + k) v.2])) (r.1, [])
    (p.1.updGlade c (fun y => { y with oldCode := old }), some p.2)

/-! ### Instructions -/

/-- Arithmetic of two entries, a below b (R214). -/
inductive M3Bin where
  | add | sub | and | or | xor | mul | div | rem | shl | shr | sar
deriving DecidableEq, Repr

/-- An M3 instruction with its immediate. -/
inductive M3Op where
  | nop | drop | dup | swap | over
  | lit (v : BitVec 32)
  | bin (o : M3Bin)
  | neg
  | ld (byte : Bool)
  | st (byte : Bool)
  | jmp (off : BitVec 16)
  | jz (off : BitVec 16)
  | jnz (off : BitVec 16)
  | call (off : BitVec 16)
  | ret
  | ncall (target : BitVec 16)
  | exit
  | unsupported
deriving DecidableEq, Repr

/-- Immediate bytes of an opcode (R214). -/
def m3Imm (op : Nat) : Nat :=
  match op with
  | 0x08 => 1
  | 0x09 => 2
  | 0x0A => 4
  | 0x30 => 2
  | 0x31 => 2
  | 0x32 => 2
  | 0x34 => 2
  | 0x38 => 2
  | _ => 0

/-- The instruction an opcode and its immediate name (R214, R215). -/
def m3Decode (op : Nat) (imm : List Byte) : M3Op :=
  let i16 := BitVec.ofNat 16 (ofBytesLE imm)
  match op with
  | 0x00 => .nop
  | 0x01 => .drop
  | 0x02 => .dup
  | 0x03 => .swap
  | 0x04 => .over
  | 0x08 => .lit ((BitVec.ofNat 8 (ofBytesLE imm)).signExtend 32)
  | 0x09 => .lit (i16.signExtend 32)
  | 0x0A => .lit (BitVec.ofNat 32 (ofBytesLE imm))
  | 0x10 => .bin .add
  | 0x11 => .bin .sub
  | 0x12 => .bin .and
  | 0x13 => .bin .or
  | 0x14 => .bin .xor
  | 0x15 => .neg
  | 0x16 => .bin .mul
  | 0x17 => .bin .div
  | 0x18 => .bin .rem
  | 0x19 => .bin .shl
  | 0x1A => .bin .shr
  | 0x1B => .bin .sar
  | 0x20 => .ld false
  | 0x21 => .st false
  | 0x22 => .ld true
  | 0x23 => .st true
  | 0x30 => .jmp i16
  | 0x31 => .jz i16
  | 0x32 => .jnz i16
  | 0x34 => .call i16
  | 0x35 => .ret
  | 0x38 => .ncall i16
  | 0x3F => .exit
  | _ => .unsupported

/-- The bytes of an M3 instruction: its opcode and immediate (R214). An undefined one is 0x3E. -/
def m3Bytes : M3Op → Nat × List Byte
  | .nop => (0x00, [])
  | .drop => (0x01, [])
  | .dup => (0x02, [])
  | .swap => (0x03, [])
  | .over => (0x04, [])
  | .lit v => (0x0A, bytesLE 4 v.toNat)
  | .bin o => (match o with
      | .add => 0x10
      | .sub => 0x11
      | .and => 0x12
      | .or => 0x13
      | .xor => 0x14
      | .mul => 0x16
      | .div => 0x17
      | .rem => 0x18
      | .shl => 0x19
      | .shr => 0x1A
      | .sar => 0x1B, [])
  | .neg => (0x15, [])
  | .ld byte => (if byte then 0x22 else 0x20, [])
  | .st byte => (if byte then 0x23 else 0x21, [])
  | .jmp off => (0x30, bytesLE 2 off.toNat)
  | .jz off => (0x31, bytesLE 2 off.toNat)
  | .jnz off => (0x32, bytesLE 2 off.toNat)
  | .call off => (0x34, bytesLE 2 off.toNat)
  | .ret => (0x35, [])
  | .ncall target => (0x38, bytesLE 2 target.toNat)
  | .exit => (0x3F, [])
  | .unsupported => (0x3E, [])

/-- The result of a binary operation (R213, R214, R216). -/
def m3Bin (o : M3Bin) (a b : BitVec 32) : BitVec 32 :=
  match o with
  | .add => a + b
  | .sub => a - b
  | .and => a &&& b
  | .or => a ||| b
  | .xor => a ^^^ b
  | .mul => a * b
  | .div =>
    if b = 0#32 then 0xFFFFFFFF#32
    else if a = 0x80000000#32 ∧ b = 0xFFFFFFFF#32 then 0x80000000#32
    else BitVec.ofInt 32 (Int.tdiv a.toInt b.toInt)
  | .rem =>
    if b = 0#32 then a
    else if a = 0x80000000#32 ∧ b = 0xFFFFFFFF#32 then 0#32
    else BitVec.ofInt 32 (Int.tmod a.toInt b.toInt)
  | .shl => a <<< (b.toNat % 32)
  | .shr => a >>> (b.toNat % 32)
  | .sar => a.sshiftRight (b.toNat % 32)

/-- Entries an instruction pops. -/
def M3Op.pops : M3Op → Nat
  | .drop => 1
  | .dup => 1
  | .swap => 2
  | .over => 2
  | .bin _ => 2
  | .neg => 1
  | .ld _ => 1
  | .st _ => 2
  | .jz _ => 1
  | .jnz _ => 1
  | .ret => 1
  | _ => 0

/-- Entries an instruction pushes. -/
def M3Op.pushes : M3Op → Nat
  | .dup => 2
  | .swap => 2
  | .over => 3
  | .lit _ => 1
  | .bin _ => 1
  | .neg => 1
  | .ld _ => 1
  | .call _ => 1
  | _ => 0

/-- Bundles of an instruction without its spills and fills (R214). -/
def M3Op.bundles (o : M3Op) (taken : Bool) : Nat :=
  match o with
  | .bin .mul => 2
  | .bin .div => 2
  | .bin .rem => 2
  | .ld _ => 3
  | .st _ => 2
  | .jmp _ => 3
  | .jz _ => if taken then 3 else 1
  | .jnz _ => if taken then 3 else 1
  | .call _ => 3
  | .ret => 3
  | .ncall _ => 2
  | .exit => 2
  | _ => 1

/-! ### The operand stack (R210 to R212) -/

/-- A 32-bit entry as its cache register holds it. -/
def entryWord (v : BitVec 32) : TWord := TWord.plain (v.signExtend 64)

/-- Store of a 32-bit word to core `c`'s DMEM by the translator. -/
def State.spill (s : State) (c a : Nat) (v : BitVec 32) : State :=
  let x := s.glade c
  let s := s.updGlade c (fun x => { x with
    undoCount := if (s.pairOf c).isSome then x.undoCount + 1 else x.undoCount
    ckuOp := x.ckuOp.map (fun o => if o.meets c (gladeBase c + a) 4 then { o with spoiled := true } else o) })
  s.storeToMemory c ⟨x.opSeq, gladeBase c + a, bytesLE 4 v.toNat, x.bank.pos, x.inHandler⟩

/-- A push: a full cache first spills its bottom entry. The second part counts the spills. -/
def State.m3Push (s : State) (c : Nat) (v : BitVec 32) : State × Nat :=
  let x := s.glade c
  let n := x.rep.cached
  let sp := x.bank.stkSP.toNat
  let full := decide (8 ≤ n)
  let s := if full then
      (s.spill c (sp + 28) (BitVec.ofNat 32 (x.g 56).data.toNat)).updGlade c (fun x =>
        (List.range 7).foldl (fun y k => y.setG (56 + k) (x.g (57 + k))) x)
    else s
  let m := if full then 7 else n
  (s.updGlade c (fun x =>
    let x := (x.setG (56 + m) (entryWord v)).updBank (fun b => { b with stkSP := b.stkSP - 4#64 })
    { x with rep := { x.rep with cached := m + 1 } }), b2n full)

/-- A pop: an empty cache fills from DMEM. Its entry or the error met, and the fills. -/
def State.m3Pop (s : State) (c : Nat) : State × Except (Nat × Nat) (BitVec 32) × Nat :=
  let x := s.glade c
  let n := x.rep.cached
  let sp := x.bank.stkSP.toNat
  let up := fun (s : State) m => s.updGlade c (fun x =>
    let x := x.updBank (fun b => { b with stkSP := b.stkSP + 4#64 })
    { x with rep := { x.rep with cached := m } })
  if n = 0 then
    match s.readPaged (coreRequester c) (gladeBase c + sp) 4 with
    | (s, .ok bs) => (up s 0, .ok (BitVec.ofNat 32 (ofBytesLE bs)), 1)
    | (s, .error d) => (s, .error (d, sp), 0)
  else (up s (n - 1), .ok (BitVec.ofNat 32 (x.g (55 + n)).data.toNat), 0)

/-- `n` pops: the entries, top first, and the fills. -/
def State.m3Pops (s : State) (c : Nat) : Nat → State × Except (Nat × Nat) (List (BitVec 32)) × Nat
  | 0 => (s, .ok [], 0)
  | n + 1 =>
    match s.m3Pop c with
    | (s, .ok v, k) =>
      match s.m3Pops c n with
      | (s, .ok vs, j) => (s, .ok (v :: vs), k + j)
      | (s, .error e, j) => (s, .error e, k + j)
    | (s, .error e, k) => (s, .error e, k)

/-- The whole cache written to DMEM; the spills (R211). -/
def State.m3Spill (s : State) (c : Nat) : State × Nat :=
  let x := s.glade c
  let n := x.rep.cached
  let sp := x.bank.stkSP.toNat
  let s := (List.range n).foldl (fun s k =>
    s.spill c (sp + 4 * (n - 1 - k)) (BitVec.ofNat 32 (x.g (56 + k)).data.toNat)) s
  (s.updGlade c (fun x => { x with rep := { x.rep with cached := 0 } }), n)

/-! ### Effects -/

/-- What an instruction does once its entries are popped: entries to push, top last, and where it goes. -/
structure M3Act where
  push : List (BitVec 32)
  /-- address of the next byte-code instruction -/
  next : Nat
  taken : Bool

/-- Address `off` beyond `next`; a negative one is out of range. -/
def m3Target (next : Nat) (off : BitVec 16) : Int := (next : Int) + off.toInt

/-- The jump an instruction at `next` makes, if it is taken for top entry `b`. -/
def M3Op.jump (o : M3Op) (next : Nat) (vs : List (BitVec 32)) : Option Int :=
  let b := vs.headD 0#32
  match o with
  | .jmp off => some (m3Target next off)
  | .jz off => if b = 0#32 then some (m3Target next off) else none
  | .jnz off => if b = 0#32 then none else some (m3Target next off)
  | .call off => some (m3Target next off)
  | .ret => some (b.toNat : Int)
  | _ => none

/-- Entries to push for the popped ones, top first (R214). -/
def M3Op.results (o : M3Op) (next : Nat) (vs : List (BitVec 32)) : List (BitVec 32) :=
  let b := vs.headD 0#32
  let a := vs.getD 1 0#32
  match o with
  | .dup => [b, b]
  | .swap => [b, a]
  | .over => [a, b, a]
  | .lit v => [v]
  | .bin p => [m3Bin p a b]
  | .neg => [0#32 - b]
  | .call _ => [BitVec.ofNat 32 next]
  | _ => []

/-- A data access of byte code (R214): address, and the bytes it stores, or the number it loads. -/
def State.m3Address (s : State) (c : Nat) (x : BitVec 32) : W64 := (s.glade c).bank.stkMB + w64 x.toNat

/-- The stack as the checks of R212 see it. R209 makes SB and SL alone multiples of 4: of an SP that is none, a pop within
4 bytes of SB counts as UNDERFLOW (DESIGN CHOICE, log 142). -/
def m3StackCheck (b : Bank) (o : M3Op) : Option Nat :=
  let sp := b.stkSP.toNat
  if b.stkSB.toNat < sp + 4 * o.pops then some 2
  else if sp + 4 * o.pops < b.stkSL.toNat + 4 * o.pushes then some 1
  else none

/-- The instruction's bundles counted (R214, R218), and where byte code or native code goes on. -/
def Glade.m3Advance (x : Glade) (n next : Nat) : Glade :=
  let x := x.updBank (fun b => { b with pos := b.pos + n })
  { x with
    pc := w64 next
    cntIssued := x.cntIssued + w64 n
    cntWaited := x.cntWaited + w64 (b2n x.hasWaited)
    hasWaited := false
    barWait := .none
    woken := false
    resumed := false }

/-- What becomes of a byte-code instruction: it waits, it raises its exception, or it takes effect. -/
inductive M3Out where
  | wait (s : State)
  | raised (s : State) (e : Cause)
  | done (s : State)

/-- The state that an instruction leaves. -/
def M3Out.state : M3Out → State
  | .wait s => s
  | .raised s _ => s
  | .done s => s

/-- The instruction raises its exception. -/
def M3Out.isRaised : M3Out → Bool
  | .raised _ _ => true
  | _ => false

/-- A byte-code instruction that fails: nothing of it has taken effect (R217), but BUSY answers that it met stay counted
(R172). -/
def State.m3Raise (s : State) (c : Nat) (x : Glade) (e : Cause) : M3Out :=
  .raised ((s.setGlade c { x with cntBusy := (s.glade c).cntBusy }).raise c e) e

/-- Addresses that the spills of instruction `o` write, `n` entries being cached and SP being `sp` before it (R210,
R211). -/
def M3Op.spills (o : M3Op) (n sp : Nat) : List Nat :=
  match o with
  | .ncall _ => (List.range n).map (fun k => sp + 4 * k)
  | .exit => (List.range n).map (fun k => sp + 4 * k)
  | _ =>
    let m := n - o.pops
    let top := sp + 4 * o.pops
    (List.range o.pushes).filterMap (fun j => if 8 ≤ m + j then some (top - 4 * j + 28) else none)

/-- A spill of the instruction is refused (R164, R254): the detail and the address. -/
def State.m3SpillFault (s : State) (c : Nat) (x : Glade) (o : M3Op) : Option (Nat × Nat) :=
  (o.spills x.rep.cached x.bank.stkSP.toNat).findSome? (fun a =>
    (s.accessCheck (coreRequester c) true a 4 0#64).map (fun d => (d, a)))

/-- Core `c` runs byte code now. -/
def State.inByteCode (s : State) (c : Nat) : Bool :=
  (s.glade c).run == .running && (s.glade c).rep.byteCode

/-- The translator waits for loads and stores of native code, for a PROBE of the bundle of its ENTER (R176), for
registers of its cache that a long operation names, and for DIV. -/
def State.m3Waits (s : State) (c : Nat) (o : M3Op) : Bool :=
  let x := s.glade c
  !x.loads.isEmpty || x.heldBack x.opSeq || x.probeOwed || x.stores.any (fun e => s.drainTarget c e.addr == (0, 0))
    || (List.range 8).any (fun k => x.busy (56 + k))
    || x.thread.due.any (fun d => decide (d.pos ≤ x.thread.pos) && d.val.waiting)
    || (match o with
      | .bin .div => x.divOp.isSome
      | .bin .rem => x.divOp.isSome
      | _ => false)

/-- A data load of byte code answered at once, or by `rep` where the board answers; none: not yet. In a pair the
leading Glade loads for both what lies outside the local memories. -/
def State.m3Load (s : State) (c : Nat) (l : LoadFlight) (ps : List PortAnswer) (rep : BoardReply) :
    Option (State × Except Nat W64) :=
  if s.isTrailing c && !s.isLocal c l.addr then
    match s.takeFeed c (fun e => e.2.isLoad) with
    | some (s, .load v) => some (s.foldFor c (w64 l.addr) v, .ok v)
    | some (s, .loadBad d) => some (s, .error d)
    | _ => none
  else
    let got := match s.regionOf l.addr with
      | .pcie _ => (match s.devRead (coreRequester c) l.addr l.bytes rep with
        | (s, .ok bs) => some (s, Except.ok bs)
        | (s, .error d) => some (s, Except.error d))
      | _ => s.loadTarget c l ps
    match got with
    | none => none
    | some (s, .ok bs) =>
      let v := extendLoad bs l.signed
      some (if s.isLocal c l.addr then s else (s.feed c (.load v)).foldFor c (w64 l.addr) v, .ok v)
    | some (s, .error d) => some (if s.isLocal c l.addr then s else s.feed c (.loadBad d), .error d)

/-- An M3 instruction of `len` bytes at core `c`'s pc (R212 to R217). The store of an ST belongs to the last bundle of
its translation (R218, log 111). -/
def State.m3Exec (s : State) (c : Nat) (o : M3Op) (len : Nat) (ps : List PortAnswer) (rep : BoardReply) : M3Out :=
  if !s.inByteCode c then .wait s
  else
    let s := s.drainStores c (s.glade c).stores.length
    let x := s.glade c
    let p := x.pc.toNat
    let next := p + len
    let fetch := fun (d a : Nat) => s.m3Raise c x { Cause.of 2 d with addr := a }
    let sp := x.bank.stkSP.toNat
    let refuse := fun (s' : State) (write : Bool) (d a : Nat) =>
      (s'.refuseTrig c x (.lsu (if write then .st else .ld) .disp) d a).m3Raise c x { Cause.of 3 d with addr := a }
    if s.m3Waits c o then .wait (s.updGlade c (fun x => { x with hasWaited := true }))
    else if 0x8000 < next then fetch 2 p
    else if o = .unsupported then s.m3Raise c x { Cause.of 6 3 with addr := p }
    else
      let badJump := match o with
        | .jmp off => some (m3Target next off)
        | .call off => some (m3Target next off)
        | _ => none
      match badJump.bind (fun t => if t < 0 ∨ 0x7FFF < t then some t else none), o with
      | some t, _ => fetch 2 (t % 2 ^ 48).toNat
      | none, .ncall t =>
        if t.toNat % s.bundleSize c ≠ 0 then fetch 1 t.toNat
        else if s.highestBundle c < t.toNat then fetch 2 t.toNat
        else match s.m3SpillFault c x o with
          | some (d, a) => refuse s true d a
          | none =>
            let r := s.m3Spill c
            .done (r.1.updGlade c (fun x =>
              let x := (x.m3Advance (2 + r.2) t.toNat).updBank (fun b => { b with stkQ := w64 next })
              { x with rep := Repeat.none }))
      | none, .exit =>
        (match s.m3SpillFault c x o with
        | some (d, a) => refuse s true d a
        | none =>
          let r := s.m3Spill c
          .done (r.1.updGlade c (fun x =>
            let x := (x.m3Advance (2 + r.2) x.bank.stkNR.toNat).updBank (fun b => { b with stkQ := w64 next })
            { x with rep := Repeat.none, pc := x.bank.stkNR })))
      | none, _ =>
        match m3StackCheck x.bank o with
        | some d => s.m3Raise c x { Cause.of 6 d with addr := sp }
        | none =>
          match s.m3Pops c o.pops with
          | (s', .error (d, a), _) => s'.m3Raise c x { Cause.of 3 d with addr := a }
          | (s', .ok vs, fills) =>
            let taken := o.jump next vs
            let dest := match taken with
              | some t => t
              | none => (next : Int)
            if dest < 0 ∨ 0x7FFF < dest ∧ taken.isSome = true then fetch 2 (dest % 2 ^ 48).toNat
            else
              let a := s'.m3Address c (vs.headD 0#32)
              let finish := fun (s : State) (push : List (BitVec 32)) =>
                let r := push.foldl (fun (acc : State × Nat) v => let q := acc.1.m3Push c v; (q.1, acc.2 + q.2)) (s, 0)
                r.1.updGlade c (fun x => x.m3Advance (o.bundles taken.isSome + 2 * fills + r.2) dest.toNat)
              let bus := fun (write : Bool) n (v : W64) => s'.accessCheck (coreRequester c) write a.toNat n v
              match o with
              | .ld byte =>
                let n := if byte then 1 else 4
                (match bus false n 0#64 with
                | some d => refuse s' false d a.toNat
                | none =>
                  let g := canon (coreRequester c) a.toNat
                  let l : LoadFlight := ⟨x.opSeq, x.bank.pos, false, g, a.toNat, n, false,
                    s'.isTransactional c g false, 0, true, none⟩
                  match s'.m3Load c l ps rep with
                  | none => .wait (s.updGlade c (fun x => { x with hasWaited := true }))
                  | some (t, .error d) => t.m3Raise c x { Cause.of 3 d with addr := a.toNat }
                  | some (t, .ok v) => .done (finish t [BitVec.ofNat 32 v.toNat]))
              | .st byte =>
                let op : LsuOp := if byte then .sb else .sw
                let v := w64 ((vs.getD 1 0#32).toNat)
                (match bus true op.bytes v with
                | some d => refuse s' true d a.toNat
                | none =>
                  let keepA := x.bank.lsuA
                  let keepB := x.bank.lsuB
                  let y := x.updBank (fun b => { b with lsuA := a, lsuB := v })
                  if s'.lsuWaits c y op .disp 0#64 then .wait (s.updGlade c (fun x => { x with hasWaited := true }))
                  else
                  let t := (finish s' []).updGlade c (fun x => x.updBank (fun b => { b with lsuA := a, lsuB := v }))
                  let t := t.doLsu c op .disp 0#64 0
                  .done (t.updGlade c (fun x => x.updBank (fun b => { b with lsuA := keepA, lsuB := keepB }))))
              | _ =>
                match s'.m3SpillFault c x o with
                | some (d, a) => refuse s' true d a
                | none => .done (finish s' (o.results next vs))

/-- The byte code at core `c`'s pc fetched and decoded: the instruction and its length, or the FETCH detail. -/
def State.m3Fetch (s : State) (c : Nat) : State × Except Nat (M3Op × Nat) :=
  let p := (s.glade c).pc.toNat
  if 0x8000 ≤ p then (s, .error 2)
  else match s.fetchCode c p 1 with
    | (s, none) => (s, .error 3)
    | (s, some b) =>
      let op := ofBytesLE b
      let n := m3Imm op
      if 0x8000 < p + 1 + n then (s, .error 2)
      else if n = 0 then (s, .ok (m3Decode op [], 1))
      else match s.fetchCode c (p + 1) n with
        | (s, none) => (s, .error 3)
        | (s, some imm) => (s, .ok (m3Decode op imm, 1 + n))

/-- The next M3 instruction of core `c`, as its code memory holds it. It is not fetched while a load or DEQ of an earlier
bundle may still fail (R120). -/
def State.m3Step (s : State) (c : Nat) (ps : List PortAnswer) (rep : BoardReply) : M3Out :=
  if s.codeWaits c || !(s.glade c).loads.isEmpty || (s.glade c).heldBack (s.glade c).opSeq then
    .wait (s.updGlade c (fun x => { x with hasWaited := true }))
  else match s.m3Fetch c with
    | (s, .ok (o, len)) => s.m3Exec c o len ps rep
    | (s, .error d) =>
      let e := { Cause.of 2 d with addr := (s.glade c).pc.toNat }
      .raised (s.raise c e) e

end Sys2Proof.Machine
end

