-- ==== Sys2Proof/Machine/Bundle.lean ====
section
/-! DEFINITION. Bundles (R93 to R125) and what falls between them: slots and their checks, waits, the four phases,
branches and repeats at their positions (R184 to R196), entries (R197 to R206), and the bundle of one core. -/

namespace Sys2Proof.Machine

/-! ### Slots (R97 to R100) -/

/-- A MOVE or SIMM slot: its source socket, or its immediate. -/
structure Move where
  bus : Nat
  dst : Nat
  src : Option Nat
  imm : W64
  annul : Bool
  hint : Bool
  /-- bits [6:0] of a MOVE are not zero -/
  badBits : Bool

/-- A slot by its kind. -/
inductive MoveSlot where
  | reserved
  | badField
  | nop
  | limm (op p : Nat)
  | move (m : Move)

/-- The 17-bit immediate sign-extended. -/
def simm (v : Nat) : W64 := (BitVec.ofNat 17 v).signExtend 64

/-- The slot word `w` on bus `b`. -/
def decodeSlot (b w : Nat) : MoveSlot :=
  let kind := w / 2 ^ 29 % 8
  let dst := w / 2 ^ 17 % 1024
  let annul := w.testBit 28
  let hint := w.testBit 27
  match kind with
  | 1 => .move ⟨b, dst, some (w / 2 ^ 7 % 1024), 0#64, annul, hint, w % 128 != 0⟩
  | 2 => .move ⟨b, dst, none, simm (w % 2 ^ 17), annul, hint, false⟩
  | 3 => if w / 2 ^ 27 % 4 = 3 then .badField else .limm (w / 2 ^ 27 % 4) (w % 2 ^ 27)
  | 7 => if w = 0xE0000000 then .nop else .badField
  | _ => .reserved

/-- A slot that the encoding of R97 to R101 can hold on bus `b`. -/
def MoveSlot.wf (b : Nat) : MoveSlot → Prop
  | .reserved => True
  | .badField => True
  | .nop => True
  | .limm op p => op < 3 ∧ p < 2 ^ 27
  | .move m => m.bus = b ∧ m.dst < 1024 ∧
      (match m.src with
        | some i => i < 1024 ∧ m.imm = 0#64
        | none => m.imm = simm (m.imm.toNat % 2 ^ 17) ∧ m.badBits = false)

/-- The word of a slot (R97 to R101). -/
def slotWord : MoveSlot → Nat
  | .reserved => 0
  | .badField => 0x78000000
  | .nop => 0xE0000000
  | .limm op p => 3 * 2 ^ 29 + op * 2 ^ 27 + p
  | .move m =>
    let flags := b2n m.annul * 2 ^ 28 + b2n m.hint * 2 ^ 27 + m.dst * 2 ^ 17
    match m.src with
    | some i => 2 ^ 29 + flags + i * 2 ^ 7 + b2n m.badBits
    | none => 2 * 2 ^ 29 + flags + m.imm.toNat % 2 ^ 17

/-- The slots of a bundle: one word per bus, little-endian (R93). -/
def slotsOf (n : Nat) (bs : List Byte) : List MoveSlot :=
  (List.range n).map (fun b => decodeSlot b (ofBytesLE ((bs.drop (4 * b)).take 4)))

/-- The move of a slot, if it is one. -/
def MoveSlot.move? : MoveSlot → Option Move
  | .move m => some m
  | _ => none

def Move.trig (m : Move) : Option Trig := trigOf m.dst

def Move.isBru (m : Move) : Bool :=
  match m.trig with
  | some (.bru _) => true
  | _ => false

/-- The fault of a slot that its bits alone show: lowest DETAIL and socket (R97 to R106, R111, R121). `prior`: the
moves of the lower buses. -/
def slotFault (e : W64) (b : Nat) (prior : List Move) (sl : MoveSlot) : Option (Nat × Nat) :=
  match sl with
  | .reserved => some (1, 0)
  | .badField => some (2, 0)
  | .move m =>
    let kind := sockKind e b
    let source := fun k => k == SockKind.register || k == SockKind.result
    if m.badBits || ((m.annul || m.hint) && !m.isBru) then some (2, 0)
    else match m.src.filter (fun i => (kind i).isNone) with
      | some i => some (3, i)
      | none =>
        if (kind m.dst).isNone then some (3, m.dst)
        else match m.src.filter (fun i => match kind i with | some k => !source k | none => false) with
          | some i => some (4, i)
          | none =>
            if kind m.dst == some .result then some (4, m.dst)
            else if m.dst != 0 && prior.any (fun p => p.dst == m.dst) then some (5, m.dst)
            else if m.trig.isSome && prior.any (fun p => p.trig.isSome && unitBase p.dst == unitBase m.dst) then
              some (6, m.dst)
            else none
  | _ => none

/-! ### A bundle ready to issue -/

/-- A trigger of a bundle with the value moved into it. -/
structure Shot where
  move : Move
  trig : Trig
  val : TWord

/-- What a bundle does: the core before it and after phase 3, the triggers that act, and its last issue. -/
structure Plan where
  before : Glade
  after : Glade
  shots : List Shot
  /-- the bundle's code, where it was fetched -/
  bytes : Option (List Byte)
  last : Bool

/-- What stands at a core's next position. -/
inductive Ready where
  | wait
  /-- it waits, also for a cell (R287) -/
  | waitCell
  | annulled
  | cause (tr : Trig) (e : Cause)
  /-- a cause that yields to an error which the loads and DEQs of `p` meet, on lower buses (R121) -/
  | probe (p : Plan) (tr : Trig) (e : Cause)
  | go (p : Plan)

/-- The position raises a precise exception. -/
def Ready.isCause : Ready → Bool
  | .cause _ _ => true
  | .probe _ _ _ => true
  | _ => false

/-- A result that bundle k + d reads is not there yet (R110, R161). -/
def Glade.owedResult (x : Glade) (only : DueVal → Bool) : Bool :=
  x.bank.due.any (fun d => decide (d.pos ≤ x.bank.pos) && only d.val)

/-- What a BAR waits for has ended (R177). -/
def Glade.barDone (x : Glade) : Bool :=
  x.divOp.isNone && x.ckuOp.isNone && x.qpuOps.isEmpty && x.qpuPend.isEmpty && x.sealOp.isNone && x.txuOp.isNone && x.stores.isEmpty
    && x.thread.due.all (fun d => d.val != .jauWait) && x.handler.due.all (fun d => d.val != .jauWait)

/-- The word the slot moves (R99, R108 phase 2). -/
def Move.value (m : Move) (x : Glade) : TWord :=
  match m.src with
  | some i => readSrc x i
  | none => TWord.plain m.imm

/-- The fault of a move that its value shows (R116, R128, R151). -/
def State.valueFault (s : State) (c : Nat) (y : Glade) (last : Bool) (m : Move) (v : TWord) : Option (Nat × Nat) :=
  if (unitBase m.dst == some 0x260 || unitBase m.dst == some 0x2A0) && reservedTag v.tag then some (7, m.dst)
  else if m.dst = 0x227 ∧ field v.data 16 15 = 3 then some (8, m.dst)
  else match m.trig with
    | some tr => if (last || !tr.lastOnly) && s.trigRange c y tr v then some (8, m.dst) else none
    | none => none

/-- The cause of the first element of a list that has one. -/
def firstSome {α β : Type} (f : α → Option β) (l : List α) : Option β := l.findSome? f

/-- The trigger can still raise a precise BUS_ERROR once it is carried out: a load (R162), or a DEQ of a Grove-stored
queue (R299). -/
def State.shotFails (s : State) (h : Shot) : Bool :=
  h.trig.isLoad || (h.trig == .qpu .deq && !(s.queueInfo (specQueue h.val.data)).dram)

/-- Judgement of a bundle of core `c` whose slots are `slots` and whose moves carry `vals`: its waits (R96, R114, R177,
R305), its precise exception (R121), or what it does. `x`: the core before it; `x1`: after phase 1. -/
def State.judge (s : State) (c : Nat) (x x1 : Glade) (slots : List MoveSlot) (vals : List (Move × TWord))
    (bs : Option (List Byte)) : Ready :=
  let moves := vals.map (fun p => p.1)
  let last := decide (x.rep.owed ≤ 1)
  let y := vals.foldl (fun y p => writeDst c y p.1.dst p.2) x1
  let shots := vals.filterMap (fun p => match p.1.trig with
    | some tr => if last || !tr.lastOnly then some (⟨p.1, tr, p.2⟩ : Shot) else none
    | none => none)
  let named := moves.any (fun m => (m.dst < 64 && x.busy m.dst)
    || (match m.src with | some i => decide (i < 64) && x.busy i | none => false))
  let unsure := shots.any (fun h => match h.trig with
    | .txu o => s.txuWaits c o
    | .qpu o => x.cursorUnsure o h.val
    | _ => false)
  let raise := fun (below : Nat → Bool) tr e =>
    let hs := shots.filter (fun h => below h.move.bus && s.shotFails h)
    if hs.isEmpty then Ready.cause tr e else .probe ⟨x, y, hs, bs, last⟩ tr e
  if named || unsure then .wait
  else
    let e := s.gladeEntry c
    let fault := fun b => match slots[b]? with
      | none => none
      | some sl => match slotFault e b (moves.filter (fun m => decide (m.bus < b))) sl with
        | some f => some (b, f)
        | none => (vals.find? (fun p => p.1.bus == b)).bind (fun p =>
            (s.valueFault c y last p.1 p.2).map (fun f => (b, f)))
    match firstSome fault (List.range (s.buses c)) with
    | some (b, d, sock) => .cause .immSet { Cause.of 1 d with bus := b, socket := sock }
    | none =>
      match firstSome (fun (h : Shot) => (s.trigBus c y h.trig h.val).map (fun d => (h, d))) shots with
      | some (h, d, a) =>
        raise (fun b => decide (b < h.move.bus)) h.trig { Cause.of 3 d with bus := h.move.bus, addr := a }
      | none =>
        match firstSome (fun (h : Shot) =>
            (trigStack y h.trig (x.delay != 0 || x.redirect.isSome || x.rep.owed != 0)).map
              (fun d => (h.move.bus, d))) shots with
        | some (b, d) => raise (fun _ => true) .immSet { Cause.of 6 d with bus := b }
        | none =>
          if shots.any (fun h => match h.trig with | .qpu o => s.putWaits c y o h.val | _ => false) then .waitCell
          else if shots.any (fun h => s.trigWaits c y h.trig h.val) then .wait else .go ⟨x, y, shots, bs, last⟩

/-- Core `c` with what is due at its position in place. -/
def State.settledGlade (s : State) (c : Nat) : Glade := (s.glade c).settleBank (s.glade c).inHandler

/-- The bundle at core `c`'s pc, decoded (R97 to R101) and judged. -/
def State.evaluate (s : State) (c : Nat) (bs : List Byte) : Ready :=
  let x := s.settledGlade c
  let slots := slotsOf (s.buses c) bs
  let acc := slots.foldl (fun a sl => match sl with | .limm op p => limm op p a | _ => a) x.bank.acc
  let x1 := x.updBank (fun b => { b with acc := acc })
  s.judge c x x1 slots ((slots.filterMap MoveSlot.move?).map (fun m => (m, m.value x1))) (some bs)

/-- The bundle due to issue counted in FETCHED, once (R153). -/
def Glade.noteFetch (x : Glade) : Glade :=
  if x.hasFetched then x else { x with cntFetched := x.cntFetched + 1#64, hasFetched := true }

/-- The FETCH exception of a pc that names no bundle (R94, R183): not a multiple of the bundle size, or too high. -/
def State.fetchFault (s : State) (c : Nat) : Option Nat :=
  let a := (s.glade c).pc.toNat
  if a % s.bundleSize c ≠ 0 then some 1 else if s.highestBundle c < a then some 2 else none

/-- What stands at core `c`'s next native position (R122, R161, R173, R183). -/
def State.ready (s : State) (c : Nat) : State × Ready :=
  let x := s.glade c
  let fetch := fun d => Ready.cause .immSet { Cause.of 2 d with addr := x.pc.toNat % 2 ^ 48 }
  match x.loadFault with
  | some (d, addr, bus) => (s, .cause .immSet { Cause.of 3 d with addr := addr, bus := bus })
  | none =>
    if x.annul ≠ 0 then (s, if x.owedResult (· == .loadWait) then .wait else .annulled)
    else if x.owedResult DueVal.waiting || x.probeOwed then (s, .wait)
    else match s.fetchFault c with
      | some d => (s, fetch d)
      | none =>
        match x.repBundle with
        | some bs => (s, s.evaluate c bs)
        | none =>
          if s.codeWaits c then (s, .wait)
          else match s.fetchCode c x.pc.toNat (s.bundleSize c) with
            | (s, none) => (s, fetch 3)
            | (s, some bs) => let s := s.updGlade c Glade.noteFetch; (s, s.evaluate c bs)

/-! ### Positions (R184 to R196) -/

/-- One update that a wrong-path bundle may have made to the predictor under SQUASH (R189): to the return stack, the path
history and the indirect-target table; which is free (log 20). -/
def State.wrongUpdate (s : State) (c : Nat) : State :=
  let push := s.freeBool
  let pop := push.2.freeBool
  let taken := pop.2.freeBool
  let trained := taken.2.freeBool
  let target := trained.2.freeWord
  let back := target.2.freeWord
  let index := back.2.freeWord
  index.2.updGlade c (fun x => { x with
    retStack := if push.1 then (back.1 :: x.retStack).take 16 else if pop.1 then x.retStack.tail else x.retStack
    path := if taken.1 then (target.1 :: x.path).take 4 else x.path
    targets := if trained.1 then smSet none x.targets (index.1.toNat % 64) (some target.1) else x.targets })

/-- Entry `k` of a return stack of `n` entries, newest first, is one that wrong-path CALLs can have overwritten though
the stack's pointer and top are restored (R189): at most 6 bundles pop and push below the top, or push over the oldest
entries of a full stack. -/
def mayOverwrite (n k : Nat) : Bool := (1 ≤ k && k ≤ 4) || (k != 0 && decide (16 < n + 6 - (n - 1 - k)))

/-- The return stack after a wrong path under CHECKPOINT, each such entry kept or overwritten (R189, log 20). What
wrong-path bundles train in the indirect-target table is taken not to outlast the repair, of which R189 says nothing
under CHECKPOINT (DESIGN CHOICE, log 134). -/
def State.wrongStack (s : State) (c : Nat) : State :=
  let old := (s.glade c).retStack
  let r := (List.range old.length).foldl (fun (acc : State × List W64) k =>
    if mayOverwrite old.length k then
      let b := acc.1.freeBool
      let w := b.2.freeWord
      (w.2, acc.2 ++ [if b.1 then w.1 else old.getD k 0#64])
    else (acc.1, acc.2 ++ [old.getD k 0#64])) (s, [])
  r.1.updGlade c (fun x => { x with retStack := r.2 })

/-- The guess for the position about to issue, compared with where it is (R187 to R190). A wrong one has fetched 1 to 6
bundles, and leaves the predictor as R189 says for the Glade's repair mode. A guess made before a PBAR took effect is
still compared while the bar stands (DESIGN CHOICE, log 134: R191 does not say). -/
def State.arrive (s : State) (c : Nat) : State :=
  let x := s.glade c
  match x.guesses.find? (fun g => g.1 == x.bank.pos) with
  | none => s
  | some g =>
    let s := s.setGlade c { x with guesses := x.guesses.filter (fun h => h.1 != x.bank.pos) }
    if g.2 = x.pc then s
    else
      let w := s.freeWord
      let s := w.2.updGlade c (fun x => { x with
        cntMispredict := x.cntMispredict + 1#64
        cntFetched := x.cntFetched + w64 (1 + w.1.toNat % 6) })
      if s.squash c then (List.range 6).foldl (fun s _ => s.wrongUpdate c) s else s.wrongStack c

/-- One position counted, with the wait that came before it (R153). -/
def Glade.countIssue (x : Glade) : Glade :=
  let x := x.updBank (fun b => { b with pos := b.pos + 1 })
  { x with
    cntIssued := x.cntIssued + 1#64
    cntWaited := x.cntWaited + w64 (b2n x.hasWaited)
    hasWaited := false
    cellWait := false
    hasFetched := false
    resumed := false
    delay := x.delay - 1 }

/-- Issues still owed of the repeated bundle after this one. -/
def Glade.nextRep (x : Glade) : Repeat := if x.rep.owed ≤ 1 then Repeat.none else { x.rep with owed := x.rep.owed - 1 }

/-- Where the flow goes after a bundle at `p` (R94, R184, R185, R194, R195): `old` was the redirect pending before it,
and a redirect of the Glade itself was made by it. `rep`: it triggered REP. -/
def Glade.advance (x : Glade) (p : W64) (size : Nat) (old : Option (W64 × Nat)) (owed rep : Bool) : Glade :=
  let on := if owed then p else w64 (p.toNat + size)
  match x.redirect, old with
  | some _, _ => { x with pc := on }
  | none, none => { x with pc := on }
  | none, some (t, n) =>
    if n ≤ 1 then
      { x with pc := t, rep := if rep then x.rep else Repeat.none, repBundle := none }
    else { x with pc := on, redirect := some (t, n - 1) }

/-- An annulled delay slot passes (R184). A BAR or WAIT of the branch's bundle holds back the position after the slots
(log 111). -/
def State.passAnnulled (s : State) (c : Nat) : State :=
  let s := s.arrive c
  s.updGlade c (fun x =>
    let y := (x.noteFetch.settleBank x.inHandler).countIssue
    let owed := decide (1 < x.rep.owed)
    ({ y with annul := x.annul - 1, rep := x.nextRep, repBundle := none, redirect := none }).advance
      x.pc (s.bundleSize c) x.redirect owed false)

/-! ### Phases (R108) -/

/-- Order of phase 4 among the units of one bundle: what can still fail precisely comes before what leaves the
Glade; what acts only from the next bundle on comes last (R190, R191, R209, R305). -/
def Trig.rank : Trig → Nat
  | .qpu _ => 2
  | .lsu o _ => if o.isStore then 3 else 1
  | .jau _ => 4
  | .txu _ => 5
  | .sys .pflush => 5
  | .sys .pbar => 5
  | .stkEnter => 5
  | _ => 0

/-- The shots in that order. -/
def inOrder (hs : List Shot) : List Shot :=
  (List.range 6).flatMap (fun k => hs.filter (fun h => h.trig.rank == k))

/-- A bundle of core `c` issues: phases 1 to 3, and its position is counted, so that an RDCNT reads ISSUED and WAITED with
its own bundle in them (R153; DESIGN CHOICE, log 142). -/
def State.issueFront (s : State) (c : Nat) (p : Plan) : State :=
  let s := s.arrive c
  let g := (s.glade c)
  let y := { p.after with
    guesses := g.guesses, retStack := g.retStack, path := g.path, targets := g.targets
    cntMispredict := g.cntMispredict, cntFetched := g.cntFetched }
  let y := y.countIssue
  let y := { y with
    rep := p.before.nextRep
    repBundle := if p.before.rep.owed ≤ 1 then none else p.bytes
    redirect := none
    barWait := .none
    woken := false }
  let s := s.setGlade c y
  if p.shots.any s.shotFails then
    { s with snaps := s.snaps ++ [(c, y.bank.pos, p.before.inHandler, p.before)] }
  else s

/-- The copy kept for a bundle with a load or DEQ is dropped once it has issued, unless one of them can still fail. -/
def State.trimSnaps (s : State) (c : Nat) (p : Plan) : State :=
  let n := p.before.bank.pos + 1
  let x := s.glade c
  if p.shots.all (fun h => !h.trig.isLoad && h.trig != .qpu .deq) then s
  else if x.loads.any (fun l => l.pos == n && l.handler == p.before.inHandler)
      || x.qpuPend.any (fun d => d.precise && d.pos == n && d.handler == p.before.inHandler) then s
  else { s with snaps := s.snaps.filter (fun q => !(q.1 == c && q.2.1 == n && q.2.2.1 == p.before.inHandler)) }

/-- A load in one bundle with an operation that leaves the Glade is answered before that operation (R120). -/
def State.loadNow (s : State) (c : Nat) (o : LsuOp) (f : LsuForm) (t : W64) (bus : Nat) (ps : List PortAnswer)
    (rep : BoardReply) : Option (State × Option (Nat × Nat)) :=
  let x := s.glade c
  let named := (x.lsuAt f t).toNat
  let a := canon (coreRequester c) named
  let l : LoadFlight := ⟨x.opSeq, x.bank.pos, x.inHandler, a, named, o.bytes, o.signed,
    s.isTransactional c a x.inHandler, bus, true, none⟩
  match s.m3Load c l ps rep with
  | none => none
  | some (s, .error d) => some (s, some (d, named))
  | some (s, .ok v) => some (s.updGlade c (fun x => (x.lsuBase f t).addDue (.lsu v)), none)

/-- Phase 4: the operations start; a DEQ or a load answered at once may still fail precisely. `none`: a load has no
answer yet, and the bundle waits. -/
def State.shoot (s : State) (c : Nat) (site : Shot → TrigSite) (now : Bool) (ps : List PortAnswer) (rep : BoardReply) :
    List Shot → Option (State × Option Cause)
  | [] => some (s, none)
  | h :: hs =>
    let r : Option (State × Option (Nat × Nat)) := match h.trig with
      | .lsu o f =>
        if now && !o.isStore then s.loadNow c o f h.val.data h.move.bus ps rep
        else some (s.trigDo c h.trig h.val (site h))
      | tr => some (s.trigDo c tr h.val (site h))
    match r with
    | none => none
    | some (s, none) => s.shoot c site now ps rep hs
    | some (s, some (d, a)) => some (s, some { Cause.of 3 d with bus := h.move.bus, addr := a })

/-- What a load or DEQ of core `c`'s bundle meets when it is carried out now, the bundle being at phase 4; none: that is
not known yet. -/
def State.shotError (s : State) (c : Nat) (h : Shot) (ps : List PortAnswer) (rep : BoardReply) :
    Option (State × Option (Nat × Nat)) :=
  match h.trig with
  | .lsu o f => s.loadNow c o f h.val.data h.move.bus ps rep
  | _ =>
    if !(s.glade c).qpuPend.isEmpty || s.deqWaits c h.val.data then none
    else match s.deq c h.val.data with
      | (s, .bad d a) => some (s, some (d, a))
      | (s, .word _ _) => some (s, none)

/-- The error of the first of `hs`, in bus order, that meets one (R121). -/
def State.firstError (s : State) (c : Nat) (ps : List PortAnswer) (rep : BoardReply) :
    List Shot → Option (Option (State × Cause))
  | [] => some none
  | h :: hs =>
    match s.shotError c h ps rep with
    | none => none
    | some (u, some (d, a)) => some (some (u, { Cause.of 3 d with bus := h.move.bus, addr := a }))
    | some (_, none) => s.firstError c ps rep hs

/-- Core `c` as it stood before the bundle `p`, whose cursors have moved on (R299), in a state that its phase 4 has
reached. -/
def State.undoIssue (u : State) (c : Nat) (p : Plan) : State :=
  let x := u.glade c
  let u := u.setGlade c { p.before with
    reads := x.reads, cntFetched := x.cntFetched, cntMispredict := x.cntMispredict, cntBusy := x.cntBusy }
  { u with snaps := u.snaps.filter (fun q => !(q.1 == c && q.2.1 == p.before.bank.pos + 1)) }

/-- Where the triggers of a bundle stand. -/
def State.siteOf (s : State) (c : Nat) (p : Plan) (h : Shot) : TrigSite :=
  ⟨p.before.pc, s.bundleSize c, h.move.bus, p.before.redirect.isSome, ⟨h.move.src.isNone, h.move.annul, h.move.hint⟩⟩

/-- The flow after phase 4. -/
def State.issueEnd (s : State) (c : Nat) (p : Plan) : State :=
  let has := fun (t : Trig) => p.shots.any (fun h => h.trig == t)
  if has (.sys .eret) then s.eret c
  else if has .stkEnter then s
  else s.updGlade c (fun x =>
    x.advance p.before.pc (s.bundleSize c) p.before.redirect (decide (1 < p.before.rep.owed)) (has (.sys .rep)))

/-- Core `c` alone issues a bundle, or raises what its phase 4 meets. `mirror`: the trailing Glade of a pair, whose
leading Glade acts outside for both. -/
def State.issuePlan (s0 : State) (c : Nat) (p : Plan) (mirror : Bool) (ps : List PortAnswer) (rep : BoardReply) :
    State :=
  let s := s0.issueFront c p
  let now := p.shots.any (fun h => h.trig.external) && !mirror
  let shots := (inOrder p.shots).filter (fun h => !(mirror && h.trig.external))
  let waits := s0.updGlade c (fun x => { x with hasWaited := true })
  let first := if now && p.shots.any (fun h => h.trig.isLoad) then
      (if (s.glade c).heldBack (s.glade c).opSeq then none else s.firstError c ps rep (p.shots.filter s.shotFails))
    else some none
  match first with
  | none => waits
  | some (some (u, e)) => (u.undoIssue c p).raise c e
  | some none =>
    match s.shoot c (s.siteOf c p) now ps rep shots with
    | none => waits
    | some (s, none) => (s.trimSnaps c p).issueEnd c p
    | some (s, some e) => (s.undoIssue c p).raise c e

/-! ### Boundaries (R197 to R206) -/

/-- Core `c` waits one attempt more (R153). -/
def State.noteWait (s : State) (c : Nat) : State := s.updGlade c (fun x => { x with hasWaited := true })

/-- Core `c` waits for a cell (R287). -/
def State.noteCell (s : State) (c : Nat) : State :=
  s.updGlade c (fun x => { x with hasWaited := true, cellWait := true })


/-- A load or DEQ of an earlier bundle of core `c` may still fail: a later bundle raises nothing yet (R120). -/
def State.earlierOpen (s : State) (c : Nat) : Bool :=
  !(s.glade c).loads.isEmpty || (s.glade c).heldBack (s.glade c).opSeq

/-- Whether the bundle at a position raises a precise exception. -/
inductive CauseAns where
  | none
  | wait
  | raised (s : State)

/-- The precise exception of what stands at core `c`'s position, taken (R120, R121). -/
def State.causeHere (s : State) (c : Nat) (r : Ready) (ps : List PortAnswer) (rep : BoardReply) : CauseAns :=
  match r with
  | .cause tr e => if s.earlierOpen c then .wait else .raised (s.takeCause c tr e)
  | .probe p tr e =>
    if s.earlierOpen c then .wait
    else (match (s.issueFront c p).firstError c ps rep p.shots with
      | none => .wait
      | some none => .raised (s.takeCause c tr e)
      | some (some (u, f)) => .raised ((u.undoIssue c p).raise c f))
  | _ => .none

/-- The failure whose report is due (R180): the first retired, or under a BAR the first in program order once all that
the BAR waits for has ended. -/
def Glade.report (x : Glade) : Option Failure :=
  if x.inHandler || x.annul != 0 then none
  else if x.barWait = .none then x.failures.head?
  else if !x.barDone then none
  else x.failures.foldl (fun (m : Option Failure) f => match m with
    | some g => if f.seq < g.seq then some f else some g
    | none => some f) none

/-- A watchdog entry is due. -/
def Glade.watchdogDue (x : Glade) : Bool := x.wdogPending && !x.inHandler && x.annul == 0

/-- The WATCHDOG entry of core `c` (R197, R501). -/
def State.enterWatchdog (s : State) (c : Nat) : State :=
  (s.updGlade c (fun x => { x with wdogPending := false })).raise c (Cause.of 5 1)

/-- An event entry may be taken at this boundary in thread code (R198). -/
def Glade.eventOpen (x : Glade) : Bool :=
  bit x.evec 15 && !x.inHandler && !x.masked && x.annul == 0 && (x.rep.owed == 0 || x.rep.interruptible)

/-- An event entry is due at core `c`'s boundary; a WAIT lets it pass as R206 says. -/
def State.eventDue (s : State) (c : Nat) : Bool :=
  let x := s.glade c
  x.eventOpen && (match x.barWait with
    | .none => s.eventPending c
    | .bar => s.eventPending c
    | .waitEnter => x.barDone && (x.woken || s.eventPending c)
    | .waitResume => false)

/-- What the BAR or WAIT before the present position still holds back (R177, R206); an annulled slot passes (R184). -/
inductive Hold where
  | wait
  | clear
  | go
deriving DecidableEq, Repr

def State.holdOf (s : State) (c : Nat) : Hold :=
  let x := s.glade c
  if x.annul ≠ 0 then .go
  else match x.barWait with
  | .none => .go
  | .bar => if x.barDone then .go else .wait
  | _ => if !x.barDone then .wait else if x.woken || s.eventPending c then .go else .clear

/-- The position of core `c`, given what stands there: the one entry of R197 that is due, or the bundle. -/
def State.position (s : State) (c : Nat) (r : Ready) (ps : List PortAnswer) (rep : BoardReply) : State :=
  match s.causeHere c r ps rep with
  | .raised t => t
  | .wait => s.noteWait c
  | .none =>
    match (s.glade c).report with
    | some f => s.enterImprecise c f
    | none =>
      if (s.glade c).watchdogDue then s.enterWatchdog c
      else if s.eventDue c then s.enterEvent c
      else match r with
        | .annulled => s.passAnnulled c
        | .go p => s.issuePlan c p false ps rep
        | .waitCell => s.noteCell c
        | _ => s.noteWait c

/-- The next native position of core `c`, which is in no pair. -/
def State.issueNative (s : State) (c : Nat) (ps : List PortAnswer) (rep : BoardReply) : State :=
  match s.holdOf c with
  | .go => let r := s.ready c; r.1.position c r.2 ps rep
  | .wait => s.position c .wait ps rep
  | .clear =>
    let t := s.position c .wait ps rep
    if (t.glade c).barWait = .none then t else t.updGlade c (fun x => { x with run := .clearing })

/-- The next M3 instruction of core `c`, or the entry that is due at its boundary (R197, R218); a BAR or WAIT of the
bundle of its ENTER holds back the first one (R177, R206). -/
def State.issueByteCode (s : State) (c : Nat) (ps : List PortAnswer) (rep : BoardReply) : State :=
  let hold := s.holdOf c
  match (if hold == .go then s.m3Step c ps rep else .wait (s.noteWait c)) with
  | .raised t _ => t
  | r =>
    match (s.glade c).report with
    | some f => s.enterImprecise c f
    | none =>
      if (s.glade c).watchdogDue then s.enterWatchdog c
      else if s.eventDue c then s.enterEvent c
      else if hold == .clear then r.state.updGlade c (fun x => { x with run := .clearing })
      else r.state

/-- Core `c` can issue: running, its domains on. -/
def State.runs (s : State) (c : Nat) : Bool :=
  (s.glade c).run == .running && s.buses c != 0
    && (if c = 256 then s.domainOn 2 else s.domainOn (4 + c / 16) && s.domainOn (20 + c / 16))

/-- The next position of core `c` outside any pair. -/
def State.issueOne (s : State) (c : Nat) (ps : List PortAnswer) (rep : BoardReply) : State :=
  if !s.runs c then s
  else if (s.glade c).rep.byteCode then s.issueByteCode c ps rep
  else s.issueNative c ps rep

end Sys2Proof.Machine
end

