-- ==== Sys2Proof/Machine/Lockstep.lean ====
section
/-! DEFINITION. Token lockstep (R496 to R499, R325): the order of the two Glades, seal points, the compare, the shadow
checkpoint and the re-run, in native code and in byte code; the next position of any core, and a trigger or M3
instruction given alone. -/

namespace Sys2Proof.Machine

/-! ### What stands at a position, as a seal sees it (R498) -/

/-- What a trigger of a bundle has outside the pair (R497): address or socket, and data. -/
def State.effectOf (s : State) (c : Nat) (y : Glade) (h : Shot) : Option (W64 × W64) :=
  match h.trig with
  | .lsu o f =>
    let a := canon (coreRequester c) (y.lsuAt f h.val.data).toNat
    if s.regionOf a == .control || (o.isStore && !s.isLocal c a) then
      some (w64 a, if o.isStore then w64 (y.bank.lsuB.toNat % 2 ^ (8 * o.bytes)) else 0#64)
    else none
  | tr => if tr.external then some (w64 (tr.id + h.val.tag.toNat * 2 ^ 16), h.val.data) else none

/-- The external effects of what stands at a native position. -/
def State.effects (s : State) (c : Nat) (r : Ready) : List (W64 × W64) :=
  match r with
  | .go p => p.shots.filterMap (fun h => s.effectOf c p.after h)
  | _ => []

/-- A store to the Glade's own memories would be the 257th of its undo log. -/
def State.undoFull (s : State) (c : Nat) (r : Ready) : Bool :=
  match r with
  | .go p => decide (256 ≤ (s.glade c).undoCount) && p.shots.any (fun h => match h.trig with
      | .lsu o f => o.isStore && s.isLocal c (canon (coreRequester c) (p.after.lsuAt f h.val.data).toNat)
      | _ => false)
  | _ => false

/-- The data access of M3 instruction `o`: its global address, and the data of an ST (R214). -/
def State.m3Access (s : State) (c : Nat) (o : M3Op) : Option (Nat × Option W64) :=
  let at_ := fun (vs : List (BitVec 32)) => canon (coreRequester c) (s.m3Address c (vs.headD 0#32)).toNat
  match o, (s.m3Pops c o.pops).2.1 with
  | .ld _, .ok vs => some (at_ vs, none)
  | .st byte, .ok vs => some (at_ vs, some (w64 ((vs.getD 1 0#32).toNat % 2 ^ (if byte then 8 else 32))))
  | _, _ => none

/-- The external effect of M3 instruction `o`: a control-space access, or a store outside the local memories (R497). -/
def State.m3Effects (s : State) (c : Nat) (o : M3Op) : List (W64 × W64) :=
  match s.m3Access c o with
  | some (a, data) =>
    if s.regionOf a == .control || (data.isSome && !s.isLocal c a) then [(w64 a, data.getD 0#64)] else []
  | none => []

/-- The stores of M3 instruction `o` to its own DMEM, its spills among them, would overflow the undo log. -/
def State.m3UndoFull (s : State) (c : Nat) (o : M3Op) : Bool :=
  let x := s.glade c
  let n := (o.spills x.rep.cached x.bank.stkSP.toNat).length + (match s.m3Access c o with
    | some (a, some _) => b2n (s.isLocal c a)
    | _ => 0)
  n != 0 && decide (256 < x.undoCount + n)

/-- What stands at the position of a Glade of a pair: in native code, or an M3 instruction. -/
inductive PairSpot where
  | native (r : Ready)
  | byteCode (o : M3Out)

/-- What a seal compares of it: its kind, the class and detail of its exception, its external effects, and whether it
is a WAIT; `undo`: it would overflow the undo log. -/
structure Stand where
  what : PairSpot
  kind : Nat
  cause : Option (Nat × Nat)
  fx : List (W64 × W64)
  wait : Bool
  undo : Bool

/-- Native code at the position of core `c`. -/
def State.nativeStand (s : State) (c : Nat) (r : Ready) : Stand where
  what := .native r
  kind := match r with
    | .wait => 0
    | .waitCell => 1
    | .annulled => 2
    | .cause _ _ => 3
    | .probe _ _ _ => 4
    | .go _ => 5
  cause := match r with
    | .cause _ e => some (e.cls, e.detail)
    | .probe _ _ e => some (e.cls, e.detail)
    | _ => none
  fx := s.effects c r
  wait := match r with
    | .go p => p.shots.any (fun h => h.trig == .sys .wait)
    | _ => false
  undo := s.undoFull c r

/-- The M3 instruction `o`, if the fetch gives one, at the position of core `c`, which would do `out`. -/
def State.m3Stand (s : State) (c : Nat) (o : Option M3Op) (out : M3Out) : Stand where
  what := .byteCode out
  kind := match out with
    | .wait _ => 6
    | .raised _ _ => 7
    | .done _ => 8
  cause := match out with
    | .raised _ e => some (e.cls, e.detail)
    | _ => none
  fx := match out, o with
    | .done _, some o => s.m3Effects c o
    | _, _ => []
  wait := false
  undo := match out, o with
    | .done _, some o => s.m3UndoFull c o
    | _, _ => false

/-- What the code of core `c` holds at its position, and the state in which that was seen. -/
def State.standAt (ps : List PortAnswer) (rep : BoardReply) (s : State) (c : Nat) : State × Stand :=
  if (s.glade c).rep.byteCode then
    let o := match (s.m3Fetch c).2 with
      | .ok (o, _) => some o
      | .error _ => none
    (s, s.m3Stand c o (s.m3Step c ps rep))
  else let r := s.ready c; (r.1, r.1.nativeStand c r.2)

/-- An external effect, an exception entry or a WAIT stands at the position. -/
def State.sealHere (s : State) (c : Nat) (d : Stand) : Bool :=
  (s.glade c).report.isSome || (s.glade c).watchdogDue || d.cause.isSome || !d.fx.isEmpty || d.wait

/-- The position of leading Glade `l` is a seal point. -/
def State.sealPoint (s : State) (l : Nat) (d : Stand) : Bool :=
  s.sealHere l d || d.undo || decide (4096 ≤ s.sealPos l) || (s.pair l).timer

/-! ### Issue of a pair (R496) -/

/-- The checkpoint of the pair of `l` and `t` moves to its present state, unless a transaction is open (R325). -/
def State.checkpoint (s : State) (l t : Nat) : State :=
  if (s.openTxn l).isSome then s
  else
    let s := (s.updGlade l (fun x => { x with undo := [], undoCount := 0 })).updGlade t
      (fun x => { x with undo := [], undoCount := 0 })
    let p := s.pair l
    s.setPair l { p with lead := s.glade l, trail := s.glade t }

/-- The seal bundle of the pair of `l` and `t` has been carried out. -/
def State.sealDone (s : State) (l t : Nat) : State := (s.setPair l { s.pair l with sealed := false }).checkpoint l t

/-- The trailing Glade `t` enters as the leading one has (`enters`), or stops with it (R499 finds their causes equal). -/
def State.raiseTrail (s : State) (l t : Nat) (enters : Bool) (e : Cause) : State :=
  if enters then s.raise t e
  else s.updGlade t (fun x => { x with
    stopEcause := (s.glade l).stopEcause
    stopEpc := (s.glade l).stopEpc
    stopEaddr := (s.glade l).stopEaddr })

/-- An exception of core `c` enters its handler. -/
def State.entersAt (s : State) (c : Nat) : Bool := bit (s.glade c).evec 15 && !(s.glade c).inHandler

/-- The exception of one Glade of a pair also taken by the other. -/
def State.raiseBoth (s : State) (l t : Nat) (tr : Trig) (e : Cause) : State :=
  let s' := s.logCause l tr e
  let s' := (s'.updGlade l (fun x => { x with loadFault := none })).updGlade t (fun x => { x with loadFault := none })
  (s'.raise l e).raiseTrail l t (s.entersAt l) e

/-- The report, the WATCHDOG entry or the event entry that is due at the leading Glade's position, taken for the pair
(R197); the trailing Glade takes an event from its feed. -/
def State.entryBoth (s : State) (l t : Nat) : Option State :=
  match (s.glade l).report with
  | some f =>
    let s := s.enterImprecise l f
    some ((match (s.glade t).report with
      | some g => s.enterImprecise t g
      | none => s).sealDone l t)
  | none =>
    if (s.glade l).watchdogDue then
      let s := s.updGlade t (fun x => { x with wdogPending := false })
      some (((s.updGlade l (fun x => { x with wdogPending := false })).raiseBoth l t .immSet (Cause.of 5 1)).sealDone l t)
    else if s.eventDue l then
      some (((s.setPair l { s.pair l with sealed := false }).feed l .event).enterEvent l)
    else none

/-- Both Glades' bundles `a` and `b`, the leading one acting outside (R291, R498). -/
def State.issueTwo (s : State) (l t : Nat) (a b : Plan) (ps : List PortAnswer) (rep : BoardReply) : State :=
  let front := (s.issueFront l a).issueFront t b
  let ext := a.shots.any (fun h => h.trig.external)
  let fail := fun (u : State) (e : Cause) =>
    let u := (u.undoIssue l a).setGlade t b.before
    (({ u with snaps := u.snaps.filter (fun q => q.1 != l && q.1 != t) } : State).raiseBoth l t .immSet e).sealDone l t
  let first := if ext && a.shots.any (fun h => h.trig.isLoad) then
    front.firstError l ps rep (a.shots.filter s.shotFails) else some none
  match first, front.shoot l (s.siteOf l a) ext ps rep (inOrder a.shots) with
  | none, _ => s.noteWait l
  | _, none => s.noteWait l
  | some (some (u, e)), _ => fail u e
  | _, some (u, some e) => fail u e
  | _, some (u, none) =>
    let u := (u.trimSnaps l a).issueEnd l a
    match u.shoot t (s.siteOf t b) false ps rep ((inOrder b.shots).filter (fun h => !h.trig.external)) with
    | some (u, _) => ((u.trimSnaps t b).issueEnd t b).sealDone l t
    | none => u.sealDone l t

/-- The seal position carried out once for the pair: the exception or entry that is due for both, or both Glades' bundles
or M3 instructions, which `look` finds (R498). -/
def State.issueBoth (s : State) (l t : Nat) (look : State → Nat → State × Stand) (ps : List PortAnswer)
    (rep : BoardReply) : State :=
  let p := look s l
  match p.2.what with
  | .byteCode (.raised u e) =>
    let u := u.raiseTrail l t (s.entersAt l) e
    (u.setPair l { u.pair l with feed := (s.pair l).feed }).sealDone l t
  | .native (.cause tr e) => (p.1.raiseBoth l t tr e).sealDone l t
  | .native (.probe a tr e) =>
    (match (p.1.issueFront l a).firstError l ps rep a.shots with
    | none => p.1.noteWait l
    | some none => (p.1.raiseBoth l t tr e).sealDone l t
    | some (some (u, f)) => ((u.undoIssue l a).raiseBoth l t .immSet f).sealDone l t)
  | _ =>
    match p.1.entryBoth l t with
    | some u => u
    | none =>
      match p.2.what with
      | .native (.go a) =>
        let q := look p.1 t
        (match q.2.what with
        | .native (.go b) => q.1.issueTwo l t a b ps rep
        | _ => q.1.noteWait l)
      | .native .annulled => (p.1.setPair l { p.1.pair l with sealed := false }).passAnnulled l
      | .native .waitCell => p.1.noteCell l
      | .byteCode (.done u) =>
        (match (look u t).2.what with
        | .byteCode (.done v) => v.sealDone l t
        | _ => p.1.noteWait l)
      | _ => p.1.noteWait l

/-- One Glade of a pair goes on alone at a position that is no seal point; `mirror`: the trailing one, which does nothing
outside. -/
def State.goAlone (s : State) (c : Nat) (d : Stand) (mirror : Bool) (ps : List PortAnswer) (rep : BoardReply) : State :=
  match d.what with
  | .byteCode out => out.state
  | .native r =>
    if mirror then
      match r with
      | .annulled => s.passAnnulled c
      | .go p => s.issuePlan c p true ps rep
      | _ => s.noteWait c
    else s.position c r ps rep

/-- The leading Glade is more than 256 positions ahead (R496). -/
def State.tooFar (s : State) (l t : Nat) : Bool := decide (256 < (s.sealPos l : Int) - s.sealPos t)

/-- The leading Glade's position (R496, R498): it waits at a seal point until the pair has sealed. A store that would
overflow the undo log inside a transaction aborts it (R498). -/
def State.issueLead (s : State) (l t : Nat) (ps : List PortAnswer) (rep : BoardReply) : State :=
  if s.tooFar l t then s.noteWait l
  else
    let d := s.standAt ps rep l
    let u := d.1
    let u := if d.2.undo && (u.openTxn l).isSome then u.abortTxn l 3 else u
    if (s.pair l).sealed && u.sealPos l == 0 && u.sealPos t == 0 then u.issueBoth l t (State.standAt ps rep) ps rep
    else if u.sealPoint l d.2 then u.noteWait l
    else if u.eventDue l then (u.feed l .event).enterEvent l
    else u.goAlone l d.2 false ps rep

/-- The trailing Glade has still to issue the load of which the leading one passed on the error (R496): the leading Glade
stands before that bundle again. -/
def State.mustMeet (s : State) (l t : Nat) : Bool :=
  s.sealPos l == s.sealPos t && (s.glade l).loadFault.isSome && (s.glade t).loadFault.isNone
    && (s.pair l).feed.any (fun e => e.2.isLoad)

/-- The trailing Glade may not pass the position of the leading one (R496). -/
def State.mustFollow (s : State) (l t : Nat) : Bool := decide (s.sealPos l ≤ s.sealPos t) && !s.mustMeet l t

/-- The trailing Glade `t` has the event entry to take that the leading one took at this position (R496). -/
def State.fedEvent (s : State) (t : Nat) : Bool :=
  s.isTrailing t && (s.pair (s.leaderOf t)).feed.any (fun e => e.1 == s.sealPos t && e.2 == .event)

/-- The trailing Glade's position: after the leading Glade's, with the event entries where that one took them. -/
def State.issueTrail (s : State) (t : Nat) (ps : List PortAnswer) (rep : BoardReply) : State :=
  let l := s.leaderOf t
  let here := s.sealPos t
  match s.takeFeed t (fun e => e.1 == here && e.2 == .event) with
  | some (s, _) => s.enterEvent t
  | none =>
    if s.mustFollow l t then s.noteWait t
    else
      let d := s.standAt ps rep t
      if d.1.sealHere t d.2 then d.1.noteWait t else d.1.goAlone t d.2 true ps rep

/-- The pair comes to rest in Clearing together (R206). -/
def State.clearPair (s : State) (l t : Nat) : State :=
  (s.updGlade l (fun x => { x with run := .clearing })).updGlade t (fun x => { x with run := .clearing })

/-- A position of a Glade of the pair of `l` and `t`, in native code or in byte code (R218). -/
def State.issuePair (s : State) (c l t : Nat) (ps : List PortAnswer) (rep : BoardReply) : State :=
  if c = l then
    match s.holdOf l with
    | .go => s.issueLead l t ps rep
    | .wait => s.noteWait l
    | .clear => if (s.glade t).barWait == (s.glade l).barWait && (s.glade t).barDone then s.clearPair l t else s.noteWait l
  else
    match (s.glade t).barWait with
    | .bar => if (s.glade t).barDone then s.issueTrail t ps rep else s.noteWait t
    | _ => s.issueTrail t ps rep

/-- BUNDLE_ISSUE of core `c`: the next position of its code. -/
def State.bundleIssue (s : State) (c : Nat) (ps : List PortAnswer) (rep : BoardReply) : State :=
  match s.pairOf c with
  | some (l, t) => if s.runs c then s.issuePair c l t ps rep else s
  | none => s.issueOne c ps rep

/-! ### The entries given alone -/

/-- What stands at core `c`'s boundary: whether it raises a precise exception, and the state in which that was seen. -/
def State.atBoundary (s : State) (c : Nat) : State × CauseAns :=
  if s.holdOf c != .go then (s, .none)
  else if (s.glade c).rep.byteCode then
    match s.m3Step c [] noReply with
    | .raised t _ => (s, .raised t)
    | _ => (s, .none)
  else
    let r := s.ready c
    (r.1, r.1.causeHere c r.2 [] noReply)

/-- EXCEPTION_ENTRY of core `c`: the precise exception of the bundle or instruction at its pc, if it has one; a pair
enters at its seal. -/
def State.exceptionEntry (s : State) (c : Nat) : State :=
  if !s.runs c || (s.pairOf c).isSome then s
  else match (s.atBoundary c).2 with
    | .raised t => t
    | _ => s

/-- IMPRECISE_ENTRY of core `c`: the failure whose report is due, where no precise exception comes first (R197). -/
def State.impreciseEntry (s : State) (c : Nat) : State :=
  if !s.runs c || (s.pairOf c).isSome then s
  else match (s.glade c).report, s.atBoundary c with
    | some f, (u, .none) => u.enterImprecise c f
    | _, _ => s

/-- EVENT_ENTRY of core `c`, if one is due at its boundary and no other entry comes first (R197). -/
def State.eventEntry (s : State) (c : Nat) : State :=
  if !s.runs c || (s.pairOf c).isSome || !s.eventDue c || (s.glade c).report.isSome || (s.glade c).watchdogDue then s
  else match s.atBoundary c with
    | (u, .none) => u.enterEvent c
    | _ => s

/-! ### The seal (R498, R499) -/

/-- 16 bytes folded for each of G0 to G63 with its tag, and for the position (R497). -/
def Glade.sealFold (x : Glade) (fx : List (W64 × W64)) : W64 :=
  let a := fx.foldl (fun g e => foldSig g e.1 e.2) x.signature
  let b := (List.range 64).foldl (fun g k => foldSig g (x.g k).data (w64 (x.g k).tag.toNat)) a
  foldSig b x.cntIssued 0#64

/-- Both Glades show the same kind of position, and the same exception. -/
def Stand.same (a b : Stand) : Bool := a.kind == b.kind && a.cause == b.cause

/-- The seal matches: the signatures are kept, the checkpoint moves, and the positions count anew. A divergence that was
re-run is transient. -/
def State.sealMatch (s : State) (l t : Nat) (sl st : W64) : State :=
  let g := l / 16
  let s := (s.updGlade l (fun x => { x with signature := sl })).updGlade t (fun x => { x with signature := st })
  let s := s.checkpoint l t
  let p := s.pair l
  let s := s.setPair l { p with
    leadBase := (s.glade l).cntIssued
    trailBase := (s.glade t).cntIssued
    timer := false
    sealed := true
    rerun := false }
  if p.rerun then
    let s := s.recordError (.grove g) { ErrInfo.of 0x13 (s.glade l).cntIssued.toNat with glade := l % 16 }
    (s.tallyInc (dev 178) 1).satAdd (Reg.SAF_LS g) 39 24 1
  else s

/-- The undo log of core `c` unwound, newest store first (R499). -/
def State.unwind (s : State) (c : Nat) : State := (s.glade c).undo.foldl (fun s e => s.setCode e.1 e.2) s

/-- A transaction discarded without a status and without stubs (R325): the cells of its packets, closed or still open,
are free. It is counted as INTERRUPTED (R322). -/
def State.dropTxn (s : State) (i : Nat) : State :=
  match s.txn i with
  | some t =>
    if t.state = .isOpen ∨ t.state = .doomed then
      let held := (s.glade i).writes.filterMap (fun p => p.2.bind (fun w => if w.txn then some w else none))
      (((t.packets ++ held).foldl (fun s w => s.freeCells w.queue w.cells) s).setTxn i none).countAbort (i / 16) 14
    else s
  | none => s

/-- A Glade put back to its checkpoint `p` (R498, R499). What the checkpoint does not hold stays: the run state, the
watchdog, a stuck bit, the predictor and the counters of waits and guesses. A WAIT that it had passed since is over again
at once (log 143). -/
def Glade.rerunFrom (x p : Glade) : Glade :=
  { p with
    undo := []
    undoCount := 0
    run := x.run
    heldRun := x.heldRun
    started := x.started
    stuckBit := x.stuckBit
    wdogPending := x.wdogPending
    wdogFirst := x.wdogFirst
    wdogSince := x.wdogSince
    woken := p.woken || x.woken || (p.barWait != .none && p.cntIssued != x.cntIssued)
    cntFetched := x.cntFetched
    cntWaited := x.cntWaited
    cntMispredict := x.cntMispredict
    cntBusy := x.cntBusy
    retStack := x.retStack
    path := x.path
    targets := x.targets }

/-- The seal does not match: undo logs unwound, the checkpoint restored; the second divergence before a match is lasting
(R499). -/
def State.sealMismatch (s : State) (l t : Nat) : State :=
  let g := l / 16
  let p := s.pair l
  let pos := (s.glade l).cntIssued.toNat
  let s := ((s.unwind l).unwind t).dropTxn l
  let s := (s.updGlade l (fun x => x.rerunFrom p.lead)).updGlade t (fun x => x.rerunFrom p.trail)
  let s : State := { s with snaps := s.snaps.filter (fun q => q.1 != l && q.1 != t) }
  let s := s.setPair l { p with
    leadBase := p.lead.cntIssued
    trailBase := p.trail.cntIssued
    feed := []
    timer := false
    sealed := false
    rerun := !p.rerun }
  if p.rerun then
    let s := s.recordError (.grove g) { ErrInfo.of 0x14 pos with glade := l % 16 }
    ((s.tallyInc (dev 178) 1).satAdd (Reg.SAF_LS g) 55 40 1).find ⟨4, 0x14, some g, some l, none, l % 16, pos⟩
  else s

/-- All that BAR waits for has ended in core `c`, and its loads are answered (R498). -/
def State.sealIdle (s : State) (c : Nat) : Bool := s.runs c && (s.glade c).barDone && (s.glade c).loads.isEmpty

/-- What `look` finds at the positions of the pair of `l` and `t`, and the state in which that was seen: the trailing
Glade takes what the leading one obtains there, and the feed stays as it was. -/
def State.sealView (s : State) (l t : Nat) (look : State → Nat → State × Stand) : State × Stand × Stand :=
  let p := look s l
  let fed := match p.2.what with
    | .byteCode out => out.state.pair l
    | .native _ => p.1.pair l
  let q := look (p.1.setPair l fed) t
  (q.1.setPair l (p.1.pair l), p.2, q.2)

/-- The seal of the pair of `l` and `t`, whose positions hold what `look` finds: at a seal point that both have reached,
with all that BAR waits for ended in both Glades, the signatures are compared. What the leading Glade obtained and the
trailing one did not take shows a divergence (R499), and so does a seal point of the trailing Glade that the leading one
has passed. -/
def State.sealCompare (s : State) (l t : Nat) (look : State → Nat → State × Stand) : State :=
  if !s.sealIdle l || !s.sealIdle t then s
  else
    let v := s.sealView l t look
    let u := v.1
    if u.sealPos l = u.sealPos t then
      if (u.pair l).sealed || !u.sealPoint l v.2.1 || (u.pair l).feed.any (fun e => e.2 == .event) || u.mustMeet l t then u
      else
        let sl := (u.glade l).sealFold v.2.1.fx
        let st := (u.glade t).sealFold v.2.2.fx
        if sl = st ∧ (v.2.1.same v.2.2 && (u.pair l).feed.isEmpty) = true then u.sealMatch l t sl st else u.sealMismatch l t
    else if u.sealHere t v.2.2 then u.sealMismatch l t
    else u

/-- LOCKSTEP_SEAL of the pair that Glade `i` belongs to. -/
def State.lockstepSeal (s : State) (i : Nat) : State :=
  match s.pairOf i with
  | none => s
  | some (l, t) => s.sealCompare l t (State.standAt [] noReply)

/-- SEAL_TIMER of the pair that Glade `i` belongs to: the next position is a seal point (R498). -/
def State.sealTimer (s : State) (i : Nat) : State :=
  match s.pairOf i with
  | none => s
  | some (l, _) => if s.timeRuns && s.runs l then s.setPair l { s.pair l with timer := true } else s

/-! ### A trigger or an M3 instruction given alone -/

/-- The bus on which the one-move bundle of a trigger writes it: the lowest whose unit has that socket. -/
def State.busFor (s : State) (c id : Nat) : Nat :=
  ((List.range (s.buses c)).find? (fun b => sockKind (s.gladeEntry c) b id == some .trigger)).getD 0

/-- The move of that bundle; a direct branch moves an immediate (R182). -/
def State.oneMove (s : State) (c : Nat) (tr : Trig) (t : TWord) (flags : BranchFlags) : Move :=
  ⟨s.busFor c tr.id, tr.id, if flags.direct then none else some 0x202, t.data, flags.annul, flags.hint, false⟩

/-- What stands at core `c`'s next native position when its bundle holds one move, of `t` into trigger `tr`. -/
def State.readyWith (s : State) (c : Nat) (tr : Trig) (t : TWord) (flags : BranchFlags) : State × Ready :=
  let x := s.glade c
  match x.loadFault with
  | some (d, addr, bus) => (s, .cause .immSet { Cause.of 3 d with addr := addr, bus := bus })
  | none =>
    if x.annul ≠ 0 then (s, if x.owedResult (· == .loadWait) then .wait else .annulled)
    else if x.owedResult DueVal.waiting || x.probeOwed then (s, .wait)
    else match s.fetchFault c with
      | some d => (s, .cause .immSet { Cause.of 2 d with addr := x.pc.toNat % 2 ^ 48 })
      | none =>
        if s.codeWaits c then (s, .wait)
        else
          let s := s.updGlade c Glade.noteFetch
          let y := s.settledGlade c
          let m := s.oneMove c tr t flags
          (s, s.judge c y y (List.replicate m.bus .nop ++ [.move m]) [(m, t)] none)

/-- An entry other than a precise exception is due at core `c`'s boundary (R197). -/
def State.entryDue (s : State) (c : Nat) : Bool :=
  (s.glade c).report.isSome || (s.glade c).watchdogDue || s.eventDue c

/-- Core `c` may issue the bundle or instruction that a command gives it: it runs, and nothing before its position holds
it back, such as an event entry that the trailing Glade has still to take there (R496). -/
def State.mayIssue (s : State) (c : Nat) (byteCode : Bool) : Bool :=
  s.runs c && (s.glade c).rep.byteCode == byteCode && s.holdOf c == .go && !s.fedEvent c

/-- Core `c` belongs to a pair, and the bundle or instruction given to it is one that it may not issue alone (R496,
R498): a seal point, or a position that the other Glade must reach first. -/
def State.pairHolds (s : State) (c : Nat) (d : Stand) : Bool :=
  match s.pairOf c with
  | none => false
  | some (l, t) => if c = l then s.sealPoint l d || s.tooFar l t else s.sealHere t d || s.mustFollow l t

/-- A bundle or instruction given to core `c` of a pair that holds it: where the leading Glade is given a seal point that
both have reached, and the signatures match, both issue it, once outside (R291, R498). A store that would overflow the
undo log inside a transaction aborts it first (R498). -/
def State.sealRow (s : State) (c : Nat) (look : State → Nat → State × Stand) (byteCode : Bool) : State :=
  match s.pairOf c with
  | none => s
  | some (l, t) =>
    let s := s.noteWait c
    if c != l || s.tooFar l t then s
    else
    let s := if (look s l).2.undo && (s.openTxn l).isSome then s.abortTxn l 3 else s
    if !s.mayIssue t byteCode then s
    else
      let u := (s.setPair l { s.pair l with sealed := false }).sealCompare l t look
      if (u.pair l).sealed then u.issueBoth l t look [] noReply else u

/-- The native position of core `c`, holding one move, of `t` into trigger `tr`: the bundle raises its exception, waits,
or issues; a pair seals where it must (log 43). A core at rest, in byte code, or before another entry that is due does
nothing. -/
def State.trigger (s : State) (c : Nat) (tr : Trig) (t : TWord) (flags : BranchFlags) : State :=
  if !s.mayIssue c false then s
  else
    let look := fun (s : State) c => let r := s.readyWith c tr t flags; (r.1, r.1.nativeStand c r.2)
    let r := s.readyWith c tr t flags
    if r.1.pairHolds c (r.1.nativeStand c r.2) then
      if !r.2.isCause && s.entryDue c then s else s.sealRow c look false
    else match r.1.causeHere c r.2 [] noReply with
    | .raised u => u
    | .wait => r.1.noteWait c
    | .none =>
      if s.entryDue c then s
      else match r.2 with
        | .annulled => r.1.passAnnulled c
        | .go p => r.1.issuePlan c p (s.isTrailing c) [] noReply
        | .waitCell => r.1.noteCell c
        | _ => r.1.noteWait c

/-- No flag of a branch slot. -/
def noFlags : BranchFlags := ⟨false, false, false⟩

/-- The same for a plain 64-bit word. -/
def State.triggerWord (s : State) (c : Nat) (tr : Trig) (t : W64) : State := s.trigger c tr (TWord.plain t) noFlags

/-- The M3 instruction `o` of `len` bytes as what stands at core `c`'s pc. -/
def State.m3Row (s : State) (c : Nat) (o : M3Op) (len : Nat) (ps : List PortAnswer) (rep : BoardReply) : State :=
  if !s.mayIssue c true then s
  else
    let look := fun (s : State) c => (s, s.m3Stand c (some o) (s.m3Exec c o len ps rep))
    let out := s.m3Exec c o len ps rep
    if s.pairHolds c (s.m3Stand c (some o) out) then
      if !out.isRaised && s.entryDue c then s else s.sealRow c look true
    else match out with
    | .raised t _ => t
    | r => if s.entryDue c then s else r.state

/-- Opcode `op`, if it is unsupported (R215). -/
def State.m3Unsupported (s : State) (c : Nat) (op : Byte) : State :=
  if m3Decode op.toNat [] = .unsupported then s.m3Row c .unsupported 1 [] noReply else s

end Sys2Proof.Machine
end

