-- ==== Sys2Proof/Machine/Settle.lean ====
section
/-! DEFINITION. What a command brings about of itself before the next one: journals, recovery, reactions, sealing,
the Blaze, the shutdown and the Seedbank keeper. -/

namespace Sys2Proof.Machine

/-- What the Glades wait for and may now have: kept QPU operations take effect (R176, R281), loads that were cut off end
(R428, R439), reads go to root-port windows (R175), and COMMITs reach their TXU (R317). -/
def State.pollGlades (s : State) : State :=
  s.glades.foldl (fun s p =>
    (((s.pendSteps p.1 p.2.qpuPend.length).endDead p.1).askPcie p.1).receiveCommit p.1) s

/-- The PASSes of every Grove that may retire do so (R320). -/
def State.pollPasses (s : State) : State := (List.range 16).foldl (fun s g => s.settlePasses g) s

/-- Commits that waited for a journal to open go on (R328, R336). -/
def State.pollCommits (s : State) : State :=
  (List.range 16).foldl (fun s g => if (s.txu g).decided.isEmpty then s else s.advance g) s

/-- What follows every command that can set the journals, the safety logic, the Rootlink engines or the keeper going:
each does what its rules now allow. -/
def State.settled (s : State) : State :=
  ((((((((s.pollGlades.pollQm.pollRecovery.pollJw.pollCommits.pollPasses.finishRecovery).react).sealItems).releaseRootlink).pollBlaze).pollShutdown).pump).react).pollIdle.sendNvme.pollFlash.pollSvc.sendOffer.sendTrains.endCommand

end Sys2Proof.Machine
end

