-- ==== Sys2Proof/Machine/RowOps.lean ====
section
/-! DEFINITION. Operations that only the commands' meanings use: which command a row's operands make of a shared
operation, and the checks of the requester that a row names. -/

namespace Sys2Proof.Machine

/-- Field `[lo + w - 1 : lo]` of a command word set to the operation that a row stands for. -/
def withOp (w lo op : Nat) (v : W64) : W64 := setField v (lo + w - 1) lo op

/-- QM_BAD_OP: `v`, if its OP is undefined (R274). -/
def State.qmBadCommand (s : State) (v : W64) : State :=
  if 1 ≤ field v 3 0 ∧ field v 3 0 ≤ 6 then s else s.qmCommand v


/-- JW_BAD_OP: an undefined OP completes with CODE 2 (R348). -/
def State.jwBadCommand (s : State) (op j : Nat) : State :=
  if 1 ≤ op ∧ op ≤ 5 then s else s.jwIfIdle op j (fun s => s.jwAtOnce op j 2)

/-- SB_BAD_RECORD: RECORD 3 completes with CODE 2. -/
def State.sbBadCommand (s : State) (v : W64) : State := s.sbUpdate 3 v

/-- TXU_APPLY of Glade `i`'s transaction, if it is its turn (R312); `ps`: what the dual-port rule answers to the words
it writes, in order. -/
def State.applyNow (s : State) (i : Nat) (refused : Bool) (ps : List PortAnswer) : State :=
  if s.canApply i then (s.onPorts ps (fun s => (s.applyTxn i refused, ()))).1 else s

/-- MARKER_WRITE_START in Grove `g`, if its marker is the port's next write (R368, R369). -/
def State.markerNow (s : State) (g : Nat) : State := if s.markerTurn g then s.startMarker g else s

/-- MARKER_SLOT_RETIRE: the slot of `line` is free again (R367); when it was written stays known (R368). -/
def State.slotRetire (s : State) (line : Nat) : State :=
  if s.slotRetires line then
    s.setSlot line { s.slot line with inFlight := false, complete := false, needs := [] }
  else s

/-- FLIPPED_BIT (R487). -/
def State.flipBit (s : State) : Flip → State
  | .sram a p k => s.flipSram (a.toNat / 8 * 8) p.val k
  | .dram a p k => s.flipDram (a.toNat / 64 * 64) p.val k
  | .glade c n p k => s.flipGlade c.val n.val p.val k

/-- The requester that number `w` of a Tally row names: a Glade, the Heartwood at 256, the host at 257. -/
def tallyRequester (w : Nat) : Requester := if w < 256 then .glade w else if w = 256 then .heartwood else .host

/-- A write of `v` at `a` by `r`: refused and logged (R27, R28), or carried out by `f`. -/
def State.checkedWrite (s : State) (r : Requester) (a : Nat) (v : W64) (f : State → State) : State :=
  match s.accessCheck r true a 8 v with
  | some d => s.recordRefusal r a d
  | none => f s

/-- A read of the register at `a` by `r`: refused and logged (R27, R28), the refusal among the outputs, or carried out by
`f`. -/
def State.checkedRead (s : State) (r : Requester) (a : Nat) (f : State → State) : State :=
  match s.accessCheck r false a 8 0#64 with
  | some d => let s := s.recordRefusal r a d; { s with out := .refused d :: s.out }
  | none => f s

/-- TLY_SUB by core `c` (R380, R384). -/
def State.subBy (s : State) (c k n : Nat) : State :=
  s.checkedWrite (coreRequester c) (Reg.TLY_SUB k) (w64 n) (fun s => s.tallySub k n)

/-- TLY_RAISE by `who` (R384). -/
def State.raiseBy (s : State) (who : Nat) (v : W64) : State :=
  s.checkedWrite (tallyRequester who) Reg.TLY_RAISE v (fun s => s.tallyRaise v)

/-- TLY_ROUTE_WRITE by `who` (R383). -/
def State.routeBy (s : State) (who k : Nat) (v : W64) : State :=
  s.checkedWrite (tallyRequester who) (Reg.TLY_ROUTE k) v (fun s => s.routeWrite k v)

/-- MODE_REQ_ILLEGAL: a request for a mode that R394 does not allow from the present one. -/
def State.requestIllegal (s : State) (m : Nat) : State := if s.requestAllowed m then s else s.requestMode m

/-- WAKE_EVENT (R403). -/
def State.wakeEvent (s : State) : WakeSource → State
  | .gpio n => s.gpioWake n.val
  | .lane n => s.laneWake n.val

/-- What a PCIe completion answers: its data, or how the read failed (R439). -/
def completionResult : Completion → Except PcieMiss W64
  | .data v => .ok v
  | .unsupported => .error .unsupported
  | .abort => .error .abort
  | .poisoned => .error .poisoned

/-- UART_RX_READ: the word that the read returns, and the FIFO after it (R450). -/
def State.uartTake (s : State) : State := { s.uartRead with out := .reg s.uart.rxWord :: s.out }

/-! ### JTAG instructions (R452) -/

/-- IDCODE: 32 bits shifted out. -/
def State.jtagIdcode (s : State) : State :=
  let s := s.jtagSelect 0x01 0
  { s with out := .jtag 0x125605AF :: s.out }

/-- Levels as a number, the first as bit 0. -/
def pinBits (pins : List Bool) : Nat := pins.foldr (fun b n => b2n b + 2 * n) 0

/-- SAMPLE/PRELOAD: the levels at the pins, or those to be driven, held in the boundary register. -/
def State.jtagSample (s : State) (pins : List Bool) : State :=
  let s := s.jtagSelect 0x02 0
  { s with jtag := { s.jtag with boundary := pins }, out := .jtag (pinBits s.jtag.boundary) :: s.out }

/-- EXTEST: the pins driven from the boundary register with `pins` shifted in; BYPASS outside R452's conditions. -/
def State.jtagExtest (s : State) (pins : List Bool) : State :=
  if s.pinTest then
    let s := s.jtagSelect 0x03 1
    { s with jtag := { s.jtag with boundary := pins } }
  else s.jtagPinTest 0x03 1

/-- A store trigger given alone, `form.ports` being what the dual-port rule answers to its merge (R172, R309). -/
def State.storeRow (s : State) (c : Nat) (o : LsuOp) (form : StoreForm) (t : W64) : State :=
  (s.onPorts form.ports (fun s => (s.triggerWord c (.lsu o form.form) t, ()))).1

end Sys2Proof.Machine
end

