-- ==== Sys2Proof/Machine/RowsAlu.lean ====
section
/-! DEFINITION. Commands of the units ALU, MUL and DIV (Ch. 05). -/

namespace Sys2Proof.Machine

/-- ALU_ADD (R130): Q := A + t with carry out. -/
def execAluAdd (c : Fin 257) (u : Fin 2) (t : W64) (s : State) : Host.Outcome State Fault Refusal :=
  .next ((s.triggerWord c.val (.alu u.val .add) t).react)

/-- ALU_SUB (R130): Q := A - t with borrow in C. -/
def execAluSub (c : Fin 257) (u : Fin 2) (t : W64) (s : State) : Host.Outcome State Fault Refusal :=
  .next ((s.triggerWord c.val (.alu u.val .sub) t).react)

/-- ALU_ADDC (R130): Q := A + t + C with carry out. -/
def execAluAddc (c : Fin 257) (u : Fin 2) (t : W64) (s : State) : Host.Outcome State Fault Refusal :=
  .next ((s.triggerWord c.val (.alu u.val .addc) t).react)

/-- ALU_SUBC (R130): Q := A - t - C with borrow in C. -/
def execAluSubc (c : Fin 257) (u : Fin 2) (t : W64) (s : State) : Host.Outcome State Fault Refusal :=
  .next ((s.triggerWord c.val (.alu u.val .subc) t).react)

/-- ALU_NEG (R130): Q := 0 - t. -/
def execAluNeg (c : Fin 257) (u : Fin 2) (t : W64) (s : State) : Host.Outcome State Fault Refusal :=
  .next ((s.triggerWord c.val (.alu u.val .neg) t).react)

/-- ALU_PASS (R130): Q := t. -/
def execAluPass (c : Fin 257) (u : Fin 2) (t : W64) (s : State) : Host.Outcome State Fault Refusal :=
  .next ((s.triggerWord c.val (.alu u.val .pass) t).react)

/-- ALU_AND (R130): Q := A AND t. -/
def execAluAnd (c : Fin 257) (u : Fin 2) (t : W64) (s : State) : Host.Outcome State Fault Refusal :=
  .next ((s.triggerWord c.val (.alu u.val .and) t).react)

/-- ALU_OR (R130): Q := A OR t. -/
def execAluOr (c : Fin 257) (u : Fin 2) (t : W64) (s : State) : Host.Outcome State Fault Refusal :=
  .next ((s.triggerWord c.val (.alu u.val .or) t).react)

/-- ALU_XOR (R130): Q := A XOR t. -/
def execAluXor (c : Fin 257) (u : Fin 2) (t : W64) (s : State) : Host.Outcome State Fault Refusal :=
  .next ((s.triggerWord c.val (.alu u.val .xor) t).react)

/-- ALU_ANDN (R130): Q := A AND NOT t. -/
def execAluAndn (c : Fin 257) (u : Fin 2) (t : W64) (s : State) : Host.Outcome State Fault Refusal :=
  .next ((s.triggerWord c.val (.alu u.val .andn) t).react)

/-- ALU_EQ (R130): Q := 1 if A equals t. -/
def execAluEq (c : Fin 257) (u : Fin 2) (t : W64) (s : State) : Host.Outcome State Fault Refusal :=
  .next ((s.triggerWord c.val (.alu u.val .eq) t).react)

/-- ALU_NE (R130): Q := 1 if A differs from t. -/
def execAluNe (c : Fin 257) (u : Fin 2) (t : W64) (s : State) : Host.Outcome State Fault Refusal :=
  .next ((s.triggerWord c.val (.alu u.val .ne) t).react)

/-- ALU_LTS (R130): Q := 1 if A < t signed. -/
def execAluLts (c : Fin 257) (u : Fin 2) (t : W64) (s : State) : Host.Outcome State Fault Refusal :=
  .next ((s.triggerWord c.val (.alu u.val .lts) t).react)

/-- ALU_LTU (R130): Q := 1 if A < t unsigned. -/
def execAluLtu (c : Fin 257) (u : Fin 2) (t : W64) (s : State) : Host.Outcome State Fault Refusal :=
  .next ((s.triggerWord c.val (.alu u.val .ltu) t).react)

/-- ALU_LES (R130): Q := 1 if A <= t signed. -/
def execAluLes (c : Fin 257) (u : Fin 2) (t : W64) (s : State) : Host.Outcome State Fault Refusal :=
  .next ((s.triggerWord c.val (.alu u.val .les) t).react)

/-- ALU_LEU (R130): Q := 1 if A <= t unsigned. -/
def execAluLeu (c : Fin 257) (u : Fin 2) (t : W64) (s : State) : Host.Outcome State Fault Refusal :=
  .next ((s.triggerWord c.val (.alu u.val .leu) t).react)

/-- ALU_MINS (R130): Q := signed lesser of A and t. -/
def execAluMins (c : Fin 257) (u : Fin 2) (t : W64) (s : State) : Host.Outcome State Fault Refusal :=
  .next ((s.triggerWord c.val (.alu u.val .mins) t).react)

/-- ALU_MINU (R130): Q := unsigned lesser of A and t. -/
def execAluMinu (c : Fin 257) (u : Fin 2) (t : W64) (s : State) : Host.Outcome State Fault Refusal :=
  .next ((s.triggerWord c.val (.alu u.val .minu) t).react)

/-- ALU_MAXS (R130): Q := signed greater of A and t. -/
def execAluMaxs (c : Fin 257) (u : Fin 2) (t : W64) (s : State) : Host.Outcome State Fault Refusal :=
  .next ((s.triggerWord c.val (.alu u.val .maxs) t).react)

/-- ALU_MAXU (R130): Q := unsigned greater of A and t. -/
def execAluMaxu (c : Fin 257) (u : Fin 2) (t : W64) (s : State) : Host.Outcome State Fault Refusal :=
  .next ((s.triggerWord c.val (.alu u.val .maxu) t).react)

/-- ALU_SEL (R130): Q := A if t is non-zero, else B. -/
def execAluSel (c : Fin 257) (u : Fin 2) (t : W64) (s : State) : Host.Outcome State Fault Refusal :=
  .next ((s.triggerWord c.val (.alu u.val .sel) t).react)

/-- ALU_ABS (R130): Q := absolute value of t. -/
def execAluAbs (c : Fin 257) (u : Fin 2) (t : W64) (s : State) : Host.Outcome State Fault Refusal :=
  .next ((s.triggerWord c.val (.alu u.val .abs) t).react)

/-- MUL_MULU (R133): Unsigned 128-bit product of A and t into Q and H. -/
def execMulMulu (c : Fin 257) (t : W64) (s : State) : Host.Outcome State Fault Refusal :=
  .next ((s.triggerWord c.val (.mul .mulu) t).react)

/-- MUL_MULS (R133): Signed 128-bit product of A and t into Q and H. -/
def execMulMuls (c : Fin 257) (t : W64) (s : State) : Host.Outcome State Fault Refusal :=
  .next ((s.triggerWord c.val (.mul .muls) t).react)

/-- MUL_MULSU (R133): Signed-by-unsigned 128-bit product into Q and H. -/
def execMulMulsu (c : Fin 257) (t : W64) (s : State) : Host.Outcome State Fault Refusal :=
  .next ((s.triggerWord c.val (.mul .mulsu) t).react)

/-- DIV_DIVU (R134): Starts an unsigned division long operation into G[RD]. -/
def execDivDivu (c : Fin 257) (t : W64) (s : State) : Host.Outcome State Fault Refusal :=
  .next ((s.triggerWord c.val (.div .divu) t).react)

/-- DIV_DIVS (R134): Starts a signed division long operation into G[RD]. -/
def execDivDivs (c : Fin 257) (t : W64) (s : State) : Host.Outcome State Fault Refusal :=
  .next ((s.triggerWord c.val (.div .divs) t).react)

/-- DIV_REMU (R134): Starts an unsigned remainder long operation into G[RD]. -/
def execDivRemu (c : Fin 257) (t : W64) (s : State) : Host.Outcome State Fault Refusal :=
  .next ((s.triggerWord c.val (.div .remu) t).react)

/-- DIV_REMS (R134): Starts a signed remainder long operation into G[RD]. -/
def execDivRems (c : Fin 257) (t : W64) (s : State) : Host.Outcome State Fault Refusal :=
  .next ((s.triggerWord c.val (.div .rems) t).react)

/-- DIV_RETIRE (R136): A DIV operation retires, writing its result to G[RD] and clearing its scoreboard bit. -/
def execDivRetire (c : Fin 257) (s : State) : Host.Outcome State Fault Refusal :=
  .next (s.updAsync c.val Glade.retireDiv)

end Sys2Proof.Machine
end

