-- ==== Sys2Proof/Machine/RowsBoot.lean ====
section
/-! DEFINITION. Commands of power-on, boot, negotiation, keys and REGROW (Chs. 02, 03). -/

namespace Sys2Proof.Machine

/-- PORST_N_RELEASE (R77): Release of PORST_N latches the straps and runs the Heartwood ROM sequence through boot
and into RUN. -/
def execPorstNRelease (world : BootWorld) (s : State) : Host.Outcome State Fault Refusal :=
  .next ((s.porstRelease world).settled)

/-- PUSH_GO (R86): Host write of GO to HW_PUSH starts checking of the pushed images, then application or a return to
STAGE 0x3. -/
def execPushGo (v : PushWrite) (s : State) : Host.Outcome State Fault Refusal :=
  .next ((s.pushGo v.value v.fails).settled)

/-- BAR0_STAGING_WRITE (R85): A host write to BAR0 places image bytes in the staging area, or is discarded as an
Unsupported Request. -/
def execBar0StagingWrite (off : BitVec 25) (data : List Byte) (s : State) : Host.Outcome State Fault Refusal :=
  .next ((s.bar0Write off.toNat data).settled)

/-- BOOT_LINK_ALTERNATE (R87): Expiry of the boot link training interval makes the ROM switch between width 4 on
lanes 88-91 and width 1 on lane 88. -/
def execBootLinkAlternate (s : State) : Host.Outcome State Fault Refusal :=
  .next (s.bootLinkAlternate.settled)

/-- HOLDUP_N_RISE_IN_STRUCTURE (R89): HOLDUP_N rising again during STRUCTURE without a PORST_N cycle restarts the
ROM at step 2. -/
def execHoldupNRiseInStructure (world : BootWorld) (s : State) : Host.Outcome State Fault Refusal :=
  .next ((s.holdupRise world).settled)

/-- NEG_LOCK_WRITE (R90): Writing 1 to LOCK in NEG_LOCK freezes the accepted feature bits until PORST_N. -/
def execNegLockWrite (byHost : Bool) (s : State) : Host.Outcome State Fault Refusal :=
  .next ((s.negLockWrite byHost).settled)

/-- NEG_LOCK_TIMEOUT (R91): With the endpoint enabled and no lock within 10 s of RUN, the firmware locks NEG_ACCEPT
as it stands. -/
def execNegLockTimeout (s : State) : Host.Outcome State Fault Refusal :=
  .next (s.negTimeout.settled)

/-- GLADE_START (R95): The Heartwood starts a Glade at IMEM 0 in the thread bank with EVEC invalid and a clear
scoreboard. -/
def execGladeStart (c : Fin 256) (s : State) : Host.Outcome State Fault Refusal :=
  .next ((s.gladeStart c.val).settled)

/-- KEYPROG_WORD (R65): A SM_KEYPROG command from JTAG in SERVICE programs one digest word of a key slot once. -/
def execKeyprogWord (slot : Fin 4) (word : Fin 4) (s : State) : Host.Outcome State Fault Refusal :=
  .next ((s.keyprogWord slot.val word.val).settled)

/-- KEYPROG_REVOKE (R65): A SM_KEYPROG command with REVOKE set sets the revoke bit of a key slot. -/
def execKeyprogRevoke (slot : Fin 4) (s : State) : Host.Outcome State Fault Refusal :=
  .next ((s.keyprogRevoke slot.val).settled)

/-- REGROW_START (R72): START in SM_REGROW checks a Grove-scope fragment and begins quiescing the Grove's TXU. -/
def execRegrowStart (g : Fin 16) (off : BitVec 32) (s : State) : Host.Outcome State Fault Refusal :=
  .next ((s.regrowStart g.val off.toNat).settled)

/-- REGROW_QUIESCE_TIMEOUT (R72): Quiescing not finished within 10 ms abandons the REGROW and the Grove resumes
unchanged. -/
def execRegrowQuiesceTimeout (s : State) : Host.Outcome State Fault Refusal :=
  .next (s.regrowTimeout.settled)

/-- REGROW_APPLY (R72): Once quiesced, the Grove stops, is cleared, takes the fragment, and the fence is lifted with
queues set empty. -/
def execRegrowApply (s : State) : Host.Outcome State Fault Refusal :=
  .next (s.regrowFinish.settled)

/-- PORST_N_ASSERT (R520): PORST_N held low for at least 2 µs resets the device, after any Seedbank line write in
progress completes, and puts every output in its reset state. -/
def execPorstNAssert (s : State) : Host.Outcome State Fault Refusal :=
  .next (s.porstAssert)

/-- LOSS_OF_SUPPLY (R393): Collapse of the supplies puts the device in OFF from any mode. -/
def execLossOfSupply (s : State) : Host.Outcome State Fault Refusal :=
  .next (s.lossOfSupply)

end Sys2Proof.Machine
end

