-- ==== Sys2Proof/Machine/RowsBranch.lean ====
section
/-! DEFINITION. Commands of the BRU (Ch. 07). -/

namespace Sys2Proof.Machine

/-- BRU_EQ (R181): Branch to t after two delay slots if A = B. -/
def execBruEq (c : Fin 257) (flags : BranchFlags) (t : W64) (s : State) : Host.Outcome State Fault Refusal :=
  .next ((s.trigger c.val (.bru .eq) (TWord.plain t) flags).react)

/-- BRU_NE (R181): Branch to t after two delay slots if A differs from B. -/
def execBruNe (c : Fin 257) (flags : BranchFlags) (t : W64) (s : State) : Host.Outcome State Fault Refusal :=
  .next ((s.trigger c.val (.bru .ne) (TWord.plain t) flags).react)

/-- BRU_LTS (R181): Branch if A < B signed. -/
def execBruLts (c : Fin 257) (flags : BranchFlags) (t : W64) (s : State) : Host.Outcome State Fault Refusal :=
  .next ((s.trigger c.val (.bru .lts) (TWord.plain t) flags).react)

/-- BRU_GES (R181): Branch if A >= B signed. -/
def execBruGes (c : Fin 257) (flags : BranchFlags) (t : W64) (s : State) : Host.Outcome State Fault Refusal :=
  .next ((s.trigger c.val (.bru .ges) (TWord.plain t) flags).react)

/-- BRU_LTU (R181): Branch if A < B unsigned. -/
def execBruLtu (c : Fin 257) (flags : BranchFlags) (t : W64) (s : State) : Host.Outcome State Fault Refusal :=
  .next ((s.trigger c.val (.bru .ltu) (TWord.plain t) flags).react)

/-- BRU_GEU (R181): Branch if A >= B unsigned. -/
def execBruGeu (c : Fin 257) (flags : BranchFlags) (t : W64) (s : State) : Host.Outcome State Fault Refusal :=
  .next ((s.trigger c.val (.bru .geu) (TWord.plain t) flags).react)

/-- BRU_JMP (R181): Always branch to t. -/
def execBruJmp (c : Fin 257) (direct : Bool) (t : W64) (s : State) : Host.Outcome State Fault Refusal :=
  .next ((s.trigger c.val (.bru .jmp) (TWord.plain t) ⟨direct, false, false⟩).react)

/-- BRU_CALL (R186): Always branch, writing the return address to BRU.Q and the return stack. -/
def execBruCall (c : Fin 257) (direct : Bool) (t : W64) (s : State) : Host.Outcome State Fault Refusal :=
  .next ((s.trigger c.val (.bru .call) (TWord.plain t) ⟨direct, false, false⟩).react)

/-- BRU_RET (R188): Always branch to t, predicted from the return stack. -/
def execBruRet (c : Fin 257) (direct : Bool) (t : W64) (s : State) : Host.Outcome State Fault Refusal :=
  .next ((s.trigger c.val (.bru .ret) (TWord.plain t) ⟨direct, false, false⟩).react)

end Sys2Proof.Machine
end

