-- ==== Sys2Proof/Machine/RowsByteCode.lean ====
section
/-! DEFINITION. ENTER and the M3 instructions (Ch. 08). -/

namespace Sys2Proof.Machine

/-- STK_ENTER (R209): Checks the stack frame and starts M3 byte code at t. -/
def execStkEnter (c : Fin 257) (t : W64) (s : State) : Host.Outcome State Fault Refusal :=
  .next ((s.triggerWord c.val .stkEnter t).react)

/-- M3_NOP (R214): M3 NOP does nothing. -/
def execM3Nop (c : Fin 256) (s : State) : Host.Outcome State Fault Refusal :=
  .next ((s.m3Row c.val .nop 1 [] noReply).settled)

/-- M3_DROP (R214): M3 DROP pops the top entry. -/
def execM3Drop (c : Fin 256) (s : State) : Host.Outcome State Fault Refusal :=
  .next ((s.m3Row c.val .drop 1 [] noReply).settled)

/-- M3_DUP (R214): M3 DUP pushes the top entry again. -/
def execM3Dup (c : Fin 256) (s : State) : Host.Outcome State Fault Refusal :=
  .next ((s.m3Row c.val .dup 1 [] noReply).settled)

/-- M3_SWAP (R214): M3 SWAP exchanges the two top entries. -/
def execM3Swap (c : Fin 256) (s : State) : Host.Outcome State Fault Refusal :=
  .next ((s.m3Row c.val .swap 1 [] noReply).settled)

/-- M3_OVER (R214): M3 OVER pushes the entry below the top. -/
def execM3Over (c : Fin 256) (s : State) : Host.Outcome State Fault Refusal :=
  .next ((s.m3Row c.val .over 1 [] noReply).settled)

/-- M3_LIT8 (R214): M3 LIT8 pushes a sign-extended 1-byte immediate. -/
def execM3Lit8 (c : Fin 256) (imm : BitVec 8) (s : State) : Host.Outcome State Fault Refusal :=
  .next ((s.m3Row c.val (.lit (imm.signExtend 32)) 2 [] noReply).settled)

/-- M3_LIT16 (R214): M3 LIT16 pushes a sign-extended 2-byte immediate. -/
def execM3Lit16 (c : Fin 256) (imm : BitVec 16) (s : State) : Host.Outcome State Fault Refusal :=
  .next ((s.m3Row c.val (.lit (imm.signExtend 32)) 3 [] noReply).settled)

/-- M3_LIT32 (R214): M3 LIT32 pushes a 4-byte immediate. -/
def execM3Lit32 (c : Fin 256) (imm : BitVec 32) (s : State) : Host.Outcome State Fault Refusal :=
  .next ((s.m3Row c.val (.lit imm) 5 [] noReply).settled)

/-- M3_ADD (R214): M3 ADD replaces a and b with a + b mod 2^32. -/
def execM3Add (c : Fin 256) (s : State) : Host.Outcome State Fault Refusal :=
  .next ((s.m3Row c.val (.bin .add) 1 [] noReply).settled)

/-- M3_SUB (R214): M3 SUB replaces a and b with a - b. -/
def execM3Sub (c : Fin 256) (s : State) : Host.Outcome State Fault Refusal :=
  .next ((s.m3Row c.val (.bin .sub) 1 [] noReply).settled)

/-- M3_AND (R214): M3 AND replaces a and b with a AND b. -/
def execM3And (c : Fin 256) (s : State) : Host.Outcome State Fault Refusal :=
  .next ((s.m3Row c.val (.bin .and) 1 [] noReply).settled)

/-- M3_OR (R214): M3 OR replaces a and b with a OR b. -/
def execM3Or (c : Fin 256) (s : State) : Host.Outcome State Fault Refusal :=
  .next ((s.m3Row c.val (.bin .or) 1 [] noReply).settled)

/-- M3_XOR (R214): M3 XOR replaces a and b with a XOR b. -/
def execM3Xor (c : Fin 256) (s : State) : Host.Outcome State Fault Refusal :=
  .next ((s.m3Row c.val (.bin .xor) 1 [] noReply).settled)

/-- M3_NEG (R214): M3 NEG replaces b with 0 - b. -/
def execM3Neg (c : Fin 256) (s : State) : Host.Outcome State Fault Refusal :=
  .next ((s.m3Row c.val .neg 1 [] noReply).settled)

/-- M3_MUL (R214): M3 MUL pushes the low 32 bits of a × b. -/
def execM3Mul (c : Fin 256) (s : State) : Host.Outcome State Fault Refusal :=
  .next ((s.m3Row c.val (.bin .mul) 1 [] noReply).settled)

/-- M3_DIV (R216): M3 DIV pushes the signed quotient without trapping on zero. -/
def execM3Div (c : Fin 256) (s : State) : Host.Outcome State Fault Refusal :=
  .next ((s.m3Row c.val (.bin .div) 1 [] noReply).settled)

/-- M3_REM (R216): M3 REM pushes the signed remainder without trapping on zero. -/
def execM3Rem (c : Fin 256) (s : State) : Host.Outcome State Fault Refusal :=
  .next ((s.m3Row c.val (.bin .rem) 1 [] noReply).settled)

/-- M3_SHL (R214): M3 SHL shifts a left by b AND 31. -/
def execM3Shl (c : Fin 256) (s : State) : Host.Outcome State Fault Refusal :=
  .next ((s.m3Row c.val (.bin .shl) 1 [] noReply).settled)

/-- M3_SHR (R214): M3 SHR shifts a right logically by b AND 31. -/
def execM3Shr (c : Fin 256) (s : State) : Host.Outcome State Fault Refusal :=
  .next ((s.m3Row c.val (.bin .shr) 1 [] noReply).settled)

/-- M3_SAR (R214): M3 SAR shifts a right arithmetically by b AND 31. -/
def execM3Sar (c : Fin 256) (s : State) : Host.Outcome State Fault Refusal :=
  .next ((s.m3Row c.val (.bin .sar) 1 [] noReply).settled)

/-- M3_LD (R214): M3 LD pops x and pushes the 32-bit word at MB + x. -/
def execM3Ld (c : Fin 256) (first : PortAnswer) (second : PortAnswer) (reply : BoardReply)
    (s : State) : Host.Outcome State Fault Refusal :=
  .next ((s.m3Row c.val (.ld false) 1 [first, second] reply).settled)

/-- M3_LDB (R214): M3 LDB pops x and pushes the zero-extended byte at MB + x. -/
def execM3Ldb (c : Fin 256) (first : PortAnswer) (second : PortAnswer) (reply : BoardReply)
    (s : State) : Host.Outcome State Fault Refusal :=
  .next ((s.m3Row c.val (.ld true) 1 [first, second] reply).settled)

/-- M3_ST (R214): M3 ST pops x and v and stores v at MB + x. -/
def execM3St (c : StoreCore) (s : State) : Host.Outcome State Fault Refusal :=
  .next ((s.onPorts c.ports (fun s => (s.m3Row c.core.val (.st false) 1 [] noReply, ()))).1.settled)

/-- M3_STB (R214): M3 STB pops x and v and stores v's low byte. -/
def execM3Stb (c : StoreCore) (s : State) : Host.Outcome State Fault Refusal :=
  .next ((s.onPorts c.ports (fun s => (s.m3Row c.core.val (.st true) 1 [] noReply, ()))).1.settled)

/-- M3_JMP (R214): M3 JMP jumps by its relative offset. -/
def execM3Jmp (c : Fin 256) (off : BitVec 16) (s : State) : Host.Outcome State Fault Refusal :=
  .next ((s.m3Row c.val (.jmp off) 3 [] noReply).settled)

/-- M3_JZ (R214): M3 JZ pops b and jumps if it is zero. -/
def execM3Jz (c : Fin 256) (off : BitVec 16) (s : State) : Host.Outcome State Fault Refusal :=
  .next ((s.m3Row c.val (.jz off) 3 [] noReply).settled)

/-- M3_JNZ (R214): M3 JNZ pops b and jumps if it is non-zero. -/
def execM3Jnz (c : Fin 256) (off : BitVec 16) (s : State) : Host.Outcome State Fault Refusal :=
  .next ((s.m3Row c.val (.jnz off) 3 [] noReply).settled)

/-- M3_CALL (R214): M3 CALL pushes the return address and jumps. -/
def execM3Call (c : Fin 256) (off : BitVec 16) (s : State) : Host.Outcome State Fault Refusal :=
  .next ((s.m3Row c.val (.call off) 3 [] noReply).settled)

/-- M3_RET (R214): M3 RET pops an address and jumps to it. -/
def execM3Ret (c : Fin 256) (s : State) : Host.Outcome State Fault Refusal :=
  .next ((s.m3Row c.val .ret 1 [] noReply).settled)

/-- M3_NCALL (R214): M3 NCALL spills the cache, sets STK.Q and branches to native code. -/
def execM3Ncall (c : Fin 256) (target : BitVec 16) (s : State) : Host.Outcome State Fault Refusal :=
  .next ((s.m3Row c.val (.ncall target) 3 [] noReply).settled)

/-- M3_EXIT (R214): M3 EXIT spills the cache, sets STK.Q and continues native code at STK.NR. -/
def execM3Exit (c : Fin 256) (s : State) : Host.Outcome State Fault Refusal :=
  .next ((s.m3Row c.val .exit 1 [] noReply).settled)

/-- M3_UNSUPPORTED (R215): IN, OUT, EI, DI and unlisted opcodes raise STACK UNSUPPORTED. -/
def execM3Unsupported (c : Fin 256) (opcode : Byte) (s : State) : Host.Outcome State Fault Refusal :=
  .next ((s.m3Unsupported c.val opcode).settled)

end Sys2Proof.Machine
end

