-- ==== Sys2Proof/Machine/RowsCare.lean ====
section
/-! DEFINITION. Scrubbing, patrol, retirement, injection, error records and flipped bits (Chs. 10, 20). -/

namespace Sys2Proof.Machine

/-- SCRUB_WORD (R251): At its paced interval the scrubber reads the next word and corrects, reclassifies or poisons
it. -/
def execScrubWord (g : Fin 17) (skip : Bool) (s : State) : Host.Outcome State Fault Refusal :=
  .next ((s.scrubWord g.val skip).settled)

/-- PATROL_BURST (R264): At PATROL_RATE the DDR patrol reads and handles the next burst. -/
def execPatrolBurst (n : Fin 4) (s : State) : Host.Outcome State Fault Refusal :=
  .next ((s.patrolBurst n.val).settled)

/-- ZERO_FILL (R263): A trained channel's zero-fill engine advances its watermark until DONE. -/
def execZeroFill (n : Fin 4) (bursts : Nat) (s : State) : Host.Outcome State Fault Refusal :=
  .next ((s.zeroFill n.val bursts).settled)

/-- RETIRE_WRITE (R255): A write to GRV_RETIREn retires or releases a page after all Canopy copies update. -/
def execRetireWrite (g : Fin 16) (n : Fin 64) (v : W64) (s : State) : Host.Outcome State Fault Refusal :=
  .next (((s.groveWakes g.val).retireWrite g.val n.val v).settled)

/-- INJECT_WRITE (R256): A write to GRV_INJECT arms a fault injection or is ignored as a whole. -/
def execInjectWrite (g : Fin 16) (v : W64) (s : State) : Host.Outcome State Fault Refusal :=
  .next (((s.groveWakes g.val).injectWrite g.val v).settled)

/-- ERR_RECORD_FREE (R253): Writing 1 to VALID of an error record frees it. -/
def execErrRecordFree (k : Fin 21) (n : Fin 8) (s : State) : Host.Outcome State Fault Refusal :=
  .next (((if k.val < 16 then s.groveWakes k.val else s).errRecordFree (recSet k.val) n.val).settled)

/-- FLIPPED_BIT (R487): An upset or stuck bit arises of itself in an SRAM word, a DRAM burst or a Glade's logic. -/
def execFlippedBit (f : Flip) (s : State) : Host.Outcome State Fault Refusal :=
  .next ((s.flipBit f).settled)

end Sys2Proof.Machine
end

