-- ==== Sys2Proof/Machine/RowsClocks.lean ====
section
/-! DEFINITION. Clock monitors, islands, side resets and time steps (Ch. 17). -/

namespace Sys2Proof.Machine

/-- CLOCK_MONITOR_WINDOW (R426): At the end of each 4 µs window a monitor compares the island clock count, two
misses making a fault. -/
def execClockMonitorWindow (n : Fin 30) (first : ClockWindow) (second : ClockWindow) (reference : Bool)
    (s : State) : Host.Outcome State Fault Refusal :=
  .next ((s.monitorWindow n.val first second reference).settled)

/-- ISLAND_RELOCK (R427): The faulted island relocks and restarts once, or is marked lasting. -/
def execIslandRelock (n : Fin 31) (clean : Bool) (s : State) : Host.Outcome State Fault Refusal :=
  .next ((s.relock n.val clean).settled)

/-- SIDE_RESET_RELEASE (R429): Release of a reset side resynchronises the crossing and increments RESETS. -/
def execSideResetRelease (n : Fin 31) (s : State) : Host.Outcome State Fault Refusal :=
  .next ((s.sideRelease n.val).settled)

/-- TIME_STEP_WRITE (R425): A write of UST_TIME_STEP adds a signed amount to the time base count. -/
def execTimeStepWrite (v : W64) (s : State) : Host.Outcome State Fault Refusal :=
  .next ((s.checkedWrite .heartwood Reg.UST_TIME_STEP v (fun s => s.timeStep v)).settled)

end Sys2Proof.Machine
end

