-- ==== Sys2Proof/Machine/RowsControl.lean ====
section
/-! DEFINITION. Register accesses of the Heartwood that no other row names (Ch. 00, 21). -/

namespace Sys2Proof.Machine

/-- REGISTER_WRITE (R10): A write to a control register without behaviour of its own acts by its access codes. -/
def execRegisterWrite (a : BitVec 48) (v : W64) (s : State) : Host.Outcome State Fault Refusal :=
  .next ((s.registerWrite a.toNat v).settled)

/-- REGISTER_READ_CLEAR (R10): A read of a register with RC fields returns the fields and clears them in the same
access. -/
def execRegisterReadClear (a : BitVec 48) (s : State) : Host.Outcome State Fault Refusal :=
  .next ((s.registerRead a.toNat).settled)

end Sys2Proof.Machine
end

