-- ==== Sys2Proof/Machine/RowsIssue.lean ====
section
/-! DEFINITION. Commands that carry a core one position on, and the three entries (Chs. 04, 07). -/

namespace Sys2Proof.Machine

/-- BUNDLE_ISSUE (R108): A Glade issues a bundle in four phases: LIMM, source reads, destination writes, triggers.
-/
def execBundleIssue (c : Fin 257) (first : PortAnswer) (second : PortAnswer) (reply : BoardReply)
    (s : State) : Host.Outcome State Fault Refusal :=
  .next ((s.onPorts reply.ports (fun s => (s.bundleIssue c.val [first, second] reply, ()))).1.settled)

/-- EXCEPTION_ENTRY (R199): A precise exception enters the handler at EVEC, saving EPC, ECAUSE, EADDR, EBR and
repeat state. -/
def execExceptionEntry (c : Fin 257) (s : State) : Host.Outcome State Fault Refusal :=
  .next ((s.exceptionEntry c.val).settled)

/-- IMPRECISE_ENTRY (R123): A failed long operation is reported as IMPRECISE before the next bundle, zeroing its
named register. -/
def execImpreciseEntry (c : Fin 257) (s : State) : Host.Outcome State Fault Refusal :=
  .next ((s.impreciseEntry c.val).settled)

/-- EVENT_ENTRY (R198): A pending routed Tally source enters the handler at EVEC + 0x60 at a thread boundary. -/
def execEventEntry (c : Fin 257) (s : State) : Host.Outcome State Fault Refusal :=
  .next ((s.eventEntry c.val).settled)

end Sys2Proof.Machine
end

