-- ==== Sys2Proof/Machine/RowsJournals.lean ====
section
/-! DEFINITION. Commands of the journal writer, captures, NVMe answers and Seedbank updates (Chs. 13, 14). -/

namespace Sys2Proof.Machine

/-- JW_OPEN (R330): JW_CMD OPEN checks and scans a journal, runs recovery and resumes it. -/
def execJwOpen (j : Fin 4096) (readOk : List IoRetry) (timely : List IoRetry) (s : State) : Host.Outcome State Fault Refusal :=
  .next ((s.jwIfIdle 1 j.val (fun s => s.jwOpen j.val readOk timely)).settled)

/-- JW_SEAL (R338): JW_CMD SEAL writes a SYNC and a SEG_CLOSE with REASON 1. -/
def execJwSeal (j : Fin 4096) (s : State) : Host.Outcome State Fault Refusal :=
  .next ((s.jwIfIdle 2 j.val (fun s => s.jwSeal j.val)).settled)

/-- JW_FORMAT (R347): JW_CMD FORMAT writes zeroes over an unconfigured or failed journal's region. -/
def execJwFormat (j : Fin 4096) (s : State) : Host.Outcome State Fault Refusal :=
  .next ((s.jwIfIdle 3 j.val (fun s => s.jwFormat j.val)).settled)

/-- JW_PERSIST (R350): JW_CMD PERSIST starts or queues a capture of a ring into its target. -/
def execJwPersist (j : Fin 4096) (s : State) : Host.Outcome State Fault Refusal :=
  .next ((s.jwIfIdle 4 j.val (fun s => s.jwPersist j.val)).settled)

/-- JW_REOPEN (R348): JW_CMD REOPEN repeats the open of a journal in ERROR or SEALED. -/
def execJwReopen (j : Fin 4096) (readOk : List IoRetry) (timely : List IoRetry) (s : State) : Host.Outcome State Fault Refusal :=
  .next ((s.jwIfIdle 5 j.val (fun s => s.jwReopen j.val readOk timely)).settled)

/-- JW_BAD_OP (R348): A JW_CMD with an undefined OP completes with CODE 0x2. -/
def execJwBadOp (op : Fin 16) (j : Fin 4096) (s : State) : Host.Outcome State Fault Refusal :=
  .next ((s.jwBadCommand op.val j.val).settled)

/-- CAPTURE_TRIGGER (R350): An increment of the trigger source of a ring with TRIG_EN starts or queues a capture. -/
def execCaptureTrigger (j : Fin 4096) (s : State) : Host.Outcome State Fault Refusal :=
  .next ((s.captureTrigger j.val).settled)

/-- CAPTURE_END (R350): A capture finishes with CAPTURE_END and a Flush, raising CAPTURE_DONE. -/
def execCaptureEnd (j : Fin 4096) (s : State) : Host.Outcome State Fault Refusal :=
  .next ((s.finishCapture j.val).settled)

/-- JREL_WRITE (R329): A write to JW_JRELj raises RELEASED, ignored if below the present value. -/
def execJrelWrite (j : Fin 4096) (v : W64) (s : State) : Host.Outcome State Fault Refusal :=
  .next ((s.jrelWrite j.val v).settled)

/-- NVME_COMPLETION (R348): An NVMe command completes, succeeding, being reissued once, or failing the journal. -/
def execNvmeCompletion (ctrl : Fin 16) (status : Fin 3) (s : State) : Host.Outcome State Fault Refusal :=
  .next ((s.nvmeCompletion ctrl.val status.val).settled)

/-- NVME_TIMEOUT (R348): An NVMe command not complete within TIMEOUT is aborted and reissued or failed. -/
def execNvmeTimeout (ctrl : Fin 16) (s : State) : Host.Outcome State Fault Refusal :=
  .next ((s.nvmeTimeout ctrl.val).settled)

/-- NVME_CONTROLLER_FATAL (R348): Controller Fatal Status resets the controller and puts its journals in ERROR. -/
def execNvmeControllerFatal (ctrl : Fin 16) (s : State) : Host.Outcome State Fault Refusal :=
  .next ((s.nvmeFatal ctrl.val).settled)

/-- SB_UPDATE_DIRECTORY (R359): HW_SB_CMD writes a new copy of the directory record. -/
def execSbUpdateDirectory (v : W64) (s : State) : Host.Outcome State Fault Refusal :=
  .next ((s.sbUpdate 0 v).settled)

/-- SB_UPDATE_POINTERS (R363): HW_SB_CMD writes a new copy of the boot slot pointer record. -/
def execSbUpdatePointers (v : W64) (s : State) : Host.Outcome State Fault Refusal :=
  .next ((s.sbUpdate 1 v).settled)

/-- SB_UPDATE_LAST_FAULT (R364): HW_SB_CMD writes a new copy of the last-fault record. -/
def execSbUpdateLastFault (v : W64) (s : State) : Host.Outcome State Fault Refusal :=
  .next ((s.sbUpdate 2 v).settled)

/-- SB_BAD_RECORD (R359): HW_SB_CMD with RECORD 3 completes with CODE 0x2. -/
def execSbBadRecord (v : W64) (s : State) : Host.Outcome State Fault Refusal :=
  .next ((s.sbBadCommand v).settled)

end Sys2Proof.Machine
end

