-- ==== Sys2Proof/Machine/RowsLanes.lean ====
section
/-! DEFINITION. Lanes, PCIe ports, the endpoint and its BARs (Ch. 18). -/

namespace Sys2Proof.Machine

/-- PLL_LOCK (R433): An octet's PLLs lock and its lanes begin training. -/
def execPllLock (o : Fin 12) (s : State) : Host.Outcome State Fault Refusal :=
  .next ((s.pllLock o.val).settled)

/-- LANE_UP (R433): A lane completes training, enters UP and raises its link source. -/
def execLaneUp (n : Fin 96) (trained : Trained) (s : State) : Host.Outcome State Fault Refusal :=
  .next ((s.laneUp n.val trained).settled)

/-- LANE_LINK_LOSS (R433): A lane loses its link, enters DOWN and restarts training. -/
def execLaneLinkLoss (n : Fin 96) (s : State) : Host.Outcome State Fault Refusal :=
  .next ((s.laneLoss n.val).settled)

/-- PCIE_COMPLETION_TIMEOUT (R439): A root-port read without a completion in 50 ms ends with BUS_ERROR 0x04. -/
def execPcieCompletionTimeout (c : Fin 257) (s : State) : Host.Outcome State Fault Refusal :=
  .next ((s.pcieAnswer c.val (.error .timeout)).settled)

/-- PCIE_COMPLETION (R439): A completion for a root-port read delivers data or a bus error. -/
def execPcieCompletion (c : Fin 257) (completion : Completion) (s : State) : Host.Outcome State Fault Refusal :=
  .next ((s.pcieAnswer c.val (completionResult completion)).settled)

/-- PCIE_INBOUND_REQUEST (R439): An inbound request from a PCIe device is accepted into JW areas, taken as MSI-X, or
answered UR. -/
def execPcieInboundRequest (complex : Fin 2) (port : Fin 16) (request : InboundReq)
    (s : State) : Host.Outcome State Fault Refusal :=
  .next ((s.inbound complex.val port.val request).settled)

/-- HOST_BAR_ACCESS (R441): A host TLP to BAR2 or BAR4 is carried out as word accesses on behalf of the endpoint's
partition; one to BAR0 reaches the staging area, or is an Unsupported Request (R85). -/
def execHostBarAccess (bar : HostBar) (off : BitVec 48) (request : HostReq) (reply : BoardReply)
    (s : State) : Host.Outcome State Fault Refusal :=
  .next ((s.onPorts reply.ports (fun s => (s.hostAccess bar off.toNat request reply, ()))).1.settled)

/-- ENDPOINT_RESET (R443): Link loss, hot reset or FLR resets the endpoint island's configuration space. -/
def execEndpointReset (linkLoss : Bool) (s : State) : Host.Outcome State Fault Refusal :=
  .next ((s.endpointReset linkLoss).settled)

/-- MSIX_SEND (R442): A pending unmasked MSI-X vector sends its message. -/
def execMsixSend (n : Fin 32) (s : State) : Host.Outcome State Fault Refusal :=
  .next ((s.msixSend n.val).settled)

end Sys2Proof.Machine
end

