-- ==== Sys2Proof/Machine/RowsLinks.lean ====
section
/-! DEFINITION. Rootlink: training, flits, the plant's commands and Blazes (Ch. 19). -/

namespace Sys2Proof.Machine

/-- LINK_TRAIN_TIMEOUT (R456): A Rootlink training attempt not done in 10 ms is repeated at the other rate. -/
def execLinkTrainTimeout (l : Fin 24) (s : State) : Host.Outcome State Fault Refusal :=
  .next ((s.linkTrainTimeout l.val).settled)

/-- LINK_MISMATCH_RETRY (R456): A link in MISMATCH retries training every 100 ms. -/
def execLinkMismatchRetry (l : Fin 24) (s : State) : Host.Outcome State Fault Refusal :=
  .next ((s.linkMismatchRetry l.val).settled)

/-- TRAIN (R456): A received TRAIN flit drives block lock, deskew, comparison and latency measurement. -/
def execTrain (l : Fin 24) (t : TrainFlit) (s : State) : Host.Outcome State Fault Refusal :=
  .next ((s.train l.val t).settled)

/-- IDLE (R459): A received IDLE flit carries only ACK and LIMIT. -/
def execIdle (l : Fin 24) (f : Flit) (s : State) : Host.Outcome State Fault Refusal :=
  .next ((s.rtlIdle l.val f).settled)

/-- DATA (R467): A received DATA flit is delivered to the QM or forwarded by DST_DEVID. -/
def execData (l : Fin 24) (f : Flit) (s : State) : Host.Outcome State Fault Refusal :=
  .next ((s.rtlData l.val f).settled)

/-- BLAZE (R478): A received BLAZE flit with a new ID starts the device's cut. -/
def execBlaze (l : Fin 24) (f : Flit) (s : State) : Host.Outcome State Fault Refusal :=
  .next ((s.rtlBlaze l.val f).settled)

/-- TIME_SYNC (R475): A received SYNC records t2 and is answered at once with a REQ. -/
def execTimeSync (l : Fin 24) (f : Flit) (s : State) : Host.Outcome State Fault Refusal :=
  .next ((s.timeSync l.val f).settled)

/-- TIME_REQ (R475): A received REQ records t4 and is answered with a RESP. -/
def execTimeReq (l : Fin 24) (f : Flit) (s : State) : Host.Outcome State Fault Refusal :=
  .next ((s.timeReq l.val f).settled)

/-- TIME_RESP (R475): A received RESP writes t1 to t4 and increments SEQ. -/
def execTimeResp (l : Fin 24) (f : Flit) (s : State) : Host.Outcome State Fault Refusal :=
  .next ((s.timeResp l.val f).settled)

/-- NAK (R462): A received NAK makes the sender resend from the expected FSEQ. -/
def execNak (l : Fin 24) (f : Flit) (s : State) : Host.Outcome State Fault Refusal :=
  .next ((s.rtlNak l.val f).settled)

/-- NAK_REPEAT (R462): Every 2 µs until the expected flit arrives the receiver resends NAK. -/
def execNakRepeat (l : Fin 24) (s : State) : Host.Outcome State Fault Refusal :=
  .next ((s.nakRepeat l.val).settled)

/-- NAK_TIMEOUT (R462): A NAK unanswered in 10 µs is a lasting failure that takes the link down. -/
def execNakTimeout (l : Fin 24) (s : State) : Host.Outcome State Fault Refusal :=
  .next ((s.nakTimeout l.val).settled)

/-- JOIN (R472): A received JOIN has the arrival link added to PATH and is routed to the manager. -/
def execJoin (l : Fin 24) (f : Flit) (s : State) : Host.Outcome State Fault Refusal :=
  .next ((s.rtlJoin l.val f).settled)

/-- ASSIGN (R472): A received ASSIGN sets route entries along PATH and gives the target its ID. -/
def execAssign (l : Fin 24) (f : Flit) (s : State) : Host.Outcome State Fault Refusal :=
  .next ((s.rtlAssign l.val f).settled)

/-- BOOT_REQ (R474): A received BOOT_REQ is placed in the parent's mailbox. -/
def execBootReq (l : Fin 24) (f : Flit) (s : State) : Host.Outcome State Fault Refusal :=
  .next ((s.toMailbox l.val f 3 (fun s => s.isDown l.val)).settled)

/-- BOOT_DATA (R474): A received BOOT_DATA writes 32 image bytes into the child's staging area. -/
def execBootData (l : Fin 24) (f : Flit) (s : State) : Host.Outcome State Fault Refusal :=
  .next ((s.rtlBootData l.val f).settled)

/-- BOOT_END (R474): A received BOOT_END makes the child check the images as in push boot. -/
def execBootEnd (l : Fin 24) (f : BootEndFlit) (s : State) : Host.Outcome State Fault Refusal :=
  .next ((s.rtlBootEnd l.val f.flit f.fails).settled)

/-- BOOT_RESULT (R474): A received BOOT_RESULT is placed in the parent's mailbox. -/
def execBootResult (l : Fin 24) (f : Flit) (s : State) : Host.Outcome State Fault Refusal :=
  .next ((s.toMailbox l.val f 6 (fun s => s.isDown l.val)).settled)

/-- NEG_OFFER (R474): A received NEG_OFFER is placed in the manager's mailbox. -/
def execNegOffer (l : Fin 24) (f : Flit) (s : State) : Host.Outcome State Fault Refusal :=
  .next ((s.toMailbox l.val f 7 (fun s => s.isManager)).settled)

/-- NEG_SET (R474): A received NEG_SET writes the worker's accepted bits and locks negotiation. -/
def execNegSet (l : Fin 24) (f : Flit) (s : State) : Host.Outcome State Fault Refusal :=
  .next ((s.rtlNegSet l.val f).settled)

/-- BLAZE_REQ (R477): A received BLAZE_REQ becomes a manager trigger or is forwarded upstream. -/
def execBlazeReq (l : Fin 24) (f : Flit) (s : State) : Host.Outcome State Fault Refusal :=
  .next ((s.rtlBlazeReq l.val f).settled)

/-- BLAZE_DONE (R482): A received BLAZE_DONE adds a subtree's counts toward completion. -/
def execBlazeDone (l : Fin 24) (f : Flit) (s : State) : Host.Outcome State Fault Refusal :=
  .next ((s.rtlBlazeDone l.val f).settled)

/-- MSG (R470): A received MSG is placed in the mailbox or discarded with OVERFLOW; a CTRL flit of an unknown SUB is
discarded (R469). -/
def execMsg (l : Fin 24) (f : Flit) (s : State) : Host.Outcome State Fault Refusal :=
  .next ((s.rtlMsg l.val f).settled)

/-- JOIN_SEND (R472): Every 100 ms a worker without an ID sends JOIN upstream. -/
def execJoinSend (s : State) : Host.Outcome State Fault Refusal :=
  .next (s.joinSend.settled)

/-- BOOT_REQ_SEND (R474): Every 100 ms the ROM sends BOOT_REQ on its trained link. -/
def execBootReqSend (s : State) : Host.Outcome State Fault Refusal :=
  .next (s.bootReqSend.settled)

/-- TIME_SYNC_SEND (R475): Every PERIOD_US a device sends SYNC on each downstream link. -/
def execTimeSyncSend (l : Fin 24) (s : State) : Host.Outcome State Fault Refusal :=
  .next ((s.timeSyncSend l.val).settled)

/-- RTL_ASSIGN_CMD (R472): RTL_CMD ASSIGN sends an ID assignment down a PATH, refused for IDs in use. -/
def execRtlAssignCmd (v : W64) (s : State) : Host.Outcome State Fault Refusal :=
  .next ((s.rtlAssignCmd v).settled)

/-- BLAZE_START (R476): RTL_CMD BLAZE_START is a manager Blaze trigger. -/
def execBlazeStart (v : W64) (s : State) : Host.Outcome State Fault Refusal :=
  .next ((s.blazeStartCmd v).settled)

/-- BLAZE_REQUEST (R477): RTL_CMD BLAZE_REQUEST sends a BLAZE_REQ and may pulse BLAZE_SYNC. -/
def execBlazeRequest (v : W64) (s : State) : Host.Outcome State Fault Refusal :=
  .next ((s.blazeRequestCmd v).settled)

/-- BOOT_SEND (R474): RTL_CMD BOOT_SEND sends an image as BOOT_DATA flits to a child. -/
def execBootSend (v : W64) (s : State) : Host.Outcome State Fault Refusal :=
  .next ((s.bootSendCmd v).settled)

/-- RTL_BOOT_END_CMD (R474): RTL_CMD BOOT_END sends the image lengths to a child. -/
def execRtlBootEndCmd (v : W64) (s : State) : Host.Outcome State Fault Refusal :=
  .next ((s.bootEndCmd v).settled)

/-- RTL_NEG_SET_CMD (R474): RTL_CMD NEG_SET sends accepted bits, masked by the manager's own. -/
def execRtlNegSetCmd (v : W64) (s : State) : Host.Outcome State Fault Refusal :=
  .next ((s.negSetCmd v).settled)

/-- RTL_MSG_CMD (R469): RTL_CMD MSG sends a firmware message. -/
def execRtlMsgCmd (v : W64) (s : State) : Host.Outcome State Fault Refusal :=
  .next ((s.msgCmd v).settled)

/-- MBOX_POP (R470): A write to RTL_MBOX_POP removes the oldest mailbox message. -/
def execMboxPop (v : W64) (s : State) : Host.Outcome State Fault Refusal :=
  .next ((s.mboxPop v).settled)

/-- BLAZE_PERIOD (R476): Lapse of PERIOD_MS is a manager Blaze trigger. -/
def execBlazePeriod (s : State) : Host.Outcome State Fault Refusal :=
  .next (s.blazePeriod.settled)

/-- BLAZE_SYNC_EDGE (R476): A rising edge of BLAZE_SYNC is a trigger at the manager or a request at a worker. -/
def execBlazeSyncEdge (s : State) : Host.Outcome State Fault Refusal :=
  .next (s.blazeEdge.settled)

/-- BLAZE_INITIATE (R476): The manager initiates a pending Blaze, taking NEXT_ID and starting its cut. -/
def execBlazeInitiate (s : State) : Host.Outcome State Fault Refusal :=
  .next (s.blazeInitiate.settled)

/-- CUT_POINT (R478): Once earlier frames are linked the device places BLAZE records and flits and ends its holds.
-/
def execCutPoint (s : State) : Host.Outcome State Fault Refusal :=
  .next (s.cutPoint.settled)

/-- BLAZE_COMPLETE (R482): A device's Blaze completes, raising BLAZE and sending BLAZE_DONE upstream. -/
def execBlazeComplete (s : State) : Host.Outcome State Fault Refusal :=
  .next (s.blazeComplete.settled)

/-- BLAZE_DONE_TIMEOUT (R482): TIMEOUT_MS after the cut a worker reports missing downstream answers. -/
def execBlazeDoneTimeout (s : State) : Host.Outcome State Fault Refusal :=
  .next (s.blazeTimeout.settled)

/-- RTL_CMD_BAD_OP (R469): An RTL_CMD with an undefined OP completes with CODE 0x2. -/
def execRtlCmdBadOp (v : W64) (s : State) : Host.Outcome State Fault Refusal :=
  .next ((s.rtlBadOp v).settled)

end Sys2Proof.Machine
end

