-- ==== Sys2Proof/Machine/RowsLsu.lean ====
section
/-! DEFINITION. Commands of the LSU and the store buffer (Ch. 06). -/

namespace Sys2Proof.Machine

/-- LSU_LD (R157): Load 8 bytes, in displacement, post-increment, pre-decrement or indexed form. -/
def execLsuLd (c : Fin 257) (form : LsuForm) (t : W64) (s : State) : Host.Outcome State Fault Refusal :=
  .next ((s.triggerWord c.val (.lsu .ld form) t).react)

/-- LSU_LW (R157): Load 4 bytes zero-extended. -/
def execLsuLw (c : Fin 257) (form : LsuForm) (t : W64) (s : State) : Host.Outcome State Fault Refusal :=
  .next ((s.triggerWord c.val (.lsu .lw form) t).react)

/-- LSU_LWS (R157): Load 4 bytes sign-extended. -/
def execLsuLws (c : Fin 257) (form : LsuForm) (t : W64) (s : State) : Host.Outcome State Fault Refusal :=
  .next ((s.triggerWord c.val (.lsu .lws form) t).react)

/-- LSU_LH (R157): Load 2 bytes zero-extended. -/
def execLsuLh (c : Fin 257) (form : LsuForm) (t : W64) (s : State) : Host.Outcome State Fault Refusal :=
  .next ((s.triggerWord c.val (.lsu .lh form) t).react)

/-- LSU_LHS (R157): Load 2 bytes sign-extended. -/
def execLsuLhs (c : Fin 257) (form : LsuForm) (t : W64) (s : State) : Host.Outcome State Fault Refusal :=
  .next ((s.triggerWord c.val (.lsu .lhs form) t).react)

/-- LSU_LB (R157): Load 1 byte zero-extended. -/
def execLsuLb (c : Fin 257) (form : LsuForm) (t : W64) (s : State) : Host.Outcome State Fault Refusal :=
  .next ((s.triggerWord c.val (.lsu .lb form) t).react)

/-- LSU_LBS (R157): Load 1 byte sign-extended. -/
def execLsuLbs (c : Fin 257) (form : LsuForm) (t : W64) (s : State) : Host.Outcome State Fault Refusal :=
  .next ((s.triggerWord c.val (.lsu .lbs form) t).react)

/-- LSU_ST (R164): Store 8 bytes of LSU.B, checked at issue and buffered. -/
def execLsuSt (c : Fin 257) (form : StoreForm) (t : W64) (s : State) : Host.Outcome State Fault Refusal :=
  .next ((s.storeRow c.val .st form t).react)

/-- LSU_SW (R164): Store 4 bytes of LSU.B, checked at issue and buffered. -/
def execLsuSw (c : Fin 257) (form : StoreForm) (t : W64) (s : State) : Host.Outcome State Fault Refusal :=
  .next ((s.storeRow c.val .sw form t).react)

/-- LSU_SH (R164): Store 2 bytes of LSU.B, checked at issue and buffered. -/
def execLsuSh (c : Fin 257) (form : StoreForm) (t : W64) (s : State) : Host.Outcome State Fault Refusal :=
  .next ((s.storeRow c.val .sh form t).react)

/-- LSU_SB (R164): Store 1 byte of LSU.B, checked at issue and buffered. -/
def execLsuSb (c : Fin 257) (form : StoreForm) (t : W64) (s : State) : Host.Outcome State Fault Refusal :=
  .next ((s.storeRow c.val .sb form t).react)

/-- LOAD_ANSWER (R162): A load's target answers and the assembled value, or a bus error, enters LSU.Q. -/
def execLoadAnswer (c : Fin 257) (first : PortAnswer) (second : PortAnswer)
    (s : State) : Host.Outcome State Fault Refusal :=
  .next ((s.loadAnswer c.val [first, second]).settled)

/-- STORE_DRAIN (R166): A buffered store is written at its target in order and leaves the store buffer. -/
def execStoreDrain (c : Fin 257) (n : Fin 8) (answer : PortAnswer) (reply : BoardReply)
    (s : State) : Host.Outcome State Fault Refusal :=
  .next ((s.storeDrain c.val n.val answer reply).settled)

end Sys2Proof.Machine
end

