-- ==== Sys2Proof/Machine/RowsPins.lean ====
section
/-! DEFINITION. Low-speed ports, safe-state outputs and the JTAG port (Ch. 18). -/

namespace Sys2Proof.Machine

/-- XSPI_CMD (R448): GO in UST_XSPI_CMD runs a flash command, optionally polling until ready. -/
def execXspiCmd (v : W64) (reply : FlashReply) (s : State) : Host.Outcome State Fault Refusal :=
  .next ((s.checkedWrite .heartwood Reg.UST_XSPI_CMD v (fun s => s.xspiCmd v reply)).settled)

/-- XSPI_READY_TIMEOUT (R448): A ready poll not succeeding in 10 s ends the command with RESULT 1. -/
def execXspiReadyTimeout (s : State) : Host.Outcome State Fault Refusal :=
  .next (s.xspiTimeout.settled)

/-- I2C_TRANSFER (R449): GO in UST_I2C_CMD runs an I2C or SMBus transfer and reports its result. -/
def execI2cTransfer (v : W64) (result : Fin 6) (bytes : List Byte) (s : State) : Host.Outcome State Fault Refusal :=
  .next ((s.checkedWrite .heartwood Reg.UST_I2C_CMD v (fun s => s.i2cTransfer v result.val bytes)).settled)

/-- UART_TX (R450): A write to UART_TX queues a byte for transmission. -/
def execUartTx (byte : Byte) (s : State) : Host.Outcome State Fault Refusal :=
  .next ((s.checkedWrite .heartwood Reg.UST_UART_TX (w64 byte.toNat) (fun s => s.uartTx byte)).settled)

/-- UART_RX_READ (R450): A read of UART_RX removes the oldest received byte from the FIFO. -/
def execUartRxRead (s : State) : Host.Outcome State Fault Refusal :=
  .next ((s.checkedRead .heartwood Reg.UST_UART_RX State.uartTake).settled)

/-- UART_RECEIVE (R450): A received byte enters the receive FIFO or sets OVERRUN. -/
def execUartReceive (byte : Byte) (framing : Bool) (s : State) : Host.Outcome State Fault Refusal :=
  .next ((s.uartReceive byte framing).settled)

/-- SSO_WRITE (R451): A write to UST_SSO sets the levels of outputs of the writer's partition. -/
def execSsoWrite (who : Fin 257) (v : W64) (s : State) : Host.Outcome State Fault Refusal :=
  .next ((s.checkedWrite (coreRequester who.val) Reg.UST_SSO v
    (fun s => s.ssoWrite (if who.val = 256 then none else some who.val) v)).settled)

/-- IDCODE (R452): JTAG IDCODE selects the 32-bit identity register. -/
def execIdcode (s : State) : Host.Outcome State Fault Refusal :=
  .next (s.jtagIdcode)

/-- SAMPLE_PRELOAD (R452): JTAG SAMPLE/PRELOAD selects the boundary register. -/
def execSamplePreload (pins : List Bool) (s : State) : Host.Outcome State Fault Refusal :=
  .next (s.jtagSample pins)

/-- EXTEST (R452): JTAG EXTEST drives boundary pins, only with PORST_N low or in SERVICE. -/
def execExtest (pins : List Bool) (s : State) : Host.Outcome State Fault Refusal :=
  .next (s.jtagExtest pins)

/-- CLAMP (R452): JTAG CLAMP holds boundary outputs with bypass selected. -/
def execClamp (s : State) : Host.Outcome State Fault Refusal :=
  .next (s.jtagPinTest 0x04 1)

/-- HIGHZ (R452): JTAG HIGHZ sets outputs to high impedance with bypass selected. -/
def execHighz (s : State) : Host.Outcome State Fault Refusal :=
  .next (s.jtagPinTest 0x05 2)

/-- SVC_CHAL (R452): JTAG SVC_CHAL captures a fresh random challenge. -/
def execSvcChal (s : State) : Host.Outcome State Fault Refusal :=
  .next (s.svcChal)

/-- SVC_ENTER (R453): JTAG SVC_ENTER requests SERVICE, granted when the signed request verifies. -/
def execSvcEnter (request : SvcRequest) (s : State) : Host.Outcome State Fault Refusal :=
  .next ((s.svcEnter request).settled)

/-- SVC_ACCESS (R454): JTAG SVC_ACCESS makes a 64-bit Heartwood-privileged access in SERVICE. -/
def execSvcAccess (op : Fin 4) (address : BitVec 48) (v : W64) (reply : BoardReply)
    (s : State) : Host.Outcome State Fault Refusal :=
  .next ((s.onPorts reply.ports (fun s => (s.svcAccess op.val address.toNat v reply, ()))).1.settled)

/-- BYPASS (R452): JTAG BYPASS, or any unlisted code, selects the 1-bit bypass register. -/
def execBypass (s : State) : Host.Outcome State Fault Refusal :=
  .next (s.jtagSelect 0xFF 0)

/-- UART_BYTE_SENT (R450): The UART finishes transmitting a byte, removing it from the transmit FIFO and clearing
TX_FULL. -/
def execUartByteSent (s : State) : Host.Outcome State Fault Refusal :=
  .next (s.uartSent.settled)

end Sys2Proof.Machine
end

