-- ==== Sys2Proof/Machine/RowsPorts.lean ====
section
/-! DEFINITION. Commands of the QPU and the JAU (Chs. 11, 13). -/

namespace Sys2Proof.Machine

/-- QPU_DEQ (R279): Delivers the next word of the cursor's packet, opening the head packet or delivering NV. -/
def execQpuDeq (c : Fin 256) (t : TWord) (s : State) : Host.Outcome State Fault Refusal :=
  .next ((s.trigger c.val (.qpu .deq) t noFlags).settled)

/-- QPU_SKIP (R279): Discards the rest of the cursor's open read packet and frees its cells. -/
def execQpuSkip (c : Fin 256) (t : TWord) (s : State) : Host.Outcome State Fault Refusal :=
  .next ((s.trigger c.val (.qpu .skip) t noFlags).settled)

/-- QPU_PUT (R282): Appends t to the cursor's write packet, opening one and taking cells as needed. -/
def execQpuPut (c : Fin 256) (t : TWord) (s : State) : Host.Outcome State Fault Refusal :=
  .next ((s.trigger c.val (.qpu .put) t noFlags).settled)

/-- QPU_PUTL (R282): Appends t and closes the packet, linking it or answering PENDING or an error. -/
def execQpuPutl (c : Fin 256) (t : TWord) (s : State) : Host.Outcome State Fault Refusal :=
  .next ((s.trigger c.val (.qpu .putl) t noFlags).settled)

/-- QPU_PUTT (R284): Acts on t according to its tag to re-enqueue dequeued words. -/
def execQpuPutt (c : Fin 256) (t : TWord) (s : State) : Host.Outcome State Fault Refusal :=
  .next ((s.trigger c.val (.qpu .putt) t noFlags).settled)

/-- QPU_ABANDON (R275): Discards the cursor's open write packet with status ABANDONED. -/
def execQpuAbandon (c : Fin 256) (t : TWord) (s : State) : Host.Outcome State Fault Refusal :=
  .next ((s.trigger c.val (.qpu .abandon) t noFlags).settled)

/-- QPU_DEPTH (R275): Returns PACKETS of the queue. -/
def execQpuDepth (c : Fin 256) (t : TWord) (s : State) : Host.Outcome State Fault Refusal :=
  .next ((s.trigger c.val (.qpu .depth) t noFlags).settled)

/-- QPU_FLUSH (R293): Flushes the queue at its flush point and returns the number discarded. -/
def execQpuFlush (c : Fin 256) (t : TWord) (s : State) : Host.Outcome State Fault Refusal :=
  .next ((s.trigger c.val (.qpu .flush) t noFlags).settled)

/-- QPU_RETIRE (R275): A QPU operation on a DRAM-stored queue retires into G[RD]. -/
def execQpuRetire (c : Fin 256) (n : Fin 64) (s : State) : Host.Outcome State Fault Refusal :=
  .next ((s.qpuRetire c.val n.val).settled)

/-- QPU_STREAM_WORD (R281): A word of an opened packet arrives in the cursor's 32-word buffer, answering a waiting
DEQ. -/
def execQpuStreamWord (c : Fin 256) (k : Fin 4) (s : State) : Host.Outcome State Fault Refusal :=
  .next ((s.streamWord c.val k.val).settled)

/-- JAU_PUT (R331): Appends t as a payload word, opening a record when none is open. -/
def execJauPut (c : Fin 256) (t : TWord) (s : State) : Host.Outcome State Fault Refusal :=
  .next ((s.trigger c.val (.jau .put) t noFlags).settled)

/-- JAU_PUTL (R331): Appends t and closes the record. -/
def execJauPutl (c : Fin 256) (t : TWord) (s : State) : Host.Outcome State Fault Refusal :=
  .next ((s.trigger c.val (.jau .putl) t noFlags).settled)

/-- JAU_PUTT (R333): Acts on t according to its tag to pass packets into records. -/
def execJauPutt (c : Fin 256) (t : TWord) (s : State) : Host.Outcome State Fault Refusal :=
  .next ((s.trigger c.val (.jau .putt) t noFlags).settled)

/-- JAU_CLOSE (R334): Closes the open record, or writes an empty record. -/
def execJauClose (c : Fin 256) (t : TWord) (s : State) : Host.Outcome State Fault Refusal :=
  .next ((s.trigger c.val (.jau .close) t noFlags).settled)

/-- JAU_ABANDON (R331): Discards the open record with status ABANDONED. -/
def execJauAbandon (c : Fin 256) (t : TWord) (s : State) : Host.Outcome State Fault Refusal :=
  .next ((s.trigger c.val (.jau .abandon) t noFlags).settled)

/-- JAU_SEAL (R338): Starts a seal long operation that writes a durable SYNC record and optionally closes the
segment. -/
def execJauSeal (c : Fin 256) (t : TWord) (s : State) : Host.Outcome State Fault Refusal :=
  .next ((s.trigger c.val (.jau .seal) t noFlags).settled)

/-- JAU_SEAL_RETIRE (R338): A SEAL retires once covered records are accepted and the SYNC is durable, writing its
status. -/
def execJauSealRetire (c : Fin 256) (s : State) : Host.Outcome State Fault Refusal :=
  .next ((s.sealRetire c.val).settled)

/-- RECORD_ACCEPT (R337): The JW accepts a closed record and numbers it with the journal's next SEQ. -/
def execRecordAccept (c : Fin 256) (s : State) : Host.Outcome State Fault Refusal :=
  .next ((s.recordAccept c.val).settled)

end Sys2Proof.Machine
end

