-- ==== Sys2Proof/Machine/RowsPower.lean ====
section
/-! DEFINITION. Modes, wakes, domains, rails and hold-up (Ch. 16). -/

namespace Sys2Proof.Machine

/-- MODE_REQ_RUN (R394): A request for RUN is checked and entered or refused. -/
def execModeReqRun (s : State) : Host.Outcome State Fault Refusal :=
  .next ((s.requestMode 3).settled)

/-- MODE_REQ_LEAN (R394): A request for LEAN is checked and entered or refused. -/
def execModeReqLean (s : State) : Host.Outcome State Fault Refusal :=
  .next ((s.requestMode 4).settled)

/-- MODE_REQ_IDLE (R394): A request for IDLE is checked and waits until every started Glade is in Clearing. -/
def execModeReqIdle (s : State) : Host.Outcome State Fault Refusal :=
  .next ((s.requestMode 5).settled)

/-- MODE_REQ_DOZE (R394): A request for DOZE is checked for quiet and entered or refused. -/
def execModeReqDoze (s : State) : Host.Outcome State Fault Refusal :=
  .next ((s.requestMode 6).settled)

/-- MODE_REQ_RETAIN (R394): A request for RETAIN is checked for quiet and entered or refused. -/
def execModeReqRetain (s : State) : Host.Outcome State Fault Refusal :=
  .next ((s.requestMode 7).settled)

/-- MODE_REQ_LOOKOUT (R394): A request for LOOKOUT enters LOOKOUT, or RETAIN without a Lookout program. -/
def execModeReqLookout (s : State) : Host.Outcome State Fault Refusal :=
  .next ((s.requestMode 8).settled)

/-- IDLE_ENTRY (R394): IDLE entry begins once every started Glade is in Clearing. -/
def execIdleEntry (s : State) : Host.Outcome State Fault Refusal :=
  .next (s.idleEntry.settled)

/-- MODE_TRANSITION_DONE (R395): A mode transition completes, raising MODE_DONE and taking up any queued request. -/
def execModeTransitionDone (slept : Nat) (s : State) : Host.Outcome State Fault Refusal :=
  .next ((s.transitionDone slept).settled)

/-- WAKE_EVENT (R403): A watched GPIO, lane signal detect or Lookout match wakes the device toward its target mode.
-/
def execWakeEvent (source : WakeSource) (s : State) : Host.Outcome State Fault Refusal :=
  .next ((s.wakeEvent source).settled)

/-- DOMAIN_READY (R399): A waking domain completes its last wake step and becomes ready. -/
def execDomainReady (d : Fin 64) (s : State) : Host.Outcome State Fault Refusal :=
  .next ((s.domainReady d.val).settled)

/-- WAKE_STEP_TIMEOUT (R405): An IVR or PLL wake step times out, switching the domain off for a retry or failing it.
-/
def execWakeStepTimeout (w : StepTimeout) (s : State) : Host.Outcome State Fault Refusal :=
  .next ((s.stepTimeout w.domain.val w.elapsed.toNat).settled)

/-- WAKE_RETRY (R405): After the 100 µs pause a failed domain is woken again. -/
def execWakeRetry (d : Fin 64) (s : State) : Host.Outcome State Fault Refusal :=
  .next ((s.wakeRetry d.val).settled)

/-- RC_OSC_TIMEOUT (R406): The RC oscillator not ready in time makes Lookout use a self-timed interval. -/
def execRcOscTimeout (s : State) : Host.Outcome State Fault Refusal :=
  .next (s.rcTimeout.settled)

/-- LOOKOUT_SAMPLE (R408): Each LK_PERIOD_MS the sampler checks GPIO, temperature, VSENSE and lanes, records and may
wake. -/
def execLookoutSample (reading : LookoutReading) (s : State) : Host.Outcome State Fault Refusal :=
  .next ((s.lookoutSample reading).settled)

/-- GROVE_CLEARING_ENTER (R400): A Grove whose conditions hold puts its IVR in low-power mode. -/
def execGroveClearingEnter (g : Fin 16) (s : State) : Host.Outcome State Fault Refusal :=
  .next ((s.groveClearing g.val).settled)

/-- BROWNOUT (R401): A regulator in low-power mode falling below its limit cold-restarts its Grove or restarts the
device. -/
def execBrownout (r : Fin 18) (world : BootWorld) (s : State) : Host.Outcome State Fault Refusal :=
  .next ((s.brownout r.val world).settled)

/-- PWR_DOM_WRITE (R397): A write to PWR_DOMn changes a domain's policy at once, or is ignored with CFG_ERR. -/
def execPwrDomWrite (d : Fin 64) (v : W64) (s : State) : Host.Outcome State Fault Refusal :=
  .next ((s.domWrite d.val v).settled)

/-- PWR_RAIL_WRITE (R398): A write of TARGET_MV slews an IVR to a new voltage, or is ignored with CFG_ERR. -/
def execPwrRailWrite (r : Fin 17) (v : W64) (s : State) : Host.Outcome State Fault Refusal :=
  .next ((s.railWrite r.val v).settled)

/-- VSENSE_SAMPLE (R412): Each microsecond the estimator samples VSENSE and refreshes the remaining hold-up time. -/
def execVsenseSample (uv : Int) (s : State) : Host.Outcome State Fault Refusal :=
  .next ((s.vsenseSample (vsenseCode uv)).settled)

/-- HOLDUP_N_LOW (R413): HOLDUP_N low for 200 ns makes HOLDUP due. -/
def execHoldupNLow (s : State) : Host.Outcome State Fault Refusal :=
  .next (s.holdupLow.settled)

/-- HOLDUP_RETURN (R415): After 10 ms of restored supply the device restarts with RESET_CAUSE 3. -/
def execHoldupReturn (world : BootWorld) (s : State) : Host.Outcome State Fault Refusal :=
  .next ((s.holdupReturn world).settled)

/-- MODE_REQ_ILLEGAL (R394): A PWR_MODE_REQ request for a mode that R393 does not allow completes with RESULT 1
(ILLEGAL). -/
def execModeReqIllegal (m : Fin 16) (s : State) : Host.Outcome State Fault Refusal :=
  .next ((s.requestIllegal m.val).settled)

/-- IVR_CURRENT_LIMIT (R398): A load above 3 A makes an IVR limit its current, sagging the rail and setting LIMIT in
PWR_RAILr. -/
def execIvrCurrentLimit (r : Fin 17) (mv : BitVec 16) (s : State) : Host.Outcome State Fault Refusal :=
  .next ((s.currentLimit r.val mv.toNat).settled)

end Sys2Proof.Machine
end

