-- ==== Sys2Proof/Machine/RowsQueues.lean ====
section
/-! DEFINITION. Commands of the queue manager, frames received and packets taken for egress (Chs. 11, 18). -/

namespace Sys2Proof.Machine

/-- QM_CONFIG (R383): QM_CMD CONFIG sets a queue's group, flags and limit, fixing a group partition. -/
def execQmConfig (v : W64) (s : State) : Host.Outcome State Fault Refusal :=
  .next ((s.qmCommand (withOp 4 0 1 v)).settled)

/-- QM_FLUSH (R293): QM_CMD FLUSH flushes a queue. -/
def execQmFlush (v : W64) (s : State) : Host.Outcome State Fault Refusal :=
  .next ((s.qmCommand (withOp 4 0 2 v)).settled)

/-- QM_RESET (R299): QM_CMD RESET empties a queue, clears BROKEN and returns reachable cells. -/
def execQmReset (v : W64) (s : State) : Host.Outcome State Fault Refusal :=
  .next ((s.qmCommand (withOp 4 0 3 v)).settled)

/-- QM_PIN (R274): QM_CMD PIN pins a descriptor in its engine's cache. -/
def execQmPin (v : W64) (s : State) : Host.Outcome State Fault Refusal :=
  .next ((s.qmCommand (withOp 4 0 4 v)).settled)

/-- QM_UNPIN (R274): QM_CMD UNPIN unpins a descriptor. -/
def execQmUnpin (v : W64) (s : State) : Host.Outcome State Fault Refusal :=
  .next ((s.qmCommand (withOp 4 0 5 v)).settled)

/-- QM_READ (R274): QM_CMD READ copies a descriptor into QM_CMD_DATAn. -/
def execQmRead (v : W64) (s : State) : Host.Outcome State Fault Refusal :=
  .next ((s.qmCommand (withOp 4 0 6 v)).settled)

/-- QM_BAD_OP (R274): A QM_CMD with an undefined OP completes with CODE 0x6. -/
def execQmBadOp (v : W64) (s : State) : Host.Outcome State Fault Refusal :=
  .next ((s.qmBadCommand v).settled)

/-- QM_POOL_WRITE (R300): A pool register write places a pool or is ignored with CFG_ERR. -/
def execQmPoolWrite (k : Fin 24) (v : W64) (s : State) : Host.Outcome State Fault Refusal :=
  .next ((s.poolWrite k.val v).settled)

/-- ETH_FRAME_RECEIVE (R445): A received Ethernet frame is checked and filtered by the MAC and passed to the
classifier. -/
def execEthFrameReceive (lane : Fin 96) (frame : List Byte) (check : Fin 3) (overrun : Bool) (ago : Nat)
    (s : State) : Host.Outcome State Fault Refusal :=
  .next ((s.frameReceive lane.val frame check.val overrun ago).settled)

/-- EGRESS_TAKE (R298): A free egress port takes the next packet from its highest-priority bound queue and transmits
it. -/
def execEgressTake (link : Bool) (port : Fin 96) (s : State) : Host.Outcome State Fault Refusal :=
  .next ((if link then s.egressLink port.val else s.egressEth port.val).settled)

end Sys2Proof.Machine
end

