-- ==== Sys2Proof/Machine/RowsSafe.lean ====
section
/-! DEFINITION. Glade control, faults, SAFE, lockstep seals, watchdogs, supplies and temperature (Ch. 20). -/

namespace Sys2Proof.Machine

/-- GCTL_STOP (R493): STOP in SAF_GCTLi stops a Glade, or both of a pair, at a bundle boundary. -/
def execGctlStop (c : Fin 256) (s : State) : Host.Outcome State Fault Refusal :=
  .next ((s.gctlStop c.val).settled)

/-- GCTL_START (R493): START in SAF_GCTLi resumes a stopped Glade at START_PC. -/
def execGctlStart (c : Fin 256) (s : State) : Host.Outcome State Fault Refusal :=
  .next ((s.gctlStart c.val).settled)

/-- GVIEW_ACCESS (R493): An access to SAF_GVIEWi_r reads or writes a stopped Glade's state. -/
def execGviewAccess (byJtag : Bool) (c : Fin 256) (r : Fin 128) (w : Option W64)
    (s : State) : Host.Outcome State Fault Refusal :=
  .next ((s.gviewAccess (if byJtag then .jtag else .heartwood) c.val r.val w).settled)

/-- FAULT_ACK (R508): ACK in SAF_FAULT clears HANDLING. -/
def execFaultAck (v : W64) (s : State) : Host.Outcome State Fault Refusal :=
  .next ((s.faultAck v).settled)

/-- SAFE_REQ (R510): SAFE_REQ in SAF_CTL enters SAFE. -/
def execSafeReq (v : W64) (s : State) : Host.Outcome State Fault Refusal :=
  .next ((s.safCtl v).settled)

/-- LOCKSTEP_SEAL (R498): At a seal point both Glades compare signatures, checkpoint on a match, or rerun on a
mismatch. -/
def execLockstepSeal (c : Fin 256) (s : State) : Host.Outcome State Fault Refusal :=
  .next ((s.lockstepSeal c.val).settled)

/-- SEAL_TIMER (R498): 16 µs since the last seal makes the next position a seal point. -/
def execSealTimer (c : Fin 256) (s : State) : Host.Outcome State Fault Refusal :=
  .next ((s.sealTimer c.val).settled)

/-- GLADE_WATCHDOG_EXPIRY (R501): A Glade watchdog expiry raises WATCHDOG and makes a watchdog entry pending, or
stops on a second expiry. -/
def execGladeWatchdogExpiry (c : Fin 256) (s : State) : Host.Outcome State Fault Refusal :=
  .next ((s.gladeWatchdog c.val).settled)

/-- HEARTWOOD_WATCHDOG_EXPIRY (R502): A Heartwood watchdog expiry makes an entry pending, or is a Heartwood fault on
the second. -/
def execHeartwoodWatchdogExpiry (s : State) : Host.Outcome State Fault Refusal :=
  .next (s.hwWatchdog.settled)

/-- SUPPLY_OUT_OF_WINDOW (R504): A supply outside its window for 1 µs raises SUPPLY and applies MECH 0x06. -/
def execSupplyOutOfWindow (k : Fin 33) (s : State) : Host.Outcome State Fault Refusal :=
  .next ((s.supplyOut k.val).settled)

/-- TEMP_SAMPLE (R506): Every 100 µs the temperature is sampled; two samples above PARAM are a fault. -/
def execTempSample (t : TempSensors) (s : State) : Host.Outcome State Fault Refusal :=
  .next ((s.tempSample (hottest t)).settled)

/-- SUPPLY_RETURN (R505): A supply that left its window returns into it, clearing its SUPPLY bit and starting the 1
ms observation. -/
def execSupplyReturn (k : Fin 33) (s : State) : Host.Outcome State Fault Refusal :=
  .next ((s.supplyReturn k.val).settled)

/-- SUPPLY_RETURN_TIMEOUT (R505): A supply that has not returned within 1 ms has its record marked LASTING. -/
def execSupplyReturnTimeout (k : Fin 33) (s : State) : Host.Outcome State Fault Refusal :=
  .next ((s.supplyTimeout k.val).settled)

end Sys2Proof.Machine
end

