-- ==== Sys2Proof/Machine/RowsShift.lean ====
section
/-! DEFINITION. Commands of the units SHF and CKU (Ch. 05). -/

namespace Sys2Proof.Machine

/-- SHF_SLL (R137): Q := A shifted left by t. -/
def execShfSll (c : Fin 257) (t : W64) (s : State) : Host.Outcome State Fault Refusal :=
  .next ((s.triggerWord c.val (.shf .sll) t).react)

/-- SHF_SRL (R137): Q := A shifted right by t with zero fill. -/
def execShfSrl (c : Fin 257) (t : W64) (s : State) : Host.Outcome State Fault Refusal :=
  .next ((s.triggerWord c.val (.shf .srl) t).react)

/-- SHF_SRA (R137): Q := A shifted right by t with sign fill. -/
def execShfSra (c : Fin 257) (t : W64) (s : State) : Host.Outcome State Fault Refusal :=
  .next ((s.triggerWord c.val (.shf .sra) t).react)

/-- SHF_ROL (R137): Q := A rotated left by t mod 64. -/
def execShfRol (c : Fin 257) (t : W64) (s : State) : Host.Outcome State Fault Refusal :=
  .next ((s.triggerWord c.val (.shf .rol) t).react)

/-- SHF_ROR (R137): Q := A rotated right by t mod 64. -/
def execShfRor (c : Fin 257) (t : W64) (s : State) : Host.Outcome State Fault Refusal :=
  .next ((s.triggerWord c.val (.shf .ror) t).react)

/-- SHF_BFEXTU (R139): Q := zero-extended field of A named by t. -/
def execShfBfextu (c : Fin 257) (t : W64) (s : State) : Host.Outcome State Fault Refusal :=
  .next ((s.triggerWord c.val (.shf .bfextu) t).react)

/-- SHF_BFEXTS (R139): Q := sign-extended field of A named by t. -/
def execShfBfexts (c : Fin 257) (t : W64) (s : State) : Host.Outcome State Fault Refusal :=
  .next ((s.triggerWord c.val (.shf .bfexts) t).react)

/-- SHF_BFINS (R139): Q := A with the field named by t replaced from B. -/
def execShfBfins (c : Fin 257) (t : W64) (s : State) : Host.Outcome State Fault Refusal :=
  .next ((s.triggerWord c.val (.shf .bfins) t).react)

/-- SHF_BREV (R137): Q := t with all 64 bits reversed. -/
def execShfBrev (c : Fin 257) (t : W64) (s : State) : Host.Outcome State Fault Refusal :=
  .next ((s.triggerWord c.val (.shf .brev) t).react)

/-- SHF_BSWAP (R137): Q := t with its bytes reversed. -/
def execShfBswap (c : Fin 257) (t : W64) (s : State) : Host.Outcome State Fault Refusal :=
  .next ((s.triggerWord c.val (.shf .bswap) t).react)

/-- SHF_CLZ (R137): Q := leading zero count of t. -/
def execShfClz (c : Fin 257) (t : W64) (s : State) : Host.Outcome State Fault Refusal :=
  .next ((s.triggerWord c.val (.shf .clz) t).react)

/-- SHF_CTZ (R137): Q := trailing zero count of t. -/
def execShfCtz (c : Fin 257) (t : W64) (s : State) : Host.Outcome State Fault Refusal :=
  .next ((s.triggerWord c.val (.shf .ctz) t).react)

/-- SHF_POPC (R137): Q := number of one bits in t. -/
def execShfPopc (c : Fin 257) (t : W64) (s : State) : Host.Outcome State Fault Refusal :=
  .next ((s.triggerWord c.val (.shf .popc) t).react)

/-- CKU_C32C (R142): CRC-32C word step over the low 8, 16, 32 or 64 bits of t into CKU.CRC. -/
def execCkuC32c (c : Fin 257) (w : Fin 4) (t : W64) (s : State) : Host.Outcome State Fault Refusal :=
  .next ((s.triggerWord c.val (.crc .c32c w.val) t).react)

/-- CKU_C64 (R142): CRC-64 word step over the low bits of t into CKU.CRC. -/
def execCkuC64 (c : Fin 257) (w : Fin 4) (t : W64) (s : State) : Host.Outcome State Fault Refusal :=
  .next ((s.triggerWord c.val (.crc .c64 w.val) t).react)

/-- CKU_C16 (R142): CRC-16/CCITT word step over the low bits of t into CKU.CRC. -/
def execCkuC16 (c : Fin 257) (w : Fin 4) (t : W64) (s : State) : Host.Outcome State Fault Refusal :=
  .next ((s.triggerWord c.val (.crc .c16 w.val) t).react)

/-- CKU_PAR (R140): Q := parity of all 64 bits of t. -/
def execCkuPar (c : Fin 257) (t : W64) (s : State) : Host.Outcome State Fault Refusal :=
  .next ((s.triggerWord c.val (.cku .par) t).react)

/-- CKU_PARB (R140): Q := parity of each byte of t. -/
def execCkuParb (c : Fin 257) (t : W64) (s : State) : Host.Outcome State Fault Refusal :=
  .next ((s.triggerWord c.val (.cku .parb) t).react)

/-- CKU_BREV8 (R140): Q := t with bits of each byte reversed. -/
def execCkuBrev8 (c : Fin 257) (t : W64) (s : State) : Host.Outcome State Fault Refusal :=
  .next ((s.triggerWord c.val (.cku .brev8) t).react)

/-- CKU_BREV16 (R140): Q := t with bits of each half-word reversed. -/
def execCkuBrev16 (c : Fin 257) (t : W64) (s : State) : Host.Outcome State Fault Refusal :=
  .next ((s.triggerWord c.val (.cku .brev16) t).react)

/-- CKU_BREV32 (R140): Q := t with bits of each 32-bit word reversed. -/
def execCkuBrev32 (c : Fin 257) (t : W64) (s : State) : Host.Outcome State Fault Refusal :=
  .next ((s.triggerWord c.val (.cku .brev32) t).react)

/-- CKU_BLK32C (R145): Starts a block CRC-32C long operation over t bytes from A. -/
def execCkuBlk32c (c : Fin 257) (t : W64) (s : State) : Host.Outcome State Fault Refusal :=
  .next ((s.triggerWord c.val (.block 0) t).react)

/-- CKU_BLK64 (R145): Starts a block CRC-64 long operation over t bytes from A. -/
def execCkuBlk64 (c : Fin 257) (t : W64) (s : State) : Host.Outcome State Fault Refusal :=
  .next ((s.triggerWord c.val (.block 1) t).react)

/-- CKU_BLK16 (R145): Starts a block CRC-16/CCITT long operation over t bytes from A. -/
def execCkuBlk16 (c : Fin 257) (t : W64) (s : State) : Host.Outcome State Fault Refusal :=
  .next ((s.triggerWord c.val (.block 2) t).react)

/-- CKU_BLOCK_RETIRE (R145): A CKU block retires with its CRC in G[RD], or fails as IMPRECISE on a bad read. -/
def execCkuBlockRetire (c : Fin 257) (answer : BlockAnswer) (s : State) : Host.Outcome State Fault Refusal :=
  .next ((s.blockRetire c.val answer.bytes answer.ports).react)

end Sys2Proof.Machine
end

