-- ==== Sys2Proof/Machine/RowsSystem.lean ====
section
/-! DEFINITION. Commands of the units IMM, TIME and SYS (Ch. 05). -/

namespace Sys2Proof.Machine

/-- IMM_SET (R148): IMM.T.SET sets the accumulator to t in phase 4. -/
def execImmSet (c : Fin 257) (t : W64) (s : State) : Host.Outcome State Fault Refusal :=
  .next ((s.triggerWord c.val .immSet t).react)

/-- TIME_NOW (R149): TIME.T.NOW samples the delivered device time and status. -/
def execTimeNow (c : Fin 257) (s : State) : Host.Outcome State Fault Refusal :=
  .next ((s.triggerWord c.val .timeNow 0#64).react)

/-- SYS_BAR (R177): BAR makes the next bundle wait until long operations retire, stores drain and engine operations
take effect. -/
def execSysBar (c : Fin 257) (s : State) : Host.Outcome State Fault Refusal :=
  .next ((s.triggerWord c.val (.sys .bar) 0#64).react)

/-- SYS_IFENCE (R174): IFENCE makes other agents' completed IMEM writes visible to fetch from bundle j+3. -/
def execSysIfence (c : Fin 257) (s : State) : Host.Outcome State Fault Refusal :=
  .next ((s.triggerWord c.val (.sys .ifence) 0#64).react)

/-- SYS_REP (R152): REP makes the following bundle issue COUNT times. -/
def execSysRep (c : Fin 257) (t : W64) (s : State) : Host.Outcome State Fault Refusal :=
  .next ((s.triggerWord c.val (.sys .rep) t).react)

/-- SYS_WAIT (R206): WAIT acts as BAR, then puts the Glade in Clearing unless a routed source is pending. -/
def execSysWait (c : Fin 257) (t : W64) (s : State) : Host.Outcome State Fault Refusal :=
  .next ((s.triggerWord c.val (.sys .wait) t).react)

/-- SYS_ERET (R202): ERET resumes thread code at EPC with EBR, restores repeat state and unmasks events. -/
def execSysEret (c : Fin 257) (s : State) : Host.Outcome State Fault Refusal :=
  .next ((s.triggerWord c.val (.sys .eret) 0#64).react)

/-- SYS_PFLUSH (R190): PFLUSH resets predictor state and lifts the PBAR bar. -/
def execSysPflush (c : Fin 257) (s : State) : Host.Outcome State Fault Refusal :=
  .next ((s.triggerWord c.val (.sys .pflush) 0#64).react)

/-- SYS_PBAR (R191): PBAR bars prediction so every branch has a fixed cost. -/
def execSysPbar (c : Fin 257) (s : State) : Host.Outcome State Fault Refusal :=
  .next ((s.triggerWord c.val (.sys .pbar) 0#64).react)

/-- SYS_FEAT (R92): Q := feature register FEATt. -/
def execSysFeat (c : Fin 257) (t : W64) (s : State) : Host.Outcome State Fault Refusal :=
  .next ((s.triggerWord c.val (.sys .feat) t).react)

/-- SYS_SETTAG (R150): Q := data of SYS.A with tag t[3:0]. -/
def execSysSettag (c : Fin 257) (t : W64) (s : State) : Host.Outcome State Fault Refusal :=
  .next ((s.triggerWord c.val (.sys .settag) t).react)

/-- SYS_GETTAG (R150): Q := tag of t as a plain number. -/
def execSysGettag (c : Fin 257) (t : TWord) (s : State) : Host.Outcome State Fault Refusal :=
  .next ((s.trigger c.val (.sys .gettag) t noFlags).react)

/-- SYS_RDEVEC (R150): Q := EVEC. -/
def execSysRdevec (c : Fin 257) (s : State) : Host.Outcome State Fault Refusal :=
  .next ((s.triggerWord c.val (.sys .rdevec) 0#64).react)

/-- SYS_WREVEC (R150): EVEC := t, refused with OPERAND_RANGE when BASE is misplaced. -/
def execSysWrevec (c : Fin 257) (t : W64) (s : State) : Host.Outcome State Fault Refusal :=
  .next ((s.triggerWord c.val (.sys .wrevec) t).react)

/-- SYS_RDCNT (R153): Q := performance counter t. -/
def execSysRdcnt (c : Fin 257) (t : W64) (s : State) : Host.Outcome State Fault Refusal :=
  .next ((s.triggerWord c.val (.sys .rdcnt) t).react)

/-- SYS_WDOG (R501): Restarts the Glade's or Heartwood's watchdog count. -/
def execSysWdog (c : Fin 257) (s : State) : Host.Outcome State Fault Refusal :=
  .next ((s.triggerWord c.val (.sys .wdog) 0#64).react)

end Sys2Proof.Machine
end

