-- ==== Sys2Proof/Machine/RowsTallies.lean ====
section
/-! DEFINITION. Commands of the Tally controller, the timers and the GPIO trigger inputs (Ch. 15). -/

namespace Sys2Proof.Machine

/-- TLY_SUB (R380): A write to TLY_SUBs subtracts from a source's counter as one operation. -/
def execTlySub (core : Fin 257) (k : Fin 4352) (n : BitVec 16) (s : State) : Host.Outcome State Fault Refusal :=
  .next ((s.subBy core.val k.val n.toNat).settled)

/-- TLY_RAISE (R384): A write to TLY_RAISE increments a SOFT source after its check. -/
def execTlyRaise (who : Fin 258) (v : W64) (s : State) : Host.Outcome State Fault Refusal :=
  .next ((s.raiseBy who.val v).settled)

/-- TLY_ROUTE_WRITE (R383): A write to TLY_ROUTEs changes a route after its partition checks, or sets ROUTE_ERR. -/
def execTlyRouteWrite (who : Fin 258) (k : Fin 4352) (v : W64) (s : State) : Host.Outcome State Fault Refusal :=
  .next ((s.routeBy who.val k.val v).settled)

/-- TALLY_DELIVERY (R382): A pending source is delivered to its effective route, waking or entering its Glades. -/
def execTallyDelivery (k : Fin 4352) (s : State) : Host.Outcome State Fault Refusal :=
  .next ((s.deliverTally k.val).settled)

/-- TIMER_PERIOD (R389): Device time reaching a multiple of PERIOD_US increments TIMER t. -/
def execTimerPeriod (t : Fin 8) (s : State) : Host.Outcome State Fault Refusal :=
  .next ((s.timerPeriodDone t.val).settled)

/-- GPIO_EDGE (R386): A selected change of an input's filtered level counts an edge. -/
def execGpioEdge (n : Fin 16) (run : PinRun) (s : State) : Host.Outcome State Fault Refusal :=
  .next ((s.gpioRun n.val run).settled)

/-- GPIO_STUCK (R387): A filtered level active for STUCK_US increments GPIO_STUCK once. -/
def execGpioStuck (n : Fin 16) (s : State) : Host.Outcome State Fault Refusal :=
  .next ((s.gpioStuck n.val).settled)

/-- GPI_CFG_WRITE (R386): A write to UST_GPIn_CFG keeps the filtered level and restarts its sample count. -/
def execGpiCfgWrite (n : Fin 16) (v : W64) (s : State) : Host.Outcome State Fault Refusal :=
  .next ((s.checkedWrite .heartwood (Reg.UST_GPI_CFG n.val) v (fun s => s.gpiWrite n.val v)).settled)

end Sys2Proof.Machine
end

