-- ==== Sys2Proof/Machine/RowsTxn.lean ====
section
/-! DEFINITION. Commands of the TXU, and the steps of commits and their markers (Chs. 12, 14). -/

namespace Sys2Proof.Machine

/-- TXU_BEGIN (R305): Opens a transaction so later accesses are transactional. -/
def execTxuBegin (c : Fin 256) (s : State) : Host.Outcome State Fault Refusal :=
  .next ((s.triggerWord c.val (.txu .begin_) 0#64).settled)

/-- TXU_COMMIT (R314): Ends the open state and submits the transaction for decision as a long operation. -/
def execTxuCommit (c : Fin 256) (t : W64) (s : State) : Host.Outcome State Fault Refusal :=
  .next ((s.triggerWord c.val (.txu .commit) t).settled)

/-- TXU_ABORT (R322): Aborts the open transaction with code EXPLICIT. -/
def execTxuAbort (c : Fin 256) (t : W64) (s : State) : Host.Outcome State Fault Refusal :=
  .next ((s.triggerWord c.val (.txu .abort) t).settled)

/-- TXU_PASS (R320): Gives up t turns of the ticket rotation. -/
def execTxuPass (c : Fin 256) (t : W64) (s : State) : Host.Outcome State Fault Refusal :=
  .next ((s.triggerWord c.val (.txu .pass) t).settled)

/-- TXU_PROBE (R307): Returns the probe word of the Glade's transaction. -/
def execTxuProbe (c : Fin 256) (s : State) : Host.Outcome State Fault Refusal :=
  .next ((s.triggerWord c.val (.txu .probe) 0#64).settled)

/-- FREE_DECIDE (R317): In a FREE Grove the TXU decides a received commit as a commit or an abort. -/
def execFreeDecide (g : Fin 16) (s : State) : Host.Outcome State Fault Refusal :=
  .next ((s.freeDecide g.val).settled)

/-- TICKET_DECIDE (R319): In a TICKET Grove the TXU decides ticket n once its member's turn action arrives. -/
def execTicketDecide (g : Fin 16) (s : State) : Host.Outcome State Fault Refusal :=
  .next ((s.ticketDecide g.val).settled)

/-- TXU_APPLY (R312): A decided transaction's write set, packets and records are applied and its status written. -/
def execTxuApply (c : Fin 256) (answer : ApplyAnswer) (s : State) : Host.Outcome State Fault Refusal :=
  .next ((s.applyNow c.val answer.refused answer.ports).settled)

/-- MARKER_WRITE_START (R368): The keeper starts a commit-marker line write covering ready durable commits of a
Grove. -/
def execMarkerWriteStart (g : Fin 16) (s : State) : Host.Outcome State Fault Refusal :=
  .next ((s.markerNow g.val).settled)

/-- LINE_WRITE_DONE (R358): A Seedbank line write completes within 1.1 µs. -/
def execLineWriteDone (s : State) : Host.Outcome State Fault Refusal :=
  .next (s.lineDone.settled)

/-- MARKER_SLOT_RETIRE (R367): The keeper retires a marker slot once every affected journal has a durable SYNC. -/
def execMarkerSlotRetire (line : Fin 64) (s : State) : Host.Outcome State Fault Refusal :=
  .next ((s.slotRetire line.val).settled)

end Sys2Proof.Machine
end

