-- ==== Sys2Proof/Machine/Dispatch.lean ====
section
/-! DEFINITION. The meaning of every command, one arm per constructor. -/

namespace Sys2Proof.Machine

def exec (i : Instr) (s : State) : Host.Outcome State Fault Refusal :=
  match i with
  | .porstNRelease world => Sys2Proof.Machine.execPorstNRelease world s
  | .pushGo v => Sys2Proof.Machine.execPushGo v s
  | .bar0StagingWrite off data => Sys2Proof.Machine.execBar0StagingWrite off data s
  | .bootLinkAlternate => Sys2Proof.Machine.execBootLinkAlternate s
  | .holdupNRiseInStructure world => Sys2Proof.Machine.execHoldupNRiseInStructure world s
  | .negLockWrite byHost => Sys2Proof.Machine.execNegLockWrite byHost s
  | .negLockTimeout => Sys2Proof.Machine.execNegLockTimeout s
  | .gladeStart c => Sys2Proof.Machine.execGladeStart c s
  | .keyprogWord slot word => Sys2Proof.Machine.execKeyprogWord slot word s
  | .keyprogRevoke slot => Sys2Proof.Machine.execKeyprogRevoke slot s
  | .regrowStart g off => Sys2Proof.Machine.execRegrowStart g off s
  | .regrowQuiesceTimeout => Sys2Proof.Machine.execRegrowQuiesceTimeout s
  | .regrowApply => Sys2Proof.Machine.execRegrowApply s
  | .bundleIssue c first second reply => Sys2Proof.Machine.execBundleIssue c first second reply s
  | .exceptionEntry c => Sys2Proof.Machine.execExceptionEntry c s
  | .impreciseEntry c => Sys2Proof.Machine.execImpreciseEntry c s
  | .eventEntry c => Sys2Proof.Machine.execEventEntry c s
  | .aluAdd c u t => Sys2Proof.Machine.execAluAdd c u t s
  | .aluSub c u t => Sys2Proof.Machine.execAluSub c u t s
  | .aluAddc c u t => Sys2Proof.Machine.execAluAddc c u t s
  | .aluSubc c u t => Sys2Proof.Machine.execAluSubc c u t s
  | .aluNeg c u t => Sys2Proof.Machine.execAluNeg c u t s
  | .aluPass c u t => Sys2Proof.Machine.execAluPass c u t s
  | .aluAnd c u t => Sys2Proof.Machine.execAluAnd c u t s
  | .aluOr c u t => Sys2Proof.Machine.execAluOr c u t s
  | .aluXor c u t => Sys2Proof.Machine.execAluXor c u t s
  | .aluAndn c u t => Sys2Proof.Machine.execAluAndn c u t s
  | .aluEq c u t => Sys2Proof.Machine.execAluEq c u t s
  | .aluNe c u t => Sys2Proof.Machine.execAluNe c u t s
  | .aluLts c u t => Sys2Proof.Machine.execAluLts c u t s
  | .aluLtu c u t => Sys2Proof.Machine.execAluLtu c u t s
  | .aluLes c u t => Sys2Proof.Machine.execAluLes c u t s
  | .aluLeu c u t => Sys2Proof.Machine.execAluLeu c u t s
  | .aluMins c u t => Sys2Proof.Machine.execAluMins c u t s
  | .aluMinu c u t => Sys2Proof.Machine.execAluMinu c u t s
  | .aluMaxs c u t => Sys2Proof.Machine.execAluMaxs c u t s
  | .aluMaxu c u t => Sys2Proof.Machine.execAluMaxu c u t s
  | .aluSel c u t => Sys2Proof.Machine.execAluSel c u t s
  | .aluAbs c u t => Sys2Proof.Machine.execAluAbs c u t s
  | .mulMulu c t => Sys2Proof.Machine.execMulMulu c t s
  | .mulMuls c t => Sys2Proof.Machine.execMulMuls c t s
  | .mulMulsu c t => Sys2Proof.Machine.execMulMulsu c t s
  | .divDivu c t => Sys2Proof.Machine.execDivDivu c t s
  | .divDivs c t => Sys2Proof.Machine.execDivDivs c t s
  | .divRemu c t => Sys2Proof.Machine.execDivRemu c t s
  | .divRems c t => Sys2Proof.Machine.execDivRems c t s
  | .divRetire c => Sys2Proof.Machine.execDivRetire c s
  | .shfSll c t => Sys2Proof.Machine.execShfSll c t s
  | .shfSrl c t => Sys2Proof.Machine.execShfSrl c t s
  | .shfSra c t => Sys2Proof.Machine.execShfSra c t s
  | .shfRol c t => Sys2Proof.Machine.execShfRol c t s
  | .shfRor c t => Sys2Proof.Machine.execShfRor c t s
  | .shfBfextu c t => Sys2Proof.Machine.execShfBfextu c t s
  | .shfBfexts c t => Sys2Proof.Machine.execShfBfexts c t s
  | .shfBfins c t => Sys2Proof.Machine.execShfBfins c t s
  | .shfBrev c t => Sys2Proof.Machine.execShfBrev c t s
  | .shfBswap c t => Sys2Proof.Machine.execShfBswap c t s
  | .shfClz c t => Sys2Proof.Machine.execShfClz c t s
  | .shfCtz c t => Sys2Proof.Machine.execShfCtz c t s
  | .shfPopc c t => Sys2Proof.Machine.execShfPopc c t s
  | .ckuC32c c w t => Sys2Proof.Machine.execCkuC32c c w t s
  | .ckuC64 c w t => Sys2Proof.Machine.execCkuC64 c w t s
  | .ckuC16 c w t => Sys2Proof.Machine.execCkuC16 c w t s
  | .ckuPar c t => Sys2Proof.Machine.execCkuPar c t s
  | .ckuParb c t => Sys2Proof.Machine.execCkuParb c t s
  | .ckuBrev8 c t => Sys2Proof.Machine.execCkuBrev8 c t s
  | .ckuBrev16 c t => Sys2Proof.Machine.execCkuBrev16 c t s
  | .ckuBrev32 c t => Sys2Proof.Machine.execCkuBrev32 c t s
  | .ckuBlk32c c t => Sys2Proof.Machine.execCkuBlk32c c t s
  | .ckuBlk64 c t => Sys2Proof.Machine.execCkuBlk64 c t s
  | .ckuBlk16 c t => Sys2Proof.Machine.execCkuBlk16 c t s
  | .ckuBlockRetire c answer => Sys2Proof.Machine.execCkuBlockRetire c answer s
  | .immSet c t => Sys2Proof.Machine.execImmSet c t s
  | .timeNow c => Sys2Proof.Machine.execTimeNow c s
  | .sysBar c => Sys2Proof.Machine.execSysBar c s
  | .sysIfence c => Sys2Proof.Machine.execSysIfence c s
  | .sysRep c t => Sys2Proof.Machine.execSysRep c t s
  | .sysWait c t => Sys2Proof.Machine.execSysWait c t s
  | .sysEret c => Sys2Proof.Machine.execSysEret c s
  | .sysPflush c => Sys2Proof.Machine.execSysPflush c s
  | .sysPbar c => Sys2Proof.Machine.execSysPbar c s
  | .sysFeat c t => Sys2Proof.Machine.execSysFeat c t s
  | .sysSettag c t => Sys2Proof.Machine.execSysSettag c t s
  | .sysGettag c t => Sys2Proof.Machine.execSysGettag c t s
  | .sysRdevec c => Sys2Proof.Machine.execSysRdevec c s
  | .sysWrevec c t => Sys2Proof.Machine.execSysWrevec c t s
  | .sysRdcnt c t => Sys2Proof.Machine.execSysRdcnt c t s
  | .sysWdog c => Sys2Proof.Machine.execSysWdog c s
  | .lsuLd c form t => Sys2Proof.Machine.execLsuLd c form t s
  | .lsuLw c form t => Sys2Proof.Machine.execLsuLw c form t s
  | .lsuLws c form t => Sys2Proof.Machine.execLsuLws c form t s
  | .lsuLh c form t => Sys2Proof.Machine.execLsuLh c form t s
  | .lsuLhs c form t => Sys2Proof.Machine.execLsuLhs c form t s
  | .lsuLb c form t => Sys2Proof.Machine.execLsuLb c form t s
  | .lsuLbs c form t => Sys2Proof.Machine.execLsuLbs c form t s
  | .lsuSt c form t => Sys2Proof.Machine.execLsuSt c form t s
  | .lsuSw c form t => Sys2Proof.Machine.execLsuSw c form t s
  | .lsuSh c form t => Sys2Proof.Machine.execLsuSh c form t s
  | .lsuSb c form t => Sys2Proof.Machine.execLsuSb c form t s
  | .loadAnswer c first second => Sys2Proof.Machine.execLoadAnswer c first second s
  | .storeDrain c n answer reply => Sys2Proof.Machine.execStoreDrain c n answer reply s
  | .bruEq c flags t => Sys2Proof.Machine.execBruEq c flags t s
  | .bruNe c flags t => Sys2Proof.Machine.execBruNe c flags t s
  | .bruLts c flags t => Sys2Proof.Machine.execBruLts c flags t s
  | .bruGes c flags t => Sys2Proof.Machine.execBruGes c flags t s
  | .bruLtu c flags t => Sys2Proof.Machine.execBruLtu c flags t s
  | .bruGeu c flags t => Sys2Proof.Machine.execBruGeu c flags t s
  | .bruJmp c direct t => Sys2Proof.Machine.execBruJmp c direct t s
  | .bruCall c direct t => Sys2Proof.Machine.execBruCall c direct t s
  | .bruRet c direct t => Sys2Proof.Machine.execBruRet c direct t s
  | .stkEnter c t => Sys2Proof.Machine.execStkEnter c t s
  | .m3Nop c => Sys2Proof.Machine.execM3Nop c s
  | .m3Drop c => Sys2Proof.Machine.execM3Drop c s
  | .m3Dup c => Sys2Proof.Machine.execM3Dup c s
  | .m3Swap c => Sys2Proof.Machine.execM3Swap c s
  | .m3Over c => Sys2Proof.Machine.execM3Over c s
  | .m3Lit8 c imm => Sys2Proof.Machine.execM3Lit8 c imm s
  | .m3Lit16 c imm => Sys2Proof.Machine.execM3Lit16 c imm s
  | .m3Lit32 c imm => Sys2Proof.Machine.execM3Lit32 c imm s
  | .m3Add c => Sys2Proof.Machine.execM3Add c s
  | .m3Sub c => Sys2Proof.Machine.execM3Sub c s
  | .m3And c => Sys2Proof.Machine.execM3And c s
  | .m3Or c => Sys2Proof.Machine.execM3Or c s
  | .m3Xor c => Sys2Proof.Machine.execM3Xor c s
  | .m3Neg c => Sys2Proof.Machine.execM3Neg c s
  | .m3Mul c => Sys2Proof.Machine.execM3Mul c s
  | .m3Div c => Sys2Proof.Machine.execM3Div c s
  | .m3Rem c => Sys2Proof.Machine.execM3Rem c s
  | .m3Shl c => Sys2Proof.Machine.execM3Shl c s
  | .m3Shr c => Sys2Proof.Machine.execM3Shr c s
  | .m3Sar c => Sys2Proof.Machine.execM3Sar c s
  | .m3Ld c first second reply => Sys2Proof.Machine.execM3Ld c first second reply s
  | .m3Ldb c first second reply => Sys2Proof.Machine.execM3Ldb c first second reply s
  | .m3St c => Sys2Proof.Machine.execM3St c s
  | .m3Stb c => Sys2Proof.Machine.execM3Stb c s
  | .m3Jmp c off => Sys2Proof.Machine.execM3Jmp c off s
  | .m3Jz c off => Sys2Proof.Machine.execM3Jz c off s
  | .m3Jnz c off => Sys2Proof.Machine.execM3Jnz c off s
  | .m3Call c off => Sys2Proof.Machine.execM3Call c off s
  | .m3Ret c => Sys2Proof.Machine.execM3Ret c s
  | .m3Ncall c target => Sys2Proof.Machine.execM3Ncall c target s
  | .m3Exit c => Sys2Proof.Machine.execM3Exit c s
  | .m3Unsupported c opcode => Sys2Proof.Machine.execM3Unsupported c opcode s
  | .qpuDeq c t => Sys2Proof.Machine.execQpuDeq c t s
  | .qpuSkip c t => Sys2Proof.Machine.execQpuSkip c t s
  | .qpuPut c t => Sys2Proof.Machine.execQpuPut c t s
  | .qpuPutl c t => Sys2Proof.Machine.execQpuPutl c t s
  | .qpuPutt c t => Sys2Proof.Machine.execQpuPutt c t s
  | .qpuAbandon c t => Sys2Proof.Machine.execQpuAbandon c t s
  | .qpuDepth c t => Sys2Proof.Machine.execQpuDepth c t s
  | .qpuFlush c t => Sys2Proof.Machine.execQpuFlush c t s
  | .qpuRetire c n => Sys2Proof.Machine.execQpuRetire c n s
  | .qpuStreamWord c k => Sys2Proof.Machine.execQpuStreamWord c k s
  | .jauPut c t => Sys2Proof.Machine.execJauPut c t s
  | .jauPutl c t => Sys2Proof.Machine.execJauPutl c t s
  | .jauPutt c t => Sys2Proof.Machine.execJauPutt c t s
  | .jauClose c t => Sys2Proof.Machine.execJauClose c t s
  | .jauAbandon c t => Sys2Proof.Machine.execJauAbandon c t s
  | .jauSeal c t => Sys2Proof.Machine.execJauSeal c t s
  | .jauSealRetire c => Sys2Proof.Machine.execJauSealRetire c s
  | .recordAccept c => Sys2Proof.Machine.execRecordAccept c s
  | .txuBegin c => Sys2Proof.Machine.execTxuBegin c s
  | .txuCommit c t => Sys2Proof.Machine.execTxuCommit c t s
  | .txuAbort c t => Sys2Proof.Machine.execTxuAbort c t s
  | .txuPass c t => Sys2Proof.Machine.execTxuPass c t s
  | .txuProbe c => Sys2Proof.Machine.execTxuProbe c s
  | .freeDecide g => Sys2Proof.Machine.execFreeDecide g s
  | .ticketDecide g => Sys2Proof.Machine.execTicketDecide g s
  | .txuApply c answer => Sys2Proof.Machine.execTxuApply c answer s
  | .markerWriteStart g => Sys2Proof.Machine.execMarkerWriteStart g s
  | .lineWriteDone => Sys2Proof.Machine.execLineWriteDone s
  | .markerSlotRetire line => Sys2Proof.Machine.execMarkerSlotRetire line s
  | .scrubWord g skip => Sys2Proof.Machine.execScrubWord g skip s
  | .patrolBurst n => Sys2Proof.Machine.execPatrolBurst n s
  | .zeroFill n bursts => Sys2Proof.Machine.execZeroFill n bursts s
  | .retireWrite g n v => Sys2Proof.Machine.execRetireWrite g n v s
  | .injectWrite g v => Sys2Proof.Machine.execInjectWrite g v s
  | .errRecordFree k n => Sys2Proof.Machine.execErrRecordFree k n s
  | .qmConfig v => Sys2Proof.Machine.execQmConfig v s
  | .qmFlush v => Sys2Proof.Machine.execQmFlush v s
  | .qmReset v => Sys2Proof.Machine.execQmReset v s
  | .qmPin v => Sys2Proof.Machine.execQmPin v s
  | .qmUnpin v => Sys2Proof.Machine.execQmUnpin v s
  | .qmRead v => Sys2Proof.Machine.execQmRead v s
  | .qmBadOp v => Sys2Proof.Machine.execQmBadOp v s
  | .qmPoolWrite k v => Sys2Proof.Machine.execQmPoolWrite k v s
  | .ethFrameReceive lane frame check overrun ago => Sys2Proof.Machine.execEthFrameReceive lane frame check overrun ago s
  | .egressTake link port => Sys2Proof.Machine.execEgressTake link port s
  | .jwOpen j readOk timely => Sys2Proof.Machine.execJwOpen j readOk timely s
  | .jwSeal j => Sys2Proof.Machine.execJwSeal j s
  | .jwFormat j => Sys2Proof.Machine.execJwFormat j s
  | .jwPersist j => Sys2Proof.Machine.execJwPersist j s
  | .jwReopen j readOk timely => Sys2Proof.Machine.execJwReopen j readOk timely s
  | .jwBadOp op j => Sys2Proof.Machine.execJwBadOp op j s
  | .captureTrigger j => Sys2Proof.Machine.execCaptureTrigger j s
  | .captureEnd j => Sys2Proof.Machine.execCaptureEnd j s
  | .jrelWrite j v => Sys2Proof.Machine.execJrelWrite j v s
  | .nvmeCompletion ctrl status => Sys2Proof.Machine.execNvmeCompletion ctrl status s
  | .nvmeTimeout ctrl => Sys2Proof.Machine.execNvmeTimeout ctrl s
  | .nvmeControllerFatal ctrl => Sys2Proof.Machine.execNvmeControllerFatal ctrl s
  | .sbUpdateDirectory v => Sys2Proof.Machine.execSbUpdateDirectory v s
  | .sbUpdatePointers v => Sys2Proof.Machine.execSbUpdatePointers v s
  | .sbUpdateLastFault v => Sys2Proof.Machine.execSbUpdateLastFault v s
  | .sbBadRecord v => Sys2Proof.Machine.execSbBadRecord v s
  | .tlySub core k n => Sys2Proof.Machine.execTlySub core k n s
  | .tlyRaise who v => Sys2Proof.Machine.execTlyRaise who v s
  | .tlyRouteWrite who k v => Sys2Proof.Machine.execTlyRouteWrite who k v s
  | .tallyDelivery k => Sys2Proof.Machine.execTallyDelivery k s
  | .timerPeriod t => Sys2Proof.Machine.execTimerPeriod t s
  | .gpioEdge n active => Sys2Proof.Machine.execGpioEdge n active s
  | .gpioStuck n => Sys2Proof.Machine.execGpioStuck n s
  | .gpiCfgWrite n v => Sys2Proof.Machine.execGpiCfgWrite n v s
  | .modeReqRun => Sys2Proof.Machine.execModeReqRun s
  | .modeReqLean => Sys2Proof.Machine.execModeReqLean s
  | .modeReqIdle => Sys2Proof.Machine.execModeReqIdle s
  | .modeReqDoze => Sys2Proof.Machine.execModeReqDoze s
  | .modeReqRetain => Sys2Proof.Machine.execModeReqRetain s
  | .modeReqLookout => Sys2Proof.Machine.execModeReqLookout s
  | .idleEntry => Sys2Proof.Machine.execIdleEntry s
  | .modeTransitionDone slept => Sys2Proof.Machine.execModeTransitionDone slept s
  | .wakeEvent source => Sys2Proof.Machine.execWakeEvent source s
  | .domainReady d => Sys2Proof.Machine.execDomainReady d s
  | .wakeStepTimeout w => Sys2Proof.Machine.execWakeStepTimeout w s
  | .wakeRetry d => Sys2Proof.Machine.execWakeRetry d s
  | .rcOscTimeout => Sys2Proof.Machine.execRcOscTimeout s
  | .lookoutSample reading => Sys2Proof.Machine.execLookoutSample reading s
  | .groveClearingEnter g => Sys2Proof.Machine.execGroveClearingEnter g s
  | .brownout r world => Sys2Proof.Machine.execBrownout r world s
  | .pwrDomWrite d v => Sys2Proof.Machine.execPwrDomWrite d v s
  | .pwrRailWrite r v => Sys2Proof.Machine.execPwrRailWrite r v s
  | .vsenseSample uv => Sys2Proof.Machine.execVsenseSample uv s
  | .holdupNLow => Sys2Proof.Machine.execHoldupNLow s
  | .holdupReturn world => Sys2Proof.Machine.execHoldupReturn world s
  | .clockMonitorWindow n count locked reference => Sys2Proof.Machine.execClockMonitorWindow n count locked reference s
  | .islandRelock n clean => Sys2Proof.Machine.execIslandRelock n clean s
  | .sideResetRelease n => Sys2Proof.Machine.execSideResetRelease n s
  | .timeStepWrite v => Sys2Proof.Machine.execTimeStepWrite v s
  | .pllLock o => Sys2Proof.Machine.execPllLock o s
  | .laneUp n trained => Sys2Proof.Machine.execLaneUp n trained s
  | .laneLinkLoss n => Sys2Proof.Machine.execLaneLinkLoss n s
  | .pcieCompletionTimeout c => Sys2Proof.Machine.execPcieCompletionTimeout c s
  | .pcieCompletion c completion => Sys2Proof.Machine.execPcieCompletion c completion s
  | .pcieInboundRequest complex port request => Sys2Proof.Machine.execPcieInboundRequest complex port request s
  | .hostBarAccess bar off request reply => Sys2Proof.Machine.execHostBarAccess bar off request reply s
  | .endpointReset linkLoss => Sys2Proof.Machine.execEndpointReset linkLoss s
  | .msixSend n => Sys2Proof.Machine.execMsixSend n s
  | .xspiCmd v reply => Sys2Proof.Machine.execXspiCmd v reply s
  | .xspiReadyTimeout => Sys2Proof.Machine.execXspiReadyTimeout s
  | .i2cTransfer v result bytes => Sys2Proof.Machine.execI2cTransfer v result bytes s
  | .uartTx byte => Sys2Proof.Machine.execUartTx byte s
  | .uartRxRead => Sys2Proof.Machine.execUartRxRead s
  | .uartReceive byte framing => Sys2Proof.Machine.execUartReceive byte framing s
  | .ssoWrite who v => Sys2Proof.Machine.execSsoWrite who v s
  | .idcode => Sys2Proof.Machine.execIdcode s
  | .samplePreload pins => Sys2Proof.Machine.execSamplePreload pins s
  | .extest pins => Sys2Proof.Machine.execExtest pins s
  | .clamp => Sys2Proof.Machine.execClamp s
  | .highz => Sys2Proof.Machine.execHighz s
  | .svcChal => Sys2Proof.Machine.execSvcChal s
  | .svcEnter request => Sys2Proof.Machine.execSvcEnter request s
  | .svcAccess op address v reply => Sys2Proof.Machine.execSvcAccess op address v reply s
  | .bypass => Sys2Proof.Machine.execBypass s
  | .linkTrainTimeout l => Sys2Proof.Machine.execLinkTrainTimeout l s
  | .linkMismatchRetry l => Sys2Proof.Machine.execLinkMismatchRetry l s
  | .train l t => Sys2Proof.Machine.execTrain l t s
  | .idle l f => Sys2Proof.Machine.execIdle l f s
  | .data l f => Sys2Proof.Machine.execData l f s
  | .blaze l f => Sys2Proof.Machine.execBlaze l f s
  | .timeSync l f => Sys2Proof.Machine.execTimeSync l f s
  | .timeReq l f => Sys2Proof.Machine.execTimeReq l f s
  | .timeResp l f => Sys2Proof.Machine.execTimeResp l f s
  | .nak l f => Sys2Proof.Machine.execNak l f s
  | .nakRepeat l => Sys2Proof.Machine.execNakRepeat l s
  | .nakTimeout l => Sys2Proof.Machine.execNakTimeout l s
  | .join l f => Sys2Proof.Machine.execJoin l f s
  | .assign l f => Sys2Proof.Machine.execAssign l f s
  | .bootReq l f => Sys2Proof.Machine.execBootReq l f s
  | .bootData l f => Sys2Proof.Machine.execBootData l f s
  | .bootEnd l f => Sys2Proof.Machine.execBootEnd l f s
  | .bootResult l f => Sys2Proof.Machine.execBootResult l f s
  | .negOffer l f => Sys2Proof.Machine.execNegOffer l f s
  | .negSet l f => Sys2Proof.Machine.execNegSet l f s
  | .blazeReq l f => Sys2Proof.Machine.execBlazeReq l f s
  | .blazeDone l f => Sys2Proof.Machine.execBlazeDone l f s
  | .msg l f => Sys2Proof.Machine.execMsg l f s
  | .joinSend => Sys2Proof.Machine.execJoinSend s
  | .bootReqSend => Sys2Proof.Machine.execBootReqSend s
  | .timeSyncSend l => Sys2Proof.Machine.execTimeSyncSend l s
  | .rtlAssignCmd v => Sys2Proof.Machine.execRtlAssignCmd v s
  | .blazeStart v => Sys2Proof.Machine.execBlazeStart v s
  | .blazeRequest v => Sys2Proof.Machine.execBlazeRequest v s
  | .bootSend v => Sys2Proof.Machine.execBootSend v s
  | .rtlBootEndCmd v => Sys2Proof.Machine.execRtlBootEndCmd v s
  | .rtlNegSetCmd v => Sys2Proof.Machine.execRtlNegSetCmd v s
  | .rtlMsgCmd v => Sys2Proof.Machine.execRtlMsgCmd v s
  | .mboxPop v => Sys2Proof.Machine.execMboxPop v s
  | .blazePeriod => Sys2Proof.Machine.execBlazePeriod s
  | .blazeSyncEdge => Sys2Proof.Machine.execBlazeSyncEdge s
  | .blazeInitiate => Sys2Proof.Machine.execBlazeInitiate s
  | .cutPoint => Sys2Proof.Machine.execCutPoint s
  | .blazeComplete => Sys2Proof.Machine.execBlazeComplete s
  | .blazeDoneTimeout => Sys2Proof.Machine.execBlazeDoneTimeout s
  | .gctlStop c => Sys2Proof.Machine.execGctlStop c s
  | .gctlStart c => Sys2Proof.Machine.execGctlStart c s
  | .gviewAccess byJtag c r w => Sys2Proof.Machine.execGviewAccess byJtag c r w s
  | .faultAck v => Sys2Proof.Machine.execFaultAck v s
  | .safeReq v => Sys2Proof.Machine.execSafeReq v s
  | .lockstepSeal c => Sys2Proof.Machine.execLockstepSeal c s
  | .sealTimer c => Sys2Proof.Machine.execSealTimer c s
  | .gladeWatchdogExpiry c => Sys2Proof.Machine.execGladeWatchdogExpiry c s
  | .heartwoodWatchdogExpiry => Sys2Proof.Machine.execHeartwoodWatchdogExpiry s
  | .supplyOutOfWindow k => Sys2Proof.Machine.execSupplyOutOfWindow k s
  | .tempSample t => Sys2Proof.Machine.execTempSample t s
  | .registerWrite a v => Sys2Proof.Machine.execRegisterWrite a v s
  | .porstNAssert => Sys2Proof.Machine.execPorstNAssert s
  | .lossOfSupply => Sys2Proof.Machine.execLossOfSupply s
  | .modeReqIllegal m => Sys2Proof.Machine.execModeReqIllegal m s
  | .rtlCmdBadOp v => Sys2Proof.Machine.execRtlCmdBadOp v s
  | .registerReadClear a => Sys2Proof.Machine.execRegisterReadClear a s
  | .uartByteSent => Sys2Proof.Machine.execUartByteSent s
  | .ivrCurrentLimit r mv => Sys2Proof.Machine.execIvrCurrentLimit r mv s
  | .supplyReturn k => Sys2Proof.Machine.execSupplyReturn k s
  | .supplyReturnTimeout k => Sys2Proof.Machine.execSupplyReturnTimeout k s
  | .flippedBit f => Sys2Proof.Machine.execFlippedBit f s

end Sys2Proof.Machine
end

