-- ==== Sys2Proof/Machine/Step.lean ====
section
/-! DEFINITION. One step: the command at the front of the queue; with none waiting, a tick of the time base. -/

namespace Sys2Proof.Machine

/-- One step. The command at the front of the queue is carried out on the state with the rest of the queue. On an empty
queue the part is left to itself: where the time base runs, one tick of it passes (R425); else nothing happens (DESIGN
CHOICE, log 2). -/
def step (s : State) : Host.Outcome State Fault Refusal :=
  match s.pending with
  | i :: rest => exec i { s with pending := rest }
  | [] => .next s.tick

/-- The table gives no row any bits, so no word spells a command: the state is unchanged (log 1). -/
def State.withFetchWord (s : State) (nbits w : Nat) : State :=
  match Sys2Proof.decodeTableWord nbits w with
  | some i => { s with pending := i :: s.pending }
  | none => s

end Sys2Proof.Machine
end

