-- ==== Sys2Proof/Machine/Pins.lean ====
section
/-! DEFINITION. What the device drives on its output pins: the supply and reset states of R523, FAULT_N, HOLDUP_N and
BLAZE_SYNC (R76, R486, R510), the safe-state outputs (R451), and the pins that JTAG holds (R452). -/

namespace Sys2Proof.Machine

/-- An output pin (R522); the boot flash's are one. -/
inductive Pin where
  | faultN
  | holdupN
  | blazeSync
  | sso (n : Nat)
  | tdo
  | xspi
  | uartTxd
deriving DecidableEq, Repr

/-- What the device drives on it: a level; nothing; what its port requires at the moment; what the boundary register holds
(EXTEST, CLAMP). -/
inductive Drive where
  | low
  | high
  | floating
  | port
  | boundary
deriving DecidableEq, Repr

/-- The device holds the HOLDUP_N net low: from its own entry to HOLDUP, with HOLDUP_OUT set, until VSENSE has shown the
bus back for 1 ms (R486). -/
def State.holdsHoldup (s : State) : Bool := s.mode == 9 && s.flag Reg.RTL_BOARD 8 && decide (s.power.high < 1000)

/-- The drive of `p` from STRUCTURE on (R76, R451, R486, R510, R523). FAULT_N and HOLDUP_N are open drain, BLAZE_SYNC is
open source (R522). -/
def State.pinWorking (s : State) (p : Pin) : Drive :=
  match p with
  | .faultN => if s.faultOut then .low else .floating
  | .holdupN => if s.holdsHoldup then .low else .floating
  | .blazeSync => if s.board.syncOut then .high else .floating
  | .sso n => if s.mode = 1 then .floating else if s.ssoDriven.testBit n then .high else .low
  | .tdo => .port
  | .xspi => .port
  | .uartTxd => .high

/-- What the device drives on pin `p` (R523). With VIO33 absent every pin is high-impedance; without VAON, and while
PORST_N is low, all but FAULT_N are, but for what JTAG does while PORST_N is low (R452). -/
def State.pinDrive (s : State) (p : Pin) : Drive :=
  if !s.board.vio33 then .floating
  else if s.board.vaon && s.jtag.pins == 2 && p != .tdo then .floating
  else if s.board.vaon && s.jtag.pins == 1 && p != .tdo then .boundary
  else if !s.board.vaon || !s.board.porst then (if p = .faultN then .low else .floating)
  else s.pinWorking p

end Sys2Proof.Machine
end

