-- ==== Sys2Proof/Safety.lean ====
section
/-! DEFINITION. What the statements say about commands: the answer, what follows it, frames, the bundles that issue,
and what makes a state sound. -/

namespace Sys2Proof.Machine

/-- Memory is in its one canonical form: addresses strictly rising, no byte listed that reads as an unlisted one. -/
def Memory.wf (m : List Host.Cell) : Bool := smWf 0#8 m

/-- The outcome is a next state. -/
def isNext {σ φ ρ : Type} : Host.Outcome σ φ ρ → Bool
  | .next _ => true
  | .fault _ => false
  | .refused _ => false

/-- Command `i` answers a next state from `s`, and `P` holds of that state. -/
def Answers (i : Instr) (s : State) (P : State → Prop) : Prop := ∃ t, exec i s = .next t ∧ P t

/-- Command `i` answers a next state from `s`: a state of which `P` holds, in which what follows of itself
(`State.settled`) has been done. -/
def Settles (i : Instr) (s : State) (P : State → Prop) : Prop := ∃ u, exec i s = .next u.settled ∧ P u

/-- The same where only the reactions to findings follow. -/
def Reacts (i : Instr) (s : State) (P : State → Prop) : Prop := ∃ u, exec i s = .next u.react ∧ P u

/-- Nothing but control registers differs. -/
def CtlOnly (s u : State) : Prop := u = { s with ctl := u.ctl }

/-- Register `r` holds `v`, and nothing else differs. -/
def RegIs (s u : State) (r : Nat) (v : W64) : Prop :=
  CtlOnly s u ∧ ∀ a, u.rd a = if a = r then v else s.rd a

/-- Field `[hi:lo]` of register `r` holds `v`, and nothing else differs. -/
def FieldIs (s u : State) (r hi lo v : Nat) : Prop := RegIs s u r (setField (s.rd r) hi lo v)

/-- The one move of the bundle that a command of ALU, MUL, DIV, SHF, CKU, IMM, TIME, SYS or BRU gives its core: the core,
the trigger, the word moved, and what the slot says to the BRU. -/
def issueOf (i : Instr) : Option (Nat × Trig × TWord × BranchFlags) :=
  let word := fun (c : Fin 257) (tr : Trig) (t : W64) => some (c.val, tr, TWord.plain t, noFlags)
  match i with
  | .aluAdd c u t => word c (.alu u.val .add) t
  | .aluSub c u t => word c (.alu u.val .sub) t
  | .aluAddc c u t => word c (.alu u.val .addc) t
  | .aluSubc c u t => word c (.alu u.val .subc) t
  | .aluNeg c u t => word c (.alu u.val .neg) t
  | .aluPass c u t => word c (.alu u.val .pass) t
  | .aluAnd c u t => word c (.alu u.val .and) t
  | .aluOr c u t => word c (.alu u.val .or) t
  | .aluXor c u t => word c (.alu u.val .xor) t
  | .aluAndn c u t => word c (.alu u.val .andn) t
  | .aluEq c u t => word c (.alu u.val .eq) t
  | .aluNe c u t => word c (.alu u.val .ne) t
  | .aluLts c u t => word c (.alu u.val .lts) t
  | .aluLtu c u t => word c (.alu u.val .ltu) t
  | .aluLes c u t => word c (.alu u.val .les) t
  | .aluLeu c u t => word c (.alu u.val .leu) t
  | .aluMins c u t => word c (.alu u.val .mins) t
  | .aluMinu c u t => word c (.alu u.val .minu) t
  | .aluMaxs c u t => word c (.alu u.val .maxs) t
  | .aluMaxu c u t => word c (.alu u.val .maxu) t
  | .aluSel c u t => word c (.alu u.val .sel) t
  | .aluAbs c u t => word c (.alu u.val .abs) t
  | .mulMulu c t => word c (.mul .mulu) t
  | .mulMuls c t => word c (.mul .muls) t
  | .mulMulsu c t => word c (.mul .mulsu) t
  | .divDivu c t => word c (.div .divu) t
  | .divDivs c t => word c (.div .divs) t
  | .divRemu c t => word c (.div .remu) t
  | .divRems c t => word c (.div .rems) t
  | .shfSll c t => word c (.shf .sll) t
  | .shfSrl c t => word c (.shf .srl) t
  | .shfSra c t => word c (.shf .sra) t
  | .shfRol c t => word c (.shf .rol) t
  | .shfRor c t => word c (.shf .ror) t
  | .shfBfextu c t => word c (.shf .bfextu) t
  | .shfBfexts c t => word c (.shf .bfexts) t
  | .shfBfins c t => word c (.shf .bfins) t
  | .shfBrev c t => word c (.shf .brev) t
  | .shfBswap c t => word c (.shf .bswap) t
  | .shfClz c t => word c (.shf .clz) t
  | .shfCtz c t => word c (.shf .ctz) t
  | .shfPopc c t => word c (.shf .popc) t
  | .ckuC32c c w t => word c (.crc .c32c w.val) t
  | .ckuC64 c w t => word c (.crc .c64 w.val) t
  | .ckuC16 c w t => word c (.crc .c16 w.val) t
  | .ckuPar c t => word c (.cku .par) t
  | .ckuParb c t => word c (.cku .parb) t
  | .ckuBrev8 c t => word c (.cku .brev8) t
  | .ckuBrev16 c t => word c (.cku .brev16) t
  | .ckuBrev32 c t => word c (.cku .brev32) t
  | .ckuBlk32c c t => word c (.block 0) t
  | .ckuBlk64 c t => word c (.block 1) t
  | .ckuBlk16 c t => word c (.block 2) t
  | .immSet c t => word c .immSet t
  | .timeNow c => word c .timeNow 0#64
  | .sysBar c => word c (.sys .bar) 0#64
  | .sysIfence c => word c (.sys .ifence) 0#64
  | .sysEret c => word c (.sys .eret) 0#64
  | .sysPflush c => word c (.sys .pflush) 0#64
  | .sysPbar c => word c (.sys .pbar) 0#64
  | .sysRdevec c => word c (.sys .rdevec) 0#64
  | .sysWdog c => word c (.sys .wdog) 0#64
  | .sysRep c t => word c (.sys .rep) t
  | .sysWait c t => word c (.sys .wait) t
  | .sysFeat c t => word c (.sys .feat) t
  | .sysSettag c t => word c (.sys .settag) t
  | .sysWrevec c t => word c (.sys .wrevec) t
  | .sysRdcnt c t => word c (.sys .rdcnt) t
  | .sysGettag c t => some (c, .sys .gettag, t, noFlags)
  | .bruEq c f t => some (c, .bru .eq, TWord.plain t, f)
  | .bruNe c f t => some (c, .bru .ne, TWord.plain t, f)
  | .bruLts c f t => some (c, .bru .lts, TWord.plain t, f)
  | .bruGes c f t => some (c, .bru .ges, TWord.plain t, f)
  | .bruLtu c f t => some (c, .bru .ltu, TWord.plain t, f)
  | .bruGeu c f t => some (c, .bru .geu, TWord.plain t, f)
  | .bruJmp c d t => some (c, .bru .jmp, TWord.plain t, ⟨d, false, false⟩)
  | .bruCall c d t => some (c, .bru .call, TWord.plain t, ⟨d, false, false⟩)
  | .bruRet c d t => some (c, .bru .ret, TWord.plain t, ⟨d, false, false⟩)
  | _ => none

/-- A bundle stands at the position and may issue. -/
def Ready.isGo : Ready → Bool
  | .go _ => true
  | _ => false

/-- The bundle of core `c` that holds one move, of `v` into trigger `tr`, issues from `s` on that core alone: the core
may issue, no entry is due, the bundle raises no exception, is not annulled and waits for nothing, and no partner of a
pair must reach it first or seal it (R496, R498). -/
def State.issues (s : State) (c : Nat) (tr : Trig) (v : TWord) (fl : BranchFlags) : Bool :=
  let r := s.readyWith c tr v fl
  s.mayIssue c false && !s.entryDue c && r.2.isGo && !r.1.pairHolds c (r.1.nativeStand c r.2)

/-- It is also the last issue of its bundle: no repeat owes another (R194). -/
def State.issuesLast (s : State) (c : Nat) (tr : Trig) (v : TWord) (fl : BranchFlags) : Bool :=
  s.issues c tr v fl && decide ((s.glade c).rep.owed ≤ 1)

/-- The state in which the operation of such a bundle starts: the bundle has been fetched (R153). -/
def State.before (s : State) (c : Nat) (tr : Trig) (v : TWord) (fl : BranchFlags) : State := (s.readyWith c tr v fl).1

/-- A QPU operation of core `c` takes effect at once (R120, R176, R281): no store of its Glade or pair is buffered, no
load of it is unanswered, and no operation waits before it. -/
def State.qpuAtOnce (s : State) (c : Nat) : Bool :=
  (s.glade c).qpuPend.isEmpty && (s.glade c).loads.isEmpty && (s.receivers c).all (fun j => (s.glade j).stores.isEmpty)

/-- The applied Stand Map numbers its journals as R53 does, below 4,096. -/
def State.journalsSound (s : State) : Prop := ∀ j c, s.jcfg j = some c → j < 4096

/-- Where the flow of core `c` goes after a bundle that redirects nothing itself (R94, R184, R194, R195). -/
def State.nextPc (s : State) (c : Nat) : W64 :=
  let x := s.glade c
  match x.redirect with
  | some (t, n) => if n ≤ 1 then t else if 1 < x.rep.owed then x.pc else w64 (x.pc.toNat + s.bundleSize c)
  | none => if 1 < x.rep.owed then x.pc else w64 (x.pc.toNat + s.bundleSize c)

/-- Of a Glade, what a bundle of one register-only operation `tr` leaves: general registers, exception registers, stores
and loads in flight, the run state; `EVEC` but for WREVEC, the bank and mask but for ERET, and the long operations and
scoreboard bits but for those that DIV and a block trigger start. -/
def KeepsCore (tr : Trig) (x y : Glade) : Prop :=
  y.grf = x.grf ∧ y.epc = x.epc ∧ y.ecause = x.ecause ∧ y.eaddr = x.eaddr ∧ y.ebr = x.ebr ∧ y.stores = x.stores
    ∧ y.loads = x.loads ∧ y.run = x.run ∧ (tr ≠ .sys .wrevec → y.evec = x.evec)
    ∧ (tr ≠ .sys .eret → y.inHandler = x.inHandler ∧ y.masked = x.masked)
    ∧ ((∀ o, tr ≠ .div o) → y.divOp = x.divOp) ∧ ((∀ f, tr ≠ .block f) → y.ckuOp = x.ckuOp)
    ∧ ∀ n, n < 64 → (∀ o, tr = .div o → n ≠ x.divRD.toNat) → (∀ f, tr = .block f → n ≠ x.ckuRD.toNat) →
        y.busy n = x.busy n

/-- Ports of ALU `u`. -/
def Bank.alu (b : Bank) (u : Nat) : Alu := if u = 0 then b.alu0 else b.alu1

/-- The entries of core `c`'s operand stack that G56 to G63 cache, the top first (R210). -/
def State.m3Stack (s : State) (c : Nat) : List (BitVec 32) :=
  let n := (s.glade c).rep.cached
  (List.range n).map (fun k => BitVec.ofNat 32 ((s.glade c).g (55 + n - k)).data.toNat)

/-- M3 instruction `o` of `len` bytes can be carried out by core `c` at once (R212, R218): byte code runs and no entry
is due, nothing is left to wait for, the instruction lies in IMEM, the stack allows it, the cache holds what it pops and
has room for what it pushes, and no partner of a pair must reach it first or seal it (R496, R498). -/
def State.m3Ready (s : State) (c : Nat) (o : M3Op) (len : Nat) : Bool :=
  let x := s.glade c
  s.mayIssue c true && !s.entryDue c && x.stores.isEmpty && !s.m3Waits c o && decide (x.pc.toNat + len ≤ 0x8000)
    && (m3StackCheck x.bank o).isNone && decide (o.pops ≤ x.rep.cached ∧ x.rep.cached ≤ 8)
    && decide (x.rep.cached - o.pops + o.pushes ≤ 8) && !s.pairHolds c (s.m3Stand c (some o) (.done s))

/-- The QPU of a Glade `x` that issues delivers `w` (R275): on its way to `QPU.Q` for a Grove-stored queue; as a long
operation into G[RD], busy until it retires, for a DRAM-stored one. -/
def QpuGives (x y : Glade) (dram : Bool) (w : TWord) : Prop :=
  if dram then
    (∃ o, y.qpuOps = x.qpuOps ++ [o] ∧ o.rd = x.qpuRD.toNat ∧ o.result = w ∧ o.fail = none)
      ∧ y.busy x.qpuRD.toNat = decide (x.qpuRD.toNat ≠ 0)
  else y.bank.due = x.bank.due ++ [⟨x.bank.pos + 2, .qpu w⟩]

/-- The same for the DEQ that opens a packet (R275, R279): its header `h` goes to `QPU.H` with the word. -/
def QpuOpens (x y : Glade) (dram : Bool) (w : TWord) (h : W64) : Prop :=
  if dram then
    (∃ o, y.qpuOps = x.qpuOps ++ [o] ∧ o.rd = x.qpuRD.toNat ∧ o.result = w ∧ o.header = some h ∧ o.fail = none)
      ∧ y.busy x.qpuRD.toNat = decide (x.qpuRD.toNat ≠ 0)
  else y.bank.due = x.bank.due ++ [⟨x.bank.pos + 2, .qpuOpen w h⟩]

/-- Core `c` keeps nothing that could go on: no QPU operation, no SEAL, no load that was cut off, no read of a
root-port window still to be sent, and no COMMIT that its TXU has not received or that has no turn (R175, R176, R317,
R338, R428). -/
def State.coreRests (s : State) (c : Nat) : Bool :=
  (s.glade c).qpuPend.isEmpty && (s.glade c).sealOp.isNone
    && (s.glade c).loads.all (fun l => l.dead.isNone && (l.asked || !s.asksOutside l.addr))
    && (match s.txn c with
      | some t => t.state != .committing
          || (if s.ticketMode (c / 16) then s.isMember c else (s.txu (c / 16)).received.contains (c % 16))
      | none => true)

/-- No Rootlink engine has anything to do of itself: nothing held or to be passed on, nothing that could leave, no run
that is over, no link that could begin to train, no NEG_OFFER due, and no command of `RTL_CMD` in progress. -/
def State.linksRest (s : State) : Bool :=
  s.rootlink.held.isEmpty && s.rootlink.later.isEmpty
    && s.rootlink.links.all (fun p => (s.link p.1).rx.isEmpty && (s.pumpOne p.1).isNone)
    && s.rootlink.runs.all (fun r => !(r.raised && r.answers.isEmpty))
    && s.linkEntries.all (fun e => !(s.linkState (byteN e 0) == 1 || s.linkState (byteN e 0) == 3)
      || (s.link (byteN e 0)).trained || !s.linkReady e 1)
    && (match s.upstream with
      | some u => if s.mode != 3 || !s.isWorker || s.ownId.isNone || !s.linkUp u then !s.rootlink.offered
          else s.rootlink.offered || s.flag Reg.NEG_LOCK 0
      | none => true)
    && s.rootlink.command.isNone

/-- No port has anything to do of itself: every NVMe command is with its drive, no flash poll is over, no access of the
service port is in progress, and IDLE has not been left (R347, R393, R448, R454). -/
def State.portsRest (s : State) : Bool :=
  s.jw.queues.all (fun q => q.2.all (fun k => k.sent))
    && !(s.flag Reg.UST_XSPI_CMD 62 && s.board.flashReady != 0 && decide (s.board.flashReady ≤ s.time.count.toNat + 1))
    && s.jtag.access.isNone && (s.mode != 5 || s.flag Reg.PWR_MODE 8 || s.allClearing)

/-- Nothing follows of itself from `s` (`State.settled`): no core keeps anything that could go on, no VOID or SYNC
record is due, no SEAL or REOPEN of `JW_CMD` waits, no command of `QM_CMD` waits, no admitted commit waits for its step 2, no PASS is due, no journal
waits for recovery, which has been noted or is not over, no finding waits, nothing seals, no shutdown or last-fault
record is due, no Seedbank line waits for a free port, and the Rootlink engines and the ports have nothing to do. -/
def State.atRest (s : State) : Bool :=
  s.glades.all (fun p => s.coreRests p.1 && p.2.sealOp.isNone && p.2.qpuPend.isEmpty)
    && s.jw.toRecover.isEmpty && s.syncNeeds.isEmpty
    && s.jw.journals.all (fun p => (s.journal p.1).tail.all (fun t => !t.void || t.settled))
    && (List.range 16).all (fun g => (s.txu g).passDone.isEmpty
      && (s.txu g).decided.all (fun k => match s.txn (16 * g + k) with
        | some t => t.step != .admitted
        | none => true))
    && (match s.jw.command with
      | some k => k.issued || (k.op != 2 && k.op != 5)
      | none => true)
    && s.qm.command.isNone
    && (s.flag Reg.HW_SB_STATUS 22 || s.keeper.recovering || !s.recoveryOver) && s.findings.isEmpty && s.jw.sealing == 0
    && s.linksRest && s.portsRest
    && s.power.faultRecord.isEmpty && (s.power.down || (s.mode != 9 && s.mode != 10)) && (s.keeper.port.isSome || s.keeper.queue.isEmpty)

/-- Link `l` is UP, no flit has failed on it, and nothing waits to be sent on it. -/
def State.quietLink (s : State) (l : Nat) : Bool :=
  s.linkUp l && !(s.link l).failing && (s.link l).ctrl.isEmpty && (s.link l).free && (s.link l).fwd.isEmpty
    && (s.link l).rx.isEmpty

/-- Flit `f` of TYPE `ty` and SUB `sub` passes its checks on link `l`, and is the next one where it is sequenced (R458 to
R462). -/
def State.flitPasses (s : State) (l : Nat) (f : Flit) (ty sub : Nat) : Bool :=
  s.quietLink l && flitIntact f ty sub && topOk ty f.top
    && (decide (ty ≠ 1 ∧ ty ≠ 2 ∧ ty ≠ 3) || decide (f.fseq.toNat = (s.link l).expect % 4096))

/-- The state in which the content of such a flit is taken: its ACK and LIMIT count, a sequenced one moves the FSEQ
expected, and `freed` buffer slots are free again (R461, R463). -/
def State.heard (s : State) (l : Nat) (f : Flit) (seqd : Bool) (freed : Nat) : State :=
  let x := s.link l
  s.setLink l { x with
    retry := ackRetry f.ack.toNat x.retry
    limit := f.limit.toNat
    expect := if seqd then x.expect + 1 else x.expect
    freed := x.freed + freed }

/-- A flit queued on link `l` leaves at once: UP, nothing before it, room in the retry buffer and credit (R461, R463). -/
def State.sendsNow (s : State) (l : Nat) : Bool :=
  s.quietLink l && decide ((s.link l).retry.length < 256 ∧ (s.link l).credit ≠ 0)

/-- A flit that left on a link. -/
def Out.isFlit : Out → Bool
  | .flit _ _ => true
  | _ => false

/-- What a flit that left carries, unless it is an IDLE one: its link, TYPE, FSEQ and words 1 to 6. -/
def Out.content : Out → Option (Nat × Nat × Nat × List W64)
  | .flit l ws =>
    let h := ws.headD 0#64
    if field h 3 0 = 0 then none else some (l, field h 3 0, field h 19 8, (ws.drop 1).take 6)
  | _ => none

/-- The payload of a flit: its words, padded with zeroes to six. -/
def sixWords (ws : List W64) : List W64 := (ws ++ List.replicate 6 0#64).take 6

/-- The blocks of a flit on one lane (R457). -/
def Out.isBlocks : Out → Bool
  | .blocks _ _ => true
  | _ => false

/-- A flit of TYPE `ty` and SUB `sub` left last on link `l`, its words 1 to 6 being `words`, padded with zeroes, and
after it its blocks; nothing left before it, save the IDLE flit that 4,095 flits without one make due (R457). -/
def Sent (s u : State) (l ty sub : Nat) (words : List W64) : Prop :=
  ∃ h crc blocks before,
    u.out = blocks ++ .flit l (h :: sixWords words ++ [crc]) :: (before ++ s.out)
      ∧ blocks.all Out.isBlocks = true ∧ ((s.link l).streak < 4095 → before = []) ∧ field h 3 0 = ty ∧ field h 7 4 = sub

/-- Nothing but what left on link `l` differs, and what its line holds of it: the flits since the last IDLE flit, and the
scramblers of its lanes (R457). -/
def LineOnly (s u : State) (l : Nat) : Prop :=
  u = { s with
    out := u.out
    rootlink := { s.rootlink with links := u.rootlink.links, scramblers := u.rootlink.scramblers } }
    ∧ ∀ k, u.link k = if k = l then { s.link l with streak := (u.link l).streak } else s.link k

/-- Word 1 of a CTRL flit that this device sends: its own ID, where it has one (R459). -/
def State.ownWord (s : State) : W64 :=
  match s.ownId with
  | some n => w64 (n + 2 ^ 14)
  | none => 0#64

/-- A truth value as a word: 1 or 0. -/
def truth (p : Prop) [Decidable p] : W64 := if p then 1#64 else 0#64

end Sys2Proof.Machine
end

