-- ==== Sys2Proof/Certificates/Slice0/Obligations.lean ====
section
/-! DEFINITION. The statements for the provers. -/

open Sys2Proof Sys2Proof.Machine

/-! ### The block as a whole -/

/-- A step carries out the command at the front of the queue, on the state with the rest of the queue. -/
def Obligations.FrontCommand : Prop :=
  ∀ (i : Instr) (s : State), step { s with pending := i :: s.pending } = exec i s

/-- With no command waiting, a tick of the time base passes where it runs (R425): the count advances by 4 ns, or by 8
or 0 when the rate correction has gathered a step, what is delivered never decreases, and no core or byte of memory
changes; where it does not run, nothing changes. That a tick is what an empty queue does is the model's choice (log 2).
-/
def Obligations.EmptyQueueTicks : Prop :=
  ∀ s : State, s.pending = [] →
    (s.timeRuns = false → step s = .next s)
    ∧ (s.timeRuns = true → ∃ t, step s = .next t ∧ t.pending = [] ∧ t.glades = s.glades ∧ t.mem = s.mem
        ∧ t.now = max s.now t.time.count.toNat
        ∧ t.time.count = s.time.count + (if 4000000000 ≤ s.time.frac + 4 * s.ppb then 8#64
            else if s.time.frac + 4 * s.ppb ≤ -4000000000 then 0#64 else 4#64))

/-- Reset: the queue is empty, every register of the register tables holds the reset value its table gives (`HW_ID` the
value of one grade or the other, R4), no byte of memory is listed, every core is at rest, no Stand Map is applied, and
the mode is STRUCTURE, as `PWR_MODE` resets. What the spec states no reset value for is the model's choice: zero
general registers and ports (log 3), no byte listed, which reads zero (log 4), key slots, drives and straps (log 5),
nothing in progress (log 74), computed fields (log 108). -/
def Obligations.ResetState : Prop :=
  State.reset.pending = [] ∧ State.reset.mem = [] ∧ State.reset.sections = []
    ∧ (∀ c, State.reset.glade c = Glade.reset) ∧ Glade.reset.run = .off ∧ State.reset.mode = 2
    ∧ (∀ a row, regAt a = some row → a ≠ Reg.HW_ID → State.reset.rd a = w64 row.reset)
    ∧ (State.reset.rd Reg.HW_ID = 0x1122560#64 ∨ State.reset.rd Reg.HW_ID = 0x1112560#64)
    ∧ Memory.wf State.reset.mem = true

/-- Every step keeps the memory's canonical form: addresses strictly rising, no byte listed that reads as an unlisted
one. -/
def Obligations.StepKeepsMemory : Prop :=
  ∀ s t : State, Memory.wf s.mem = true → step s = .next t → Memory.wf t.mem = true

/-- Every command leaves the waiting commands as they are. -/
def Obligations.CommandsLeaveQueue : Prop :=
  ∀ (i : Instr) (s t : State), exec i s = .next t → t.pending = s.pending

/-- What follows of itself is nothing in a state at rest: what a command then leaves is what it answers. -/
def Obligations.RestIsKept : Prop :=
  ∀ s : State, s.atRest = true → s.settled = s ∧ s.react = s

/-- Slots and byte code (R93, R97 to R101, R214): the slots of a bundle laid out word by word are read back as they
were, with every field at every value its encoding admits, and so is every M3 instruction with its immediate. -/
def Obligations.EncodingsAgree : Prop :=
  (∀ slots : List MoveSlot, (∀ (b : Nat) (sl : MoveSlot), slots[b]? = some sl → MoveSlot.wf b sl) →
    slotsOf slots.length (slots.flatMap (fun sl => bytesLE 4 (slotWord sl))) = slots)
  ∧ (∀ o : M3Op, o ≠ .unsupported → (m3Bytes o).2.length = m3Imm (m3Bytes o).1 ∧ (m3Bytes o).1 < 256
      ∧ m3Decode (m3Bytes o).1 (m3Bytes o).2 = o)

/-- The word code (R235 to R238): a stored word reads as it was written, an invalid one as zero; one wrong bit is found
in its place, and corrected under MEMCODE 0; two wrong bits are never taken for a good word or for one wrong bit; the
poisoned word is known as such. -/
def Obligations.WordCode : Prop :=
  (∀ (data : W64) (valid memcode1 : Bool),
    let c := encodeWord data valid
    let bad := fun (p : Nat) => BitVec.ofNat 73 (2 ^ p)
    decodeWord memcode1 c = .ok c ∧ codeData c = (if valid then data else 0#64)
      ∧ (∀ p, p < 73 → decodeWord false (c ^^^ bad p) = .corrected c p ∧ decodeWord true (c ^^^ bad p) = .uncorrectable)
      ∧ (∀ p q, p < q → q < 73 → decodeWord memcode1 (c ^^^ bad p ^^^ bad q) = .uncorrectable
          ∨ decodeWord memcode1 (c ^^^ bad p ^^^ bad q) = .poisoned))
  ∧ ∀ memcode1, decodeWord memcode1 poisonWord = .poisoned

/-! ### Units of a Glade (Ch. 05) -/

/-- Every ALU command whose bundle issues gives R130's result, and R131's carry, in the ports of its own ALU.

Completion: under these conditions, on state and operands alone, `exec` answers a next state for `aluAdd`, `aluSub`,
`aluAddc`, `aluSubc`, `aluNeg`, `aluPass`, `aluAnd`, `aluOr`, `aluXor`, `aluAndn`, `aluEq`, `aluNe`, `aluLts`,
`aluLtu`, `aluLes`, `aluLeu`, `aluMins`, `aluMinu`, `aluMaxs`, `aluMaxu`, `aluSel`, `aluAbs`. -/
def Obligations.AluResults : Prop :=
  ∀ (s : State) (c : Fin 257) (u : Fin 2) (v : W64), (s.glade c).stuckBit = none →
    let p := (s.settledGlade c).bank.alu u
    let gives := fun (i : Instr) (o : AluOp) (q k : W64) =>
      s.issues c (.alu u o) (TWord.plain v) noFlags = true →
        Answers i s (fun t => (t.glade c).bank.alu u = ⟨p.a, p.b, q, k⟩ ∧ (t.glade c).pc = s.nextPc c)
    gives (.aluAdd c u v) .add (p.a + v) (w64 ((p.a.toNat + v.toNat) / 2 ^ 64))
    ∧ gives (.aluSub c u v) .sub (p.a - v) (truth (p.a.toNat < v.toNat))
    ∧ gives (.aluAddc c u v) .addc (p.a + v + p.c) (w64 ((p.a.toNat + v.toNat + p.c.toNat) / 2 ^ 64))
    ∧ gives (.aluSubc c u v) .subc (p.a - v - p.c) (truth (p.a.toNat < v.toNat + p.c.toNat))
    ∧ gives (.aluNeg c u v) .neg (-v) p.c
    ∧ gives (.aluPass c u v) .pass v p.c
    ∧ gives (.aluAnd c u v) .and (p.a &&& v) p.c
    ∧ gives (.aluOr c u v) .or (p.a ||| v) p.c
    ∧ gives (.aluXor c u v) .xor (p.a ^^^ v) p.c
    ∧ gives (.aluAndn c u v) .andn (p.a &&& ~~~v) p.c
    ∧ gives (.aluEq c u v) .eq (truth (p.a = v)) p.c
    ∧ gives (.aluNe c u v) .ne (truth (p.a ≠ v)) p.c
    ∧ gives (.aluLts c u v) .lts (truth (p.a.toInt < v.toInt)) p.c
    ∧ gives (.aluLtu c u v) .ltu (truth (p.a.toNat < v.toNat)) p.c
    ∧ gives (.aluLes c u v) .les (truth (p.a.toInt ≤ v.toInt)) p.c
    ∧ gives (.aluLeu c u v) .leu (truth (p.a.toNat ≤ v.toNat)) p.c
    ∧ gives (.aluMins c u v) .mins (if v.toInt < p.a.toInt then v else p.a) p.c
    ∧ gives (.aluMinu c u v) .minu (if v.toNat < p.a.toNat then v else p.a) p.c
    ∧ gives (.aluMaxs c u v) .maxs (if p.a.toInt < v.toInt then v else p.a) p.c
    ∧ gives (.aluMaxu c u v) .maxu (if p.a.toNat < v.toNat then v else p.a) p.c
    ∧ gives (.aluSel c u v) .sel (if v ≠ 0#64 then p.a else p.b) p.c
    ∧ gives (.aluAbs c u v) .abs (if 0 ≤ v.toInt then v else -v) p.c

/-- A word of MUL: the low and high half of an exact product, on its way to the ports at distance 2.

A DIV command whose bundle issues starts a long operation into G[RD], whose scoreboard bit it sets; at its end
DIV_RETIRE gives R136's quotient or remainder, and clears the bit. G0 stays zero.

Completion: under these conditions, on state and operands alone, `exec` answers a next state for `mulMulu`, `mulMuls`,
`mulMulsu`, `divDivu`, `divDivs`, `divRemu`, `divRems`, `divRetire`. -/
def Obligations.MulDivResults : Prop :=
  (∀ (s : State) (c : Fin 257) (v : W64),
    let b := (s.settledGlade c).bank
    let gives := fun (i : Instr) (o : MulOp) (product : Int) =>
      s.issues c (.mul o) (TWord.plain v) noFlags = true →
        Reacts i s (fun t =>
          (t.glade c).bank.due = b.due ++ [⟨b.pos + 2, .mul (BitVec.ofInt 64 product) (BitVec.ofInt 64 (product / 2 ^ 64))⟩]
            ∧ (t.glade c).pc = s.nextPc c)
    gives (.mulMulu c v) .mulu (b.mulA.toNat * v.toNat)
    ∧ gives (.mulMuls c v) .muls (b.mulA.toInt * v.toInt)
    ∧ gives (.mulMulsu c v) .mulsu (b.mulA.toInt * v.toNat))
  ∧ ((∀ (s : State) (c : Fin 257) (v : W64) (o : DivOp),
    let i : Instr := match o with
      | .divu => .divDivu c v
      | .divs => .divDivs c v
      | .remu => .divRemu c v
      | .rems => .divRems c v
    s.issues c (.div o) (TWord.plain v) noFlags = true →
      Reacts i s (fun t =>
        let rd := (s.glade c).divRD.toNat
        ((t.glade c).divOp.map (fun p => (p.rd, p.a, p.t, p.op)) = some (rd, (s.glade c).divA, v, o.code))
          ∧ (t.glade c).busy rd = decide (rd ≠ 0) ∧ (t.glade c).grf = (s.glade c).grf))
  ∧ (∀ (s : State) (c : Fin 257) (p : LongOp), (s.glade c).divOp = some p → p.rd < 64 →
      Answers (.divRetire c) s (fun t =>
        (t.glade c).divOp = none ∧ (t.glade c).busy p.rd = false
          ∧ (∀ n, n < 64 → (t.glade c).g n = if n = p.rd ∧ n ≠ 0 then
              TWord.plain (if p.t = 0#64 then (if p.op < 2 then BitVec.allOnes 64 else p.a)
                else match p.op with
                  | 0 => p.a / p.t
                  | 1 => BitVec.ofInt 64 (p.a.toInt.tdiv p.t.toInt)
                  | 2 => p.a % p.t
                  | _ => BitVec.ofInt 64 (p.a.toInt.tmod p.t.toInt))
            else (s.glade c).g n))))

/-- Every SHF command whose bundle issues gives R137's result in `SHF.Q`. A field (BFEXTU, BFEXTS, BFINS) of POS and
WIDTH ends at bit 63 (R139).

Completion: under these conditions, on state and operands alone, `exec` answers a next state for `shfSll`, `shfSrl`,
`shfSra`, `shfRol`, `shfRor`, `shfBfextu`, `shfBfexts`, `shfBfins`, `shfBrev`, `shfBswap`, `shfClz`, `shfCtz`,
`shfPopc`. -/
def Obligations.ShfResults : Prop :=
  ∀ (s : State) (c : Fin 257) (v : W64),
    let a := (s.settledGlade c).bank.shfA
    let b := (s.settledGlade c).bank.shfB
    let pos := v.toNat % 64
    let width := min (v.toNat / 256 % 128) (64 - pos)
    let gives := fun (i : Instr) (o : ShfOp) (P : W64 → Prop) =>
      s.issues c (.shf o) (TWord.plain v) noFlags = true →
        Answers i s (fun t => P (t.glade c).bank.shfQ ∧ (t.glade c).pc = s.nextPc c)
    gives (.shfSll c v) .sll (fun q => q = w64 (a.toNat * 2 ^ min v.toNat 64))
    ∧ gives (.shfSrl c v) .srl (fun q => q = w64 (a.toNat / 2 ^ min v.toNat 64))
    ∧ gives (.shfSra c v) .sra (fun q => q = BitVec.ofInt 64 (a.toInt / 2 ^ min v.toNat 64))
    ∧ gives (.shfRol c v) .rol (fun q => ∀ k, k < 64 → q.getLsbD ((k + v.toNat) % 64) = a.getLsbD k)
    ∧ gives (.shfRor c v) .ror (fun q => ∀ k, k < 64 → q.getLsbD k = a.getLsbD ((k + v.toNat) % 64))
    ∧ gives (.shfBfextu c v) .bfextu (fun q => q = w64 (a.toNat / 2 ^ pos % 2 ^ width))
    ∧ gives (.shfBfexts c v) .bfexts (fun q => ∀ k, k < 64 →
        q.getLsbD k = (decide (0 < width) && a.getLsbD (pos + min k (width - 1))))
    ∧ gives (.shfBfins c v) .bfins (fun q => ∀ k, k < 64 →
        q.getLsbD k = if pos ≤ k ∧ k < pos + width then b.getLsbD (k - pos) else a.getLsbD k)
    ∧ gives (.shfBrev c v) .brev (fun q => ∀ k, k < 64 → q.getLsbD k = v.getLsbD (63 - k))
    ∧ gives (.shfBswap c v) .bswap (fun q => ∀ k, k < 64 → q.getLsbD k = v.getLsbD (8 * (7 - k / 8) + k % 8))
    ∧ gives (.shfClz c v) .clz (fun q => (v = 0#64 → q = 64#64) ∧ ∀ n, n < 64 →
        (q.toNat = n ↔ v.getLsbD (63 - n) = true ∧ ∀ k, k < n → v.getLsbD (63 - k) = false))
    ∧ gives (.shfCtz c v) .ctz (fun q => (v = 0#64 → q = 64#64) ∧ ∀ n, n < 64 →
        (q.toNat = n ↔ v.getLsbD n = true ∧ ∀ k, k < n → v.getLsbD k = false))
    ∧ gives (.shfPopc c v) .popc (fun q => q.toNat = ((List.range 64).filter (fun k => v.getLsbD k)).length)

/-- A CRC step of the CKU leaves the family's register value after its bytes in `CKU.CRC`, the bits above its width
clear, and the same value on its way to `CKU.Q` (R143, R144); a parity or bit-reverse step leaves `CKU.CRC` as it is.

A CKU block trigger starts a long operation over its bytes; CKU_BLOCK_RETIRE of a core of no pair writes the CRC of the
bytes read, from the initial value, to G[RD], and a length of 0 the initial value with the bits above the width clear
(R145), once no earlier store is buffered and no earlier load or DEQ can still fail (R120, R147). A range stored to
meanwhile gives an undefined value and still clears the scoreboard bit (R147).

Completion: under these conditions, on state and operands alone, `exec` answers a next state for `ckuC32c`, `ckuC64`,
`ckuC16`, `ckuPar`, `ckuParb`, `ckuBrev8`, `ckuBrev16`, `ckuBrev32`, `ckuBlk32c`, `ckuBlk64`, `ckuBlk16`,
`ckuBlockRetire`. -/
def Obligations.CkuAndBlocks : Prop :=
  (∀ (s : State) (c : Fin 257) (v : W64),
    let b := (s.settledGlade c).bank
    let at2 := fun (t : State) (q : W64) => (t.glade c).bank.due = b.due ++ [⟨b.pos + 2, .cku q⟩]
    let steps := fun (i : Instr) (f : CrcFamily) (width : Nat) (w : Fin 4) =>
      s.issues c (.crc f w) (TWord.plain v) noFlags = true →
        Reacts i s (fun t => at2 t (t.glade c).bank.ckuCrc ∧ (t.glade c).bank.ckuCrc.toNat < 2 ^ width
          ∧ (t.glade c).bank.ckuCrc.toNat = f.steps b.ckuCrc.toNat (bytesLE (2 ^ w.val) v.toNat))
    let gives := fun (i : Instr) (o : CkuOp) (p : W64 → Prop) =>
      s.issues c (.cku o) (TWord.plain v) noFlags = true →
        Reacts i s (fun t => (t.glade c).bank.ckuCrc = b.ckuCrc ∧ ∃ q, at2 t q ∧ p q)
    (∀ w, steps (.ckuC32c c w v) .c32c 32 w) ∧ (∀ w, steps (.ckuC64 c w v) .c64 64 w)
    ∧ (∀ w, steps (.ckuC16 c w v) .c16 16 w)
    ∧ gives (.ckuPar c v) .par (fun q => q = w64 (((List.range 64).filter (fun k => v.getLsbD k)).length % 2))
    ∧ gives (.ckuParb c v) .parb (fun q => ∀ n, n < 64 → q.getLsbD n = (decide (n < 8)
        && decide (((List.range 8).filter (fun k => v.getLsbD (8 * n + k))).length % 2 = 1)))
    ∧ gives (.ckuBrev8 c v) .brev8 (fun q => ∀ k, k < 64 → q.getLsbD k = v.getLsbD (k / 8 * 8 + (7 - k % 8)))
    ∧ gives (.ckuBrev16 c v) .brev16 (fun q => ∀ k, k < 64 → q.getLsbD k = v.getLsbD (k / 16 * 16 + (15 - k % 16)))
    ∧ gives (.ckuBrev32 c v) .brev32 (fun q => ∀ k, k < 64 → q.getLsbD k = v.getLsbD (k / 32 * 32 + (31 - k % 32))))
  ∧ ((∀ (s : State) (c : Fin 257) (v : W64),
    let x := s.settledGlade c
    let starts := fun (i : Instr) (f : Nat) =>
      s.issues c (.block f) (TWord.plain v) noFlags = true →
        Reacts i s (fun t => (t.glade c).busy x.ckuRD.toNat = decide (x.ckuRD.toNat ≠ 0)
          ∧ (t.glade c).bank.ckuCrc = x.bank.ckuCrc ∧ (t.glade c).grf = x.grf
          ∧ (t.glade c).ckuOp.map (fun o => (o.rd, o.a, o.t, o.op, o.init, o.spoiled))
            = some (x.ckuRD.toNat, x.ckuA, v, f, x.ckuB, false))
    starts (.ckuBlk32c c v) 0 ∧ starts (.ckuBlk64 c v) 1 ∧ starts (.ckuBlk16 c v) 2)
  ∧ (∀ (s : State) (c : Fin 257) (bytes : PcieReply) (ps : List PortAnswer) (o : LongOp) (bs : List Byte),
    (s.glade c).ckuOp = some o → s.pairOf c = none → o.rd < 64 →
    s.blockHeld c o = false → s.blockWaits c o = false →
    ((s.withPorts ps).blockRead c o bytes o.a.toNat (o.t.toNat + 1) o.t.toNat []).2 = .ok bs →
      Reacts (.ckuBlockRetire c ⟨bytes, ps⟩) s (fun t =>
        (t.glade c).ckuOp = none ∧ (t.glade c).busy o.rd = false
          ∧ (∀ n, n < 64 → n ≠ o.rd → (t.glade c).g n = (s.glade c).g n)
          ∧ (o.spoiled = false → o.rd ≠ 0 → (t.glade c).g o.rd = TWord.plain (w64 ((crcOf o.op).steps o.init.toNat bs)))
          ∧ (o.t = 0#64 → bs = []))))

/-- SYS, IMM and TIME commands whose bundle issues (R148 to R153, R177, R190, R191, R206).

Completion: under these conditions, on state and operands alone, `exec` answers a next state for `immSet`, `timeNow`,
`sysBar`, `sysIfence`, `sysRep`, `sysWait`, `sysPflush`, `sysPbar`, `sysFeat`, `sysSettag`, `sysGettag`, `sysRdevec`,
`sysWrevec`, `sysRdcnt`, `sysWdog`. -/
def Obligations.SystemResults : Prop :=
  ∀ (s : State) (c : Fin 257) (v : W64),
    let x := s.settledGlade c
    let gives := fun (i : Instr) (tr : Trig) (P : Glade → Prop) =>
      s.issues c tr (TWord.plain v) noFlags = true →
        Reacts i s (fun t => P (t.glade c) ∧ (t.glade c).pc = s.nextPc c)
    let reacts := fun (i : Instr) (o : SysOp) (P : Glade → Prop) =>
      s.issues c (.sys o) (TWord.plain v) noFlags = true →
        ((Trig.sys o).lastOnly = true → (s.glade c).rep.owed ≤ 1) →
        Reacts i s (fun t => P (t.glade c) ∧ (t.glade c).pc = s.nextPc c)
    gives (.immSet c v) .immSet (fun y => y.bank.acc = v)
    ∧ (v = 0#64 → gives (.sysBar c) (.sys .bar) (fun y => y.barWait = .bar))
    ∧ (v = 0#64 → gives (.sysIfence c) (.sys .ifence) (fun y =>
        y.oldCode.all (fun o => !o.agent || o.fromPos.isSome) = true ∧ y.oldCode.length = x.oldCode.length))
    ∧ reacts (.sysRep c v) .rep (fun y => y.rep.owed = field v 15 0 ∧ y.rep.interruptible = bit v 16)
    ∧ reacts (.sysWait c v) .wait (fun y => y.barWait = (if v = 0#64 then .waitEnter else .waitResume) ∧ y.woken = false)
    ∧ (v = 0#64 → gives (.sysPflush c) (.sys .pflush) (fun y =>
        y.retStack = [] ∧ y.path = [] ∧ y.targets = [] ∧ y.barred = false))
    ∧ (v = 0#64 → gives (.sysPbar c) (.sys .pbar) (fun y => y.barred = true))
    ∧ (v = 0#64 → gives (.sysRdevec c) (.sys .rdevec) (fun y => y.sysQ = TWord.plain x.evec))
    ∧ (v = 0#64 → gives (.sysWdog c) (.sys .wdog) (fun y => y.wdogSince = s.now ∧ y.wdogFirst = false))
    ∧ reacts (.sysFeat c v) .feat (fun y => y.sysQ.tag = 0#4
        ∧ (v = 0#64 → y.sysQ.data = s.rd (Reg.NEG_ACCEPT 0)) ∧ (v = 1#64 → y.sysQ.data = s.rd (Reg.NEG_ACCEPT 1))
        ∧ (v = 2#64 → c.val < 256 → y.sysQ.data.toNat % 256 = c.val))
    ∧ reacts (.sysSettag c v) .settag (fun y => y.sysQ = ⟨x.sysA, BitVec.ofNat 4 v.toNat⟩)
    ∧ (∀ tag : BitVec 4, s.issues c (.sys .gettag) ⟨v, tag⟩ noFlags = true →
        Reacts (.sysGettag c ⟨v, tag⟩) s (fun t => (t.glade c).sysQ = TWord.plain (w64 tag.toNat)))
    ∧ reacts (.sysWrevec c v) .wrevec (fun y => y.evec = w64 (v.toNat % 2 ^ 16))
    ∧ reacts (.sysRdcnt c v) .rdcnt (fun y => y.sysQ = TWord.plain (y.counter v.toNat))
    ∧ (v = 0#64 → s.isTrailing c = false → gives (.timeNow c) .timeNow (fun y =>
        y.bank.due = x.bank.due ++ [⟨x.bank.pos + 2, .time s.time.delivered
          (w64 (b2n (s.flag Reg.UST_TIME_CTL 1) + 2 * b2n (s.flag Reg.UST_TIME_CTL 0)))⟩]))

/-- ERET, in the last issue of its bundle, resumes at `EPC` with the branch state of `EBR` and the saved repeat state;
from the handler bank it selects the thread bank and unmasks events, in the thread bank it changes neither (R125, R202,
R205).

A branch in the last issue of its bundle (R181, R184 to R186): taken, it redirects to its target after the two bundles
that follow; not taken, it leaves a pending redirect as it stands, and annuls the two bundles after it when it is
conditional, has ANNUL, and stands in no delay slot of a taken branch. CALL alone writes `BRU.Q`.

Completion: under these conditions, on state and operands alone, `exec` answers a next state for `sysEret`, `bruEq`,
`bruNe`, `bruLts`, `bruGes`, `bruLtu`, `bruGeu`, `bruJmp`, `bruCall`, `bruRet`. -/
def Obligations.BranchResults : Prop :=
  (∀ (s : State) (c : Fin 257), s.issuesLast c (.sys .eret) (TWord.plain 0#64) noFlags = true →
    Reacts (.sysEret c) s (fun t =>
      let x := s.glade c
      let y := t.glade c
      y.pc = x.epc ∧ y.rep = x.savedRep ∧ y.inHandler = false ∧ y.masked = (x.masked && !x.inHandler)
        ∧ y.redirect = (if x.ebr.toNat / 2 ^ 15 % 4 = 0 then none
            else some (w64 (x.ebr.toNat % 2 ^ 15), x.ebr.toNat / 2 ^ 15 % 4))
        ∧ y.epc = x.epc ∧ y.ebr = x.ebr ∧ y.ecause = x.ecause ∧ y.eaddr = x.eaddr ∧ y.grf = x.grf))
  ∧ (∀ (s : State) (c : Fin 257) (fl : BranchFlags) (v : W64),
    let x := s.settledGlade c
    let a := x.bank.bruA
    let b := x.bank.bruB
    let onward := fun (y : Glade) => y.pc = w64 (x.pc.toNat + s.bundleSize c)
    let when := fun (i : Instr) (o : BruOp) (f : BranchFlags) (taken : Prop) (annuls call : Bool) =>
      s.issuesLast c (.bru o) (TWord.plain v) f = true →
        Answers i s (fun t =>
          let y := t.glade c
          y.bank.bruQ = (if call then w64 (x.pc.toNat + 3 * s.bundleSize c) else x.bank.bruQ)
            ∧ (taken → y.redirect = some (v, 2) ∧ y.annul = 0 ∧ onward y)
            ∧ (¬ taken → y.pc = s.nextPc c ∧ y.annul = (if annuls = true ∧ x.redirect = none then 2 else x.annul)
                ∧ y.redirect = (match x.redirect with
                  | some (t, n) => if n ≤ 1 then none else some (t, n - 1)
                  | none => none)))
    when (.bruEq c fl v) .eq fl (a = b) fl.annul false
    ∧ when (.bruNe c fl v) .ne fl (a ≠ b) fl.annul false
    ∧ when (.bruLts c fl v) .lts fl (a.toInt < b.toInt) fl.annul false
    ∧ when (.bruGes c fl v) .ges fl (b.toInt ≤ a.toInt) fl.annul false
    ∧ when (.bruLtu c fl v) .ltu fl (a.toNat < b.toNat) fl.annul false
    ∧ when (.bruGeu c fl v) .geu fl (b.toNat ≤ a.toNat) fl.annul false
    ∧ (∀ direct, when (.bruJmp c direct v) .jmp ⟨direct, false, false⟩ True false false)
    ∧ (∀ direct, when (.bruCall c direct v) .call ⟨direct, false, false⟩ True false true)
    ∧ (∀ direct, when (.bruRet c direct v) .ret ⟨direct, false, false⟩ True false false))

/-- A bundle of one register-only operation that issues changes nothing outside its core but what a pair's leading
Glade keeps for its partner, and of the core no general register, no exception register, no store or load in flight:
the frame of every ALU, MUL, DIV, SHF, CKU, IMM, TIME, SYS and BRU command (R108, R126, R130, R136, R137, R143, R147 to
R150, R181). DIV and a block trigger start their long operation and set its scoreboard bit, WREVEC writes `EVEC`, and
ERET selects the bank; an ERET of the handler bank writes the buffered stores to the Glade's own code first (R173), and
is stated here for a Glade that buffers none. -/
def Obligations.RegisterFrame : Prop :=
  ∀ (i : Instr) (s : State) (c : Nat) (tr : Trig) (v : TWord) (fl : BranchFlags), issueOf i = some (c, tr, v, fl) →
    s.issues c tr v fl = true →
    (tr = .sys .eret → (s.glade c).inHandler = true → (s.glade c).stores.all (fun e => !s.ownCode c e.addr) = true) →
      Reacts i s (fun t =>
        t = { s with glades := t.glades, snaps := t.snaps, free := t.free, pairs := t.pairs }
          ∧ (∀ d, d ≠ c → t.glade d = s.glade d) ∧ KeepsCore tr (s.settledGlade c) (t.glade c)
          ∧ (t.glade c).cntIssued = (s.glade c).cntIssued + 1#64
          ∧ (tr ≠ .timeNow → t.pairs = s.pairs) ∧ (tr ≠ .sys .eret → t.snaps = s.snaps)
          ∧ ∀ a, t.byteAt a = s.byteAt a)

/-- A load whose bundle issues is in flight to its address, with its width and extension; `LSU.Q` shows nothing of it
before the second next bundle; `LSU.A` follows the form, and `LSU.AQ` where the form names a new base (R157 to R161).
It is transactional where the Glade's thread has an open transaction and the address lies in its Grove's memory (R301).

A store whose bundle issues, outside any transaction, enters the store buffer as the part or the two parts of its
words, and changes no byte of memory yet (R157 to R159, R165). One of a trailing Glade that lies outside its own
memories waits for the seal of its pair, and its operation then does nothing outside (R496, R498). A transactional one
enters the write set and takes no entry of the buffer (R176, R309): a whole word as stored, a part of a word merged
into the write set's word, or into the word read from memory with the Glade's own earlier stores over it, whose granule
enters the read set; a poisoned word stays poisoned. One that would add a 257th word or a 513th granule changes neither
set and dooms the transaction with CAP_WRITE or CAP_READ (R303).

Completion: under these conditions, on state and operands alone, `exec` answers a next state for `lsuLd`, `lsuLw`,
`lsuLws`, `lsuLh`, `lsuLhs`, `lsuLb`, `lsuLbs`, `lsuSt`, `lsuSw`, `lsuSh`, `lsuSb`. -/
def Obligations.LoadsAndStores : Prop :=
  (∀ (s : State) (c : Fin 257) (f : LsuForm) (v : W64),
    let x := s.settledGlade c
    let a := (lsuAddress f x.bank.lsuA x.bank.lsuX v).1
    let base := match f with
      | .disp => x.bank.lsuA
      | .postInc => x.bank.lsuA + v
      | .preDec => x.bank.lsuA - v
      | .indexed => x.bank.lsuA
    let loads := fun (i : Instr) (o : LsuOp) (n : Nat) (signed : Bool) =>
      s.issues c (.lsu o f) (TWord.plain v) noFlags = true →
        Reacts i s (fun t =>
          let y := t.glade c
          (∃ l, y.loads.map (fun (m : LoadFlight) => { m with asked := false })
                = (x.loads ++ [l]).map (fun (m : LoadFlight) => { m with asked := false }) ∧ l.named = a.toNat ∧ l.addr = canon (coreRequester c) a.toNat
              ∧ l.bytes = n ∧ l.signed = signed ∧ l.handler = x.inHandler
              ∧ l.txn = s.isTransactional c l.addr x.inHandler)
            ∧ y.bank.due = x.bank.due ++ [⟨x.bank.pos + 2, .loadWait⟩] ∧ y.bank.lsuQ = x.bank.lsuQ
            ∧ y.bank.lsuA = base ∧ y.bank.lsuAQ = (if f = .postInc ∨ f = .preDec then base else x.bank.lsuAQ)
            ∧ y.pc = s.nextPc c ∧ y.grf = x.grf ∧ ∀ b, t.byteAt b = s.byteAt b)
    loads (.lsuLd c f v) .ld 8 false ∧ loads (.lsuLw c f v) .lw 4 false ∧ loads (.lsuLws c f v) .lws 4 true
    ∧ loads (.lsuLh c f v) .lh 2 false ∧ loads (.lsuLhs c f v) .lhs 2 true
    ∧ loads (.lsuLb c f v) .lb 1 false ∧ loads (.lsuLbs c f v) .lbs 1 true)
  ∧ (∀ (s : State) (c : Fin 257) (f : LsuForm) (ports : List PortAnswer) (v : W64),
    let x := s.settledGlade c
    let a := canon (coreRequester c) (lsuAddress f x.bank.lsuA x.bank.lsuX v).1.toNat
    let entry := fun (ws : List (Nat × W64 × Bool)) (w : Nat) => ws.find? (fun e => e.1 == w)
    let wordAt := fun (p : Nat × List Byte) => p.1 / 8 * 8
    let stores := fun (i : Instr) (o : LsuOp) (n : Nat) =>
      let parts := splitWords a ((bytesLE 8 x.bank.lsuB.toNat).take n)
      let gives := fun (P : State → Prop) => s.issues c (.lsu o f) (TWord.plain v) noFlags = true →
        Reacts i s (fun t =>
          let y := t.glade c
          P t ∧ y.stores.length ≤ 8 ∧ y.bank.lsuA = (lsuAddress f x.bank.lsuA x.bank.lsuX v).2
            ∧ y.pc = s.nextPc c ∧ y.grf = x.grf)
      let dropped := s.isTrailing c && !s.isLocal c a
      (dropped = false → s.isTransactional c a x.inHandler = false → gives (fun t =>
        (∃ new, (t.glade c).stores = x.stores ++ new ∧ new.map (fun e => (e.addr, e.data)) = parts
            ∧ ∀ e ∈ new, e.data.length + e.addr % 8 ≤ 8)
          ∧ ∀ b, t.byteAt b = s.byteAt b))
      ∧ (dropped = true → s.mayIssue c false = true →
          let r := s.readyWith c (.lsu o f) (TWord.plain v) noFlags
          r.1.pairHolds c (r.1.nativeStand c r.2) = true → Reacts i s (fun t => (t.glade c).stores = (s.glade c).stores
            ∧ (t.glade c).pc = (s.glade c).pc ∧ t.openTxn c = s.openTxn c ∧ t.out = s.out ∧ ∀ b, t.byteAt b = s.byteAt b))
      ∧ (s.isTrailing c = true → s.isLocal c (canon (coreRequester c) ((s.glade c).lsuAt f v).toNat) = false →
          ∀ bus, let t := s.doLsu c o f v bus
          (t.glade c).stores = (s.glade c).stores ∧ t.openTxn c = s.openTxn c ∧ t.mem = s.mem)
      ∧ (∀ tx, dropped = false → s.isTransactional c a x.inHandler = true → s.openTxn c = some tx →
          let merge := fun (p : Nat × List Byte) (old : W64) =>
            w64 (ofBytesLE (mergeBytes (bytesLE 8 old.toNat) (p.1 % 8) p.2))
          let fresh := parts.filter (fun p => (entry tx.wset (wordAt p)).isNone)
          let read := fresh.filter (fun p => decide (p.2.length < 8))
          let granules := ((read.map (fun p => p.1 / 64)).eraseDups).filter (fun m => !tx.rset.contains m)
          let many := 256 < tx.wset.length + fresh.length
          let wide := 512 < tx.rset.length + granules.length
          gives (fun t => (t.glade c).stores = x.stores
            ∧ (∀ b, (∀ p ∈ read, b < wordAt p ∨ wordAt p + 8 ≤ b) → t.byteAt b = s.byteAt b)
            ∧ ∃ u, t.openTxn c = some u
              ∧ ((many ∨ wide) → u = { tx with
                  state := .doomed
                  dooms := tx.dooms ||| (if many then 8#16 else 0#16) ||| (if wide then 16#16 else 0#16) })
              ∧ (¬ many → ¬ wide → u.state = tx.state ∧ u.dooms = tx.dooms
                ∧ (∀ m, m ∈ u.rset ↔ m ∈ tx.rset ∨ m ∈ granules)
                ∧ (∀ w, (∀ p ∈ parts, w ≠ wordAt p) → entry u.wset w = entry tx.wset w)
                ∧ ∀ p ∈ parts, let w := wordAt p
                  (p.2.length = 8 → entry u.wset w = some (w, w64 (ofBytesLE p.2), false))
                  ∧ (p.2.length < 8 → ∀ old poisoned, entry tx.wset w = some (w, old, poisoned) →
                      entry u.wset w = some (w, if poisoned then old else merge p old, poisoned))
                  ∧ (p ∈ read → ∃ q poisoned, entry u.wset w = some (w, q, poisoned)
                      ∧ (ports = [] → s.readErrs = [] → s.spoiled = [] → s.ticketMode (c.val / 16) = false →
                        ∀ cw, decodeWord (s.detectOnly w) (s.codeAt w) = .ok cw →
                          poisoned = false ∧ q = merge p (x.overlay w (codeData cw)))))))
    stores (.lsuSt c ⟨f, ports⟩ v) .st 8 ∧ stores (.lsuSw c ⟨f, ports⟩ v) .sw 4 ∧ stores (.lsuSh c ⟨f, ports⟩ v) .sh 2
    ∧ stores (.lsuSb c ⟨f, ports⟩ v) .sb 1)

/-- M3 instructions that compute on the cached operand stack (R210 to R214, R216): the entries after, the stack
pointer, and the next byte.

M3 loads and stores of the Glade's own DMEM (R214): a load replaces the address by the zero-extended word or byte, a
store puts the word or byte in the store buffer at once.

Completion: under these conditions, on state and operands alone, `exec` answers a next state for `m3Nop`, `m3Drop`,
`m3Dup`, `m3Swap`, `m3Over`, `m3Lit8`, `m3Lit16`, `m3Lit32`, `m3Add`, `m3Sub`, `m3And`, `m3Or`, `m3Xor`, `m3Neg`,
`m3Mul`, `m3Div`, `m3Rem`, `m3Shl`, `m3Shr`, `m3Sar`, `m3Ld`, `m3Ldb`, `m3St`, `m3Stb`. -/
def Obligations.ByteCodeResults : Prop :=
  (∀ (s : State) (c : Fin 256),
    let st := s.m3Stack c
    let b := st.headD 0#32
    let a := st.getD 1 0#32
    let p := (s.glade c).pc.toNat
    let gives := fun (i : Instr) (o : M3Op) (len : Nat) (after : List (BitVec 32)) =>
      s.m3Ready c o len = true →
        Settles i s (fun t => t.m3Stack c = after ∧ (t.glade c).pc.toNat = p + len
          ∧ (t.glade c).bank.stkSP = (s.glade c).bank.stkSP + w64 (4 * o.pops) - w64 (4 * o.pushes)
          ∧ (∀ n, n < 56 → (t.glade c).g n = (s.glade c).g n) ∧ ∀ k, t.byteAt k = s.byteAt k)
    let bin := fun (i : Instr) (o : M3Bin) (v : BitVec 32) => gives i (.bin o) 1 (v :: st.drop 2)
    gives (.m3Nop c) .nop 1 st ∧ gives (.m3Drop c) .drop 1 (st.drop 1) ∧ gives (.m3Dup c) .dup 1 (b :: st)
    ∧ gives (.m3Swap c) .swap 1 (a :: b :: st.drop 2) ∧ gives (.m3Over c) .over 1 (a :: st)
    ∧ (∀ v, gives (.m3Lit8 c v) (.lit (v.signExtend 32)) 2 (v.signExtend 32 :: st))
    ∧ (∀ v, gives (.m3Lit16 c v) (.lit (v.signExtend 32)) 3 (v.signExtend 32 :: st))
    ∧ (∀ v, gives (.m3Lit32 c v) (.lit v) 5 (v :: st))
    ∧ bin (.m3Add c) .add (a + b) ∧ bin (.m3Sub c) .sub (a - b) ∧ bin (.m3And c) .and (a &&& b)
    ∧ bin (.m3Or c) .or (a ||| b) ∧ bin (.m3Xor c) .xor (a ^^^ b) ∧ bin (.m3Mul c) .mul (a * b)
    ∧ bin (.m3Div c) .div (if b = 0#32 then BitVec.allOnes 32 else BitVec.ofInt 32 (a.toInt.tdiv b.toInt))
    ∧ bin (.m3Rem c) .rem (if b = 0#32 then a else BitVec.ofInt 32 (a.toInt.tmod b.toInt))
    ∧ bin (.m3Shl c) .shl (BitVec.ofNat 32 (a.toNat * 2 ^ (b.toNat % 32)))
    ∧ bin (.m3Shr c) .shr (BitVec.ofNat 32 (a.toNat / 2 ^ (b.toNat % 32)))
    ∧ bin (.m3Sar c) .sar (BitVec.ofInt 32 (a.toInt / 2 ^ (b.toNat % 32)))
    ∧ gives (.m3Neg c) .neg 1 (-b :: st.drop 1))
  ∧ (∀ (s : State) (c : Fin 256) (first second : PortAnswer) (reply : BoardReply)
      (ports : List PortAnswer),
    let st := s.m3Stack c
    let a := ((s.glade c).bank.stkMB + w64 (st.headD 0#32).toNat).toNat
    let g := canon (.glade c) a
    s.regionOf g = .dmem c → s.readErrs = [] → s.spoiled = [] → s.accessCheck (.glade c) false a 4 0#64 = none →
    s.accessCheck (.glade c) false a 1 0#64 = none → g % 8 ≤ 4 →
      (∀ cw, decodeWord (s.detectOnly (g / 8 * 8)) (s.codeAt (g / 8 * 8)) = .ok cw →
        (s.m3Ready c (.ld false) 1 = true → Settles (.m3Ld c first second reply) s (fun t =>
          t.m3Stack c = BitVec.ofNat 32 ((codeData cw).toNat / 2 ^ (8 * (g % 8))) :: st.drop 1))
        ∧ (s.m3Ready c (.ld true) 1 = true → Settles (.m3Ldb c first second reply) s (fun t =>
          t.m3Stack c = BitVec.ofNat 32 ((codeData cw).toNat / 2 ^ (8 * (g % 8)) % 256) :: st.drop 1)))
      ∧ (s.m3Ready c (.st false) 1 = true → s.accessCheck (.glade c) true a 4 (w64 (st.getD 1 0#32).toNat) = none →
        Settles (.m3St ⟨c, ports⟩) s (fun t => t.m3Stack c = st.drop 2
          ∧ (t.glade c).stores.map (fun e => (e.addr, e.data)) = [(g, bytesLE 4 (st.getD 1 0#32).toNat)]))
      ∧ (s.m3Ready c (.st true) 1 = true → s.accessCheck (.glade c) true a 1 (w64 (st.getD 1 0#32).toNat) = none →
        Settles (.m3Stb ⟨c, ports⟩) s (fun t => t.m3Stack c = st.drop 2
          ∧ (t.glade c).stores.map (fun e => (e.addr, e.data)) = [(g, bytesLE 1 (st.getD 1 0#32).toNat)])))

/-- M3 jumps, calls and the two ways back to native code (R211, R214): a jump's offset counts from the next
instruction; CALL pushes its address, RET takes it; NCALL and EXIT leave `STK.Q` at it, byte code ended and its cache
written back, the top entry at SP and each entry below it 4 bytes higher, and no other byte changed.

ENTER in the last issue of its bundle starts byte code at the address moved, with an empty cache, and records the
bundle after it (R209, R210); an opcode of no M3 instruction raises STACK with UNSUPPORTED, every register and every
byte of memory as before (R215, R217).

Completion: under these conditions, on state and operands alone, `exec` answers a next state for `stkEnter`, `m3Jmp`,
`m3Jz`, `m3Jnz`, `m3Call`, `m3Ret`, `m3Ncall`, `m3Exit`, `m3Unsupported`. -/
def Obligations.ByteCodeFlow : Prop :=
  (∀ (s : State) (c : Fin 256) (off : BitVec 16),
    let st := s.m3Stack c
    let b := st.headD 0#32
    let p := (s.glade c).pc.toNat
    let inside := fun (d : Int) => 0 ≤ d ∧ d ≤ 0x7FFF
    let goes := fun (i : Instr) (o : M3Op) (len : Nat) (after : List (BitVec 32)) (d : Int) =>
      s.m3Ready c o len = true → inside d →
        Settles i s (fun t => t.m3Stack c = after ∧ ((t.glade c).pc.toNat : Int) = d ∧ (t.glade c).rep.byteCode = true
          ∧ (∀ n, n < 56 → (t.glade c).g n = (s.glade c).g n) ∧ ∀ a, t.byteAt a = s.byteAt a)
    let jump := (p : Int) + 3 + off.toInt
    let bottom := gladeBase c + (s.glade c).bank.stkSP.toNat
    let size := 4 * (s.glade c).rep.cached
    let plain := s.stuck = [] ∧ s.readErrs = [] ∧ s.flag (Reg.GRV_INJECT (c.val / 16)) 63 = false
      ∧ ∀ a, bottom ≤ a → a < bottom + size → s.regionOf a = .dmem c
        ∧ ∃ cw, decodeWord (s.detectOnly (a / 8 * 8)) (s.codeAt (a / 8 * 8)) = .ok cw ∧ codeData cw = s.dataAt (a / 8 * 8)
    let leaves := fun (i : Instr) (o : M3Op) (len : Nat) (d : W64) =>
      s.m3Ready c o len = true → s.m3SpillFault c (s.glade c) o = none →
        Settles i s (fun t => (t.glade c).pc = d ∧ (t.glade c).bank.stkQ = w64 (p + len)
          ∧ (t.glade c).rep = Repeat.none ∧ (t.glade c).bank.stkSP = (s.glade c).bank.stkSP
          ∧ (t.glade c).grf = (s.glade c).grf
          ∧ (plain → (∀ k, k < (s.glade c).rep.cached →
                t.bytesAt (bottom + 4 * k) 4 = bytesLE 4 (st.getD k 0#32).toNat)
              ∧ ∀ a, (a < bottom ∨ bottom + size ≤ a) → t.byteAt a = s.byteAt a))
    goes (.m3Jmp c off) (.jmp off) 3 st jump
    ∧ goes (.m3Jz c off) (.jz off) 3 (st.drop 1) (if b = 0#32 then jump else p + 3)
    ∧ goes (.m3Jnz c off) (.jnz off) 3 (st.drop 1) (if b = 0#32 then p + 3 else jump)
    ∧ goes (.m3Call c off) (.call off) 3 (BitVec.ofNat 32 (p + 3) :: st) jump
    ∧ goes (.m3Ret c) .ret 1 (st.drop 1) b.toNat
    ∧ (off.toNat % s.bundleSize c = 0 → off.toNat ≤ s.highestBundle c →
        leaves (.m3Ncall c off) (.ncall off) 3 (w64 off.toNat))
    ∧ leaves (.m3Exit c) .exit 1 (s.glade c).bank.stkNR)
  ∧ ((∀ (s : State) (c : Fin 257) (v : W64), s.issuesLast c .stkEnter (TWord.plain v) noFlags = true →
    Reacts (.stkEnter c v) s (fun t =>
      let y := t.glade c
      y.pc = v ∧ y.rep = ⟨0, false, true, 0⟩ ∧ y.bank.stkNR = w64 ((s.glade c).pc.toNat + s.bundleSize c)
        ∧ t.m3Stack c = [] ∧ y.grf = (s.glade c).grf ∧ ∀ a, t.byteAt a = s.byteAt a))
  ∧ (∀ (s : State) (c : Fin 256) (op : Byte), m3Decode op.toNat [] = .unsupported →
      s.m3Ready c .unsupported 1 = true → s.pairOf c = none → bit (s.glade c).evec 15 = true → (s.glade c).inHandler = false →
      Settles (.m3Unsupported c op) s (fun t =>
        let x := s.glade c
        let y := t.glade c
        y.inHandler = true ∧ y.masked = true ∧ y.pc = w64 (field x.evec 14 0) ∧ y.ecause = 0x306#64
          ∧ y.eaddr = w64 (x.pc.toNat % 2 ^ 48) ∧ y.epc = w64 (x.pc.toNat % 2 ^ 15) ∧ y.savedRep = x.rep
          ∧ y.grf = x.grf ∧ y.thread = x.thread ∧ ∀ a, t.byteAt a = s.byteAt a)))

/-- A bundle of moves between general registers reads every source before it writes any destination (R108): each
destination but G0 receives what its source held before the bundle, every other register keeps its value.

Completion: under these conditions, on state and operands alone, `exec` answers a next state for `bundleIssue`. -/
def Obligations.BundleMovesAtOnce : Prop :=
  ∀ (s : State) (c : Fin 257) (first second : PortAnswer) (reply : BoardReply) (bs : List Byte),
    let x := s.glade c
    let s0 := s.withPorts reply.ports
    s.pairOf c = none → s.mayIssue c false = true → x.repBundle = none →
    (s0.fetchCode c x.pc.toNat (s.bundleSize c)).2 = some bs → (s0.ready c).2.isGo = true →
    (s0.ready c).1.entryDue c = false →
    (∀ sl ∈ slotsOf (s.buses c) bs, sl = .nop ∨ ∃ m i, sl = .move m ∧ m.dst < 64 ∧ m.src = some i ∧ i < 64) →
      Settles (.bundleIssue c first second reply) s (fun t =>
        (t.glade c).pc = s.nextPc c ∧ ∀ n, n < 64 →
          (t.glade c).g n = match ((slotsOf (s.buses c) bs).filterMap MoveSlot.move?).find? (fun m => m.dst == n) with
            | some m => if n = 0 then x.g 0 else x.g (m.src.getD 0)
            | none => x.g n)

/-- An entry, with EVEC valid and the thread bank selected, saves the position in `EPC`, the pending redirect in `EBR`
(which keeps its value at the boundary that ERET made, R204) and the repeat state, selects the handler bank and masks
events (R124, R199); one entry is taken at a boundary, a precise exception before a report, that before an event
(R197). A precise exception (EXCEPTION_ENTRY) and a failed long operation (IMPRECISE_ENTRY, its register zeroed, R123)
write `ECAUSE` and `EADDR` and go to EVEC; an event (EVENT_ENTRY) leaves both and goes to EVEC + 0x60. `EPC` of the
Heartwood holds 18 bits, the model's reading of where its code lies (log 8).

Completion: under these conditions, on state and operands alone, `exec` answers a next state for `exceptionEntry`,
`impreciseEntry`, `eventEntry`. -/
def Obligations.EntriesSaveState : Prop :=
  ∀ (s : State) (c : Fin 257), s.runs c = true → s.pairOf c = none →
    let x := s.glade c
    let entered := fun (y : Glade) (dest : Nat) =>
      y.pc = w64 dest ∧ y.epc = w64 (x.pc.toNat % 2 ^ pcBits c) ∧ y.inHandler = true ∧ y.masked = true
        ∧ y.savedRep = x.rep ∧ y.rep = Repeat.none ∧ y.redirect = none ∧ y.run = .running ∧ y.evec = x.evec
        ∧ y.ebr = (match x.redirect with
          | some (t, n) => w64 (t.toNat % 2 ^ 15 + n % 4 * 2 ^ 15)
          | none => if x.resumed then x.ebr else 0#64)
    (∀ tr e, (s.ready c).2 = .cause tr e → s.earlierOpen c = false → x.rep.byteCode = false → s.holdOf c = .go →
      bit x.evec 15 = true → x.inHandler = false →
      Settles (.exceptionEntry c) s (fun t => let y := t.glade c
        entered y (field x.evec 14 0) ∧ y.eaddr = w64 (e.addr % 2 ^ 48) ∧ y.grf = x.grf
          ∧ y.ecause = w64 (e.cls % 256 + e.detail % 256 * 2 ^ 8 + e.bus % 4 * 2 ^ 16 + e.reg % 64 * 2 ^ 18
              + e.socket % 1024 * 2 ^ 24)))
    ∧ (∀ f u, x.report = some f → s.atBoundary c = (u, .none) → bit x.evec 15 = true → f.rd < 64 →
      Settles (.impreciseEntry c) s (fun t => let y := t.glade c
        entered y (field x.evec 14 0) ∧ y.g f.rd = TWord.plain 0#64 ∧ y.busy f.rd = false
          ∧ (∀ n, n < 64 → n ≠ f.rd → y.g n = x.g n) ∧ y.eaddr = w64 (f.addr % 2 ^ 48)
          ∧ y.ecause = w64 (4 + f.detail % 256 * 2 ^ 8 + f.rd * 2 ^ 18)))
    ∧ (∀ u, s.eventDue c = true → x.report = none → x.watchdogDue = false → s.atBoundary c = (u, .none) →
      Settles (.eventEntry c) s (fun t => let y := t.glade c
        entered y (field x.evec 14 0 + 0x60) ∧ y.ecause = x.ecause ∧ y.eaddr = x.eaddr ∧ y.grf = x.grf))

/-- A load in flight that its target answers ends with its bytes, extended as its operation says, on their way to
`LSU.Q` of the bank that triggered it (R161, R162); nothing of the register file changes. A transactional load enters
its granules into the read set, a 513th dooming the transaction with CAP_READ, and takes what lies in the write set
from there (R303, R309); a load of a trailing Glade outside its own memories takes what the leading one obtained
(R496). PCIE_COMPLETION answers a load of a root-port window with the completion's data, and with Unsupported Request
(detail 1), Completer Abort or no completion at all (detail 4) it fails (R439).

STORE_DRAIN of a buffered store to a Glade's own DMEM, of a whole word: it leaves the buffer, its bytes are in memory,
and every other byte is as before (R163, R166).

Completion: under these conditions, on state and operands alone, `exec` answers a next state for `loadAnswer`,
`storeDrain`, `pcieCompletionTimeout`, `pcieCompletion`. -/
def Obligations.MemoryAnswers : Prop :=
  (∀ (s : State) (c : Fin 257) (l : LoadFlight) (rest : List LoadFlight),
    (s.glade c).loads = l :: rest → rest.all (fun m => m.seq != l.seq) = true →
    let bankOf := fun (x : Glade) => if l.handler then x.handler else x.thread
    (∃ d ∈ (bankOf (s.glade c)).due, d.pos = l.pos + 1 ∧ d.val = .loadWait) →
    (s.glade c).heldBack l.seq = false → l.dead = none →
    let arrives := fun (t : State) (v : W64) =>
      (t.glade c).loads = rest ∧ (t.glade c).grf = (s.glade c).grf
        ∧ ∃ d ∈ (bankOf (t.glade c)).due, d.pos = l.pos + 1 ∧ d.val = .lsu v
    (∀ first second, (s.isTrailing c && !s.isLocal c l.addr) = false →
      ∀ s1 bs, s.loadTarget c l [first, second] = some (s1, .ok bs) →
        Settles (.loadAnswer c first second) s (fun t => arrives t (extendLoad bs l.signed)))
    ∧ (∀ first second, (s.isTrailing c && !s.isLocal c l.addr) = true → ∀ s1 v,
        s.takeFeed c (fun e => e.2.isLoad) = some (s1, .load v) →
        Settles (.loadAnswer c first second) s (fun t => arrives t v))
    ∧ (∀ first second tx, l.txn = true → s.isTrailing c = false → s.openTxn c = some tx → 0 < l.bytes → l.bytes ≤ 8 →
        s.regionOf l.addr = .groveMem (c.val / 16) → s.accessWaits l.addr = false → s.servedFor c l = .memory →
        let reads := fun (t : State) => ∃ u, t.openTxn c = some u ∧ u.wset = tx.wset
          ∧ (tx.rset.length + 2 ≤ 512 → u.state = tx.state ∧ u.dooms = tx.dooms
              ∧ ∀ m, m ∈ u.rset ↔ m ∈ tx.rset ∨ ∃ w ∈ l.words, m = w / 64)
          ∧ (512 ≤ tx.rset.length → (∃ w ∈ l.words, w / 64 ∉ tx.rset) →
              u.rset = tx.rset ∧ u.state = .doomed ∧ u.dooms = tx.dooms ||| 16#16)
        (∀ s1 bs, s.loadTarget c l [first, second] = some (s1, .ok bs) →
          Settles (.loadAnswer c first second) s (fun t => arrives t (extendLoad bs l.signed) ∧ reads t))
        ∧ (∀ value : Nat → W64, (∀ w ∈ l.words, tx.wset.find? (fun e => e.1 == w) = some (w, value w, false)) →
          Settles (.loadAnswer c first second) s (fun t => reads t ∧ arrives t (extendLoad
            ((List.range l.bytes).map (fun k =>
              (bytesLE 8 (value ((l.addr + k) / 8 * 8)).toNat).getD ((l.addr + k) % 8) 0#8)) l.signed))))
    ∧ (∀ k, s.regionOf l.addr = .pcie k → s.isTrailing c = false → l.asked = true →
      (∀ v, Settles (.pcieCompletion c (.data v)) s (fun t =>
          arrives t (extendLoad ((bytesLE 8 v.toNat).take l.bytes) l.signed)))
      ∧ (s.pairOf c = none → bit (s.glade c).evec 15 = true → (s.glade c).inHandler = false →
          s.snaps.any (fun p => p.1 == c.val) = false →
          let fails := fun (i : Instr) (d : Nat) => Settles i s (fun t =>
            (t.glade c).inHandler = true ∧ (t.glade c).loads = [] ∧ (t.glade c).eaddr = w64 (l.named % 2 ^ 48)
              ∧ (t.glade c).ecause = w64 (3 + d * 2 ^ 8 + l.bus % 4 * 2 ^ 16))
          fails (.pcieCompletion c .unsupported) 1 ∧ fails (.pcieCompletion c .abort) 4
            ∧ fails (.pcieCompletionTimeout c) 4)))
  ∧ (∀ (s : State) (c : Fin 256) (n : Fin 8) (answer : PortAnswer) (reply : BoardReply) (e : StoreEntry),
    s.mayDrain c n = true → (s.glade c).stores[n.val]? = some e → s.regionOf e.addr = .dmem c →
    e.data.length = 8 → e.addr % 8 = 0 →
    s.flag (Reg.GRV_INJECT (c.val / 16)) 63 = false →
      Settles (.storeDrain ⟨c.val, by omega⟩ n answer reply) s (fun t =>
        (t.glade c).stores = (s.glade c).stores.filter (fun d => d != e)
          ∧ (t.glade c).grf = (s.glade c).grf
          ∧ ∀ a, t.byteAt a = if e.addr ≤ a ∧ a < e.addr + 8 then e.data.getD (a - e.addr) 0#8 else s.byteAt a))

/-! ### The ports of queue manager, journal writer and transaction unit -/

/-- Enqueue commands of a Glade that is no trailing one (R275, R282 to R285): PUT, and PUTT of a PLAIN or FIRST word,
append the word to the packet of the cursor, opening one where none is open; PUTL, and PUTT of a LAST or ONLY word,
append it and close the packet, with a status that holds its length once the Glade's earlier stores have drained
(R176); PUTT of an NV word answers NOTHING, and ABANDON, and PUTT of an ABORTED word, close the packet with status
ABANDONED, likewise. LENGTH counts every word given to the packet, those given after it was bound to an error too (the
model's reading, log 26). A packet closed outside a transaction, whose queue links it, becomes the queue's newest one:
PACKETS and SEQ go on by 1, its last cell is the tail, one event of the queue's group is counted, and the status is OK
with the packet's SEQ (R282, R285, R288).

Completion: under these conditions, on state and operands alone, `exec` answers a next state for `qpuPut`, `qpuPutl`,
`qpuPutt`, `qpuAbandon`. -/
def Obligations.EnqueueResults : Prop :=
  ∀ (s : State) (c : Fin 256) (v : TWord), s.isTrailing c = false →
    let run := fun (i : Instr) (o : QpuOp) (P : State → State → Prop) =>
      s.issues c (.qpu o) v noFlags = true → Settles i s (fun t => P (s.before c (.qpu o) v noFlags) t)
    let spec := fun (a : State) (o : QpuOp) => (a.settledGlade c).qpuSpec o v
    let old := fun (a : State) (o : QpuOp) => ((a.writePkt c (specCursor (spec a o))).map (fun w => w.words)).getD []
    let gives := fun (a t : State) (o : QpuOp) (w : W64) =>
      QpuGives (a.settledGlade c) (t.glade c) (a.queueInfo (specQueue (spec a o))).dram (TWord.plain w)
    let appends := fun (o : QpuOp) (a t : State) =>
      (t.writePkt c (specCursor (spec a o))).map (fun w => w.words) = some (old a o ++ [v.data])
    let closes := fun (o : QpuOp) (a t : State) => t.writePkt c (specCursor (spec a o)) = none
      ∧ (a.qpuAtOnce c = true → (∃ w, gives a t o w ∧ field w 27 16 = ((old a o).length + 1) % 4096)
        ∧ ∀ b w, a.qpuWrite c o (spec a o) v = (b, .link w) → s.qm.cache.length ≤ 4000 →
            let q := specQueue (spec a o)
            let d := b.peekDesc q
            b.queueCode q = 0 →
            ((b.touchDesc q).linkPacket q w.cells w.words.length false false (s.leaderOf c) 0).2.isSome = true →
            w.words = old a o ++ [v.data] ∧ gives a t o (w64 (w.words.length % 4096 * 2 ^ 16 + d.seq % 2 ^ 32 * 2 ^ 32))
              ∧ (t.peekDesc q).packets = d.packets + 1 ∧ (t.peekDesc q).seq = (d.seq + 1) % 2 ^ 32
              ∧ (t.peekDesc q).tail = w.cells.getLastD 0
              ∧ (d.group < 4096 → t.tallyCount d.group = (b.tallyInc d.group 1).tallyCount d.group))
    let abandons := fun (o : QpuOp) (a t : State) => t.writePkt c (specCursor (spec a o)) = none
      ∧ (a.qpuAtOnce c = true → gives a t o (w64 (6 + (old a o).length % 4096 * 2 ^ 16)))
    run (.qpuPut c v) .put (appends .put) ∧ run (.qpuPutl c v) .putl (closes .putl)
    ∧ run (.qpuAbandon c v) .abandon (abandons .abandon)
    ∧ run (.qpuPutt c v) .putt (fun a t =>
        if v.tag = 2#4 ∨ v.tag = 3#4 then closes .putt a t
        else if v.tag = 8#4 then (a.qpuAtOnce c = true → gives a t .putt 8#64) ∧ (t.writePkt c (specCursor (spec a .putt))).map (fun w => w.words)
          = (a.writePkt c (specCursor (spec a .putt))).map (fun w => w.words)
        else if v.tag = 9#4 then abandons .putt a t
        else appends .putt a t)

/-- Dequeue commands of a Glade that is no trailing one, which take effect at once when no store of it is buffered, no
load unanswered and no operation kept, and the queue's memory answers; while that is in retention or waking they are
kept (R176, R265; R275, R279, R280, R283, R293): DEQ delivers the next word of the cursor's packet with its tag, and
the last word closes the cursor; with no packet open it opens the head packet, PACKETS going down by 1, and delivers
its first word with the header for `QPU.H`, or an NV word where none is ready or its header cannot be read. SKIP closes
the cursor and counts the words discarded; DEPTH counts the packets linked; FLUSH of a queue that is disabled or
BROKEN, whose engine is off or whose Grove is fenced, answers CODE 2, and of another one discards its packets and
counts them, up to one whose chain cannot be read, which makes the queue BROKEN.

QPU_RETIRE of the n-th operation in flight writes its word to G[RD] and clears the scoreboard bit, or keeps its
failure, and the register as it is, for the report (R123, R179; when the register becomes 0 is the model's choice, log
117); QPU_STREAM_WORD adds one word of an open packet to its buffer of 32 (R281).

Completion: under these conditions, on state and operands alone, `exec` answers a next state for `qpuDeq`, `qpuSkip`,
`qpuDepth`, `qpuFlush`, `qpuRetire`, `qpuStreamWord`. -/
def Obligations.DequeueResults : Prop :=
  (∀ (s : State) (c : Fin 256) (v : TWord), s.isTrailing c = false → s.qpuAtOnce c = true →
    let q := specQueue v.data
    let k := specCursor v.data
    let run := fun (i : Instr) (o : QpuOp) (P : State → State → Prop) =>
      s.issues c (.qpu o) v noFlags = true → Settles i s (fun t =>
        if s.queueWaits q then
          (t.glade c).qpuPend.map (fun d => d.kind) = [.op o v.data] ∧ t.qm = s.qm ∧ t.mem = s.mem
        else P (s.before c (.qpu o) v noFlags) t)
    let gives := fun (a t : State) (w : TWord) => QpuGives (a.settledGlade c) (t.glade c) (a.queueInfo q).dram w
    run (.qpuDeq c v) .deq (fun a t =>
      (∀ r w rest, a.readPkt c k = some r → r.lost = false → r.buf = .data w :: rest →
        let n := r.nextWord
        let len := field r.header 11 0
        gives a t ⟨w, if bit r.header 12 then 9#4 else if len = 1 then 3#4 else if n = 1 then 1#4
          else if n = len then 2#4 else 0#4⟩
          ∧ (t.readPkt c k).map (fun r => r.nextWord) = if n = len then none else some (n + 1))
      ∧ (a.readPkt c k = none → a.deqReady q = false → gives a t ⟨0#64, 8#4⟩)
      ∧ (a.readPkt c k = none → a.deqReady q = true →
        ((a.openReach q).2 = none → gives a t ⟨0#64, 8#4⟩)
        ∧ (∀ b h cells b1 w, a.openReach q = (b, some (h, cells)) → b.pktWord cells 1 = (b1, .data w) →
            let len := field h 11 0
            QpuOpens (a.settledGlade c) (t.glade c) (a.queueInfo q).dram
                ⟨w, if bit h 12 then 9#4 else if len = 1 then 3#4 else 1#4⟩ h
              ∧ (t.readPkt c k).map (fun r => (r.queue, r.header, r.nextWord)) = (if len = 1 then none else some (q, h, 2))
              ∧ (s.qm.cache.length ≤ 4000 → (t.peekDesc q).packets = (a.peekDesc q).packets - 1))))
    ∧ run (.qpuSkip c v) .skip (fun a t => (t.readPkt c k = match a.readPkt c k with
          | some r => if r.lost then some r else none
          | none => none)
        ∧ gives a t (TWord.plain (match a.readPkt c k with
          | some r => if r.lost then 0#64 else w64 (field r.header 11 0 + 1 - r.nextWord)
          | none => 0#64)))
    ∧ run (.qpuDepth c v) .depth (fun a t => gives a t (TWord.plain (w64 (a.peekDesc q).packets)))
    ∧ run (.qpuFlush c v) .flush (fun a t =>
        let d := a.peekDesc q
        let fenced := (a.queueInfo q).dram = false ∧ a.flag Reg.SAF_STATUS (32 + (a.queueInfo q).grove) = true
        let refuses := d.enabled = false ∨ d.broken = true ∨ a.engineOn q = false ∨ fenced
        (refuses → gives a t (TWord.plain 2#64))
        ∧ (¬ refuses → ∃ n, n ≤ d.packets ∧ gives a t (TWord.plain (w64 (n * 2 ^ 32)))
            ∧ (s.qm.cache.length ≤ 4000 → (t.peekDesc q).packets = d.packets - n
              ∧ (n < d.packets → (t.peekDesc q).broken = true)))))
  ∧ ((∀ (s : State) (c : Fin 256) (n : Fin 64) (o : NamedOp), (s.glade c).qpuOps[n.val]? = some o → o.rd < 64 →
    Settles (.qpuRetire c n) s (fun t =>
      let x := s.glade c
      let y := t.glade c
      y.qpuOps = x.qpuOps.filter (fun p => p.seq != o.seq)
        ∧ (∀ m, m < 64 → m ≠ o.rd → y.g m = x.g m)
        ∧ (o.fail = none → y.busy o.rd = false ∧ (o.rd ≠ 0 → y.g o.rd = o.result)
            ∧ y.qpuH = o.header.getD x.qpuH ∧ y.failures = x.failures)
        ∧ (∀ d a, o.fail = some (d, a) → y.failures = x.failures ++ [⟨o.seq, o.rd, d, a⟩] ∧ y.g o.rd = x.g o.rd)))
  ∧ (∀ (s : State) (c : Fin 256) (k : Fin 4) (r : ReadPkt), s.readPkt c k = some r → r.lost = false →
    r.buf.length < 32 → r.nextStream ≤ field r.header 11 0 →
      Settles (.qpuStreamWord c k) s (fun t => ∃ r' w, t.readPkt c k = some r' ∧ r'.buf = r.buf ++ [w]
        ∧ r'.nextStream = r.nextStream + 1 ∧ r'.nextWord = r.nextWord)))

/-- Append commands of a Glade that is no trailing one (R331 to R336): PUT of a PLAIN word appends it to the open
record, opening one on the journal of `JAU.A` where none is open; PUTL closes the record after its word, CLOSE without
one. Outside a transaction the closed record, its length cut by `JAU.B`, waits for the journal writer and its answer is
owed to `JAU.Q`. ABANDON discards the record with CODE 4, and an NV word of PUTT answers CODE 7, once the Glade's
earlier stores have drained (R176).

SEAL of a Glade that is no trailing one is a long operation into G[RD] (R338); JAU_SEAL_RETIRE gives the code it is
bound to, or SEQ of the SYNC record once that is durable. RECORD_ACCEPT answers the oldest closed record of a Glade: a
journal that refuses it gives its code and length, one that takes it CODE 0 and the record's SEQ (R334, R337).

Completion: under these conditions, on state and operands alone, `exec` answers a next state for `jauPut`, `jauPutl`,
`jauPutt`, `jauClose`, `jauAbandon`, `jauSeal`, `jauSealRetire`, `recordAccept`. -/
def Obligations.AppendAndSeal : Prop :=
  (∀ (s : State) (c : Fin 256) (v : W64), s.isTrailing c = false →
    let run := fun (i : Instr) (o : JauOp) (tag : BitVec 4) (P : State → State → Prop) =>
      s.issues c (.jau o) ⟨v, tag⟩ noFlags = true → Settles i s (fun t => P (s.before c (.jau o) ⟨v, tag⟩ noFlags) t)
    let old := fun (a : State) => ((a.openRec c).map (fun r => r.words)).getD []
    let due := fun (a t : State) (d : DueVal) =>
      (t.glade c).bank.due = (a.settledGlade c).bank.due ++ [⟨(a.settledGlade c).bank.pos + 2, d⟩]
    let hands := fun (a t : State) (ws : List W64) =>
      t.openRec c = none ∧ ((a.openRec c).isNone = true → (a.joinTxn c).isNone = true →
        let b := (a.settledGlade c).jauB
        due a t .jauWait ∧ ∃ r, t.jw.closed = a.jw.closed ++ [r] ∧ r.glade = c.val
          ∧ r.record.journal = field (a.settledGlade c).jauA 11 0 ∧ r.record.rtype = 0x80 + field b 14 8
          ∧ r.record.payload = (ws.flatMap (fun w => bytesLE 8 w.toNat)).take
              (if ws = [] then 0 else 8 * (ws.length - 1) + (if field b 3 0 = 0 then 8 else field b 3 0)))
    run (.jauPut c ⟨v, 0#4⟩) .put 0#4 (fun a t => (t.openRec c).map (fun r => r.words) = some (old a ++ [v]))
    ∧ run (.jauPutl c ⟨v, 0#4⟩) .putl 0#4 (fun a t => hands a t [v])
    ∧ run (.jauPutt c ⟨v, 3#4⟩) .putt 3#4 (fun a t => hands a t [v])
    ∧ run (.jauPutt c ⟨v, 8#4⟩) .putt 8#4 (fun a t =>
        (a.qpuAtOnce c = true → due a t (.jau 7#64)) ∧ t.openRec c = a.openRec c)
    ∧ run (.jauClose c ⟨v, 0#4⟩) .close 0#4 (fun a t => hands a t [])
    ∧ run (.jauAbandon c ⟨v, 0#4⟩) .abandon 0#4 (fun a t => t.openRec c = none
        ∧ (a.qpuAtOnce c = true → ∃ w, due a t (.jau w) ∧ field w 3 0 = 4)))
  ∧ ((∀ (s : State) (c : Fin 256) (v : TWord), s.isTrailing c = false → s.issues c (.jau .seal) v noFlags = true →
    Settles (.jauSeal c v) s (fun t =>
      let x := (s.before c (.jau .seal) v noFlags).settledGlade c
      (t.glade c).busy x.jauRD.toNat = decide (x.jauRD.toNat ≠ 0)
        ∧ (t.glade c).sealOp.map (fun o => (o.rd, o.journal, o.segment, o.code, o.syncSeq))
          = some (x.jauRD.toNat, field v.data 11 0, bit v.data 12, 0, 0)))
  ∧ (∀ (s : State) (c : Fin 256) (o : SealOp), (s.glade c).sealOp = some o → s.pairOf c = none → o.rd < 64 →
      o.segment = false →
      let ends := fun (w : W64) => Settles (.jauSealRetire c) s (fun t =>
        (t.glade c).sealOp = none ∧ (t.glade c).busy o.rd = false
          ∧ ∀ m, m < 64 → (t.glade c).g m = if m = o.rd ∧ m ≠ 0 then TWord.plain w else (s.glade c).g m)
      (o.code ≠ 0 → ends (w64 o.code))
      ∧ (o.code = 0 → s.jstate o.journal = 2 → o.syncSeq ≠ 0 → o.syncSeq ≤ (s.journal o.journal).durSync →
          ends (w64 ((o.syncSeq - 1) % 2 ^ 32 * 2 ^ 32))))
  ∧ (∀ (s : State) (c : Fin 256) (r : ClosedRec), s.jw.closed.find? (fun r => r.glade == c.val) = some r →
      s.pairOf c = none → s.jstate r.record.journal ≠ 1 → s.drainedBefore c r.seq = true →
      let bankOf := fun (x : Glade) => if r.handler then x.handler else x.thread
      (∃ d ∈ (bankOf (s.glade c)).due, d.val = .jauWait) →
      let len := r.record.payload.length
      (∀ code, s.closeCode r.record.journal len = some code →
        Settles (.recordAccept c) s (fun t => t.jw.closed = s.jw.closed.erase r
          ∧ ∃ d ∈ (bankOf (t.glade c)).due, d.val = .jau (w64 (code % 16 + len % 2 ^ 15 * 2 ^ 8))))
      ∧ (∀ cfg, s.closeCode r.record.journal len = none → s.jcfg r.record.journal = some cfg →
        (cfg.ring = true ∨ s.stageRoom (recordSize len) = true) → ∀ t1 q,
        State.append { s with jw := { s.jw with closed := s.jw.closed.erase r } } r.record.journal cfg r.record.rtype
          r.record.src 0 r.record.payload false .none = (t1, some q) →
        (∃ d ∈ (bankOf (t1.glade c)).due, d.val = .jauWait) → t1.pairOf c = none →
        Settles (.recordAccept c) s (fun t =>
          ∃ d ∈ (bankOf (t.glade c)).due, d.val = .jau (w64 (len % 2 ^ 15 * 2 ^ 8 + q % 2 ^ 32 * 2 ^ 32))))))

/-- The TXU port of a Glade that is no trailing one (R304 to R308, R320): BEGIN opens an empty transaction; COMMIT
hands it over, in a FREE Grove at once when no earlier store is buffered (R176), and PASS asks for turns, both as long
operations into G[RD]; ABORT ends it with nothing of it done: no record of it reaches the journal writer, and where no
queue of its packets is audited no byte of memory and no queue changes; PROBE tells its state and sizes, once the
Glade's earlier stores have drained. A COMMIT in a TICKET Grove by a Glade that MEMBERS no longer shows aborts with
INTERRUPTED (the model's choice, log 16).

Completion: under these conditions, on state and operands alone, `exec` answers a next state for `txuBegin`,
`txuCommit`, `txuAbort`, `txuPass`, `txuProbe`. -/
def Obligations.TransactionPort : Prop :=
  ∀ (s : State) (c : Fin 256) (v : W64), s.isTrailing c = false →
    let run := fun (i : Instr) (o : TxuOp) (P : State → State → Prop) =>
      s.issues c (.txu o) (TWord.plain v) noFlags = true →
        Settles i s (fun t => P (s.before c (.txu o) (TWord.plain v) noFlags) t)
    let long := fun (a t : State) =>
      let rd := (a.settledGlade c).txuRD.toNat
      (t.glade c).busy rd = decide (rd ≠ 0) ∧ (t.glade c).txuOp.map (fun o => o.rd) = some rd
    (v = 0#64 → run (.txuBegin c) .begin_ (fun a t => (t.txn c).map (fun x => (x.state, x.wset, x.rset, x.packets, x.records))
      = some (if (a.txu (c.val / 16)).quiescing then .doomed else .isOpen, [], [], [], [])))
    ∧ run (.txuCommit c v) .commit (fun a t =>
      ((a.ticketMode (c.val / 16) = false ∨ a.isMember c = true) → long a t
        ∧ (∃ x, t.txn c = some x ∧ x.state = .committing ∧ x.wantDurable = bit v 0
            ∧ (a.openTxn c).map (fun o => (o.wset, o.rset)) = some (x.wset, x.rset))
        ∧ (a.ticketMode (c.val / 16) = false → (a.txu (c.val / 16)).received.contains (c.val % 16) = false →
            (a.receivers c).all (fun j => (a.glade j).stores.isEmpty) = true →
            (t.txu (c.val / 16)).received = (a.txu (c.val / 16)).received ++ [c.val % 16]))
      ∧ (a.ticketMode (c.val / 16) = true → a.isMember c = false →
          (a.receivers c).all (fun j => (a.glade j).stores.isEmpty) = true → t.txn c = none ∧ (t.glade c).txuOp = none))
    ∧ run (.txuAbort c v) .abort (fun a t => (a.openTxn c).isSome = true →
        let cached := fun (q : Nat) => a.qm.cache.any (fun e => e.queue == q) = true
        t.txn c = none ∧ t.jw.closed = a.jw.closed ∧ t.jw.journals = a.jw.journals
          ∧ (s.qm.cache.length ≤ 4000 →
            (∀ w ∈ a.heldPackets c, cached w.queue ∧ (a.peekDesc w.queue).audit = false) →
            t.mem = a.mem ∧ t.jw = a.jw ∧ ∀ q, cached q → (t.peekDesc q).packets = (a.peekDesc q).packets))
    ∧ run (.txuPass c v) .pass (fun a t => long a t ∧ smGet 0 (t.txu (c.val / 16)).passes (c.val % 16) = v.toNat)
    ∧ (v = 0#64 → run (.txuProbe c) .probe (fun a t => a.qpuAtOnce c = true →
        (a.txn c = none → (t.glade c).txuQ = 0#64)
        ∧ (∀ x, a.txn c = some x → x.state = .isOpen → x.wset.length ≤ 256 → x.rset.length ≤ 512 →
            field (t.glade c).txuQ 3 0 = 1 ∧ field (t.glade c).txuQ 16 8 = x.wset.length
              ∧ field (t.glade c).txuQ 26 17 = x.rset.length)))

/-- Decisions (R317 to R321). A FREE Grove decides the commit it received first: with a doom code it retires as an
abort with the lowest one; without, and with nothing decided before it, a volatile one is decided. A TICKET Grove
decides the ticket whose turn it is, its Glade's earlier stores drained (R176): a PASS gives the turn up, a COMMIT is
decided or aborted, and the next member's turn follows.

Completion: under these conditions, on state and operands alone, `exec` answers a next state for `freeDecide`,
`ticketDecide`. -/
def Obligations.DecisionsInOrder : Prop :=
  ∀ (s : State) (g : Fin 16),
    let x := s.txu g
    (∀ k rest t op, x.received = k :: rest → k < 16 → s.txn (16 * g + k) = some t → s.pairOf (16 * g + k) = none →
      (s.glade (16 * g + k)).txuOp = some op → op.rd < 64 → op.rd ≠ 0 →
        (t.dooms ≠ 0#16 → Settles (.freeDecide g) s (fun u =>
          u.txn (16 * g + k) = none
            ∧ (u.glade (16 * g + k)).g op.rd = TWord.plain (w64 (t.code % 16 * 2 ^ 4))
            ∧ (u.glade (16 * g + k)).txuOp = none))
        ∧ (t.dooms = 0#16 → x.decided = [] → s.isDurable t = false → Settles (.freeDecide g) s (fun u =>
          (u.txn (16 * g + k)).map (fun y => (y.state, y.wset)) = some (.decided, t.wset)
            ∧ (u.txu g).decided = [k])))
    ∧ (s.ticketMode g = true → x.members ≠ 0#16 → x.decided.length < 32 → x.leaving.getLsbD x.turn = false →
        s.turnReady (16 * g + x.turn) = true →
      let k := x.turn
      (0 < smGet 0 x.passes k → Settles (.ticketDecide g) s (fun u =>
        smGet 0 (u.txu g).passes k = smGet 0 x.passes k - 1 ∧ (u.txu g).next = (x.next + 1) % 2 ^ 32
          ∧ (u.txu g).turn = nextMember x.members k))
      ∧ (∀ t, smGet 0 x.passes k = 0 → k < 16 → s.txn (16 * g + k) = some t → t.state = .committing →
          t.dooms ≠ 0#16 ∨ (x.decided = [] ∧ x.window = [] ∧ s.isDurable t = false) →
        Settles (.ticketDecide g) s (fun u =>
          (u.txu g).next = (x.next + 1) % 2 ^ 32 ∧ (u.txu g).turn = nextMember x.members k
            ∧ (t.dooms ≠ 0#16 → u.txn (16 * g + k) = none)
            ∧ (t.dooms = 0#16 → (u.txn (16 * g + k)).map (fun y => (y.state, y.ticket)) = some (.decided, x.next)))))

/-- TXU_APPLY of the only decided transaction of a Grove, with stores alone: every word of its write set is in Grove
memory unless its write is answered BUSY twice (R247), the transaction is gone, and its Glade has COMMITTED (R306,
R312). With the TXU's own storage uncorrectable it applies nothing and retires with MEMORY.

Completion: under these conditions, on state and operands alone, `exec` answers a next state for `txuApply`. -/
def Obligations.ApplicationWrites : Prop :=
  ∀ (s : State) (c : Fin 256) (t : Txn) (op : NamedOp) (ports : List PortAnswer),
    let g := c.val / 16
    s.txn c = some t → s.canApply c = true → s.pairOf c = none → (s.glade c).txuOp = some op → op.rd < 64 → op.rd ≠ 0 →
    t.records = [] → t.packets = [] → t.step = .volatile → s.ticketMode g = false →
    (s.txu g).decided = [c.val % 16] → (s.txu g).passDone = [] → s.flag (Reg.GRV_INJECT g) 63 = false →
    (t.wset.map (fun e => e.1)).Nodup → (∀ e ∈ t.wset, e.1 % 8 = 0 ∧ e.2.2 = false ∧ s.regionOf e.1 = .groveMem g) →
      (ports.all (fun p => !p.failed) = true → Settles (.txuApply c ⟨false, ports⟩) s (fun u =>
        u.txn c = none ∧ (∀ e ∈ t.wset, u.dataAt e.1 = e.2.1)
          ∧ (∀ a, (∀ e ∈ t.wset, a < e.1 ∨ e.1 + 8 ≤ a) → u.byteAt a = s.byteAt a)
          ∧ (u.glade c).g op.rd = TWord.plain 1#64 ∧ (u.glade c).txuOp = none))
      ∧ Settles (.txuApply c ⟨true, ports⟩) s (fun u =>
        u.txn c = none ∧ (u.glade c).g op.rd = TWord.plain (w64 (13 * 2 ^ 4))
          ∧ (t.placed = [] → s.heldPackets c = [] → ∀ a, u.byteAt a = s.byteAt a))

/-! ### The queue manager -/

/-- Commands of `QM_CMD` on a cache with room, none being in progress (R274, R293, R299, R383). CONFIG writes the
group, the limit and the flags of a descriptor, or is refused with CODE 5, 2 or 3 and changes none; FLUSH discards the
packets of a queue that its readers may open, up to one whose chain cannot be read, which makes it BROKEN, and of any
other queue none, with CODE 0 either way (the model's reading, log 22); RESET empties a queue with no packet open and
clears BROKEN; PIN and UNPIN set the pin of a cached descriptor; READ puts the descriptor in `QM_CMD_DATAn`; an
undefined OP ends with CODE 6. FLUSH and RESET of a queue whose memory is in retention or waking stay BUSY, and while
one does GO is ignored (R10, R265; the model's reading, log 110).

A Grove pool none of whose cells is in use takes the place written to it, empty, when it lies in the Grove's 8,192
cells; a place beyond them sets CFG_ERR and changes no pool (R299, R300).

Completion: under these conditions, on state and operands alone, `exec` answers a next state for `qmConfig`, `qmFlush`,
`qmReset`, `qmPin`, `qmUnpin`, `qmRead`, `qmBadOp`, `qmPoolWrite`. -/
def Obligations.QueueCommands : Prop :=
  (∀ (s : State) (v : W64), s.qm.cache.length ≤ 4000 → s.qm.command = none →
    let q := field v 27 8
    let d := s.peekDesc q
    let waits := fun (i : Instr) (op : Nat) => s.queueWaits q = true → Settles i s (fun u =>
      u = { s with ctl := u.ctl, qm := { s.qm with command := u.qm.command } } ∧ u.qm.command.isSome = true
        ∧ u.fld Reg.QM_CMD 3 0 = op ∧ u.fld Reg.QM_CMD 27 8 = q ∧ u.fld Reg.QM_CMD 63 62 = 3
        ∧ ∀ a, a ≠ Reg.QM_CMD → u.rd a = s.rd a)
    let code := fun (u : State) (n : Nat) => u.rd Reg.QM_CMD_STATUS = w64 n
    let limit := field v 52 48
    let badLimit := limit ≠ 0 ∧ (limit < 7 ∨ 24 < limit)
    let fixed := smGet 0 s.qm.groupPart (field v 43 32)
    let otherPart := fixed ≠ 0 ∧ fixed ≠ (s.queueInfo q).deq + 1
    let dropNow := bit v 46 ≠ d.drop ∧ s.queueOpen q = true
    Settles (.qmConfig v) s (fun u =>
      (badLimit → code u 5 ∧ u.peekDesc q = d) ∧ (¬ badLimit → otherPart → code u 2 ∧ u.peekDesc q = d)
        ∧ (¬ badLimit → ¬ otherPart → dropNow → code u 3 ∧ u.peekDesc q = d)
        ∧ (¬ badLimit → ¬ otherPart → ¬ dropNow → code u 0 ∧ u.peekDesc q =
            { d with group := field v 43 32, enabled := bit v 44, audit := bit v 45, drop := bit v 46, limit := limit }))
    ∧ waits (.qmFlush v) 2 ∧ waits (.qmReset v) 3
    ∧ (s.queueWaits q = false → Settles (.qmFlush v) s (fun u => code u 0
        ∧ (s.queueCode q ≠ 0 → u.peekDesc q = d)
        ∧ (s.queueCode q = 0 → ∃ n, n ≤ d.packets ∧ (u.peekDesc q).packets = d.packets - n
            ∧ (n < d.packets → (u.peekDesc q).broken = true))))
    ∧ (s.queueWaits q = false → Settles (.qmReset v) s (fun u =>
        (s.queueOpen q = true → code u 3)
        ∧ (s.queueOpen q = false → code u 0 ∧ u.peekDesc q =
            { d with head := 0, tail := 0, packets := 0, cells := 0, broken := false })))
    ∧ (s.pinnedIn (q % 2) < 1024 → Settles (.qmPin v) s (fun u =>
        code u 0 ∧ u.qm.cache.any (fun e => e.queue == q && e.pinned) = true ∧ u.peekDesc q = d))
    ∧ Settles (.qmUnpin v) s (fun u => code u 0 ∧ u.qm.cache.any (fun e => e.queue == q && e.pinned) = false)
    ∧ Settles (.qmRead v) s (fun u => code u 0 ∧ ∀ k, k < 4 → u.rd (Reg.QM_CMD_DATA k) = d.words.getD k 0#64)
    ∧ ((field v 3 0 = 0 ∨ 6 < field v 3 0) → Settles (.qmBadOp v) s (fun u => code u 6 ∧ u.qm = s.qm)))
  ∧ (∀ (s : State) (v : W64), s.qm.command.isSome = true →
      ∀ p ∈ [(Instr.qmConfig v, 1), (.qmFlush v, 2), (.qmReset v, 3), (.qmPin v, 4), (.qmUnpin v, 5), (.qmRead v, 6)],
        Settles p.1 s (fun u => CtlOnly s u ∧ u.fld Reg.QM_CMD 3 0 = p.2 ∧ u.fld Reg.QM_CMD 27 8 = field v 27 8
          ∧ u.fld Reg.QM_CMD 63 62 = s.fld Reg.QM_CMD 63 62 ∧ ∀ a, a ≠ Reg.QM_CMD → u.rd a = s.rd a))
  ∧ (∀ (s : State) (k : Fin 24) (v : W64), k.val < 16 → s.pool k = Pool.reset →
    (s.fld (Reg.QM_GPOOL k) 12 0 ≠ field v 12 0 ∨ s.fld (Reg.QM_GPOOL k) 29 16 ≠ field v 29 16) →
      Settles (.qmPoolWrite k v) s (fun u =>
        if field v 12 0 + field v 29 16 ≤ 8192 then
          u.fld (Reg.QM_GPOOL k) 12 0 = field v 12 0 ∧ u.fld (Reg.QM_GPOOL k) 29 16 = field v 29 16 ∧ u.pool k = Pool.reset
            ∧ CtlOnly s { u with qm := s.qm }
        else u.flag Reg.QM_STATUS 2 = true ∧ CtlOnly s u ∧ ∀ a, a ≠ Reg.QM_STATUS → u.rd a = s.rd a))

/-- Ethernet (R295 to R298, R444, R445): a frame that fails a MAC check advances that counter and nothing else. One the
MAC passes is dropped with its counter when it is too long for a packet, arrives faster than the engines can take it,
matches no entry, or a discarding one, goes to a queue that takes none, meets no cell, or goes to a queue that turns
BROKEN; it is refused and recorded where its queue is not its partition's; and else, classified to a queue with cells,
it becomes its newest packet. Egress sends the next packet of a bound queue as a frame of at least 60 bytes, and drops
a malformed one, counted.

Completion: under these conditions, on state and operands alone, `exec` answers a next state for `ethFrameReceive`,
`egressTake`. -/
def Obligations.EthernetTraffic : Prop :=
  ∀ (s : State) (l : Fin 96), s.ethUp l = true →
    (∀ f (check : Fin 3) overrun ago, s.rootlink.cutting = none →
      let m := s.quadMac (l.val / 4)
      let a := s.classify l (s.secLE 0x20 (120 + 8 * m) 1) (s.frameKey l m f)
      let receives := Settles (.ethFrameReceive l f check overrun ago) s
      let counts := fun (s u : State) (r k : Nat) =>
        FieldIs s u r (16 * k + 15) (16 * k) (min (s.fld r (16 * k + 15) (16 * k) + 1) 65535)
      (∀ k, s.macRefuses l f check = some k →
        receives (fun u => counts s u (if k < 4 then Reg.LANE_ETH_CNT0 l else Reg.LANE_ETH_CNT1 l) (k % 4)))
      ∧ (s.macRefuses l f check = none →
        (16368 < f.length → receives (fun u => counts s u Reg.QM_DROPS0 2))
        ∧ (f.length ≤ 16368 → overrun = true → receives (fun u => counts s u Reg.QM_DROPS1 1))
        ∧ (f.length ≤ 16368 → overrun = false →
          (a.2 = .drop 3 → receives (fun u => counts a.1 u Reg.QM_DROPS0 3))
          ∧ (a.2 = .drop 4 → receives (fun u => counts a.1 u Reg.QM_DROPS1 0))
          ∧ (a.2 = .firebreak → receives (fun u => u.qm = a.1.qm ∧ u.mem = a.1.mem
              ∧ u.fld Reg.QM_DROPS0 31 16 = min (a.1.fld Reg.QM_DROPS0 31 16 + 1) 65535))
          ∧ (∀ q i, a.2 = .queue q i →
              let ws := frameWords l (a.1.quadMac (l.val / 4)) i (a.1.stampOf (s.now - ago / 4 * 4)) f
              let w := a.1.writeWords q [] 1 ws
              (∀ s1, w = .noCell s1 → receives (fun u => counts s1 u Reg.QM_DROPS0 0))
              ∧ (∀ s1, w = .broken s1 → receives (fun u => counts s1 u Reg.QM_DROPS1 0))
              ∧ (∀ s1 cells, w = .ok s1 cells → s.qm.cache.length ≤ 4000 → s1.queueCode q = 0 →
                  (s1.peekDesc q).egress = false → (s1.linkPacket q cells ws.length false true l 0).2.isSome = true →
                  receives (fun u => (u.peekDesc q).packets = (a.1.peekDesc q).packets + 1
                    ∧ (u.peekDesc q).seq = ((a.1.peekDesc q).seq + 1) % 2 ^ 32
                    ∧ (u.peekDesc q).tail = cells.getLastD 0))))))
    ∧ (∀ s1 q w rest, s.egTake false l = (s1, some (q, w :: rest)) →
        (egressOk (w :: rest) = true → Settles (.egressTake false l) s (fun u =>
          let data := (rest.flatMap (fun x => bytesLE 8 x.toNat)).take (field w 15 0)
          u.out = .frame l (data ++ List.replicate (60 - data.length) 0#8) :: s1.out))
        ∧ (egressOk (w :: rest) = false → Settles (.egressTake false l) s (fun u =>
          FieldIs s1 u Reg.QM_DROPS1 47 32 (min (s1.fld Reg.QM_DROPS1 47 32 + 1) 65535))))

/-! ### Journals and the Seedbank -/

/-- `JW_CMD` (R328, R330, R338, R347, R348, R350). While a command is in progress GO is ignored, OP and JOURNAL written
alone (R10). While none is, an undefined OP ends with CODE 2; a journal that is not configured, or not in the state the
command needs, with CODE 1, and nothing but the command's two registers changes; that a FORMAT of a ring is one is the
model's reading (log 38). OPEN of a ring opens it; OPEN and REOPEN of a persistent journal that fails a check end with
CODE 4 and the journal in ERROR, and one that passes every check is OPENING until recovery is done with it, the command
ending with the scan (the model's reading, log 123); REOPEN waits, busy, for the journal's commands at its drive
(R351); FORMAT issues the zeroes and stays busy; SEAL of a ring closes its segment once no transaction before it is
unsettled; PERSIST starts a capture, and without a valid target ends with CODE 3.

Completion: under these conditions, on state and operands alone, `exec` answers a next state for `jwOpen`, `jwSeal`,
`jwFormat`, `jwPersist`, `jwReopen`, `jwBadOp`. -/
def Obligations.JournalCommands : Prop :=
  ∀ (s : State) (j : Fin 4096),
    (s.jwBusy = true → ∀ a b, ∀ p ∈ [(Instr.jwOpen j a b, 1), (.jwSeal j, 2), (.jwFormat j, 3), (.jwPersist j, 4),
      (.jwReopen j a b, 5)], Settles p.1 s (fun u => CtlOnly s u ∧ u.fld Reg.JW_CMD 3 0 = p.2 ∧ u.fld Reg.JW_CMD 27 16 = j
        ∧ u.fld Reg.JW_CMD 63 62 = s.fld Reg.JW_CMD 63 62 ∧ ∀ c, c ≠ Reg.JW_CMD → u.rd c = s.rd c))
    ∧ (s.jwBusy = false →
    let cmd := fun (u : State) (op : Nat) (busy : Bool) => u.fld Reg.JW_CMD 3 0 = op ∧ u.fld Reg.JW_CMD 27 16 = j
      ∧ u.flag Reg.JW_CMD 62 = busy ∧ u.flag Reg.JW_CMD 63 = busy
    let ends := fun (i : Instr) (op code : Nat) (P : State → Prop) => Settles i s (fun u =>
      cmd u op false ∧ u.fld Reg.JW_CMD_STATUS 3 0 = code ∧ u.jw.command = none ∧ P u)
    let refused := fun (i : Instr) (op code : Nat) => ends i op code (fun u =>
      CtlOnly { s with jw := { s.jw with command := none } } u
        ∧ ∀ a, a ≠ Reg.JW_CMD → a ≠ Reg.JW_CMD_STATUS → u.rd a = s.rd a)
    (∀ op : Fin 16, (op.val = 0 ∨ 5 < op.val) → refused (.jwBadOp op j) op 2)
    ∧ (s.configured j = none → (∀ a b, refused (.jwOpen j a b) 1 1 ∧ refused (.jwReopen j a b) 5 1)
        ∧ refused (.jwSeal j) 2 1 ∧ refused (.jwPersist j) 4 1)
    ∧ (∀ c, s.jcfg j = some c →
        ((c.ring = true ∨ (s.jstate j ≠ 0 ∧ s.jstate j ≠ 4)) → refused (.jwFormat j) 3 1)
        ∧ (c.ring = false → (s.jstate j = 0 ∨ s.jstate j = 4) → Settles (.jwFormat j) s (fun u =>
            cmd u 3 true ∧ (smGet [] u.jw.queues c.ctrl).map (fun k => (k.kind, k.journal))
              = (smGet [] s.jw.queues c.ctrl).map (fun k => (k.kind, k.journal)) ++ [(.zeroes, j.val)])))
    ∧ (∀ c, s.configured j = some c →
        (s.jstate j ≠ 0 → ∀ a b, refused (.jwOpen j a b) 1 1)
        ∧ (s.jstate j ≠ 4 → s.jstate j ≠ 5 → ∀ a b, refused (.jwReopen j a b) 5 1)
        ∧ (s.jstate j ≠ 2 → refused (.jwSeal j) 2 1 ∧ refused (.jwPersist j) 4 1)
        ∧ (c.ring = true → s.jstate j = 2 → s.captureTarget j c = none → refused (.jwPersist j) 4 3)
        ∧ (c.ring = true → s.jstate j = 0 → ∀ a b, ends (.jwOpen j a b) 1 0 (fun u =>
            u.jstate j = 2 ∧ (u.journal j).segOpen = true ∧ (u.rd (Reg.JW_JSEQ j)).toNat = 1))
        ∧ (c.ring = false → s.jstate j = 0 → ∀ a b,
            ((s.enumerate c.ctrl).openCode c a b ≠ 0 → ends (.jwOpen j a b) 1 4 (fun u => u.jstate j = 4))
            ∧ ((s.enumerate c.ctrl).openCode c a b = 0 → ends (.jwOpen j a b) 1 0 (fun u => u.jstate j = 1)))
        ∧ (c.ring = true → s.jstate j = 2 → (s.journal j).capture = none → ∀ t, s.captureTarget j c = some t →
            ends (.jwPersist j) 4 0 (fun u => (u.journal j).capture
              = some ⟨(s.ringBounds j).1, (s.ringBounds j).2, (s.ringBounds j).1, t.1, 0, 0, 0, s.now⟩))
        ∧ (c.ring = true → s.jstate j = 2 → (s.journal j).capture = none → s.maySync j = true →
            ends (.jwSeal j) 2 0 (fun u => (u.journal j).segOpen = false))
        ∧ (c.ring = false → (s.jstate j = 4 ∨ s.jstate j = 5) → s.journalBusy j = true → ∀ a b,
            Settles (.jwReopen j a b) s (fun u => cmd u 5 true ∧ u.jstate j = s.jstate j ∧ u.jw.queues = s.jw.queues))
        ∧ (c.ring = false → (s.jstate j = 4 ∨ s.jstate j = 5) → s.journalBusy j = false → ∀ a b,
            (s.enumerate c.ctrl).openCode c a b = 0 → ends (.jwReopen j a b) 5 0 (fun u => u.jstate j = 1))
        ∧ (c.ring = false → (s.jstate j = 4 ∨ s.jstate j = 5) → s.journalBusy j = false → ∀ a b,
            (s.enumerate c.ctrl).openCode c a b ≠ 0 → ends (.jwReopen j a b) 5 4 (fun u => u.jstate j = 4
              ∧ u.fld (Reg.JW_JSTATE j) 15 8 = (s.enumerate c.ctrl).openCode c a b))
        ∧ (s.jstate j = 2 → s.maySync j = false → Settles (.jwSeal j) s (fun u => cmd u 2 true ∧ u.jstate j = 2))))

/-- RELEASED of a journal is raised, a lower value ignored (R329); a trigger point of a ring starts a capture into its
target, and none where that is no open persistent journal of its partition; the end of a capture leaves none in
progress and raises CAPTURE_DONE (R350).

The oldest NVMe command of a controller (R348): a first error that may be retried, or a first timeout, issues it once
more, a timeout after an Abort; a second one, or an error with Do Not Retry, puts its journal in ERROR, with ERR 0x07,
or 0x08 for a timeout, and drops its commands. A success drops it alone. Controller Fatal Status resets the controller,
drops its commands, and puts its journals that are in use in ERROR with ERR 0x07; the controller is then not READY (the
model's choice, log 122).

Completion: under these conditions, on state and operands alone, `exec` answers a next state for `captureTrigger`,
`captureEnd`, `jrelWrite`, `nvmeCompletion`, `nvmeTimeout`, `nvmeControllerFatal`. -/
def Obligations.DrivesAndCaptures : Prop :=
  (∀ (s : State) (j : Fin 4096),
    (∀ v : W64, Settles (.jrelWrite j v) s (fun u =>
      (u.rd (Reg.JW_JREL j)).toNat = max v.toNat (s.rd (Reg.JW_JREL j)).toNat ∧ CtlOnly s u
        ∧ ∀ a, a ≠ Reg.JW_JREL j → a ≠ Reg.JW_JSTATE j → u.rd a = s.rd a))
    ∧ (∀ t rest c, s.jw.triggers = t :: rest → t.1 = j.val → s.configured j = some c → s.captureTarget j c = none →
        Settles (.captureTrigger j) s (fun u => u = { s with jw := { s.jw with triggers := rest } }))
    ∧ (∀ t rest c g, s.jw.triggers = t :: rest → t.1 = j.val → s.configured j = some c → c.ring = true →
        s.jstate j = 2 → s.captureTarget j c = some g → (s.journal j).capture = none →
        Settles (.captureTrigger j) s (fun u => rest <+: u.jw.triggers
          ∧ (u.journal j).capture = some ⟨t.2.1, t.2.2.1, t.2.1, g.1, 0, 0, 1, t.2.2.2⟩))
    ∧ (s.journalsSound → ∀ k c ct, (s.journal j).capture = some k → (s.journal j).queued = none → s.jcfg j = some c → k.next = k.last + 1 →
        s.jcfg k.target = some ct → ct.ring = false → s.slotFree k.target ct = true → k.target ≠ j.val →
        s.jstate k.target = 2 →
        (s.rd (Reg.JW_JSEQ k.target)).toNat < 2 ^ 63 → s.tallyCount (dev 185) < 65535 →
        Settles (.captureEnd j) s (fun u => (u.journal j).capture = none
          ∧ u.tallyCount (dev 185) = s.tallyCount (dev 185) + 1
          ∧ (u.rd (Reg.JW_JSEQ k.target)).toNat > (s.rd (Reg.JW_JSEQ k.target)).toNat
          ∧ ((smGet [] u.jw.queues ct.ctrl).getLast?.map (fun x => (x.kind, x.journal, x.purpose)))
              = some (.flush, k.target, .capture j))))
  ∧ (∀ (s : State) (ctrl : Fin 16), s.journalsSound →
    let queue := fun (u : State) => smGet [] u.jw.queues ctrl
    (∀ k ks c, queue s = k :: ks → s.jcfg k.journal = some c → c.ctrl = ctrl.val →
      s.headIssued (k :: ks) = true →
      let fails := fun (i : Instr) (err : Nat) => Settles i s (fun u =>
        u.jstate k.journal = 4 ∧ u.fld (Reg.JW_JSTATE k.journal) 15 8 = err ∧ ∀ x ∈ queue u, x.journal ≠ k.journal)
      (k.retried = false →
          Settles (.nvmeCompletion ctrl 1) s (fun u => queue u = { k with retried := true, sent := false } :: ks ∧ u.mem = s.mem ∧ u.ctl = s.ctl)
          ∧ Settles (.nvmeTimeout ctrl) s (fun u => queue u = { k with retried := true, sent := false } :: ks
              ∧ u.out = .nvmeAbort ctrl :: s.out ∧ FieldIs { s with jw := u.jw, out := u.out } u Reg.JW_ERR_COUNTS 47 32 (min (s.fld Reg.JW_ERR_COUNTS 47 32 + 1) 65535)))
      ∧ fails (.nvmeCompletion ctrl 2) 7
      ∧ (k.retried = true → fails (.nvmeCompletion ctrl 1) 7 ∧ fails (.nvmeTimeout ctrl) 8)
      ∧ (k.purpose = .none → Settles (.nvmeCompletion ctrl 0) s (fun u => queue u = ks
              ∧ (k.kind = .write → ∀ n, n < k.data.length →
                  smGet 0#8 u.media (mediaKey ctrl c.nsid (k.pos + n)) = k.data.getD n 0#8))))
    ∧ Settles (.nvmeControllerFatal ctrl) s (fun u => u.flag (Reg.JW_CTRL ctrl) 3 = true
        ∧ u.flag (Reg.JW_CTRL ctrl) 1 = false ∧ queue u = []
        ∧ ∀ j c, (j, c) ∈ s.persistentJournals → c.ctrl = ctrl.val → s.jstate j ≠ 0 → u.jstate j = 4
            ∧ (s.jstate j ≠ 4 → u.fld (Reg.JW_JSTATE j) 15 8 = 7)))

/-- `HW_SB_CMD` (R359, R362 to R364): RECORD 3 ends with CODE 2; a record update whose body is well-formed is queued
for the port, which it takes at once when the port is free and no marker is ready.

Markers and lines (R358, R366 to R369): the marker that is ready and first in turn is written on the slot written least
recently and takes the next MSEQ; a line write that is done has put its bytes in the line and nowhere else; a marker
done makes its commit durable; a slot whose journals hold a later durable SYNC record is free again, any other stays.

Completion: under these conditions, on state and operands alone, `exec` answers a next state for `markerWriteStart`,
`lineWriteDone`, `markerSlotRetire`, `sbUpdateDirectory`, `sbUpdatePointers`, `sbUpdateLastFault`, `sbBadRecord`. -/
def Obligations.RecordsAndMarkers : Prop :=
  (∀ (s : State) (v : W64), s.flag Reg.HW_SB_CMD 62 = false →
    Settles (.sbBadRecord v) s (fun u => u.fld Reg.HW_SB_CMD_STATUS 3 0 = 2 ∧ u.flag Reg.HW_SB_CMD 62 = false
      ∧ u.keeper = s.keeper)
    ∧ (s.keeper.port = none → s.keeper.queue = [] → (List.range 16).any s.markerReady = false →
        let writes := fun (i : Instr) (r : Nat) => ∀ s1 body,
          ((s.setFld Reg.HW_SB_CMD 1 0 r).setFld Reg.HW_SB_CMD 25 8 (field v 25 8)).readMem .heartwood
            (hwMemBase + field v 25 8 / 8 * 8) 96 = (s1, .ok body) → bodyReservedZero r body = true →
          Settles i s (fun u =>
            u.keeper.updating = r + 1 ∧ u.flag Reg.HW_SB_CMD 62 = true ∧ u.mem = s1.mem
              ∧ ∃ w w2, u.keeper.port = some w ∧ w.use_ = .dual r false true ∧ (w.bytes.drop 12).take 48 = body.take 48
                ∧ u.keeper.queue = [.second w2] ∧ w2.use_ = .dual r true true
                ∧ (w2.bytes.drop 12).take 48 = (body.drop 48).take 48)
        writes (.sbUpdateDirectory v) 0 ∧ writes (.sbUpdatePointers v) 1 ∧ writes (.sbUpdateLastFault v) 2))
  ∧ ((∀ (s : State) (g : Fin 16) (line : Nat), s.markerTurn g = true → s.freeSlot g = some line →
    Settles (.markerWriteStart g) s (fun u =>
      (∃ w ks, u.keeper.port = some w ∧ w.line = line ∧ w.use_ = .marker g ks ∧ ks = (s.markerCovers g).map (fun p => p.1))
        ∧ (u.slot line).inFlight = true ∧ (u.slot line).complete = false
        ∧ u.rd Reg.HW_SB_MSEQ = s.rd Reg.HW_SB_MSEQ + 1#64))
  ∧ (∀ (s : State) (w : LineWrite), s.keeper.port = some w → w.bytes.length = 64 → w.use_ = .lookout →
      s.keeper.queue = [] → Settles .lineWriteDone s (fun u => u.keeper.port = none ∧ ∀ a, u.byteAt a =
        if seedbankBase + 64 * w.line ≤ a ∧ a < seedbankBase + 64 * w.line + 64 then
          w.bytes.getD (a - (seedbankBase + 64 * w.line)) 0#8
        else s.byteAt a))
  ∧ (∀ (s : State) (w : LineWrite) (g k : Nat) (t : Txn), s.keeper.port = some w → w.use_ = .marker g [k] →
      g < 16 → k < 16 → s.txn (16 * g + k) = some t → t.step = .inMarker → (s.slot w.line).needs = [] →
      Settles .lineWriteDone s (fun u => (u.txn (16 * g + k)).map (fun y => y.step) = some .durable
        ∧ (u.slot w.line).complete = true))
  ∧ (∀ (s : State) (line : Fin 64),
      Settles (.markerSlotRetire line) s (fun u =>
        (u.slot line).inFlight = ((s.slot line).inFlight && !((s.slot line).complete
          && (s.slot line).needs.all (fun n => decide (n.2 < (s.journal n.1).durSync))))
        ∧ ∀ n, n ≠ line.val → u.slot n = s.slot n)))

/-! ### Tally, timers and GPIO -/

/-- Writes of the Tally registers (R378, R380, R383, R384): one that the check refuses is recorded and changes no
counter and no route; TLY_SUB takes its amount off the counter, not below 0; TLY_RAISE of a SOFT source adds,
saturating with SAT, and of any other sets RAISE_ERR; a route takes its fields, or, when a check fails, sets ROUTE_ERR.

Delivery of a pending source in RUN wakes every Glade its effective route names, and its pair, from Clearing, and no
other Glade (R206, R382). A source that is not pending is not delivered.

Completion: under these conditions, on state and operands alone, `exec` answers a next state for `tlySub`, `tlyRaise`,
`tlyRouteWrite`, `tallyDelivery`. -/
def Obligations.TallyResults : Prop :=
  (∀ (s : State) (k : Fin 4352) (v : W64),
    (∀ (c : Fin 257) (n : BitVec 16),
      (s.accessCheck (coreRequester c) true (Reg.TLY_SUB k) 8 (w64 n.toNat) = none →
        Settles (.tlySub c k n) s (fun u => FieldIs s u (Reg.TLY_CNT k) 15 0 (s.tallyCount k - n.toNat)))
      ∧ (∀ d, s.accessCheck (coreRequester c) true (Reg.TLY_SUB k) 8 (w64 n.toNat) = some d →
        Settles (.tlySub c k n) s (fun u => u = s.recordRefusal (coreRequester c) (Reg.TLY_SUB k) d)))
    ∧ (∀ (who : Fin 258), s.accessCheck (tallyRequester who) true Reg.TLY_RAISE 8 v = none →
        let r := field v 12 0
        if dev 192 ≤ r ∧ r ≤ dev 255 then Settles (.tlyRaise who v) s (fun u =>
          u.tallyCount r = min (s.tallyCount r + field v 31 16) 65535
            ∧ u.flag (Reg.TLY_CNT r) 17 = (s.flag (Reg.TLY_CNT r) 17 || decide (65535 < s.tallyCount r + field v 31 16))
            ∧ ∀ a, a ≠ Reg.TLY_CNT r → u.rd a = s.rd a)
        else Settles (.tlyRaise who v) s (fun u => FieldIs s u Reg.TLY_STATUS 1 1 1))
    ∧ (∀ (who : Fin 258) d,
        (s.accessCheck (tallyRequester who) true Reg.TLY_RAISE 8 v = some d → Settles (.tlyRaise who v) s (fun u =>
          u = s.recordRefusal (tallyRequester who) Reg.TLY_RAISE d))
        ∧ (s.accessCheck (tallyRequester who) true (Reg.TLY_ROUTE k) 8 v = some d →
          Settles (.tlyRouteWrite who k v) s (fun u => u = s.recordRefusal (tallyRequester who) (Reg.TLY_ROUTE k) d)))
    ∧ (∀ (who : Fin 258), s.accessCheck (tallyRequester who) true (Reg.TLY_ROUTE k) 8 v = none →
        (s.routeOk k v = true → Settles (.tlyRouteWrite who k v) s (fun u =>
          (∀ p ∈ [(0, 0), (1, 1), (11, 8), (31, 16), (35, 32), (63, 48)],
            u.fld (Reg.TLY_ROUTE k) p.1 p.2 = field v p.1 p.2)
            ∧ (∀ a, a ≠ Reg.TLY_ROUTE k → u.rd a = s.rd a) ∧ u = { s with ctl := u.ctl, qm := u.qm }))
        ∧ (s.routeOk k v = false → Settles (.tlyRouteWrite who k v) s (fun u => FieldIs s u Reg.TLY_STATUS 0 0 1))))
  ∧ (∀ (s : State) (k : Fin 4352),
    (s.tallyPending k = false → Settles (.tallyDelivery k) s (fun u => u = s))
    ∧ (s.tallyPending k = true → s.mode = 3 → s.domainOn 2 = true → s.flag Reg.PWR_MODE 8 = false →
        Settles (.tallyDelivery k) s (fun u =>
          (∀ i ∈ (s.effRoute k).1, ∀ j ∈ s.receivers i, (u.glade j).woken = true
            ∧ (u.glade j).run = (if (s.glade j).run = .clearing then .running else (s.glade j).run)
            ∧ (u.glade j).grf = (s.glade j).grf)
          ∧ (∀ j, (∀ i ∈ (s.effRoute k).1, j ∉ s.receivers i) → u.glade j = s.glade j)
          ∧ u.tallyCount k = s.tallyCount k)))

/-- Timers and GPIO inputs (R386, R387, R389). A period that ends advances the time base to it and increments its
source. The filtered level changes at the FILTER-th consecutive sample of the new level, ACTIVE_LOW inverting the pin,
and an edge that EDGE selects increments its source once; fewer samples, or samples of the same level, count alone. A
level active for STUCK_US, 100 samples a microsecond, increments its source once; a write of `UST_GPIn_CFG` keeps the
level, and both measurements begin again. That the command of a period brings the time base to the moment it is due
(log 32), and that GPIO_EDGE stands for a run of samples (log 138), are the model's choices.

Completion: under these conditions, on state and operands alone, `exec` answers a next state for `timerPeriod`,
`gpioEdge`, `gpioStuck`, `gpiCfgWrite`. -/
def Obligations.TimersAndInputs : Prop :=
  (∀ (s : State) (t : Fin 8), s.timeRuns = true → s.tallyOn = true → s.timerPeriod t ≠ 0 →
    s.time.count.toNat + s.timerPeriod t < 2 ^ 64 →
    Settles (.timerPeriod t) s (fun u =>
      u.time.count.toNat = (s.time.count.toNat / s.timerPeriod t + 1) * s.timerPeriod t
        ∧ u.now = max s.now u.time.count.toNat
        ∧ u.tallyCount (dev (144 + t)) = min (s.tallyCount (dev (144 + t)) + 1) 65535))
  ∧ (∀ (s : State) (n : Fin 16), s.samplerOn = true → s.tallyOn = true →
    let a := Reg.UST_GPI_CFG n
    let counts := fun (u : State) (k : Nat) (yes : Bool) =>
      u.tallyCount (dev k) = (if yes then min (s.tallyCount (dev k) + 1) 65535 else s.tallyCount (dev k))
        ∧ ∀ b, b ≠ a → b ≠ Reg.TLY_CNT (dev n) → b ≠ Reg.TLY_CNT (dev (16 + n)) → u.rd b = s.rd b
    let samples := fun (u : State) (pend active : Nat) =>
      smGet 0 u.sampler.pend n = pend ∧ smGet 0 u.sampler.active n = active
    let was := smGet 0 s.sampler.active n
    let now := s.flag a 63
    (∀ r : PinRun, 0 < r.samples →
      let level := r.high != s.flag a 14
      let pend := smGet 0 s.sampler.pend n
      let need := max 1 (min 1024 (s.fld a 10 0)) - pend
      (level = now → Settles (.gpioEdge n r) s (fun u =>
        u.ctl = s.ctl ∧ samples u 0 (if now then was + r.samples else 0)))
      ∧ (level ≠ now → r.samples < need → Settles (.gpioEdge n r) s (fun u =>
        u.ctl = s.ctl ∧ samples u (pend + r.samples) (if now then was + r.samples else 0)))
      ∧ (level ≠ now → need ≤ r.samples →
        (s.flag Reg.PWR_WAKE_CFG n = false ∨ (s.mode = 3 ∧ s.flag Reg.PWR_MODE 8 = false)) →
        Settles (.gpioEdge n r) s (fun u =>
          u.flag a 63 = level ∧ samples u 0 (if level then r.samples - need else 0) ∧ counts u n.val
            (decide (s.fld a 13 12 = 3 ∨ (s.fld a 13 12 = 1 ∧ level = true) ∨ (s.fld a 13 12 = 2 ∧ level = false))))))
    ∧ (let due := now && decide (s.fld a 39 16 ≠ 0 ∧ 100 * s.fld a 39 16 ≤ was) && !s.sampler.fired.getLsbD n
      Settles (.gpioStuck n) s (fun u => counts u (16 + n) due ∧ u.flag a 63 = now
        ∧ u.sampler.fired.getLsbD n = (due || s.sampler.fired.getLsbD n))
      ∧ ∀ v : W64, (∀ d, s.accessCheck .heartwood true a 8 v = some d → Settles (.gpiCfgWrite n v) s (fun u =>
          u = s.recordRefusal .heartwood a d))
        ∧ (s.accessCheck .heartwood true a 8 v = none → Settles (.gpiCfgWrite n v) s (fun u =>
          u.flag a 63 = now ∧ u.fld a 39 16 = field v 39 16 ∧ u.fld a 14 12 = field v 14 12
            ∧ u.fld a 10 0 = field v 10 0 ∧ samples u 0 0 ∧ counts u (16 + n) due))))

/-! ### Reset, boot and structure -/

/-- PORST_N low, and the loss of supply: every register is at its reset value (the mode after the loss of supply is
OFF), every Glade at rest, every memory outside the Seedbank lists nothing; the drives, the flash, the key slots, the
splits still to be counted (the model's choice, log 115) and the waiting commands stay (R76, R393, R520). What a Glade
at rest holds (log 3), that a memory that lists nothing reads zero (log 4), and that the ROM runs in one step (log 82)
are the model's choices.

The ROM starts on PORST_N, after a hold-up shutdown, after a brown-out of the Heartwood's rail in a low-power mode, and
when supply returns during STRUCTURE; on a board that boots by a push it ends waiting for the endpoint's link, at which
the wait for the push begins, with its cause in RESET_CAUSE (R77, R85, R86, R89, R401, R415); a Heartwood that does not
wake stops it in SAFE with FAIL 8 (R88).

Completion: under these conditions, on state and operands alone, `exec` answers a next state for `porstNRelease`,
`holdupNRiseInStructure`, `brownout`, `holdupReturn`, `porstNAssert`, `lossOfSupply`. -/
def Obligations.ResetsAndRom : Prop :=
  (∀ s : State,
    let cleared := fun (t : State) =>
      (∀ c, t.glade c = Glade.reset) ∧ (∀ a, a < seedbankBase ∨ seedbankBase + 4096 ≤ a → t.byteAt a = 0#8)
        ∧ t.drives = s.drives ∧ t.board.flash = s.board.flash ∧ t.board.keyWords = s.board.keyWords
        ∧ t.board.keyRevoked = s.board.keyRevoked ∧ t.pending = s.pending ∧ t.sections = []
        ∧ t.keeper = { Keeper.reset with splits := s.keeper.splits }
    Answers .porstNAssert s (fun t => cleared t ∧ (∀ a, t.rd a = regReset a) ∧ t.media = s.media
        ∧ (s.keeper.port = none → ∀ a, seedbankBase ≤ a → a < seedbankBase + 4096 → t.byteAt a = s.byteAt a))
    ∧ Answers .lossOfSupply s (fun t => cleared t ∧ t.mode = 1 ∧ (∀ a, a ≠ Reg.PWR_MODE → t.rd a = regReset a)
        ∧ t.unflushed = []))
  ∧ (∀ (s : State) (w : BootWorld), w.stagingFail = none → w.bootSrc.val = 1 →
    let waits := fun (cause : Nat) (u : State) => u.stage = 0 ∧ u.board.pushing = true ∧ u.fld Reg.PWR_STATUS 9 8 = cause ∧ u.board.porst = true
      ∧ u.fld Reg.HW_BOOT 1 0 = 1 ∧ u.pending = s.pending
    (w.hwFails = none →
      (s.board.porst = false → Settles (.porstNRelease w) s (waits 0))
      ∧ (s.mode = 9 → s.power.down = true → s.flag Reg.RTL_BOARD 8 = false → Settles (.holdupReturn w) s (waits 3))
      ∧ (s.flag (Reg.PWR_RAIL 16) 28 = true → Settles (.brownout 16 w) s (waits 2))
      ∧ (s.mode = 2 → s.power.down = true → s.board.porst = true → s.fld Reg.HW_BOOT 1 0 = 1 →
          Settles (.holdupNRiseInStructure w) s (waits (s.fld Reg.PWR_STATUS 9 8))))
    ∧ (∀ canopy, w.hwFails = some canopy → s.board.porst = false → Settles (.porstNRelease w) s (fun u =>
        u.stage = 15 ∧ u.fld Reg.HW_BOOT 15 8 = 8 ∧ u.mode = 10)))

/-- The boot link alternates between width 4 and width 1 while the ROM waits for a manager (R87); key words are
programmed once, and keys revoked, in SERVICE only (R65).

While the ROM waits for a push (STAGE 3, in STRUCTURE; SERVICE ends that wait, R453), with BAR0 enabled: an aligned
word written to the first 16 MiB of BAR0 lies in the staging memory of its Grove, and one written to the firmware's
staging in Grove 8's, its data there to be checked; `HW_PUSH` without GO keeps what is written; with GO, a firmware
image too short is refused with FAIL 4 and the ROM waits again; images that pass every check are applied and RUN is
entered (R85, R86). That BAR0 is enabled by the Command register of the standard (log 76, from outside the spec), and
that a write outside the staging regions is reported through AER (log 33), are the model's readings.

Completion: under these conditions, on state and operands alone, `exec` answers a next state for `pushGo`,
`bar0StagingWrite`, `bootLinkAlternate`, `keyprogWord`, `keyprogRevoke`. -/
def Obligations.BootSteps : Prop :=
  ((∀ s : State, s.stage = 2 → s.linkUp 0 = false → Settles .bootLinkAlternate s (fun u =>
    u.fld (Reg.RTL_LINK_STATE 0) 5 3 = (if s.fld (Reg.RTL_LINK_STATE 0) 5 3 = 1 then 4 else 1)
      ∧ u.linkState 0 = 1 ∧ (∀ l, u.link l = if l = 0 then { s.link 0 with trained := false } else s.link l)
      ∧ u.mem = s.mem ∧ u.glades = s.glades ∧ u.out = s.out ∧ ∀ a, a ≠ Reg.RTL_LINK_STATE 0 → u.rd a = s.rd a))
  ∧ (∀ (s : State) (slot word : Fin 4), Settles (.keyprogWord slot word) s (fun u =>
      (∀ n k, n < 4 → k < 4 → u.keySlots.word n k = if n = slot.val ∧ k = word.val ∧ s.mode = 11 ∧ s.keySlots.revoked.getLsbD n = false
          ∧ s.keySlots.word n k = none then some (s.rd Reg.SM_KEYPROG_DATA) else s.keySlots.word n k)
        ∧ u.ctl = s.ctl))
  ∧ (∀ (s : State) (slot : Fin 4), Settles (.keyprogRevoke slot) s (fun u =>
      (∀ n, n < 4 → u.keySlots.revoked.getLsbD n = (s.keySlots.revoked.getLsbD n || (decide (n = slot.val) && decide (s.mode = 11))))
        ∧ u.board.keyWords = s.board.keyWords ∧ u.ctl = s.ctl)))
  ∧ (∀ s : State, s.stage = 3 →
    (∀ (off : BitVec 25) (data : List Byte), s.flag (Reg.LANE_PCIE_STAT 2 0) 0 = true →
      let refused := Settles (.bar0StagingWrite off data) s (fun u => u = { s with out := .aer :: s.out, msix := u.msix })
      (s.hostMemory = false → refused) ∧ (s.hostMemory = true → data.length = 8 → off.toNat % 8 = 0 →
      (∀ g, g < 16 → s.flag (Reg.GRV_INJECT g) 63 = false) → s.ports.a = [] →
      let lies := fun (b : Nat) => Settles (.bar0StagingWrite off data) s (fun u => ∀ a, u.byteAt a =
        if b ≤ a ∧ a < b + 8 then data.getD (a - b) 0#8 else s.byteAt a)
      (off.toNat < 0x1000000 → lies (groveMemBase (off.toNat / 2 ^ 21) + off.toNat % 2 ^ 21))
        ∧ (0x1000000 ≤ off.toNat → off.toNat + 8 ≤ 0x103C000 → lies (groveMemBase 8 + (off.toNat - 0x1000000)))
        ∧ (0x103C000 ≤ off.toNat → refused)))
    ∧ (s.mode = 2 → ∀ (v : W64) (fails : GroveFails), bit v 63 = false → Settles (.pushGo ⟨v, fails⟩) s (fun u =>
        u.fld Reg.HW_PUSH 17 0 = field v 17 0 ∧ u.fld Reg.HW_PUSH 48 24 = field v 48 24 ∧ CtlOnly s u
          ∧ ∀ a, a ≠ Reg.HW_PUSH → u.rd a = s.rd a))
    ∧ (s.mode = 2 → ∀ (v : W64) (fails : GroveFails), bit v 63 = true → field v 17 0 < 160 → Settles (.pushGo ⟨v, fails⟩) s (fun u =>
        u.stage = 3 ∧ u.fld Reg.HW_BOOT 15 8 = 4))
    ∧ (s.mode = 2 → ∀ (v : W64) (fails : GroveFails) (t : State), bit v 63 = true →
        ((s.setFld Reg.HW_PUSH 17 0 (field v 17 0)).setFld Reg.HW_PUSH 48 24 (field v 48 24)).checkStaged
          (field v 17 0) (field v 48 24) 2 fails = .ok t →
        Settles (.pushGo ⟨v, fails⟩) s (fun u => u = t ∧ u.stage = 6))
    ∧ (s.mode ≠ 2 → ∀ w : PushWrite, Settles (.pushGo w) s (fun u => u = s)))

/-- After RUN has been entered (STAGE 6) the negotiation is locked by the host through its link, by the firmware, or
after 10 s where the endpoint is enabled; a locked one stays as it is (R90, R91). A Glade that may start begins at IMEM
0 in the thread bank, EVEC invalid, its counters 0 (R95, R153). That a lock by the firmware reads BY 2 whatever it
accepted, and that the first of two locks holds, are the model's choices (log 116).

Completion: under these conditions, on state and operands alone, `exec` answers a next state for `negLockWrite`,
`negLockTimeout`, `gladeStart`. -/
def Obligations.LockAndStart : Prop :=
  (∀ (s : State), s.stage = 6 →
    let locks := fun (i : Instr) (party : Nat) => Settles i s (fun u => u.flag Reg.NEG_LOCK 0 = true
      ∧ u.fld Reg.NEG_LOCK 2 1 = (if s.flag Reg.NEG_LOCK 0 then s.fld Reg.NEG_LOCK 2 1 else party))
    (s.pcieByte 2 0 = 1 → s.flag (Reg.LANE_PCIE_STAT 2 0) 0 = true → locks (.negLockWrite true) 0)
      ∧ locks (.negLockWrite false) 2
      ∧ (s.pcieByte 2 0 = 1 → locks .negLockTimeout 3))
  ∧ (∀ (s : State) (c : Fin 256), (s.receivers c).all s.mayStart = true → s.pairOf c = none →
      Settles (.gladeStart c) s (fun u =>
        let y := u.glade c
        y.run = .running ∧ y.pc = 0#64 ∧ y.inHandler = false ∧ y.masked = false ∧ y.evec = 0#64 ∧ y.score = 0#64
          ∧ y.cntIssued = 0#64 ∧ y.cntFetched = 0#64 ∧ y.cntBusy = 0#64 ∧ y.grf = (s.glade c).grf
          ∧ ∀ d, d ≠ c.val → u.glade d = s.glade d))

/-- REGROW (R72): accepted in RUN, a fragment that fails a check is rejected (STATE 5, its code and check reported, the
structure and the mode kept), and one that passes makes the device wait, in mode REGROW, for the Grove to quiesce; a
quiesce that takes too long ends it with STATE 6 in RUN, the Grove as it was; a Grove that has quiesced, the stores its
Glades had issued performed, takes its new structure, its Glades made anew and its pool empty, STATE 4, and the device
is in RUN again; where no transaction is left in any Grove, its memories, and its Glades', are zero and its queues
empty. OFFSET is taken as the multiple of 8 at or below what is written (the model's choice, log 112).

Completion: under these conditions, on state and operands alone, `exec` answers a next state for `regrowStart`,
`regrowQuiesceTimeout`, `regrowApply`. -/
def Obligations.RegrowStates : Prop :=
  (∀ (s : State) (g : Fin 16) (off : BitVec 32), s.flag Reg.SM_STATUS 4 = false → s.accepted 10 = true → s.mode = 3 →
    s.flag Reg.PWR_MODE 8 = false → s.regrow = none →
      let at_ := off.toNat / 8 * 8
      (∀ t e, (s.regrowTaken g at_).fragment g at_ = (t, .error e) → Settles (.regrowStart g off) s (fun u =>
        u.fld Reg.SM_REGROW_STATUS 2 0 = 5 ∧ u.fld Reg.SM_REGROW_STATUS 23 16 = e.code % 256
          ∧ u.fld Reg.SM_REGROW_STATUS 31 24 = e.check % 256 ∧ u.regrow = none ∧ u.flag Reg.SM_STATUS 4 = false
          ∧ u.mode = 3 ∧ u.sections = s.sections))
      ∧ (∀ t ss, (s.regrowTaken g at_).fragment g at_ = (t, .ok ss) → Settles (.regrowStart g off) s (fun u =>
        u.fld Reg.SM_REGROW_STATUS 2 0 = 2 ∧ u.mode = 12 ∧ u.flag Reg.SM_STATUS 4 = true
          ∧ (u.txu g).quiescing = true ∧ u.regrow.map (fun r => r.grove) = some g.val)))
  ∧ (∀ (s : State) (r : Regrow), s.regrow = some r →
      (s.quiesced r.grove = true → Settles .regrowQuiesceTimeout s (fun u => u = s))
      ∧ (s.quiesced r.grove = false → Settles .regrowQuiesceTimeout s (fun u => u.fld Reg.SM_REGROW_STATUS 2 0 = 6 ∧ u.mode = 3 ∧ u.regrow = none
        ∧ u.flag Reg.SM_STATUS 4 = false ∧ u.sections = s.sections ∧ (u.txu r.grove).quiescing = false)))
  ∧ (∀ (s : State) (r : Regrow), s.regrow = some r → s.quiesced r.grove = true →
      let f := s.flushStores r.grove
      f.regrow = some r → f.quiesced r.grove = true → Settles .regrowApply s (fun u => u.fld Reg.SM_REGROW_STATUS 2 0 = 4 ∧ u.regrow = none
        ∧ u.flag Reg.SM_STATUS 4 = false ∧ (f.mode = 12 → u.mode = 3) ∧ (u.txu r.grove).quiescing = false
        ∧ u.sections = (f.withFragment (r.sections.map (fun p => ⟨p.1, 0, 0, p.2, []⟩)) r.grove).sections
        ∧ (r.grove < 16 → (∀ k, k < 16 → (u.glade (16 * r.grove + k)).grf = Glade.reset.grf)
          ∧ ((∀ i, i < 256 → f.txn i = none) → u.pool r.grove = Pool.reset
            ∧ (dramBase ≤ f.descBase →
                let zero := fun (b n : Nat) => ∀ a, b ≤ a → a < b + n → u.byteAt a = 0#8
                zero (groveMemBase r.grove) 0x200000 ∧ ∀ k, k < 16 → let b := gladeBase (16 * r.grove + k)
                  zero b 0x8000 ∧ zero (b + 0x10000) 0x10000)
            ∧ ((f.groveQueues r.grove).length + f.qm.cache.length ≤ 3000 → ∀ e ∈ u.qm.cache,
                f.qm.cache.any (fun d => d.queue == e.queue) = true → (f.queueInfo e.queue).dram = false →
                (f.queueInfo e.queue).grove = r.grove → e.desc.packets = 0)))))

/-! ### Power -/

/-- A mode request with no transition in progress and none waiting (R393, R394): one that the table of R393 does not
allow completes with RESULT 1, one that is not quiet enough with RESULT 2, and both leave the mode; an allowed request
begins its entry, LOOKOUT without a Lookout program as RETAIN; IDLE waits while a started Glade is outside Clearing.

A request during a transition is queued, and the one it replaces completes with RESULT 3 (R395). IDLE_ENTRY begins the
entry that waited once no started Glade is outside Clearing (R394).

Completion: under these conditions, on state and operands alone, `exec` answers a next state for `modeReqRun`,
`modeReqLean`, `modeReqIdle`, `modeReqDoze`, `modeReqRetain`, `modeReqLookout`, `idleEntry`, `modeReqIllegal`. -/
def Obligations.ModeRequests : Prop :=
  (∀ s : State, s.flag Reg.PWR_MODE 8 = false → s.power.idleWait = false →
    let ends := fun (i : Instr) (result : Nat) => Settles i s (fun u =>
      u.fld Reg.PWR_MODE 19 16 = result ∧ u.mode = s.mode ∧ u.flag Reg.PWR_MODE 8 = false ∧ CtlOnly s u
        ∧ ∀ a, a ≠ Reg.PWR_MODE → a ≠ Reg.PWR_MODE_REQ → u.rd a = s.rd a)
    let begins := fun (i : Instr) (m : Nat) => Settles i s (fun u =>
      u.flag Reg.PWR_MODE 8 = true ∧ u.fld Reg.PWR_MODE 7 4 = m ∧ u.mode = s.mode ∧ u.glades = s.glades ∧ u.mem = s.mem)
    let request := fun (i : Instr) (m entry : Nat) (from_ : List Nat) (quiet now : Bool) =>
      (s.mode ∉ from_ → ends i 1) ∧ (s.mode ∈ from_ → quiet = false → ends i 2)
        ∧ (s.mode ∈ from_ → quiet = true → now = true → begins i entry)
        ∧ (s.mode ∈ from_ → quiet = true → now = false → Settles i s (fun u => u.power.idleWait = true
            ∧ u.mode = s.mode ∧ u.flag Reg.PWR_MODE 8 = false ∧ u.fld Reg.PWR_MODE_REQ 3 0 = m))
    let doze := s.allClearing && s.nvmeQuiet
    let deep := doze && s.txnQuiet && s.captureQuiet
    request .modeReqRun 3 3 [4, 5] true true ∧ request .modeReqLean 4 4 [3] true true
    ∧ request .modeReqIdle 5 5 [3] true s.allClearing ∧ request .modeReqDoze 6 6 [3, 4, 5] doze true
    ∧ request .modeReqRetain 7 7 [3, 4, 5, 6] deep true
    ∧ request .modeReqLookout 8 (if s.secLE 0x40 0x20 4 = 0 ∨ s.accepted 9 = false then 7 else 8) [3, 4, 5, 6] deep true
    ∧ (∀ m : Fin 16, s.requestAllowed m = false → ends (.modeReqIllegal m) 1))
  ∧ (∀ s : State,
    (s.flag Reg.PWR_MODE 8 = true →
      let queued := fun (i : Instr) (m : Nat) => Settles i s (fun u =>
        u.flag Reg.PWR_MODE 9 = true ∧ u.fld Reg.PWR_MODE 15 12 = m ∧ u.mode = s.mode ∧ CtlOnly s u
          ∧ u.fld Reg.PWR_MODE 7 4 = s.fld Reg.PWR_MODE 7 4 ∧ u.flag Reg.PWR_MODE 8 = true
          ∧ u.fld Reg.PWR_MODE 19 16 = (if s.flag Reg.PWR_MODE 9 then 3 else s.fld Reg.PWR_MODE 19 16))
      queued .modeReqRun 3 ∧ queued .modeReqLean 4 ∧ queued .modeReqIdle 5 ∧ queued .modeReqDoze 6
        ∧ queued .modeReqRetain 7 ∧ queued .modeReqLookout 8)
    ∧ (s.power.idleWait = true → s.allClearing = true → s.flag Reg.PWR_MODE 8 = false → s.mode = 3 →
        Settles .idleEntry s (fun u => u.flag Reg.PWR_MODE 8 = true ∧ u.fld Reg.PWR_MODE 7 4 = 5
          ∧ u.power.idleWait = false ∧ u.mode = s.mode ∧ u.glades = s.glades)))

/-- A watched GPIO input, where no SAMPLER is kept to count its edges, or lane begins a wake in DOZE, RETAIN and
LOOKOUT, with its cause, and a source that is not watched nothing (R396, R403). DOMAIN_READY ends a domain's wake, that
of an octet only where none of its lanes waits for its PLL, whose lock ends it (R433); a step that times out switches
the domain off for a retry, and after the third retry leaves it off with WAKE_FAIL; WAKE_RETRY wakes it again (R399,
R405).

MODE_TRANSITION_DONE with nothing due (R395, R396, R425): the mode is the entry's target, PREV the mode before, RESULT
0, MODE_DONE is raised; a wake reaches its target when no domain it needs is still waking, the time base gone on by the
sleep where it had stopped. HOLDUP that became due during the entry follows at once.

Completion: under these conditions, on state and operands alone, `exec` answers a next state for `modeTransitionDone`,
`wakeEvent`, `domainReady`, `wakeStepTimeout`, `wakeRetry`. -/
def Obligations.TransitionsEnd : Prop :=
  (∀ s : State,
    ((s.mode = 6 ∨ s.mode = 7 ∨ s.mode = 8) → s.flag Reg.PWR_MODE 8 = false →
      let wakes := fun (i : Instr) (cause : Nat) => Settles i s (fun u => u.flag Reg.PWR_MODE 8 = true
        ∧ u.fld Reg.PWR_MODE 31 28 = cause ∧ u.fld Reg.PWR_MODE 7 4 = s.wakeTarget ∧ u.power.waking = true
        ∧ ∀ d, 4 ≤ d → d < 20 → s.runState d = 0 → s.mode ≠ 6 → s.flag (Reg.PWR_DOM d) 8 = false → s.domState d ≠ 1 →
            d ∉ s.power.retry → u.domState d = 3)
      (∀ n : Fin 16, s.flag Reg.PWR_WAKE_CFG n = true → (s.mode = 6 ∨ s.samplerOn = false) → wakes (.wakeEvent (.gpio n)) 2)
      ∧ (∀ n : Fin 96, s.flag Reg.PWR_WAKE_CFG 20 = true → s.laneWakes n = true → s.quadRole (n / 4) ≠ 0 →
          wakes (.wakeEvent (.lane n)) 3))
    ∧ (∀ n : Fin 16, s.flag Reg.PWR_WAKE_CFG n = false → Settles (.wakeEvent (.gpio n)) s (fun u => u = s))
    ∧ (∀ d : Fin 64, s.domState d = 3 →
        let octet := 40 ≤ d.val ∧ d.val < 52
        let woken := fun (u : State) => u.domState d = 1
          ∧ u.fld (Reg.PWR_DOM d) 31 16 = (s.fld (Reg.PWR_DOM d) 31 16 + 1) % 65536
        (¬ octet → Settles (.domainReady d) s woken)
        ∧ (octet → s.octetLocks (d.val - 40) = true → Settles (.domainReady d) s (fun u => u = s))
        ∧ (octet → s.octetLocks (d.val - 40) = false → Settles (.domainReady d) s (fun u =>
            if u.octetLocks (d.val - 40) then u.domState d = 3
              ∧ u.fld (Reg.PWR_DOM d) 31 16 = s.fld (Reg.PWR_DOM d) 31 16
            else woken u))
        ∧ (∀ elapsed, s.fld (Reg.PWR_DOM d) 10 9 < 3 → Settles (.wakeStepTimeout ⟨d, elapsed⟩) s (fun u =>
            u.domState d = 0 ∧ d.val ∈ u.power.retry ∧ u.fld (Reg.PWR_DOM d) 10 9 = s.fld (Reg.PWR_DOM d) 10 9))
        ∧ (∀ elapsed, s.fld (Reg.PWR_DOM d) 10 9 = 3 → Settles (.wakeStepTimeout ⟨d, elapsed⟩) s (fun u =>
            u.domState d = 0 ∧ u.flag (Reg.PWR_DOM d) 8 = true)))
    ∧ (∀ d : Fin 64, d.val ∈ s.power.retry → s.fld (Reg.PWR_DOM d) 10 9 < 3 → Settles (.wakeRetry d) s (fun u =>
        u.domState d = 3 ∧ u.fld (Reg.PWR_DOM d) 10 9 = s.fld (Reg.PWR_DOM d) 10 9 + 1 ∧ d.val ∉ u.power.retry
          ∧ u.mem = s.mem ∧ u.glades = s.glades)))
  ∧ (∀ (s : State) (slept : Nat), s.flag Reg.PWR_MODE 8 = true →
    let t := s.fld Reg.PWR_MODE 7 4
    (s.power.holdupDue = false → s.power.safeDue = 0 → s.power.serviceDue = none → s.power.wake = none →
      s.flag Reg.PWR_MODE 9 = false →
      (s.power.waking = false → (t = 5 → s.allClearing = true) →
        Settles (.modeTransitionDone slept) s (fun u => u.mode = t ∧ u.flag Reg.PWR_MODE 8 = false
          ∧ u.fld Reg.PWR_MODE 27 24 = s.mode ∧ u.fld Reg.PWR_MODE 19 16 = 0
          ∧ u.tallyCount (dev 180) = min (s.tallyCount (dev 180) + 1) 65535))
      ∧ (s.power.waking = true → s.wakeReady = true → t ≠ 5 →
        Settles (.modeTransitionDone slept) s (fun u => u.mode = t ∧ u.flag Reg.PWR_MODE 8 = false
          ∧ u.fld Reg.PWR_MODE 27 24 = s.mode ∧ u.power.waking = false
          ∧ (s.mode = 6 → u.time = s.time)
          ∧ (s.mode ≠ 6 → u.time.count = s.time.count + BitVec.ofNat 64 slept ∧ u.flag Reg.UST_TIME_CTL 0 = false))))
    ∧ (s.power.waking = true → s.wakeReady = false → Settles (.modeTransitionDone slept) s (fun u => u = s))
    ∧ (s.power.holdupDue = true → s.power.safeDue = 0 → s.power.waking = false → Settles (.modeTransitionDone slept) s (fun u =>
        u.mode = 9 ∧ u.flag Reg.PWR_STATUS 1 = true ∧ u.power.holdupDue = false)))

/-- Writes of domain and rail registers, and a current limit (R397, R398): a write out of range sets CFG_ERR and does
nothing else; one in range takes its fields, in RUN a domain set off goes off and one set on is on or waking, and a
rail that is up follows its target.

Lookout and Grove Clearing (R400, R406, R408): an RC oscillator that is late sets the fallback and raises its source; a
sample counts, its SAMPLER being kept or woken for it, and with no first sample, no match and no change does nothing
else; a GPIO match begins a wake with cause 4 to LK_WAKE_MODE; a quiet Grove in automatic state puts its regulator in
low power. A reserved RUN_STATE is taken as out of range (log 58), and a rail follows its target at once (log 59): the
model's readings.

Completion: under these conditions, on state and operands alone, `exec` answers a next state for `rcOscTimeout`,
`lookoutSample`, `groveClearingEnter`, `pwrDomWrite`, `pwrRailWrite`, `ivrCurrentLimit`. -/
def Obligations.RailsAndLookout : Prop :=
  (∀ s : State,
    (∀ (d : Fin 64) (v : W64),
      let rs := field v 1 0
      let bad := rs = 3 ∨ ((d.val < 4 ∨ d.val = 63) ∧ rs ≠ s.runState d) ∨ (d.val = 2 ∧ bit v 2 = false)
      (bad → Settles (.pwrDomWrite d v) s (fun u => FieldIs s u Reg.PWR_STATUS 5 5 1))
      ∧ (¬ bad → s.mode ≠ 3 → s.mode ≠ 4 → s.mode ≠ 5 → Settles (.pwrDomWrite d v) s (fun u =>
          u.fld (Reg.PWR_DOM d) 2 0 = field v 2 0 ∧ u.flag (Reg.PWR_DOM d) 7 = (s.flag (Reg.PWR_DOM d) 7 && !bit v 7)
            ∧ u.flag (Reg.PWR_DOM d) 8 = (s.flag (Reg.PWR_DOM d) 8 && !bit v 8) ∧ u.domState d = s.domState d
            ∧ CtlOnly s u ∧ ∀ a, a ≠ Reg.PWR_DOM d → u.rd a = s.rd a))
      ∧ (¬ bad → 4 ≤ d.val → d.val < 63 → s.mode = 3 → rs = 1 → Settles (.pwrDomWrite d v) s (fun u => u.runState d = 1 ∧ u.domState d = 0))
      ∧ (¬ bad → s.mode = 3 → rs = 0 → s.flag (Reg.PWR_DOM d) 8 = false → Settles (.pwrDomWrite d v) s (fun u =>
          u.runState d = 0 ∧ u.domState d = (if s.domState d = 1 then 1 else 3) ∧ CtlOnly s u)))
    ∧ (∀ (r : Fin 17) (v : W64),
      let mv := field v 9 0
      let bad := mv < 400 ∨ 950 < mv ∨ mv % 5 ≠ 0
      (bad → Settles (.pwrRailWrite r v) s (fun u => FieldIs s u Reg.PWR_STATUS 5 5 1))
      ∧ (¬ bad → Settles (.pwrRailWrite r v) s (fun u => u.fld (Reg.PWR_RAIL r) 9 0 = mv ∧ CtlOnly s u
          ∧ (∀ a, a ≠ Reg.PWR_RAIL r → u.rd a = s.rd a)
          ∧ (s.mode = 3 → (s.domState (if r.val < 16 then 4 + r.val else 2) ≠ 0 ∨ (r.val < 16 ∧ s.domState (20 + r) ≠ 0)) →
            u.fld (Reg.PWR_RAIL r) 25 16 = mv))))
    ∧ (∀ (r : Fin 17) (mv : BitVec 16), s.flag (Reg.PWR_RAIL r) 28 = false → s.fld (Reg.PWR_RAIL r) 25 16 ≠ 0 →
        Settles (.ivrCurrentLimit r mv) s (fun u => u.flag (Reg.PWR_RAIL r) 29 = true
          ∧ u.fld (Reg.PWR_RAIL r) 25 16 = min (mv.toNat / 5 * 5) (s.fld (Reg.PWR_RAIL r) 25 16) ∧ CtlOnly s u
          ∧ ∀ a, a ≠ Reg.PWR_RAIL r → u.rd a = s.rd a)))
  ∧ ((∀ s : State, s.mode = 8 → s.flag Reg.PWR_STATUS 4 = false → Settles .rcOscTimeout s (fun u =>
    u.flag Reg.PWR_STATUS 4 = true ∧ u.tallyCount (dev 173) = min (s.tallyCount (dev 173) + 1) 65535
      ∧ ∀ a, a ≠ Reg.PWR_STATUS → a ≠ Reg.TLY_CNT (dev 173) → u.rd a = s.rd a))
  ∧ (∀ (s : State) (r : LookoutReading), s.mode = 8 → s.flag Reg.PWR_MODE 8 = false → s.secLE 0x40 0x25 1 = 4 →
      let mask := BitVec.ofNat 16 (s.secLE 0x40 0x26 2)
      let expect := BitVec.ofNat 16 (s.secLE 0x40 0x28 2)
      let dom := Reg.PWR_DOM 63
      let kept := s.domState 63 = 1 ∧ s.flag dom 2 = true
      let rests := s.domState 63 = 0 ∧ s.flag dom 8 = false ∧ 63 ∉ s.power.retry ∧ s.flag dom 2 = false
      (r.gpio &&& mask = expect &&& mask → s.sampler.gpio = r.gpio &&& mask → s.sampler.sd = 0#96 → 0 < s.sampler.sample →
        kept ∨ rests →
        Settles (.lookoutSample r) s (fun u => u.sampler.sample = min (s.sampler.sample + 1) (2 ^ 32 - 1)
          ∧ u.keeper = s.keeper ∧ u.mem = s.mem ∧ (kept → u.ctl = s.ctl)
          ∧ (rests → u.domState 63 = 0 ∧ u.fld dom 31 16 = (s.fld dom 31 16 + 1) % 65536)))
      ∧ (r.gpio &&& mask ≠ expect &&& mask → kept ∨ rests → Settles (.lookoutSample r) s (fun u =>
          u.sampler.sample = min (s.sampler.sample + 1) (2 ^ 32 - 1) ∧ u.flag Reg.PWR_MODE 8 = true
            ∧ u.fld Reg.PWR_MODE 31 28 = 4 ∧ u.fld Reg.PWR_MODE 7 4 = s.secLE 0x40 0x24 1 % 16)))
  ∧ (∀ (s : State) (g : Fin 16), s.domState (4 + g) = 1 → s.runState (4 + g) = 2 → s.mode ≠ 7 → s.mode ≠ 8 →
      (∀ k, k < 16 → s.buses (16 * g + k) = 0
        ∨ ((s.glade (16 * g + k)).run = .clearing ∧ (s.glade (16 * g + k)).txuOp = none)) →
      (s.txu g).received = [] → (s.txu g).decided = [] → s.txnQuiet = true → s.scrubRate g = 0 → s.temperature < 85 →
        Settles (.groveClearingEnter g) s (fun u => u.domState (4 + g) = 2 ∧ u.flag (Reg.PWR_RAIL g) 28 = true
          ∧ CtlOnly s u ∧ ∀ a, a ≠ Reg.PWR_DOM (4 + g) → a ≠ Reg.PWR_RAIL g → u.rd a = s.rd a)))

/-- Hold-up (R412, R413): HOLDUP_N low enters HOLDUP from every running mode, with its bit in HCAUSE; a VSENSE sample
of an applied device, an input of `uv` µV with a code of R526, joins the last four, and the second in a row below
VTHRESH_MV enters HOLDUP too.

Completion: under these conditions, on state and operands alone, `exec` answers a next state for `vsenseSample`,
`holdupNLow`. -/
def Obligations.HoldupEntry : Prop :=
  ∀ s : State, s.flag Reg.PWR_MODE 8 = false →
    (s.mode ≠ 1 → s.mode ≠ 2 → s.mode ≠ 9 → Settles .holdupNLow s (fun u => u.mode = 9 ∧ u.flag Reg.PWR_STATUS 1 = true
      ∧ u.flag Reg.PWR_STATUS 0 = false ∧ u.flag Reg.PWR_STATUS 2 = true ∧ u.fld Reg.PWR_MODE 27 24 = s.mode))
    ∧ (∀ uv : Int, s.applied = true →
      let code := if uv ≤ 0 then 0 else min (uv.toNat * 1024 / 1200000) 1023
      (s.busMv code < s.secLE 0x40 0x14 4 → s.power.low = 1 → s.mode ≠ 1 → s.mode ≠ 2 → s.mode ≠ 9 →
        Settles (.vsenseSample uv) s (fun u => u.mode = 9 ∧ u.flag Reg.PWR_STATUS 3 = true))
      ∧ (¬ s.busMv code < s.secLE 0x40 0x14 4 → s.mode ≠ 9 → Settles (.vsenseSample uv) s (fun u =>
          u.power.low = 0 ∧ u.est.codes = (code :: s.est.codes).take 4
            ∧ u.est.remain = s.remainNs (u.est.codes.foldl min 1023) ∧ u.ctl = s.ctl)))
    ∧ (∀ uv : Int, s.applied = false → Settles (.vsenseSample uv) s (fun u => u = s))

/-! ### Clocks and time -/

/-- Clock monitors and side resets (R426 to R429). A window within 0.5 % clears the misses, a first miss is only
counted, a loss of lock being a miss at once, and two in a row of one clock hold the island in reset with its CLK_FAULT
code; a reference that fails is a fault of island 25; one relock restarts a faulted island or makes its fault lasting;
a side that is released runs again, RESETS advanced, and the time base goes on from what it last delivered.

A step of the time base adds its signed amount, rounded toward zero to 4 ns, to the count; what is delivered never
decreases, and a backward step raises no timer (R389, R425). The CLK_FAULT code of the reference (log 128), and that a
crossing resynchronises in no time, so that RESYNC is never read as 1 (log 135), are the model's readings.

Completion: under these conditions, on state and operands alone, `exec` answers a next state for `clockMonitorWindow`,
`islandRelock`, `sideResetRelease`, `timeStepWrite`. -/
def Obligations.ClocksAndTime : Prop :=
  ((∀ (s : State) (n : Fin 30) (w0 w1 : ClockWindow),
    let clocks := if n.val < 12 then ([0, 1].filter (fun q => s.quadRole (2 * n + q) != 0)).map (fun q =>
        (q, if s.quadRole (2 * n + q) = 1 ∨ s.quadRole (2 * n + q) = 2 then 2000 else 2500))
      else [(0, s.expect2 n)]
    let seen := fun (c : Nat × Nat) => if c.1 = 0 then w0 else w1
    let off := fun (c : Nat × Nat) =>
      decide (5 * c.2 < (if 2 * (seen c).count < c.2 then c.2 - 2 * (seen c).count else 2 * (seen c).count - c.2) * 1000)
    let bad := fun (c : Nat × Nat) => (seen c).lock == .lost || off c
    let misses := fun (u : State) (c : Nat × Nat) => smGet 0 u.monitors.misses (2 * n + c.1)
    let now := fun (c : Nat × Nat) => misses s c + b2n ((seen c).lock != .held) + b2n (bad c)
    let fault := fun (c : Nat × Nat) => decide (2 ≤ now c) && ((seen c).lock != .held || off c)
    (s.flag (Reg.UST_ISL n) 0 = true →
      ((∀ c ∈ clocks, fault c = false) → Settles (.clockMonitorWindow n w0 w1 true) s (fun u =>
        (∀ c ∈ clocks, misses u c = if bad c then now c else 0)
          ∧ (∀ c, clocks.head? = some c → u.fld (Reg.UST_ISL_MON n) 23 0 = min (seen c).count (2 ^ 24 - 1))
          ∧ CtlOnly { s with monitors := u.monitors } u ∧ ∀ a, a ≠ Reg.UST_ISL_MON n → u.rd a = s.rd a))
      ∧ (∀ c, clocks.find? fault = some c → Settles (.clockMonitorWindow n w0 w1 true) s (fun u =>
        u.fld (Reg.UST_ISL n) 6 4 = (if (seen c).lock ≠ .held then 4 else if (seen c).count = 0 then 1
            else if 2 * (seen c).count < c.2 then 2 else 3)
          ∧ u.flag (Reg.UST_ISL n) 0 = false ∧ u.flag (Reg.UST_ISL n) 1 = true
          ∧ (s.armed 5 none = true → s.tallyOn = true → s.mode ≠ 10 →
              u.tallyCount (dev 176) = min (s.tallyCount (dev 176) + 1) 65535)
          ∧ (s.armed 5 none = false → u.tallyCount (dev 176) = s.tallyCount (dev 176)))))
    ∧ Settles (.clockMonitorWindow n w0 w1 false) s (fun u => u.monitors.refBad = true
        ∧ (s.flag (Reg.UST_ISL 25) 0 = false → u = { s with monitors := u.monitors })
        ∧ (s.flag (Reg.UST_ISL 25) 0 = true → u.flag (Reg.UST_ISL 25) 1 = true
            ∧ u.fld (Reg.UST_ISL 25) 6 4 = if w0.count = 0 then 1 else 2)))
  ∧ (∀ (s : State) (n : Fin 31),
    let a := Reg.UST_ISL n
    let runsAgain := fun (u : State) => u.flag a 0 = true ∧ u.flag a 1 = false
      ∧ u.fld a 47 32 = (s.fld a 47 32 + 1) % 65536 ∧ (n.val = 25 → s.flag a 0 = false → u.time.count = s.time.delivered)
    (n.val < 30 → s.fld a 6 4 ≠ 0 → s.flag a 7 = false → s.flag a 1 = true →
        Settles (.islandRelock n true) s (fun u => u.fld a 6 4 = 0
          ∧ (s.domainOn (islandDomain n) = true → s.domState 2 ≠ 0 → runsAgain u)
          ∧ (s.domainOn (islandDomain n) = false → u.flag a 1 = true ∧ u.flag a 0 = s.flag a 0))
        ∧ Settles (.islandRelock n false) s (fun u => u.flag a 7 = true ∧ u.flag a 1 = true ∧ u.fld a 6 4 = s.fld a 6 4))
    ∧ (s.fld a 6 4 = 0 → s.flag a 7 = false → s.domainOn (islandDomain n) = true → s.flag a 1 = true →
        (s.domState 2 ≠ 0 → Settles (.sideResetRelease n) s runsAgain)
        ∧ (s.domState 2 = 0 → Settles (.sideResetRelease n) s (fun u => u.flag a 0 = true ∧ u.flag a 1 = true)))
    ∧ ((s.fld a 6 4 ≠ 0 ∨ s.flag a 7 = true ∨ s.domainOn (islandDomain n) = false) →
        Settles (.sideResetRelease n) s (fun u => u = s))))
  ∧ (∀ (s : State) (v : W64),
    (s.flag (Reg.UST_ISL 25) 0 = true → Settles (.timeStepWrite v) s (fun u =>
      u.time.count = s.time.count + BitVec.ofInt 64 (4 * v.toInt.tdiv 4)
        ∧ u.now = max s.now u.time.count.toNat ∧ u.time.frac = s.time.frac
        ∧ (v.toInt ≤ 0 → u.ctl = s.ctl)))
    ∧ (s.flag (Reg.UST_ISL 25) 0 = false → Settles (.timeStepWrite v) s (fun u => u = s)))

/-! ### Care of the memories -/

/-- The scrubber of a Grove reads the next word of its pass: an intact one it leaves, a correctable one it writes back
corrected, and it goes on to the next word; the Heartwood scrubber does the same, round and round (R249 to R251); the
DDR patrol goes through a channel burst by burst (R264).

The zero-fill engine carries its watermark on by the bursts it fills, up to the channel's size, where it is DONE; the
bytes of its channel that it passes read 0 and no other byte changes (R263).

Completion: under these conditions, on state and operands alone, `exec` answers a next state for `scrubWord`,
`patrolBurst`, `zeroFill`. -/
def Obligations.ScrubAndFill : Prop :=
  (∀ s : State, s.scrubMode = true → s.readErrs = [] →
    (∀ (g : Fin 16) (k : Nat), s.scrubRuns g = true → smGet [] s.scrub.wback g = [] →
      s.fld (Reg.GRV_SCRUB_STATUS g) 50 32 = k → k + 1 < passWords → s.retired (scrubAddr g k) = false →
      s.retired (scrubAddr g (k + 1)) = false →
      let w := scrubAddr g k
      (∀ cw, decodeWord (s.detectOnly w) (s.codeAt w) = .ok cw → Settles (.scrubWord ⟨g.val, by omega⟩ false) s (fun u =>
        u.fld (Reg.GRV_SCRUB_STATUS g) 50 32 = k + 1 ∧ CtlOnly { s with scrub := u.scrub } u))
      ∧ (∀ cw pos, decodeWord (s.detectOnly w) (s.codeAt w) = .corrected cw pos → s.stuck = [] →
          s.flag (Reg.GRV_INJECT g) 63 = false → Settles (.scrubWord ⟨g.val, by omega⟩ false) s (fun u =>
        u.codeAt w = cw ∧ u.fld (Reg.GRV_SCRUB_STATUS g) 50 32 = k + 1
          ∧ ∀ a, a < w ∨ w + 8 ≤ a → u.byteAt a = s.byteAt a)))
    ∧ (∀ cw, smGet [] s.scrub.wback 16 = [] →
        decodeWord (s.detectOnly (hwMemBase + 8 * s.scrub.hwWord)) (s.codeAt (hwMemBase + 8 * s.scrub.hwWord)) = .ok cw →
        Settles (.scrubWord 16 false) s (fun u => u.scrub.hwWord = (s.scrub.hwWord + 1) % 32768 ∧ u.mem = s.mem))
    ∧ (∀ (n : Fin 4) (bs : List Byte), s.fld (Reg.DDR_CH_PATROL n) 31 0 ≠ 0 → s.flag (Reg.DDR_CH_WMARK n) 63 = true →
        s.chBytes n ≠ 0 → s.domainOn (36 + n) = true → let k := smGet 0 s.scrub.patrol n
        decodeBurst (s.burstAt (s.dramAddr n (64 * k))) (s.checkAt (s.dramAddr n (64 * k))) = .ok bs →
        Settles (.patrolBurst n) s (fun u => smGet 0 u.scrub.patrol n = (k + 1) % (s.chBytes n / 64) ∧ u.mem = s.mem)))
  ∧ (∀ (s : State) (n : Fin 4) (bursts : Nat), s.chBytes n ≠ 0 → s.flag (Reg.DDR_CH_WMARK n) 63 = false →
    s.fld (Reg.DDR_CH_WMARK n) 39 0 < s.chBytes n → 0 < bursts →
      Settles (.zeroFill n bursts) s (fun u =>
        let lo := s.fld (Reg.DDR_CH_WMARK n) 39 0
        let hi := min (lo + 64 * bursts) (s.chBytes n)
        u.fld (Reg.DDR_CH_WMARK n) 39 0 = hi ∧ u.flag (Reg.DDR_CH_WMARK n) 63 = decide (hi = s.chBytes n)
          ∧ ∀ a, u.byteAt a = if dramBase ≤ a ∧ a < dramBase + s.dramBytes ∧ (s.dramChannel (a - dramBase)).1 = n.val
              ∧ lo ≤ (s.dramChannel (a - dramBase)).2 ∧ (s.dramChannel (a - dramBase)).2 < hi then 0#8 else s.byteAt a))

/-- Registers of the Grove block (R253, R255, R256): a retire register takes its page when it may name it, an injection
is armed when it names a word of the Grove and a position of a word, and both are ignored as a whole otherwise; 1 to
VALID frees an error record and nothing else, but that a write to a Grove's block returns its regulator to normal mode
(R400).

A bit that flips of itself (R487): one bit of an SRAM code word, of a general register (G0 reads zero all the same), of
the program counter, or of a DRAM burst's data, and nothing else.

Completion: under these conditions, on state and operands alone, `exec` answers a next state for `retireWrite`,
`injectWrite`, `errRecordFree`, `flippedBit`. -/
def Obligations.CareAndFlips : Prop :=
  ((∀ (s : State) (g : Fin 16) (n : Fin 64) (v : W64),
    if bit v 0 = true ∧ s.retirable g (4096 * field v 47 12) = false then
      exec (.retireWrite g n v) s = .next (s.groveWakes g).settled
    else Settles (.retireWrite g n v) s (fun u =>
      RegIs (s.groveWakes g) u (Reg.GRV_RETIRE g n) (w64 (field v 0 0 + field v 47 12 * 4096))
        ∧ u.flag (Reg.PWR_RAIL g) 28 = false))
  ∧ (∀ (s : State) (g : Fin 16) (v : W64), s.groveOfAddr (8 * field v 47 3) = g.val → field v 56 50 ≤ 72 →
      Settles (.injectWrite g v) s (fun u => CtlOnly s u ∧ (∀ a, a ≠ Reg.GRV_INJECT g → u.rd a = (s.groveWakes g).rd a)
        ∧ u.flag (Reg.PWR_RAIL g) 28 = false
        ∧ u.fld (Reg.GRV_INJECT g) 47 3 = field v 47 3 ∧ u.fld (Reg.GRV_INJECT g) 49 48 = field v 49 48
        ∧ u.fld (Reg.GRV_INJECT g) 56 50 = field v 56 50
        ∧ u.flag (Reg.GRV_INJECT g) 63 = (bit v 63 || s.flag (Reg.GRV_INJECT g) 63)))
  ∧ (∀ (s : State) (g : Fin 16) (v : W64),
      (((field v 49 48 = 1 ∨ field v 49 48 = 2) ∧ 72 < field v 56 50)
        ∨ (field v 49 48 ≠ 0 ∧ s.groveOfAddr (8 * field v 47 3) ≠ g.val)) →
      exec (.injectWrite g v) s = .next (s.groveWakes g).settled)
  ∧ (∀ (s : State) (k : Fin 21) (n : Fin 8), Settles (.errRecordFree k n) s (fun u =>
      let r := recSet k
      u.flag (r.info n) 0 = false ∧ u.flag r.status n = false ∧ CtlOnly s u
        ∧ (∀ a, a ≠ r.info n → a ≠ r.status → u.rd a = (if k.val < 16 then s.groveWakes k else s).rd a)
        ∧ ∀ i, 0 < i → i < 64 → u.flag (r.info n) i = s.flag (r.info n) i)))
  ∧ ((∀ (s : State) (a : BitVec 48) (pos : Fin 73), s.stuck = [] →
    let w := a.toNat / 8 * 8
    s.isSram w = true → Settles (.flippedBit (.sram a pos .flips)) s (fun u =>
      u.codeAt w = s.codeAt w ^^^ BitVec.ofNat 73 (2 ^ pos.val) ∧ ∀ b, b < w ∨ w + 8 ≤ b → u.byteAt b = s.byteAt b))
  ∧ (∀ (s : State) (c : Fin 257) (n : Fin 65) (pos : Fin 68), Settles (.flippedBit (.glade c n pos none)) s (fun u =>
      (∀ m, m < 64 → (u.glade c).g m = if m = n.val ∧ m ≠ 0 then
          (if pos.val < 64 then ⟨((s.glade c).g m).data ^^^ w64 (2 ^ pos.val), ((s.glade c).g m).tag⟩
            else ⟨((s.glade c).g m).data, ((s.glade c).g m).tag ^^^ BitVec.ofNat 4 (2 ^ (pos.val - 64))⟩)
        else (s.glade c).g m)
      ∧ (u.glade c).pc = (if n.val = 64 then (s.glade c).pc ^^^ w64 (2 ^ (pos.val % 15)) else (s.glade c).pc)
      ∧ u = { s with glades := u.glades } ∧ ∀ d, d ≠ c.val → u.glade d = s.glade d))
  ∧ (∀ (s : State) (a : BitVec 48) (pos : Fin 640), pos.val < 512 → s.regionOf (a.toNat / 64 * 64) = .dram →
      Settles (.flippedBit (.dram a pos .flips)) s (fun u =>
        let b := a.toNat / 64 * 64
        ∀ x, u.byteAt x = if x = b + pos.val / 8 then s.byteAt x ^^^ BitVec.ofNat 8 (2 ^ (pos.val % 8)) else s.byteAt x)))

/-! ### Lanes, PCIe and the endpoint -/

/-- Lanes (R433, R437): with its octet on and its island running, a PLL lock starts training of every waiting lane; and
an octet that was waking has woken (R399); a lane that may train and has trained is UP with its rate and raises
LANE_OCTET, and brings up the PCIe port it belongs to; one that loses its link is DOWN, its DOWNS advanced and
LANE_OCTET raised again, and the PCIe port it belongs to is down with it, LINK_DOWNS advanced (R439). A Rootlink lane
takes its link and every lane of it down, and the link's DOWNS and ROOTLINK_LINK go on by 1 (R464). An automatic octet
that nothing wants then goes off (R397; the moment is the model's choice, log 136).

Completion: under these conditions, on state and operands alone, `exec` answers a next state for `pllLock`, `laneUp`,
`laneLinkLoss`. -/
def Obligations.LanesTrain : Prop :=
  ∀ s : State,
    (∀ o : Fin 12, s.flag (Reg.UST_ISL o) 0 = true → Settles (.pllLock o) s (fun u => (∀ n, n < 96 →
        u.fld (Reg.LANE_STATE n) 2 0 =
          if n / 8 = o.val ∧ s.fld (Reg.LANE_STATE n) 2 0 = 1 then 2 else s.fld (Reg.LANE_STATE n) 2 0)
      ∧ (s.domState (40 + o) = 3 → s.octetLocks o = true → u.domState (40 + o) = 1
          ∧ u.fld (Reg.PWR_DOM (40 + o)) 31 16 = (s.fld (Reg.PWR_DOM (40 + o)) 31 16 + 1) % 65536)))
    ∧ (∀ (n : Fin 96) (t : Trained),
      let a := Reg.LANE_STATE n
      let source := dev (152 + n.val / 8)
      let counted := fun (u : State) => u.tallyCount source = min (s.tallyCount source + 1) 65535
      let role := s.quadRole (n / 4)
      s.tallyOn = true →
      let stays := s.runState (40 + n / 8) ≠ 2 ∨ s.mode < 3 ∨ 5 < s.mode
      ((s.fld a 2 0 = 2 ∨ s.fld a 2 0 = 4) → s.laneUsable n = true → s.mode ≠ 6 →
        (s.flag Reg.PWR_MODE 8 = true → s.fld Reg.PWR_MODE 7 4 ≠ 6) → s.flag (Reg.UST_ISL (n / 8)) 0 = true →
        ((role = 3 ∨ role = 4) → Settles (.laneUp n t) s (fun u =>
          u.fld a 2 0 = 3 ∧ u.fld a 11 8 = (if role = 3 then 6 else 7) ∧ counted u
            ∧ ∀ b, b ≠ a → b ≠ Reg.TLY_CNT source → u.rd b = s.rd b))
        ∧ (∀ c p, (role = 1 ∨ role = 2) → s.pcieOf n = some (c, p) → 0 < t.speed.val → 0 < t.width.val →
            t.speed.val ≤ s.pcieMax c → t.width.val ≤ s.pcieWidth c → s.flag (Reg.UST_ISL (16 + c)) 0 = true → Settles (.laneUp n t) s (fun u =>
              u.fld a 2 0 = 3 ∧ u.fld a 11 8 = t.speed.val ∧ counted u
                ∧ u.flag (Reg.LANE_PCIE_STAT c p) 0 = true ∧ u.fld (Reg.LANE_PCIE_STAT c p) 5 1 = t.width.val
                ∧ u.fld (Reg.LANE_PCIE_STAT c p) 8 6 = t.speed.val)))
      ∧ ((role = 1 ∨ role = 2) → s.fld a 2 0 = 3 → stays → ∀ c p, s.pcieOf n = some (c, p) →
        let b := Reg.LANE_PCIE_STAT c p
        s.flag b 0 = true → Settles (.laneLinkLoss n) s (fun u =>
          u.fld a 2 0 = 4 ∧ u.fld a 31 16 = (s.fld a 31 16 + 1) % 65536 ∧ counted u
            ∧ u.flag b 0 = false ∧ u.fld b 5 1 = 0 ∧ u.fld b 8 6 = 0 ∧ u.fld b 31 16 = (s.fld b 31 16 + 1) % 65536))
      ∧ (role = 5 → s.fld a 2 0 = 3 → stays → ∀ l, s.linkOfLane n = some l → s.linkUp l = true → l < 24 →
        (∀ k ∈ s.linkLanes l, k < 96) → Settles (.laneLinkLoss n) s (fun u =>
          u.fld a 2 0 = 4 ∧ u.fld a 31 16 = (s.fld a 31 16 + 1) % 65536 ∧ u.linkState l = 3
            ∧ u.fld (Reg.RTL_LINK_STATE l) 47 32 = (s.fld (Reg.RTL_LINK_STATE l) 47 32 + 1) % 65536
            ∧ (∀ k ∈ s.linkLanes l, u.fld (Reg.LANE_STATE k) 2 0 ≠ 3)
            ∧ u.tallyCount (dev 186) = min (s.tallyCount (dev 186) + 1) 65535))
      ∧ ((role = 3 ∨ role = 4) → s.fld a 2 0 = 3 → stays →
        Settles (.laneLinkLoss n) s (fun u =>
          u.fld a 2 0 = 4 ∧ u.fld a 31 16 = (s.fld a 31 16 + 1) % 65536 ∧ counted u
            ∧ ∀ b, b ≠ a → b ≠ Reg.TLY_CNT source → u.rd b = s.rd b))
      ∧ ((role = 3 ∨ role = 4) → s.fld a 2 0 = 3 → s.runState (40 + n / 8) = 2 → s.mode = 3 →
          (s.laneLeaves n 4).octetWanted (n / 8) = false →
          Settles (.laneLinkLoss n) s (fun u => u.domState (40 + n / 8) = 0))
      ∧ (s.fld a 2 0 ≠ 3 → Settles (.laneLinkLoss n) s (fun u => u = s)))

/-- Inbound requests of PCIe devices (R439): what lies outside the journal writer's areas is answered Unsupported
Request and counted; a message to the completion queues' address names one; inside the areas a read is answered from
DRAM and a write is done, or refused and recorded (R27, R254).

The endpoint (R85, R440 to R443): with its link down a host access does nothing; up, its configuration space gives its
identity; while its Command register does not enable memory, and for a read outside every window, the answer is
Unsupported Request, as it is for BAR0 outside a push, whose writes are reported through AER; after step 7 of R77 the
MSI-X table is written as memory; a refused access is a Completer Abort. A pending vector that is not masked sends its
message once, where MSI-X and bus mastering are enabled. A reset makes the MSI-X table anew and keeps bindings, window
and lock. The layout of configuration space is the standard's (log 76, from outside the spec); what a read of a word
that cannot be read answers, and what a message does, are the model's readings (log 77).

Completion: under these conditions, on state and operands alone, `exec` answers a next state for `pcieInboundRequest`,
`hostBarAccess`, `endpointReset`, `msixSend`. -/
def Obligations.EndpointAccess : Prop :=
  (∀ (s : State) (c : Fin 2) (p : Fin 16),
    let ur := fun (r : InboundReq) => Settles (.pcieInboundRequest c p r) s (fun u =>
      u.fld (Reg.LANE_PCIE_STAT c p) 63 48 = min (s.fld (Reg.LANE_PCIE_STAT c p) 63 48 + 1) 65535
        ∧ u.out = .pcieUr c :: s.out ∧ u.mem = s.mem ∧ ∀ a, a ≠ Reg.LANE_PCIE_STAT c p → u.rd a = s.rd a)
    ur .other
    ∧ (∀ a n, 0 < n → s.inJwArea a n = false → ur (.read a n))
    ∧ (∀ a d, d ≠ [] → s.inJwArea a d.length = false → ¬ (a = 0x00FFFFFFF000 ∧ d.length = 4) → ur (.write a d))
    ∧ (∀ a d, a = 0x00FFFFFFF000 → d.length = 4 → Settles (.pcieInboundRequest c p (.write a d)) s (fun u =>
        u = { s with jw := { s.jw with named := u.jw.named } } ∧ smGet false u.jw.named (leN d 0 2) = true))
    ∧ (∀ a n e, 0 < n → s.inJwArea a n = true → s.engineRefuses (a - busDram + dramBase) n = some e →
        let t := s.recordRefusal .jw (a - busDram + dramBase) e
        Settles (.pcieInboundRequest c p (.read a n)) s (fun u => u = { t with out := .pcieReply c [] :: t.out })
        ∧ ∀ d, d.length = n → ¬ (a = 0x00FFFFFFF000 ∧ n = 4) → Settles (.pcieInboundRequest c p (.write a d)) s (fun u => u = t))
    ∧ (∀ a n, 0 < n → s.inJwArea a n = true → s.engineRefuses (a - busDram + dramBase) n = none → ∀ s1 d, s.readMem .jw (a - busDram + dramBase) n = (s1, .ok d) →
        Settles (.pcieInboundRequest c p (.read a n)) s (fun u => u = { s1 with out := .pcieReply c d :: s1.out }))
    ∧ (∀ a d, d ≠ [] → s.inJwArea a d.length = true → s.engineRefuses (a - busDram + dramBase) d.length = none → ¬ (a = 0x00FFFFFFF000 ∧ d.length = 4) →
        Settles (.pcieInboundRequest c p (.write a d)) s (fun u =>
          u = s.writeMem .jw .agent none (a - busDram + dramBase) d)))
  ∧ (∀ (s : State) (off : BitVec 48) (rep : BoardReply),
    let up := s.flag (Reg.LANE_PCIE_STAT 2 0) 0
    let o := off.toNat
    (∀ bar q, up = false → Settles (.hostBarAccess bar off q rep) s (fun u => u = s))
    ∧ (up = true → Settles (.hostBarAccess .config 0#48 (.read 4) rep) s (fun u =>
        u = { s with out := .host 0 (bytesLE 4 0x25601E9D) :: s.out }))
    ∧ (up = true → s.hostMemory = false → ∀ bar, bar ≠ .config →
        (∀ n, Settles (.hostBarAccess bar off (.read n) rep) s (fun u => u = { s with out := .host 1 [] :: s.out }))
        ∧ ∀ d, Settles (.hostBarAccess bar off (.write d) rep) s (fun u =>
            u = { s with out := .aer :: s.out, msix := u.msix }))
    ∧ (up = true → s.hostMemory = true →
      (s.stage ≠ 3 → (∀ n, Settles (.hostBarAccess .bar0 off (.read n) rep) s (fun u =>
            u = { s with out := .host 1 [] :: s.out }))
        ∧ ∀ d, Settles (.hostBarAccess .bar0 off (.write d) rep) s (fun u =>
            u = { s with out := .aer :: s.out, msix := u.msix }))
      ∧ (0x20000 ≤ o → o % 8 = 0 → Settles (.hostBarAccess .bar2 off (.read 8) rep) s (fun u =>
          u = { s with out := .host 1 [] :: s.out }))
      ∧ (∀ v : W64, s.stage = 6 → 0x18000 ≤ o → o < 0x18200 → o % 16 = 0 →
          Settles (.hostBarAccess .bar2 off (.write (bytesLE 8 v.toNat)) rep) s (fun u =>
            let k := (o - 0x18000) / 16
            let e := smGet (0#64, 0#32, 1#32) s.msix.table k
            smGet (0#64, 0#32, 1#32) u.msix.table k = (v, e.2.1, BitVec.ofNat 32 (e.2.2.toNat % 2)) ∧ u.ctl = s.ctl
              ∧ u.mem = s.mem))
      ∧ (∀ (bar : HostBar) (a : Nat), o % 8 = 0 → ((bar = .bar2 ∧ o < 0x18000) ∨ bar = .bar4) →
          s.barAddr (decide (bar = .bar4)) o = some a →
          let p := s.withPorts rep.ports
          (∀ d, p.accessWaits (canon .host a) = false → p.accessCheck .host false a 8 0#64 = some d → d ≠ 1 →
            Settles (.hostBarAccess bar off (.read 8) rep) s (fun u =>
              u = { (p.recordRefusal .host a d).withPorts s.ports.a with
                out := .host 2 [] :: (p.recordRefusal .host a d).out }))
          ∧ (p.accessCheck .host false a 8 0#64 = none → p.accessWaits (canon .host a) = false → ∀ s1 bs,
            p.devRead .host (canon .host a) 8 rep = (s1, .ok bs) →
            Settles (.hostBarAccess bar off (.read 8) rep) s (fun u =>
              u = { s1.withPorts s.ports.a with out := .host 0 bs :: s1.out }))))
    ∧ (∀ v : Fin 32,
      let e := smGet (0#64, 0#32, 1#32) s.msix.table v
      (s.msix.pending.getLsbD v = true → e.2.2.getLsbD 0 = false → s.mayInterrupt = true → Settles (.msixSend v) s (fun u =>
        u.out = .msix v e.1 e.2.1 :: s.out ∧ u.msix.table = s.msix.table ∧ u.ctl = s.ctl
          ∧ ∀ k, k < 32 → u.msix.pending.getLsbD k = (s.msix.pending.getLsbD k && decide (k ≠ v.val))))
      ∧ ((s.msix.pending.getLsbD v = false ∨ e.2.2.getLsbD 0 = true ∨ s.mayInterrupt = false) →
          Settles (.msixSend v) s (fun u => u = s)))
    ∧ (up = false → Settles (.endpointReset true) s (fun u => u = s))
    ∧ (∀ linkLoss, (linkLoss = true → up = true) → Settles (.endpointReset linkLoss) s (fun u =>
        u.msix = Msix.reset ∧ u.rd Reg.LANE_EP_WIN = s.rd Reg.LANE_EP_WIN
          ∧ (∀ v, v < 32 → u.rd (Reg.LANE_EP_MSIX v) = s.rd (Reg.LANE_EP_MSIX v)) ∧ u.rd Reg.NEG_LOCK = s.rd Reg.NEG_LOCK
          ∧ u.mem = s.mem ∧ (linkLoss = true → u.flag (Reg.LANE_PCIE_STAT 2 0) 0 = false))))

/-! ### Rootlink -/

/-- Training and failures of a link (R455, R456, R460, R462): an attempt that times out and one that ended in MISMATCH
go on at the other rate. A TRAIN flit that is intact, on locked lanes, is compared: one that does not match puts the
link in MISMATCH; one that does, without a round trip yet, is answered with a TRAIN flit on every lane; with one
measured the link is UP fresh, its lanes with it, and ROOTLINK_LINK is raised. A flit that fails, by its CRC, a
reserved TYPE or a reserved bit, does nothing but have NAK sent for the FSEQ expected, and that again and again, until
its timeout takes the link down as a lasting failure. That TRAIN flits are sent once an attempt and once in answer, and
that one operand stands for locked lanes (log 31), and that a boot link tried at width 1 trains with a wider peer (log
128), are the model's readings.

Completion: under these conditions, on state and operands alone, `exec` answers a next state for `linkTrainTimeout`,
`linkMismatchRetry`, `train`, `blaze`, `timeSync`, `timeReq`, `timeResp`, `nak`, `nakRepeat`, `nakTimeout`. -/
def Obligations.LinksTrain : Prop :=
  ∀ (s : State) (l : Fin 24),
    let a := Reg.RTL_LINK_STATE l
    let x := s.link l
    let again := fun (i : Instr) => Settles i s (fun u => u.linkState l = 1 ∧ u.fld a 6 6 = 1 - s.fld a 6 6
      ∧ (∀ b, b ≠ a → u.rd b = s.rd b) ∧ u.link l = { x with trained := false } ∧ u.mem = s.mem ∧ u.glades = s.glades)
    ((s.linkState l = 1 ∨ s.linkState l = 3) → again (.linkTrainTimeout l))
    ∧ (s.linkState l = 4 → again (.linkMismatchRetry l))
    ∧ (∀ (e : List Byte) (f : TrainFlit), s.linkEntry l = some e → (s.linkState l = 1 ∨ s.linkState l = 3) →
        f.locked = true → flitIntact f.flit 6 0 = true → topOk 6 f.flit.top = true → s.linkReady e 1 = true →
        let peer := field (wordOf f.flit 1) 3 1
        let rom := s.stage = 2 ∧ s.fld a 5 3 = 1
        let one := (peer = 1 ∨ (rom ∧ (peer = 2 ∨ peer = 4))) ∧ field (wordOf f.flit 1) 5 4 = 0
        let width := if one then 1 else peer
        let fits := field (wordOf f.flit 1) 0 0 ≠ byteN e 4 ∧ (peer = (if rom then 1 else byteN e 3) ∨ one)
        (¬ fits → Settles (.train l f) s (fun u => u.linkState l = 4 ∧ CtlOnly s u ∧ ∀ b, b ≠ a → u.rd b = s.rd b))
        ∧ (fits → s.linkReady e width = true → wordOf f.flit 3 = 0#64 → Settles (.train l f) s (fun u =>
            u.ctl = s.ctl ∧ (u.link l).peerCount = wordOf f.flit 2 ∧ (u.link l).peerAt = some f.cycles
              ∧ ∃ bs, u.out = bs ++ s.out ∧ bs.length = (if rom then 1 else byteN e 3) ∧ bs.all Out.isBlocks = true))
        ∧ (fits → s.linkReady e width = true → wordOf f.flit 3 ≠ 0#64 → s.tallyOn = true → Settles (.train l f) s (fun u =>
            u.linkState l = 2 ∧ u.fld a 5 3 = width
            ∧ u.link l = { x.afterDown with limit := f.flit.limit.toNat }
            ∧ u.fld (Reg.RTL_LINK_LAT l) 15 0
              = min ((f.cycles - wordOf f.flit 3 - wordOf f.flit 4).toNat * 32 / 25) 65535
            ∧ (∀ k, k < width → u.fld (Reg.LANE_STATE (byteN e 2 + k)) 2 0 = 3)
            ∧ u.tallyCount (dev 186) = min (s.tallyCount (dev 186) + 1) 65535)))
    ∧ (s.linkUp l = true → x.failing = false → ∀ (f : Flit) (i : Instr) (ty sub : Nat),
        (i, ty, sub) ∈ [(Instr.idle l f, 0, 0), (.data l f, 1, 0), (.blaze l f, 2, 0), (.timeSync l f, 4, 1),
          (.timeReq l f, 4, 2), (.timeResp l f, 4, 3), (.nak l f, 5, 0)] →
        (flitIntact f ty sub = false ∨ topOk ty f.top = false) →
        Settles i s (fun u => Sent s u l 5 0 [w64 (x.expect % 4096)]
          ∧ LineOnly (s.updLink l (fun x => { x with failing := true })) u l))
    ∧ (s.linkUp l = true → x.failing = true →
        Settles (.nakRepeat l) s (fun u => Sent s u l 5 0 [w64 (x.expect % 4096)] ∧ LineOnly s u l)
        ∧ Settles (.nakTimeout l) s (fun u => u.linkState l = 3
            ∧ u.fld (Reg.RTL_LINK_ERR l) 31 16 = min (s.fld (Reg.RTL_LINK_ERR l) 31 16 + 1) 65535
            ∧ (s.armed 7 none = true → (s.mode ≠ 10 → 0 < u.tallyCount (dev 177))
                ∧ ∃ f ∈ u.findings, f.mech = 7 ∧ f.kind = 0x18)))
    ∧ (x.failing = false → Settles (.nakRepeat l) s (fun u => u = s) ∧ Settles (.nakTimeout l) s (fun u => u = s))

/-- Flits of IDLE, NAK, DATA, TIME and BLAZE that pass their checks on a link with nothing to send (R458 to R467, R475,
R478): IDLE leaves only its ACK and LIMIT; NAK sends what is unacknowledged from its FSEQ again, with an IDLE flit
where 4,096 flits have made one due (R457). The first flit of a packet is passed on as it arrives and leaves its buffer
slot: to the QM, whose queue, chosen now, takes its words (R287, R300), to the output link, which can send, or nowhere,
counted in DROPPED; one for a queue that waits for a cell keeps its slot (R463). That a forwarded packet leaves behind
those taken up before it is the model's reading (log 31). SYNC and REQ are answered at once and RESP writes the four
times; a new BLAZE starts the cut.

Completion: under these conditions, on state and operands alone, `exec` answers a next state for `idle`, `data`,
`blaze`, `timeSync`, `timeReq`, `timeResp`, `nak`. -/
def Obligations.FlitsArrive : Prop :=
  ∀ (s : State) (l : Fin 24) (f : Flit),
    let x := s.link l
    let passes := fun (ty sub : Nat) => s.flitPasses l f ty sub = true
    (passes 0 0 → Settles (.idle l f) s (fun u => u = s.heard l f false 0))
    ∧ (passes 5 0 → x.retry.length ≤ 256 →
        let again := (ackRetry f.ack.toNat x.retry).dropWhile (fun p => p.1 != field (f.words.headD 0#64) 11 0)
        let n := again.length
        Settles (.nak l f) s (fun u => LineOnly (s.heard l f false 0) u l ∧ ∃ fs, u.out = fs ++ s.out
          ∧ (fs.filter Out.isFlit).length = n + (if 0 < n ∧ 4096 ≤ x.streak + n then 1 else 0)
          ∧ fs.reverse.filterMap Out.content = (again.filter (fun p => p.2.ty % 16 != 0)).map (fun p =>
              (l.val, p.2.ty % 16, p.1 % 4096, sixWords p.2.words))))
    ∧ (let nw := f.top.toNat % 8
      let ws := f.words.take nw
      let h := ws.headD 0#64
      passes 1 0 → s.isolated = false → x.cur = none → f.top.getLsbD 3 = true → f.top.getLsbD 4 = false → 0 < nw → nw < 7 →
      f.words.length = 6 →
        (s.packetWay l h = .drop → Settles (.data l f) s (fun u =>
          u.link l = { (s.heard l f true 1).link l with cur := some .drop } ∧ u.mem = s.mem
            ∧ u.fld (Reg.RTL_LINK_ERR l) 63 48 = min (s.fld (Reg.RTL_LINK_ERR l) 63 48 + 1) 65535))
        ∧ (s.packetWay l h = .own [] 0 .gone → lengthOk (field h 51 40) nw 1 false = true →
          let flit : RxFlit := ⟨true, false, ws, s.rootlink.cutting.isSome, true⟩
          let b := ((s.heard l f true 0).updLink l (fun y => { y with rx := [flit] })).openIngress l h
          let taken := (b.1.setCur l (some (.own [] 0 b.2))).putIngress l 0 ws b.2
          (∀ c dest, taken = some (c, dest) → Settles (.data l f) s (fun u =>
            u.link l = { (s.heard l f true 1).link l with cur := some (.own ws 1 dest) } ∧ u.qm = c.qm ∧ u.mem = c.mem
              ∧ u.ctl = c.ctl))
          ∧ (taken = none → Settles (.data l f) s (fun u => u.mem = b.1.mem ∧ u.qm = b.1.qm
            ∧ u.link l = { (s.heard l f true 0).link l with rx := [flit], cur := some (.own [] 0 b.2) })))
        ∧ (∀ k len, s.packetWay l h = .forward k len 0 0 → lengthOk len nw 1 false = true → s.rootlink.cutting = none →
          s.sendsNow k = true → (s.link k).ownTurn = false → Settles (.data l f) s (fun u =>
            (u.link l).cur = some (.forward k len nw 1) ∧ (u.link l).freed = x.freed + 1
              ∧ (u.link k).sent = (s.link k).sent + 1 ∧ Sent s u k 1 0 ws ∧ u.ctl = s.ctl ∧ u.mem = s.mem)))
    ∧ (passes 4 1 → s.upstream = some l.val → Settles (.timeSync l f) s (fun u =>
        (u.link l).exchange = some (wordOf f 1, s.time.count, s.time.count) ∧ Sent s u l 4 2 [s.time.count]
          ∧ u.ctl = s.ctl))
    ∧ (passes 4 2 → s.isDown l = true → Settles (.timeReq l f) s (fun u => Sent s u l 4 3 [s.time.count, wordOf f 1]
        ∧ u.ctl = s.ctl))
    ∧ (∀ t1 t2 t3, passes 4 3 → x.exchange = some (t1, t2, t3) → wordOf f 2 = t3 → Settles (.timeResp l f) s (fun u =>
        u.rd (Reg.RTL_TIME_T 0) = t1 ∧ u.rd (Reg.RTL_TIME_T 1) = t2 ∧ u.rd (Reg.RTL_TIME_T 2) = t3
          ∧ u.rd (Reg.RTL_TIME_T 3) = wordOf f 1 ∧ u.rd Reg.RTL_TIME_SEQ = s.rd Reg.RTL_TIME_SEQ + 1#64
          ∧ (u.link l).exchange = none))
    ∧ (passes 2 0 → s.isolated = false → s.rootlink.cutting = none → s.isManager = false → s.mayCut = true →
        (s.rd Reg.RTL_BLAZE_LAST).toNat < (wordOf f 1).toNat → Settles (.blaze l f) s (fun u =>
          u.rootlink.cutting = some ((wordOf f 1).toNat, [l.val]) ∧ u.rd Reg.RTL_BLAZE_CUT = s.time.delivered))

/-- CTRL flits sent by HOP that pass their checks on a link with nothing to send (R469 to R477, R482): the mailbox
takes JOIN and NEG_OFFER at the manager, BOOT_REQ and BOOT_RESULT of a child and every MSG, and sets OVERFLOW when it
is full; a flit of an unknown SUB is accepted and discarded; ASSIGN gives its target the ID; BOOT_DATA writes its 32
bytes to staging while the ROM waits; NEG_SET locks; BLAZE_REQ is a trigger at the manager; BLAZE_DONE counts a
subtree.

Completion: under these conditions, on state and operands alone, `exec` answers a next state for `join`, `assign`,
`bootReq`, `bootData`, `bootEnd`, `bootResult`, `negOffer`, `negSet`, `blazeReq`, `blazeDone`, `msg`. -/
def Obligations.ControlFlits : Prop :=
  ∀ (s : State) (l : Fin 24) (f : Flit), f.top.getLsbD 14 = true → bit (wordOf f 1) 14 = false →
    let takes := fun (sub : Nat) => s.flitPasses l f 3 sub = true
    let h := s.heard l f true 1
    let mailed := fun (i : Instr) (sub : Nat) (ws : List W64) => Settles i s (fun u =>
      if s.rootlink.mailbox.length < 16 then
        u = { h with rootlink := { h.rootlink with mailbox := s.rootlink.mailbox ++ [⟨sub, l, ws⟩] } }
      else u = h.setFlag Reg.RTL_MBOX_STATUS 5 true)
    (s.isManager = true → (takes 1 → mailed (.join l f) 1 [wordOf f 1,
        w64 ((field (wordOf f 2) 24 0 * 32 + l) % 2 ^ 25 + (field (wordOf f 2) 27 25 + 1) % 8 * 2 ^ 25),
        wordOf f 3, wordOf f 4, wordOf f 5, wordOf f 6])
      ∧ (takes 7 → mailed (.negOffer l f) 7 f.words))
    ∧ (s.isDown l = true → (takes 3 → mailed (.bootReq l f) 3 f.words) ∧ (takes 6 → mailed (.bootResult l f) 6 f.words))
    ∧ (f.sub.toNat = 11 → takes 11 → mailed (.msg l f) 11 f.words)
    ∧ ((f.sub.toNat = 0 ∨ 11 < f.sub.toNat) → takes f.sub.toNat → Settles (.msg l f) s (fun u => u = h))
    ∧ (takes 2 → s.isWorker = true → s.mode ≠ 2 → s.upstream = some l.val → s.ownId = none →
        0 < field (wordOf f 2) 27 25 → field (wordOf f 2) 27 25 ≤ 5 → Settles (.assign l f) s (fun u =>
          u.flag Reg.HW_ROLE 3 = true ∧ u.fld Reg.HW_ROLE 21 8 = field (wordOf f 3) 13 0
            ∧ u.fld Reg.HW_ROLE 24 22 = field (wordOf f 2) 27 25))
    ∧ (takes 4 → s.stage = 2 → bit (wordOf f 2) 0 = false → field (wordOf f 2) 31 8 < 2 ^ 21 →
        (∀ g, g < 16 → s.flag (Reg.GRV_INJECT g) 63 = false) → s.ports.a = [] →
        let b := groveMemBase 8 + field (wordOf f 2) 31 8 / 32 * 32
        Settles (.bootData l f) s (fun u => ∀ a, u.byteAt a = if b ≤ a ∧ a < b + 32 then
          ([3, 4, 5, 6].flatMap (fun k => bytesLE 8 (wordOf f k).toNat)).getD (a - b) 0#8 else s.byteAt a))
    ∧ (∀ fails, takes 5 → (s.stage ≠ 2 ∨ s.mode ≠ 2) → Settles (.bootEnd l ⟨f, fails⟩) s (fun u => u = h))
    ∧ (∀ fails t, takes 5 → s.stage = 2 → s.mode = 2 →
        h.checkStaged (field (wordOf f 2) 17 0) (field (wordOf f 2) 48 24) 3 fails = .error t →
        Settles (.bootEnd l ⟨f, fails⟩) s (fun u => u.stage = 2))
    ∧ (∀ fails t, takes 5 → s.stage = 2 → s.mode = 2 →
        h.checkStaged (field (wordOf f 2) 17 0) (field (wordOf f 2) 48 24) 3 fails = .ok t →
        Settles (.bootEnd l ⟨f, fails⟩) s (fun u => u.stage = 6))
    ∧ (takes 8 → s.isWorker = true → s.ownId.isSome = true → s.flag Reg.NEG_LOCK 0 = false →
        Settles (.negSet l f) s (fun u => u.flag Reg.NEG_LOCK 0 = true ∧ u.fld Reg.NEG_LOCK 2 1 = 1
          ∧ u.rd (Reg.NEG_ACCEPT 0) = wordOf f 2 &&& s.rd (Reg.NEG_OFFER 0)
          ∧ u.rd (Reg.NEG_ACCEPT 1) = wordOf f 3 &&& s.rd (Reg.NEG_OFFER 1)))
    ∧ (takes 9 → s.isManager = true → s.accepted 7 = true → Settles (.blazeReq l f) s (fun u =>
        u.flag Reg.RTL_BLAZE_STATUS 2 = true ∧ u.mem = s.mem ∧ u.glades = s.glades))
    ∧ (∀ r, takes 10 → s.rootlink.runs = [r] → r.id = (wordOf f 2).toNat → r.answers = [l.val] → r.raised = false →
        Settles (.blazeDone l f) s (fun u => u.rootlink.runs = [{ r with
          answers := []
          devices := r.devices + field (wordOf f 3) 14 0
          missing := r.missing + field (wordOf f 3) 30 16 }]))

/-- What the device sends of itself on a link that can send at once (R472, R474, R475), and the commands of `RTL_CMD`
(R469, R474, R476, R477), with none in progress: CODE 3 where the role or the negotiation does not allow one, 1 where
its link is not UP, 2 for an undefined OP or a bad argument, and 0 with the flit sent: word 1 the device's own ID, and
the words of the arguments, those of NEG_SET with the bits cleared that the device itself has not accepted, those of
BOOT_DATA with the bytes of the image. While one is in progress GO is ignored. That a command whose flit leaves at once
completes within its step is the model's reading (log 31).

Completion: under these conditions, on state and operands alone, `exec` answers a next state for `joinSend`,
`bootReqSend`, `timeSyncSend`, `rtlAssignCmd`, `blazeStart`, `blazeRequest`, `bootSend`, `rtlBootEndCmd`,
`rtlNegSetCmd`, `rtlMsgCmd`, `mboxPop`, `rtlCmdBadOp`. -/
def Obligations.RootlinkCommands : Prop :=
  (∀ (s : State) (u0 : Nat), s.upstream = some u0 → s.sendsNow u0 = true → s.mode = 3 → s.isWorker = true → s.ownId = none →
    Settles .joinSend s (fun u => Sent s u u0 3 1 [0#64, 0#64, 0#64, s.rd Reg.HW_ID]))
  ∧ (∀ s : State, s.stage = 2 → s.sendsNow 0 = true →
      Settles .bootReqSend s (fun u => Sent s u 0 3 3 [s.ownWord, s.rd Reg.HW_ID]))
  ∧ (∀ (s : State) (l : Fin 24), s.linkUp l = true → s.isDown l = true →
      Settles (.timeSyncSend l) s (fun u => Sent s u l 4 1 [s.time.count] ∧ LineOnly s u l))
  ∧ (∀ (s : State) (v : W64), s.rootlink.command.isSome = true →
    ∀ i ∈ [Instr.rtlAssignCmd v, .blazeStart v, .blazeRequest v, .bootSend v, .rtlBootEndCmd v, .rtlNegSetCmd v,
      .rtlMsgCmd v], Settles i s (fun u => CtlOnly s u ∧ (∀ a, a ≠ Reg.RTL_CMD → u.rd a = s.rd a)
        ∧ u.fld Reg.RTL_CMD 63 62 = s.fld Reg.RTL_CMD 63 62))
  ∧ (∀ (s : State) (v : W64), s.rootlink.command = none →
    let l := field v 8 4
    let arg := fun k => s.rd (Reg.RTL_CMD_ARG k)
    let code := fun (i : Instr) (n : Nat) (P : State → Prop) => Settles i s (fun u =>
      u.fld Reg.RTL_CMD_STATUS 3 0 = n ∧ P u)
    let only := fun (u : State) => CtlOnly s u ∧ ∀ a, a ≠ Reg.RTL_CMD → a ≠ Reg.RTL_CMD_STATUS → u.rd a = s.rd a
    let sends := fun (i : Instr) (sub : Nat) (k : Nat) (ws : List W64) => s.sendsNow k = true → code i 0 (fun u =>
      Sent s u k 3 sub (s.ownWord :: ws))
    let args := (List.range 5).map arg
    ((field v 3 0 = 0 ∨ 7 < field v 3 0) → code (.rtlCmdBadOp v) 2 only)
    ∧ (s.isManager = false → code (.rtlAssignCmd v) 3 only ∧ code (.rtlNegSetCmd v) 3 only ∧ code (.blazeStart v) 3 only)
    ∧ (s.isManager = true → s.accepted 7 = true → code (.blazeStart v) 0 (fun u => u.flag Reg.RTL_BLAZE_STATUS 2 = true))
    ∧ (s.isManager = true →
        let id := field (arg 1) 13 0
        let k := field (arg 0) 24 0 % 32
        let len := field (arg 0) 27 25
        let taken := s.flag (Reg.RTL_ROUTE id) 5 = true ∧ s.fld (Reg.RTL_ROUTE id) 4 0 ≠ k
        ((id = 0 ∨ len = 0 ∨ 5 < len) → code (.rtlAssignCmd v) 2 only)
        ∧ (id ≠ 0 → 0 < len → len ≤ 5 → taken → code (.rtlAssignCmd v) 4 only)
        ∧ (id ≠ 0 → 0 < len → len ≤ 5 → ¬ taken → s.linkUp k = false → code (.rtlAssignCmd v) 1 only)
        ∧ (id ≠ 0 → 0 < len → len ≤ 5 → ¬ taken → sends (.rtlAssignCmd v) 2 k args
            ∧ (s.linkUp k = true → code (.rtlAssignCmd v) 0 (fun u =>
                u.flag (Reg.RTL_ROUTE id) 5 = true ∧ u.fld (Reg.RTL_ROUTE id) 4 0 = k))))
    ∧ ((s.isWorker = false ∨ s.accepted 7 = false) → code (.blazeRequest v) 3 only)
    ∧ (∀ k, s.isWorker = true → s.accepted 7 = true → s.upstream = some k → sends (.blazeRequest v) 9 k []
        ∧ (s.linkUp k = false → s.flag Reg.RTL_BLAZE_CFG 17 = false → code (.blazeRequest v) 1 only))
    ∧ (((arg 1).toNat % 8 ≠ 0 ∨ 16777216 < (arg 1).toNat) → code (.bootSend v) 2 only)
    ∧ ((arg 1).toNat = 0 → s.linkUp l = true → code (.bootSend v) 0 only)
    ∧ (s.linkUp l = false → code (.rtlBootEndCmd v) 1 only ∧ ((arg 1).toNat = 0 → code (.bootSend v) 1 only)
        ∧ (bit v 9 = true → code (.rtlMsgCmd v) 1 only))
    ∧ (0 < (arg 1).toNat → (arg 1).toNat ≤ 16777216 → (arg 1).toNat % 8 = 0 →
        let w := setField (setField (setField v 3 0 4) 63 24 0) 63 62 (s.fld Reg.RTL_CMD 63 62)
        let image := (s.wr Reg.RTL_CMD w).bootImage (arg 0).toNat (arg 1).toNat
        (∀ s1 d, s.linkUp l = true → image = (s1, .error d) → code (.bootSend v) 2 (fun u => u.rootlink = s1.rootlink))
        ∧ (∀ s1 data, (arg 1).toNat ≤ 32 → s.sendsNow l = true → image = (s1, .ok data) →
            code (.bootSend v) 0 (fun u => Sent s1 u l 3 4 (s.ownWord :: w64 (field (arg 2) 0 0)
              :: (List.range 4).map (fun k => w64 (ofBytesLE ((data.drop (8 * k)).take 8)))))))
    ∧ sends (.rtlBootEndCmd v) 5 l args
    ∧ (bit v 9 = true → sends (.rtlMsgCmd v) 11 l args ∧ (s.isManager = true → s.flag Reg.NEG_LOCK 0 = true →
        sends (.rtlNegSetCmd v) 8 l
          ((arg 0 &&& s.rd (Reg.NEG_ACCEPT 0)) :: (arg 1 &&& s.rd (Reg.NEG_ACCEPT 1)) :: args.drop 2)))
    ∧ (bit v 0 = true → Settles (.mboxPop v) s (fun u =>
        u = { s with rootlink := { s.rootlink with mailbox := s.rootlink.mailbox.drop 1 } }))
    ∧ (bit v 0 = false → Settles (.mboxPop v) s (fun u => u = s)))

/-- The Blaze (R476, R478, R482, R483): at the manager a lapsed period and a SYNC edge are triggers; the pending
initiation takes NEXT_ID and starts the cut of a device that may take one. At the cut point the cut ends as LAST_ID and
becomes a run: an answer is due from every downstream link that is UP; every OPEN journal, unless one could not take
it, has its BLAZE record, and a persistent one the Flush behind it; and a BLAZE flit with the ID leaves on every UP
link that can send. A run that is complete raises BLAZE, and answers that never come are missing.

Completion: under these conditions, on state and operands alone, `exec` answers a next state for `blaze`,
`blazePeriod`, `blazeSyncEdge`, `blazeInitiate`, `cutPoint`, `blazeComplete`, `blazeDoneTimeout`. -/
def Obligations.BlazeLife : Prop :=
  ∀ s : State,
    (s.isManager = true → s.accepted 7 = true →
      (s.fld Reg.RTL_BLAZE_CFG 15 0 ≠ 0 → Settles .blazePeriod s (fun u => FieldIs s u Reg.RTL_BLAZE_STATUS 2 2 1))
      ∧ (s.flag Reg.RTL_BLAZE_CFG 16 = true → Settles .blazeSyncEdge s (fun u =>
          u.flag Reg.RTL_BLAZE_STATUS 2 = true ∧ u.board.syncOut = false))
      ∧ (s.flag Reg.RTL_BLAZE_STATUS 2 = true → s.rootlink.cutting = none →
          (s.rootlink.lastStart = 0 ∨ s.rootlink.lastStart + 1000000 ≤ s.now + 1) →
          Settles .blazeInitiate s (fun u =>
            u.flag Reg.RTL_BLAZE_STATUS 2 = false ∧ u.rd Reg.RTL_BLAZE_NEXT = s.rd Reg.RTL_BLAZE_NEXT + 1#64
              ∧ (s.mayCut = true → (s.rd Reg.RTL_BLAZE_LAST).toNat < (s.rd Reg.RTL_BLAZE_NEXT).toNat →
                  u.rootlink.cutting = some ((s.rd Reg.RTL_BLAZE_NEXT).toNat, [])
                    ∧ u.rd Reg.RTL_BLAZE_CUT = s.time.delivered)
              ∧ (s.mayCut = false → u.rootlink.cutting = none ∧ u.flag Reg.RTL_BLAZE_STATUS 3 = true))))
    ∧ (∀ id ls, s.rootlink.cutting = some (id, ls) → s.rootlink.later = [] → Settles .cutPoint s (fun u =>
        u.rootlink.cutting = none ∧ u.rd Reg.RTL_BLAZE_LAST = w64 id
          ∧ ∃ r, u.rootlink.runs = s.rootlink.runs ++ [r] ∧ r.id = id ∧ r.raised = false ∧ r.devices = 1
            ∧ r.answers = s.upLinks.filter s.isDown ∧ r.flits = s.upLinks.filter (fun l => !ls.contains l)
            ∧ (r.missing = 0 → s.journalsSound → s.jw.journals.all (fun p => p.2.capture.isNone) = true →
                ∀ j c, (j, c) ∈ s.allJournals → s.jstate j = 2 → (s.rd (Reg.JW_JSEQ j)).toNat < 2 ^ 62 →
                  (s.rd (Reg.JW_JSEQ j)).toNat < (u.rd (Reg.JW_JSEQ j)).toNat
                    ∧ (c.ring = false → j ∈ r.journals ∧ ∃ k ∈ smGet [] u.jw.queues c.ctrl,
                        k.kind = .flush ∧ k.journal = j ∧ k.purpose = .blaze id))
            ∧ (s.isolated = false → ∃ fs, u.out = fs ++ s.out ∧ ∀ l ∈ s.upLinks, s.sendsNow l = true →
                (l, 2, (s.link l).sent % 4096, sixWords [w64 id]) ∈ fs.filterMap Out.content)))
    ∧ (∀ r, s.rootlink.runs = [r] → s.isManager = true →
      (r.raised = false → s.blazeDoneHere r = true → r.answers = [] → Settles .blazeComplete s (fun u =>
        u.rootlink.runs = [] ∧ u.tallyCount (dev 184) = min (s.tallyCount (dev 184) + 1) 65535
          ∧ u.fld Reg.RTL_BLAZE_STATUS 46 32 = r.devices % 2 ^ 15 ∧ u.fld Reg.RTL_BLAZE_STATUS 62 48 = r.missing % 2 ^ 15))
      ∧ (r.raised = true → r.answers ≠ [] → Settles .blazeDoneTimeout s (fun u =>
        u.rootlink.runs = [] ∧ u.fld Reg.RTL_BLAZE_STATUS 46 32 = r.devices % 2 ^ 15
          ∧ u.fld Reg.RTL_BLAZE_STATUS 62 48 = (r.missing + r.answers.length) % 2 ^ 15)))

/-! ### Low-speed ports and JTAG -/

/-- Flash and I2C (R448, R449): a write of a command register that its check refuses, as where the port's island is
reset, is recorded and does nothing else (R28, R428). A command without GO, or while BUSY, writes its fields and sends
nothing; a flash command sends its opcode and data, puts the bytes read in the data words, and stays BUSY when
WAIT_READY finds the flash not ready; where it does not become ready the poll times out with RESULT 1; an I2C transfer
reports its RESULT and keeps the data of a failed one.

The UART, with its island running (R450), and the safe-state outputs (R451). Each direction has a FIFO of 64 bytes; a
byte to a full one is not queued, a received one sets OVERRUN; a read takes the oldest byte. A Glade's write reaches
the outputs of its partition alone. A LENGTH or WLEN above its buffer is taken as the limit (log 64, the model's
reading).

Completion: under these conditions, on state and operands alone, `exec` answers a next state for `xspiCmd`,
`xspiReadyTimeout`, `i2cTransfer`, `uartTx`, `uartRxRead`, `uartReceive`, `ssoWrite`, `uartByteSent`. -/
def Obligations.LowSpeedPorts : Prop :=
  (∀ (s : State) (v : W64),
    let a := Reg.UST_XSPI_CMD
    let b := Reg.UST_I2C_CMD
    let n := min 256 (field v 18 10)
    (∀ d, (s.accessCheck .heartwood true a 8 v = some d → ∀ r, Settles (.xspiCmd v r) s (fun u =>
          u = s.recordRefusal .heartwood a d))
      ∧ (s.accessCheck .heartwood true b 8 v = some d → ∀ r bs, Settles (.i2cTransfer v r bs) s (fun u =>
          u = s.recordRefusal .heartwood b d)))
    ∧ (∀ r : FlashReply, s.accessCheck .heartwood true a 8 v = none →
      ((s.flag a 62 = true ∨ bit v 63 = false) → Settles (.xspiCmd v r) s (fun u => FieldIs s u a 24 0 (field v 24 0)))
      ∧ (s.flag a 62 = false → bit v 63 = true → r.data.length = n → Settles (.xspiCmd v r) s (fun u =>
          (∃ sent, u.out = .flash (field v 7 0) (if bit v 8 then some (s.fld Reg.UST_XSPI_ADDR 31 0) else none) sent :: s.out
            ∧ sent = (if bit v 9 then s.dataBytes (Reg.UST_XSPI_DATA 0) n else []))
          ∧ u.flag a 62 = (bit v 24 && r.ready != some 0) ∧ (u.flag a 62 = false → u.fld a 61 60 = 0)
          ∧ (bit v 9 = false → u.dataBytes (Reg.UST_XSPI_DATA 0) n = r.data)
          ∧ u.mem = s.mem ∧ u.glades = s.glades)))
    ∧ (s.flag a 62 = true → s.board.flashReady = 0 → Settles .xspiReadyTimeout s (fun u =>
        u.flag a 62 = false ∧ u.fld a 61 60 = 1 ∧ CtlOnly s u ∧ ∀ c, c ≠ a → u.rd c = s.rd c))
    ∧ (∀ (r : Fin 6) (bs : List Byte), s.accessCheck .heartwood true b 8 v = none → s.flag b 62 = false →
      (bit v 63 = false → Settles (.i2cTransfer v r bs) s (fun u => CtlOnly s u ∧ ∀ c, c ≠ b → u.rd c = s.rd c))
      ∧ (bit v 63 = true → Settles (.i2cTransfer v r bs) s (fun u =>
          let w := min 32 (field v 13 8)
          let m := min 32 (field v 21 16)
          u.fld b 30 28 = r ∧ u.out = .i2c (field v 6 0) (s.dataBytes (Reg.UST_I2C_DATA 0) w) m :: s.out
            ∧ (r.val = 0 → bs.length = m → u.dataBytes (Reg.UST_I2C_DATA 0) m = bs)
            ∧ (r.val ≠ 0 → ∀ c, c ≠ b → u.rd c = s.rd c) ∧ u.mem = s.mem))))
  ∧ ((∀ (s : State) (b : Byte), s.uartOn = true →
    let uart := fun (i : Instr) (x : Uart) => Settles i s (fun u => u = { s with uart := x })
    (s.accessCheck .heartwood true Reg.UST_UART_TX 8 (w64 b.toNat) = none →
      uart (.uartTx b) (if s.uart.tx.length < 64 then { s.uart with tx := s.uart.tx ++ [b] } else s.uart))
    ∧ (∀ framing, uart (.uartReceive b framing) (if s.uart.rx.length < 64 then
        { s.uart with rx := s.uart.rx ++ [(b, framing)] } else { s.uart with overrun := true }))
    ∧ (∀ rest, s.uart.tx = b :: rest → Settles .uartByteSent s (fun u =>
        u = { s with uart := { s.uart with tx := rest }, out := .uart b :: s.out }))
    ∧ (s.accessCheck .heartwood false Reg.UST_UART_RX 8 0#64 = none → Settles .uartRxRead s (fun u => ∃ w : W64, u.out = .reg w :: s.out ∧ u.uart.rx = s.uart.rx.drop 1
        ∧ u.uart.overrun = false ∧ u.uart.tx = s.uart.tx ∧ bit w 8 = !s.uart.rx.isEmpty ∧ bit w 9 = s.uart.overrun
        ∧ ∀ p rest, s.uart.rx = p :: rest → field w 7 0 = p.1.toNat ∧ bit w 10 = p.2)))
  ∧ (∀ (s : State) (who : Fin 257) (v : W64),
    (∀ d, s.accessCheck (coreRequester who) true Reg.UST_SSO 8 v = some d → Settles (.ssoWrite who v) s (fun u =>
      u = s.recordRefusal (coreRequester who) Reg.UST_SSO d))
    ∧ (s.accessCheck (coreRequester who) true Reg.UST_SSO 8 v = none → Settles (.ssoWrite who v) s (fun u =>
      CtlOnly s u ∧ (∀ a, a ≠ Reg.UST_SSO → u.rd a = s.rd a)
        ∧ (∀ n, n < 8 → u.flag Reg.UST_SSO n = if who.val = 256
            ∨ s.fld Reg.UST_SSO (2 * n + 17) (2 * n + 16) = s.groveGetPart (who / 16) then bit v n else s.flag Reg.UST_SSO n)
        ∧ u.fld Reg.UST_SSO 31 16 = (if who.val = 256 then field v 31 16 else s.fld Reg.UST_SSO 31 16)))))

/-- JTAG instructions (R452 to R454): IDCODE shifts out the identity; EXTEST, CLAMP and HIGHZ act with PORST_N low or
in SERVICE and are BYPASS otherwise; SVC_CHAL captures a challenge; SVC_ENTER is granted with no key slot programmed,
counted as a refusal when its signature does not hold, and granted no more after three; SVC_ACCESS reads and writes a
word in SERVICE as the Heartwood would, with STATUS 1 and a record where that is refused, and answers STATUS 3
elsewhere and STATUS 2 while an access is in progress. The modes in which SVC_ENTER is granted and the answer while an
access is in progress are the model's readings (logs 84, 132).

Completion: under these conditions, on state and operands alone, `exec` answers a next state for `idcode`,
`samplePreload`, `extest`, `clamp`, `highz`, `svcChal`, `svcEnter`, `svcAccess`, `bypass`. -/
def Obligations.JtagInstructions : Prop :=
  ∀ s : State,
    let selects := fun (i : Instr) (code pins : Nat) => Answers i s (fun t =>
      t.jtag.ir = code ∧ t.jtag.pins = pins ∧ t = { s with jtag := t.jtag, out := t.out, free := t.free })
    let pinTest := s.board.porst = false ∨ s.mode = 11
    Answers .idcode s (fun t => t.out = .jtag 0x125605AF :: s.out) ∧ selects .idcode 1 0
    ∧ (∀ pins, selects (.samplePreload pins) 2 0 ∧ Answers (.samplePreload pins) s (fun t => t.jtag.boundary = pins)
        ∧ (pinTest → selects (.extest pins) 3 1 ∧ Answers (.extest pins) s (fun t => t.jtag.boundary = pins))
        ∧ (¬ pinTest → selects (.extest pins) 0xFF 0))
    ∧ (pinTest → selects .clamp 4 1 ∧ selects .highz 5 2) ∧ (¬ pinTest → selects .clamp 0xFF 0 ∧ selects .highz 0xFF 0)
    ∧ selects .bypass 0xFF 0 ∧ selects .svcChal 0x20 0
    ∧ Answers .svcChal s (fun t => ∃ n : Nat, n < 2 ^ 256 ∧ t.jtag.challenge = some (BitVec.ofNat 256 n)
        ∧ t.out = .jtag n :: s.out)
    ∧ (∀ r : SvcRequest, (s.mode = 2 ∨ s.mode = 3 ∨ s.mode = 4 ∨ s.mode = 5 ∨ s.mode = 6 ∨ s.mode = 10) →
        let n := s.fld Reg.UST_SVC 9 8
        (3 ≤ n → Settles (.svcEnter r) s (fun u => u.mode = s.mode ∧ u.ctl = s.ctl ∧ u.jtag.challenge = none))
        ∧ (n < 3 → s.keySlots.any = false → Settles (.svcEnter r) s (fun u => u.mode = 11 ∧ u.flag Reg.UST_SVC 0 = true))
        ∧ (n < 3 → s.keySlots.any = true → (∀ c, s.jtag.challenge = some c → s.svcHolds r c = false) →
            Settles (.svcEnter r) s (fun u => u.mode = s.mode ∧ u.fld Reg.UST_SVC 9 8 = n + 1 ∧ u.jtag.challenge = none)))
    ∧ (∀ (op : Fin 4) (a : BitVec 48) (v : W64) (rep : BoardReply),
        (s.mode ≠ 11 → Settles (.svcAccess op a v rep) s (fun u => u.jtag.status = 3 ∧ u = { s with jtag := u.jtag }))
        ∧ (s.mode = 11 → s.jtag.access.isSome = true →
            Settles (.svcAccess op a v rep) s (fun u => u.jtag.status = 2 ∧ u = { s with jtag := u.jtag }))
        ∧ (let p := s.withPorts rep.ports
          s.mode = 11 → s.jtag.access = none → op.val = 1 → a.toNat % 8 = 0 → p.accessCheck .jtag false a.toNat 8 v = none →
            p.accessWaits (canon .jtag a.toNat) = false → ∀ s1 bs,
            p.devRead .jtag (canon .jtag a.toNat) 8 rep = (s1, .ok bs) →
            Settles (.svcAccess op a v rep) s (fun u => u.jtag.status = 0 ∧ u.jtag.data.toNat = ofBytesLE bs % 2 ^ 64
              ∧ u.mem = s1.mem))
        ∧ (let p := s.withPorts rep.ports
          let g := canon .jtag a.toNat
          s.mode = 11 → s.jtag.access = none → op.val = 2 → a.toNat % 8 = 0 →
            (∀ d, p.accessCheck .jtag true a.toNat 8 v = some d → Settles (.svcAccess op a v rep) s (fun u =>
              u.jtag.status = 1 ∧ u.mem = s.mem ∧ u.ctl = (p.recordRefusal .jtag a.toNat d).ctl))
            ∧ (p.accessCheck .jtag true a.toNat 8 v = none → p.accessWaits g = true → Settles (.svcAccess op a v rep) s (fun u =>
              u.jtag.status = 2 ∧ u.jtag.access = some (2, a.toNat, v) ∧ u.mem = s.mem ∧ u.ctl = s.ctl))
            ∧ (p.accessCheck .jtag true a.toNat 8 v = none → p.accessWaits g = false →
              let w := p.devWrite .jtag g (bytesLE 8 v.toNat) rep
              Settles (.svcAccess op a v rep) s (fun u => u.jtag.status = 0 ∧ u.mem = w.mem ∧ u.ctl = w.ctl
                ∧ u.glades = w.glades
                ∧ (∀ c : Fin 256, s.regionOf g = .dmem c → s.flag (Reg.GRV_INJECT (c.val / 16)) 63 = false →
                    ∀ b, u.byteAt b = if g ≤ b ∧ b < g + 8 then (bytesLE 8 v.toNat).getD (b - g) 0#8 else s.byteAt b)))))

/-! ### Glade control and safety -/

/-- `SAF_GCTLi` and `SAF_GVIEWi_r` of a Glade of no pair (R493): STOP stops it, its record and loads dropped,
GLADE_STOPPED raised; START resumes a stopped one at START_PC in the thread bank, repeat state and scoreboard clear,
events unmasked, predictor flushed, registers and memories kept; the view reads a stopped or fenced Glade and writes a
stopped one.

Completion: under these conditions, on state and operands alone, `exec` answers a next state for `gctlStop`,
`gctlStart`, `gviewAccess`. -/
def Obligations.GladeControl : Prop :=
  ∀ (s : State) (c : Fin 256), s.pairOf c = none →
    let x := s.glade c
    ((x.run = .running ∨ x.run = .clearing ∨ (x.run = .held ∧ x.started = true)) → s.buses c ≠ 0 → Settles (.gctlStop c) s (fun u =>
      let y := u.glade c
      y.run = .stopped ∧ y.record = none ∧ y.loads = [] ∧ (s.txn c = none → y.grf = x.grf) ∧ y.pc = x.pc ∧ y.evec = x.evec
        ∧ y.stopEcause = 0#64 ∧ 0 < u.tallyCount (dev (32 + c.val / 16))))
    ∧ (x.run = .stopped → Settles (.gctlStart c) s (fun u =>
      let y := u.glade c
      y.run = .running ∧ y.pc = w64 (s.fld (Reg.SAF_GCTL c) 18 4) ∧ y.inHandler = false ∧ y.masked = false
        ∧ y.rep = Repeat.none ∧ y.score = 0#64 ∧ y.retStack = [] ∧ y.path = [] ∧ y.targets = [] ∧ y.grf = x.grf
        ∧ y.evec = x.evec ∧ y.wdogPending = false ∧ y.guesses = [] ∧ u = { s with glades := u.glades } ∧ ∀ d, d ≠ c.val → u.glade d = s.glade d))
    ∧ (∀ (byJtag : Bool) (r : Fin 128), r.val ≤ 76 →
      ((x.run = .stopped ∨ x.run = .fenced) → Settles (.gviewAccess byJtag c r none) s (fun u =>
        ∃ w, u = { s with out := .reg w :: s.out } ∧ (r.val < 64 → w = (x.g r).data) ∧ (r.val = 68 → w = x.score)
          ∧ (r.val = 69 → w = x.epc) ∧ (r.val = 70 → w = x.ecause) ∧ (r.val = 71 → w = x.eaddr)
          ∧ (r.val = 72 → w = x.ebr) ∧ (r.val = 73 → w = x.evec) ∧ (r.val = 74 → w = x.stopEcause)
          ∧ (r.val = 75 → w = x.stopEpc) ∧ (r.val = 76 → w = x.stopEaddr)))
      ∧ (∀ v, x.run = .stopped → r.val < 64 → Settles (.gviewAccess byJtag c r (some v)) s (fun u =>
          (∀ n, n < 64 → (u.glade c).g n = if n = r.val ∧ n ≠ 0 then ⟨v, (x.g n).tag⟩ else x.g n)
            ∧ u = { s with glades := u.glades } ∧ ∀ d, d ≠ c.val → u.glade d = s.glade d))
      ∧ (∀ v, x.run = .fenced → Settles (.gviewAccess byJtag c r (some v)) s (fun u => u = s))
      ∧ (∀ w, x.run ≠ .stopped → x.run ≠ .fenced → Settles (.gviewAccess byJtag c r w) s (fun u =>
          u.glades = s.glades ∧ u.out.head? = some (.refused 2))))

/-- `SAF_FAULT` and `SAF_CTL` (R508, R510): ACK clears HANDLING and nothing else; SAFE_REQ, outside OFF, HOLDUP, SAFE
and SERVICE and with no transition in progress, enters SAFE: FAULT_N low and the outputs at SAFE_OUT (R451), every
Grove fenced with its Glades, and the journals sealed with REASON 3. When what is sealed has ended (step 5, which
follows of itself) the Groves, the engines of the QM and every lane but the endpoint's and the upstream link's are off,
DRAM is in self-refresh, and the last-fault record is given to the Seedbank.

Completion: under these conditions, on state and operands alone, `exec` answers a next state for `faultAck`, `safeReq`.
-/
def Obligations.SafeEntry : Prop :=
  ∀ (s : State) (v : W64),
    (bit v 32 = true → Settles (.faultAck v) s (fun u => FieldIs s u Reg.SAF_STATUS 0 0 0))
    ∧ (bit v 32 = false → Settles (.faultAck v) s (fun u => u = s))
    ∧ (bit v 1 = false → Settles (.safeReq v) s (fun u => FieldIs s u Reg.SAF_CTL 0 0 (field v 0 0)))
    ∧ (bit v 1 = true → s.mode ≠ 1 → s.mode ≠ 9 → s.mode ≠ 10 → s.mode ≠ 11 → s.flag Reg.PWR_MODE 8 = false →
        s.power.safeDue = 0 →
        Settles (.safeReq v) s (fun u => u.mode = 10 ∧ u.fld Reg.SAF_STATUS 2 1 = 3 ∧ u.jw.sealing = 3
          ∧ (∀ g, g < 16 → u.groveFenced g = true)
          ∧ (∀ c, c < 256 → s.buses c ≠ 0 → (u.glade c).run = .fenced)
          ∧ u.regrow = none ∧ 0 < u.tallyCount (dev 180) ∧ u.power.faultRecord.length = 96
          ∧ u.ssoDriven = s.secLE 0x50 0 1
          ∧ (s.board.vio33 = true → s.board.vaon = true → s.board.porst = true → s.jtag.pins = 0 →
              u.pinDrive .faultN = .low ∧ ∀ n, n < 8 →
                u.pinDrive (.sso n) = if (s.secLE 0x50 0 1).testBit n then .high else .low)))
    ∧ (s.mode = 10 → s.power.down = false → s.sealingDone = true →
        let u := s.pollShutdown
        let upstream := fun (o : Nat) => s.linkEntries.any (fun e => byteN e 4 == 0 && byteN e 2 / 8 == o)
        u.power.down = true ∧ u.power.faultRecord = [] ∧ (∀ d, 4 ≤ d → d < 36 → u.domState d = 0)
          ∧ u.domState 60 = 0 ∧ u.domState 61 = 0
          ∧ (∀ n, n < 4 → u.domState (36 + n) = if s.domState (36 + n) = 1 then 2 else s.domState (36 + n))
          ∧ (∀ o, o < 12 → o ≠ 2 → upstream o = false → u.domState (40 + o) = 0)
          ∧ ∀ n, n < 96 → s.quadRole (n / 4) ≠ 2 →
              (∀ l e, s.linkOfLane n = some l → s.linkEntry l = some e → byteN e 4 ≠ 0) →
              u.fld (Reg.LANE_STATE n) 2 0 = 0)

/-- A seal of a pair whose Glades stand at the same seal point with nothing outstanding (R498, R499): equal signatures
and positions of one kind, with nothing left that the trailing Glade did not take, let what stands there issue and
count positions anew; a first difference restores the shadow checkpoint for a re-run; a second one is lasting. A seal
point of the trailing Glade that the leading one has passed is such a difference. The seal timer makes the next
position a seal point. An external effect that the leading Glade is given waits for its partner (R291, R498).

Completion: under these conditions, on state and operands alone, `exec` answers a next state for `qpuPutl`,
`lockstepSeal`, `sealTimer`. -/
def Obligations.PairsSeal : Prop :=
  ∀ (s : State) (l t : Fin 256), l ≠ t → s.pairOf l = some (l.val, t.val) →
    s.pairOf t = some (l.val, t.val) → s.runs l = true → s.runs t = true →
    (s.timeRuns = true → Settles (.sealTimer l) s (fun u => (u.pair l).timer = true ∧ u = { s with pairs := u.pairs }))
    ∧ (s.sealIdle l = true → s.sealIdle t = true →
      let v := s.sealView l t (State.standAt [] noReply)
      let w := v.1
      let p := w.pair l
      let differs := Settles (.lockstepSeal l) s (fun u =>
        u.glade l = { p.lead with undo := [], undoCount := 0 } ∧ u.glade t = { p.trail with undo := [], undoCount := 0 }
          ∧ (u.pair l).rerun = !p.rerun ∧ (u.pair l).sealed = false ∧ (u.pair l).feed = []
          ∧ (p.rerun = true → (s.mode ≠ 10 → 0 < u.tallyCount (dev 178)) ∧ ∃ f ∈ u.findings, f.mech = 4 ∧ f.kind = 0x14))
      w.pairOf l = some (l.val, t.val) → w.pairOf t = some (l.val, t.val) →
      (w.sealPos l = w.sealPos t → p.sealed = false → w.sealPoint l v.2.1 = true →
        p.feed.any (fun e => e.2 == .event) = false → w.mustMeet l t = false →
        let same := (w.glade l).sealFold v.2.1.fx = (w.glade t).sealFold v.2.2.fx ∧ v.2.1.same v.2.2 = true ∧ p.feed = []
        (same → Settles (.lockstepSeal l) s (fun u => (u.pair l).sealed = true ∧ (u.pair l).rerun = false
            ∧ u.sealPos l = 0 ∧ u.sealPos t = 0 ∧ (u.glade l).grf = (w.glade l).grf ∧ (u.glade t).grf = (w.glade t).grf))
        ∧ (¬ same → differs))
      ∧ (w.sealPos l ≠ w.sealPos t → w.sealHere t v.2.2 = true → differs))
    ∧ (∀ d : TWord,
      let r := s.readyWith l (.qpu .putl) d noFlags
      s.mayIssue l false = true → r.2.isCause = false → s.entryDue l = false →
      r.1.pairHolds l (r.1.nativeStand l r.2) = true → s.sealIdle t = false → Settles (.qpuPutl l d) s (fun u =>
        u.qm = s.qm ∧ u.mem = s.mem ∧ u.out = s.out ∧ (u.glade l).pc = (s.glade l).pc ∧ (u.glade l).grf = (s.glade l).grf))

/-- Watchdogs (R501, R502): the expiry of a Glade of no pair, while armed, and of the Heartwood raise and count; the
first makes a WATCHDOG entry pending and wakes; one in the handler bank stops the core; a Glade's second carries the
finding of mechanism 8, the Heartwood's second stops it.

Supplies and temperature (R223, R402, R504 to R506): a rail in low power or off is not watched; a supply out of its
window sets its SUPPLY bit and, outside HOLDUP, carries the finding of mechanism 6; its return clears the bit unless
another supply of it is out; a late one leaves its record lasting. Each sample shows the temperature of the hottest
sensor (R528), and the second in a row above PARAM carries the finding of mechanism 11. That the Heartwood's second
expiry is a finding of a number of its own is the model's form (log 144).

Completion: under these conditions, on state and operands alone, `exec` answers a next state for `gladeWatchdogExpiry`,
`heartwoodWatchdogExpiry`, `supplyOutOfWindow`, `tempSample`, `supplyReturn`, `supplyReturnTimeout`. -/
def Obligations.ExpiryAndSupplies : Prop :=
  ((∀ (s : State) (c : Fin 256),
    let x := s.glade c
    s.pairOf c = none → x.started = true → (x.run = .running ∨ x.run = .clearing) → s.timeRuns = true →
    s.armed 8 (some (c.val / 16)) = true →
      Settles (.gladeWatchdogExpiry c) s (fun u =>
        let y := u.glade c
        u.fld (Reg.SAF_GCTL c) 31 24 = (s.fld (Reg.SAF_GCTL c) 31 24 + 1) % 256
          ∧ (s.mode ≠ 10 → s.groveFenced (c.val / 16) = false → 0 < u.tallyCount (dev (48 + c.val / 16)))
          ∧ (x.inHandler = true → y.run = .stopped)
          ∧ (x.wdogFirst = true → ∃ f ∈ u.findings, f.mech = 8 ∧ f.grove = some (c.val / 16) ∧ f.glade = c.val % 16)
          ∧ (x.inHandler = false → x.wdogFirst = false → y.wdogPending = true ∧ y.wdogFirst = true ∧ y.run = .running
              ∧ y.grf = x.grf ∧ y.pc = x.pc)))
  ∧ (∀ s : State,
    let x := s.glade 256
    x.started = true → (x.run = .running ∨ x.run = .clearing) → s.timeRuns = true →
      Settles .heartwoodWatchdogExpiry s (fun u =>
        let y := u.glade 256
        u.fld Reg.SAF_HWDOG 47 32 = (s.fld Reg.SAF_HWDOG 47 32 + 1) % 65536
          ∧ (x.inHandler = true → y.run = .stopped ∧ ∃ f ∈ u.findings, f.mech = 100 ∧ f.kind = 0x1D)
          ∧ (x.wdogFirst = true → x.inHandler = false → y.run = .stopped ∧ ∃ f ∈ u.findings, f.mech = 103 ∧ f.kind = 0x1D)
          ∧ (x.wdogFirst = false → x.inHandler = false → y.wdogPending = true ∧ y.run = .running ∧ y.grf = x.grf))))
  ∧ ((∀ (s : State) (k : Fin 33), 8 ≤ k.val → k.val ≠ 15 →
    let out := s.monitors.outside
    let a := Reg.PWR_RAIL (k - 16)
    let low := 16 ≤ k.val ∧ (s.flag a 28 = true ∨ s.fld a 25 16 = 0)
    (low → Settles (.supplyOutOfWindow k) s (fun u => u = s))
    ∧ (k.val ∉ out → ¬ low → Settles (.supplyOutOfWindow k) s (fun u => u.flag Reg.SAF_STATUS (supplyBit k) = true
      ∧ u.monitors.outside = out ++ [k.val] ∧ (s.mode = 9 → u.findings = s.findings)
      ∧ (s.mode ≠ 9 → (s.mode ≠ 10 → s.tallyOn = true → 0 < u.tallyCount (dev 174)) ∧ ∃ f, u.findings = s.findings ++ [f] ∧ f.mech = 6 ∧ f.kind = 0x15)))
    ∧ (k.val ∈ out → Settles (.supplyReturn k) s (fun u => k.val ∉ u.monitors.outside
        ∧ smGet 0 u.monitors.returned k = s.now + 1
        ∧ u.flag Reg.SAF_STATUS (supplyBit k) = (s.flag Reg.SAF_STATUS (supplyBit k)
            && out.any (fun j => j != k.val && supplyBit j == supplyBit k))
        ∧ ∀ a, a ≠ Reg.SAF_STATUS → u.rd a = s.rd a))
    ∧ (k.val ∉ out → Settles (.supplyReturnTimeout k) s (fun u => u = s))
    ∧ (k.val ∈ out → s.flag (Reg.SAF_ERR_INFO 0) 0 = true → s.fld (Reg.SAF_ERR_INFO 0) 15 8 = 0x15 →
        s.fld (Reg.SAF_ERR_ADDR 0) 47 0 = (if k.val < 16 then 0 else k.val - 16) →
        Settles (.supplyReturnTimeout k) s (fun u => FieldIs s u (Reg.SAF_ERR_INFO 0) 1 1 1)))
  ∧ (∀ (s : State) (sensors : TempSensors) (t : BitVec 16), t ∈ sensors.heartwood :: sensors.groves →
    (∀ k ∈ sensors.heartwood :: sensors.groves, k.toInt ≤ t.toInt) →
    Settles (.tempSample sensors) s (fun u => u.fld Reg.SAF_STATUS 31 16 = t.toNat
      ∧ (s.armed 11 none = true → int32 (field (s.mech 11) 63 32) < t.toInt →
          (s.monitors.tempHigh = 0 → u.monitors.tempHigh = 1 ∧ u.findings = s.findings)
          ∧ (s.monitors.tempHigh = 1 → (s.mode ≠ 10 → s.tallyOn = true → 0 < u.tallyCount (dev 175))
              ∧ ∃ f, u.findings = s.findings ++ [f] ∧ f.mech = 11 ∧ f.kind = 0x16))
      ∧ (s.armed 11 none = true → ¬ int32 (field (s.mech 11) 63 32) < t.toInt →
          u.monitors.tempHigh = 0 ∧ u.findings = s.findings))))

/-- The access codes (R10, R11): a Heartwood write of a register without behaviour of its own sets the RW fields as
written, clears W1C bits and sets W1S bits by ones, and leaves every other bit; a read answers among the outputs, every
bit as it is stored where the register is not formed from other state or pins, a WO or reserved bit as 0, RC bits
cleared in the same access, every other register as before; an access to a Grove's block wakes its regulator (R400).

Completion: under these conditions, on state and operands alone, `exec` answers a next state for `registerWrite`,
`registerReadClear`. -/
def Obligations.AccessCodes : Prop :=
  ∀ (s : State) (a : BitVec 48) (row : RegRow), regAt a.toNat = some row → s.regionOf a.toNat = .control →
    let p := s.touch a.toNat
    (∀ v : W64, s.accessCheck .heartwood true a.toNat 8 v = none → plainWrite a.toNat = true →
      Settles (.registerWrite a v) s (fun u => (CtlOnly p u ∧ ∀ b, b ≠ a.toNat → u.rd b = p.rd b)
        ∧ ∀ i, i < 64 → u.flag a.toNat i =
          (((if row.rw.testBit i then bit v i else p.flag a.toNat i) && !(row.w1c.testBit i && bit v i))
            || (row.w1s.testBit i && bit v i))))
    ∧ (s.accessCheck .heartwood false a.toNat 8 0#64 = none → a.toNat ≠ Reg.UST_UART_RX →
      Settles (.registerReadClear a) s (fun u => (∃ w : W64, u.out = .reg w :: s.out
          ∧ (∀ i, i < 64 → (row.used.testBit i = false ∨ row.wo.testBit i = true) → bit w i = false)
          ∧ (p.formed .heartwood a.toNat = none → a.toNat ≠ Reg.RTL_BOARD → a.toNat ≠ Reg.UST_I2C_CMD →
              ∀ i, i < 64 → row.used.testBit i = true → row.wo.testBit i = false → bit w i = p.flag a.toNat i))
        ∧ (∀ i, i < 64 → u.flag a.toNat i = (p.flag a.toNat i && !row.rc.testBit i))
        ∧ (∀ b, b ≠ a.toNat → u.rd b = p.rd b) ∧ u = { s with ctl := u.ctl, out := u.out, free := u.free }))
end

