-- ==== Sys2Proof/Laws/Fields.lean ====
section
/-! SUPPORT. Laws of bit fields: a field written reads back its low bits, and no other bit changes. -/

namespace Sys2Proof

/-- Bit `i` of a word whose field `[hi:lo]` has been written. -/
theorem getLsbD_setField (w : W64) {hi lo : Nat} (v i : Nat) (h : lo ≤ hi) (hh : hi < 64) :
    (setField w hi lo v).getLsbD i = if lo ≤ i ∧ i ≤ hi then v.testBit (i - lo) else w.getLsbD i := by
  unfold setField
  have hm : 2 ^ (hi + 1 - lo) - 1 < 2 ^ (hi + 1 - lo) := Nat.sub_lt (Nat.two_pow_pos _) Nat.one_pos
  have hlt : ((2 ^ (hi + 1 - lo) - 1) <<< lo) < 2 ^ 64 := by
    rw [Nat.shiftLeft_eq]
    calc (2 ^ (hi + 1 - lo) - 1) * 2 ^ lo < 2 ^ (hi + 1 - lo) * 2 ^ lo :=
          Nat.mul_lt_mul_of_pos_right hm (Nat.two_pow_pos _)
      _ = 2 ^ (hi + 1) := by rw [← Nat.pow_add]; congr 1; omega
      _ ≤ 2 ^ 64 := Nat.pow_le_pow_right (by omega) (by omega)
  have hsub : (2 ^ 64 - 1 - (2 ^ (hi + 1 - lo) - 1) <<< lo).testBit i
      = (decide (i < 64) && !((2 ^ (hi + 1 - lo) - 1) <<< lo).testBit i) := by
    rw [Nat.sub_sub, Nat.add_comm 1, Nat.testBit_two_pow_sub_succ hlt]
  simp only [BitVec.getLsbD_ofNat, Nat.testBit_or, Nat.testBit_and, hsub, Nat.testBit_shiftLeft,
    Nat.testBit_two_pow_sub_one, Nat.testBit_mod_two_pow, BitVec.testBit_toNat]
  by_cases hi64 : i < 64
  · by_cases h1 : lo ≤ i
    · by_cases h2 : i ≤ hi
      · have : i - lo < hi + 1 - lo := by omega
        simp [hi64, h1, h2, this]
      · have : ¬ i - lo < hi + 1 - lo := by omega
        simp [hi64, h1, h2, this]
    · simp [hi64, h1]
  · have : ¬ i ≤ hi := by omega
    simp [hi64, this, BitVec.getLsbD_of_ge w i (by omega)]

/-- Bit `k` of a field. -/
theorem testBit_field (w : W64) (hi lo k : Nat) :
    (field w hi lo).testBit k = (decide (k < hi + 1 - lo) && w.getLsbD (lo + k)) := by
  unfold field
  rw [Nat.testBit_mod_two_pow, Nat.testBit_shiftRight, BitVec.testBit_toNat]

/-- A field reads back what was written to it, modulo its width. -/
theorem field_setField (w : W64) {hi lo : Nat} (v : Nat) (h : lo ≤ hi) (hh : hi < 64) :
    field (setField w hi lo v) hi lo = v % 2 ^ (hi + 1 - lo) := by
  apply Nat.eq_of_testBit_eq
  intro k
  rw [testBit_field, getLsbD_setField w v _ h hh, Nat.testBit_mod_two_pow]
  by_cases hk : k < hi + 1 - lo
  · have : lo ≤ lo + k ∧ lo + k ≤ hi := by omega
    simp [hk, this]
  · simp [hk]

/-- A write of one field leaves every field beside it as it was. -/
theorem field_setField_ne (w : W64) {hi lo : Nat} (v : Nat) (h : lo ≤ hi) (hh : hi < 64) {hi' lo' : Nat}
    (hd : hi' < lo ∨ hi < lo') : field (setField w hi lo v) hi' lo' = field w hi' lo' := by
  apply Nat.eq_of_testBit_eq
  intro k
  rw [testBit_field, testBit_field, getLsbD_setField w v _ h hh]
  by_cases hk : k < hi' + 1 - lo'
  · have : ¬ (lo ≤ lo' + k ∧ lo' + k ≤ hi) := by omega
    simp [hk, this]
  · simp [hk]

/-- A write of one field leaves every bit outside it as it was. -/
theorem bit_setField_ne (w : W64) {hi lo : Nat} (v : Nat) (h : lo ≤ hi) (hh : hi < 64) {i : Nat}
    (hd : i < lo ∨ hi < i) : bit (setField w hi lo v) i = bit w i := by
  unfold bit
  rw [getLsbD_setField w v i h hh, if_neg (by omega)]

/-- A one-bit field holds the truth value written to it. -/
theorem bit_setField_b2n (w : W64) {i : Nat} (b : Bool) (h : i < 64) : bit (setField w i i (b2n b)) i = b := by
  unfold bit
  rw [getLsbD_setField w _ i (Nat.le_refl i) h, if_pos ⟨Nat.le_refl i, Nat.le_refl i⟩, Nat.sub_self]
  cases b <;> rfl

/-- A field is below the power of two of its width. -/
theorem field_lt (w : W64) (hi lo : Nat) : field w hi lo < 2 ^ (hi + 1 - lo) := Nat.mod_lt _ (Nat.two_pow_pos _)

end Sys2Proof
end

