-- ==== Sys2Proof/Laws/Sparse.lean ====
section
/-! SUPPORT. Laws of the sparse maps: a read after a write, and the canonical form, which every write and every removal
of keys keeps. -/

namespace Sys2Proof.Machine

/-! ### Reads after writes -/

@[simp] theorem smGet_nil {α : Type} (d : α) (k : Nat) : smGet d ([] : SMap α) k = d := rfl

theorem smGet_smErase {α : Type} (d : α) (m : SMap α) (k j : Nat) :
    smGet d (smErase m k) j = if j = k then d else smGet d m j := by
  induction m with
  | nil => simp [smErase]
  | cons p m ih =>
    obtain ⟨k', v⟩ := p
    unfold smErase at *
    by_cases hk : k' = k
    · rw [List.filter_cons_of_neg (by simp [hk]), ih]
      by_cases hj : j = k
      · simp [hj]
      · simp [smGet, hj, hk]
    · rw [List.filter_cons_of_pos (by simp [hk])]
      by_cases hj : j = k'
      · simp [smGet, hj, hk]
      · simp [smGet, hj, ih]

theorem smGet_smIns {α : Type} (d : α) {m : SMap α} {k : Nat} (hk : ∀ p ∈ m, p.1 ≠ k) (j : Nat) (v : α) :
    smGet d (smIns m k v) j = if j = k then v else smGet d m j := by
  induction m with
  | nil => simp [smIns, smGet]
  | cons p m ih =>
    obtain ⟨k', v'⟩ := p
    have hne : k' ≠ k := hk _ (List.mem_cons_self ..)
    have ih := ih (fun p hp => hk p (List.mem_cons_of_mem _ hp))
    unfold smIns
    split
    · rfl
    · by_cases hj : j = k'
      · have : j ≠ k := by omega
        simp [smGet, hj, hne]
      · simp [smGet, hj, ih]

theorem smErase_ne {α : Type} {m : SMap α} {k : Nat} {p : Nat × α} (h : p ∈ smErase m k) : p.1 ≠ k := by
  have := (List.mem_filter.1 h).2
  simpa using this

/-- A read finds what was last written to its key, and every other key as it was. -/
@[simp] theorem smGet_smSet {α : Type} [DecidableEq α] (d : α) (m : SMap α) (k j : Nat) (v : α) :
    smGet d (smSet d m k v) j = if j = k then v else smGet d m j := by
  unfold smSet
  split
  · next h => rw [smGet_smErase, h]
  · rw [smGet_smIns d (fun p hp => smErase_ne hp), smGet_smErase]
    split <;> rfl

/-- A write leaves what another key holds, whatever an unlisted key there reads as. -/
theorem smGet_smSet_ne {α : Type} [DecidableEq α] {d d' : α} (m : SMap α) {k j : Nat} {v : α} (h : j ≠ k) :
    smGet d' (smSet d m k v) j = smGet d' m j := by
  unfold smSet
  split
  · rw [smGet_smErase, if_neg h]
  · rw [smGet_smIns d' (fun p hp => smErase_ne hp), if_neg h, smGet_smErase, if_neg h]

/-- Of a map from which keys have been removed. -/
theorem smGet_filter {α : Type} {d : α} (keep : Nat → Bool) (m : SMap α) (j : Nat) :
    smGet d (m.filter (fun p => keep p.1)) j = if keep j then smGet d m j else d := by
  induction m with
  | nil => simp
  | cons p m ih =>
    obtain ⟨k, v⟩ := p
    by_cases hk : keep k
    · rw [List.filter_cons_of_pos (by simpa using hk)]
      by_cases hj : j = k
      · subst hj; simp [smGet, hk]
      · simp [smGet, hj, ih]
    · rw [List.filter_cons_of_neg (by simpa using hk), ih]
      by_cases hj : j = k
      · subst hj; simp [hk]
      · simp [smGet, hj]

/-! ### The canonical form -/

theorem smRising_iff {α : Type} (lo : Option Nat) (m : SMap α) :
    smRising lo m = true ↔ (∀ l ∈ lo, ∀ p ∈ m, l < p.1) ∧ m.Pairwise (fun a b => a.1 < b.1) := by
  induction m generalizing lo with
  | nil => cases lo <;> simp [smRising]
  | cons p m ih =>
    obtain ⟨k, v⟩ := p
    cases lo with
    | none => simp [smRising, ih]
    | some l =>
      simp only [smRising, Bool.and_eq_true, decide_eq_true_eq, ih, Option.mem_def, Option.some.injEq, forall_eq',
        List.mem_cons, forall_eq_or_imp, List.pairwise_cons]
      constructor
      · rintro ⟨h1, h2, h3⟩
        exact ⟨⟨h1, fun p hp => Nat.lt_trans h1 (h2 p hp)⟩, h2, h3⟩
      · rintro ⟨⟨h1, _⟩, h2, h3⟩
        exact ⟨h1, h2, h3⟩

/-- The canonical form in the words of lists. -/
theorem smWf_iff {α : Type} [DecidableEq α] (d : α) (m : SMap α) :
    smWf d m = true ↔ m.Pairwise (fun a b => a.1 < b.1) ∧ ∀ p ∈ m, p.2 ≠ d := by
  simp [smWf, smRising_iff]

@[simp] theorem smWf_nil {α : Type} [DecidableEq α] (d : α) : smWf d ([] : SMap α) = true := rfl

/-- Removing entries keeps the canonical form. -/
theorem smWf_filter {α : Type} [DecidableEq α] {d : α} {m : SMap α} (keep : Nat × α → Bool) (h : smWf d m = true) :
    smWf d (m.filter keep) = true := by
  rw [smWf_iff] at *
  exact ⟨h.1.filter keep, fun p hp => h.2 p ((List.mem_filter.1 hp).1)⟩

theorem mem_smIns {α : Type} {m : SMap α} {k : Nat} {v : α} {p : Nat × α} (h : p ∈ smIns m k v) :
    p = (k, v) ∨ p ∈ m := by
  induction m with
  | nil => simpa [smIns] using h
  | cons q m ih =>
    obtain ⟨k', v'⟩ := q
    unfold smIns at h
    split at h
    · simpa using h
    · rcases List.mem_cons.1 h with h | h
      · exact .inr (by simp [h])
      · rcases ih h with h | h
        · exact .inl h
        · exact .inr (List.mem_cons_of_mem _ h)

theorem smIns_rising {α : Type} {m : SMap α} {k : Nat} {v : α} (hm : m.Pairwise (fun a b => a.1 < b.1))
    (hk : ∀ p ∈ m, p.1 ≠ k) : (smIns m k v).Pairwise (fun a b => a.1 < b.1) := by
  induction m with
  | nil => simp [smIns]
  | cons q m ih =>
    obtain ⟨k', v'⟩ := q
    have hne : k' ≠ k := hk _ (List.mem_cons_self ..)
    have hq := List.pairwise_cons.1 hm
    unfold smIns
    split
    · next hlt =>
      refine List.pairwise_cons.2 ⟨fun p hp => ?_, hm⟩
      rcases List.mem_cons.1 hp with rfl | hp
      · exact hlt
      · exact Nat.lt_trans hlt (hq.1 p hp)
    · next hge =>
      refine List.pairwise_cons.2 ⟨fun p hp => ?_, ih hq.2 (fun p hp => hk p (List.mem_cons_of_mem _ hp))⟩
      rcases mem_smIns hp with rfl | hp
      · exact Nat.lt_of_le_of_ne (Nat.le_of_not_lt hge) hne
      · exact hq.1 p hp

/-- Every write keeps the canonical form. -/
theorem smWf_smSet {α : Type} [DecidableEq α] {d : α} {m : SMap α} (k : Nat) (v : α) (h : smWf d m = true) :
    smWf d (smSet d m k v) = true := by
  have he : smWf d (smErase m k) = true := smWf_filter _ h
  unfold smSet
  split
  · exact he
  · next hv =>
    rw [smWf_iff] at *
    refine ⟨smIns_rising he.1 (fun p hp => smErase_ne hp), fun p hp => ?_⟩
    rcases mem_smIns hp with rfl | hp
    · exact hv
    · exact he.2 p hp

end Sys2Proof.Machine
end

