-- ==== Sys2Proof/Laws/Glade.lean ====
section
/-! SUPPORT. Laws of one Glade: registers and scoreboard read back what is written, register G0 and bit 0 stand fast
(R113, R114), and the unit banks are two (R117). -/

namespace Sys2Proof.Machine

@[simp] theorem Glade.g_zero (x : Glade) : x.g 0 = TWord.plain 0#64 := rfl

@[simp] theorem Glade.setG_zero (x : Glade) (v : TWord) : x.setG 0 v = x := rfl

@[simp] theorem Glade.g_setG (x : Glade) (n k : Nat) (v : TWord) :
    (x.setG n v).g k = if k = 0 then TWord.plain 0#64 else if k = n then v else x.g k := by
  unfold Glade.g Glade.setG
  by_cases hk : k = 0
  · simp [hk]
  · by_cases hn : n = 0
    · subst hn; simp [hk]
    · simp [hk, hn]

/-- The scoreboard bit set or cleared, and no other. -/
@[simp] theorem Glade.busy_setScore (x : Glade) {n : Nat} (k : Nat) (b : Bool) (hn : n < 64) :
    (x.setScore n b).busy k = if n ≠ 0 ∧ k = n then b else x.busy k := by
  unfold Glade.busy Glade.setScore
  by_cases h0 : n = 0
  · simp [h0]
  · by_cases hk : k = n
    · subst hk
      cases b <;> simp [h0, hn]
    · have hkn : n ≤ k → 0 < k - n := by omega
      by_cases h64 : k < 64
      · cases b <;> by_cases hle : k < n <;> simp [h0, hk, hle, h64]
        all_goals omega
      · cases b <;> simp [h0, hk, h64, BitVec.getLsbD_of_ge x.score k (by omega)]

@[simp] theorem Glade.setG_score (x : Glade) (n : Nat) (v : TWord) : (x.setG n v).score = x.score := by
  unfold Glade.setG; split <;> rfl

@[simp] theorem Glade.setScore_grf (x : Glade) (n : Nat) (b : Bool) : (x.setScore n b).grf = x.grf := by
  unfold Glade.setScore; split <;> rfl

@[simp] theorem Glade.g_setScore (x : Glade) (n k : Nat) (b : Bool) : (x.setScore n b).g k = x.g k := by
  unfold Glade.g; rw [Glade.setScore_grf]

/-- A long operation that retires leaves its result in the register it names, which is no longer busy (R114). -/
theorem Glade.retireTo_spec (x : Glade) {rd : Nat} (v : TWord) (h0 : rd ≠ 0) (h : rd < 64) :
    (x.retireTo rd v).g rd = v ∧ (x.retireTo rd v).busy rd = false
      ∧ (∀ k, k ≠ rd → (x.retireTo rd v).g k = x.g k ∧ (x.retireTo rd v).busy k = x.busy k) := by
  unfold Glade.retireTo
  refine ⟨by simp [h0], by simp [h, h0], fun k hk => ⟨?_, ?_⟩⟩
  · by_cases hz : k = 0 <;> simp [hz, hk]
  · rw [Glade.busy_setScore _ _ _ h, if_neg (fun hc => hk hc.2)]
    simp [Glade.busy]

/-- An update of the selected bank is one of that bank and leaves the other (R117). -/
@[simp] theorem Glade.bank_updBank (x : Glade) (f : Bank → Bank) : (x.updBank f).bank = f x.bank := by
  cases h : x.inHandler <;> simp [Glade.updBank, Glade.bank, h]

@[simp] theorem Glade.updBank_grf (x : Glade) (f : Bank → Bank) : (x.updBank f).grf = x.grf := by
  unfold Glade.updBank; split <;> rfl

@[simp] theorem Glade.updBank_score (x : Glade) (f : Bank → Bank) : (x.updBank f).score = x.score := by
  unfold Glade.updBank; split <;> rfl

@[simp] theorem Glade.updBank_pc (x : Glade) (f : Bank → Bank) : (x.updBank f).pc = x.pc := by
  unfold Glade.updBank; split <;> rfl

end Sys2Proof.Machine
end

