-- ==== Sys2Proof/Laws/State.lean ====
section
/-! SUPPORT. Laws of State: what each update leaves as it was, field by field and reader by reader, and what a read
finds after a write. Other laws and proofs cite these instead of unfolding a record update. -/

namespace Sys2Proof.Machine

/-! ### Reads after writes -/

@[simp] theorem State.rd_wr (s : State) (a b : Nat) (v : W64) : (s.wr a v).rd b = if b = a then v else s.rd b := by
  unfold State.rd State.wr
  by_cases h : b = a
  · subst h; simp
  · simp only [if_neg h]
    exact (smGet_smSet_ne _ h)

@[simp] theorem State.rd_setFld (s : State) (a b hi lo v : Nat) :
    (s.setFld a hi lo v).rd b = if b = a then setField (s.rd a) hi lo v else s.rd b := State.rd_wr ..

@[simp] theorem State.rd_setFlag (s : State) (a b i : Nat) (x : Bool) :
    (s.setFlag a i x).rd b = if b = a then setField (s.rd a) i i (b2n x) else s.rd b := State.rd_wr ..

/-- A field reads back what was written to it, modulo its width. -/
theorem State.fld_setFld (s : State) (a v : Nat) {hi lo : Nat} (h : lo ≤ hi) (hh : hi < 64) :
    (s.setFld a hi lo v).fld a hi lo = v % 2 ^ (hi + 1 - lo) := by
  simp [State.fld, field_setField _ v h hh]

/-- A write of one field leaves the fields beside it. -/
theorem State.fld_setFld_ne (s : State) (a v : Nat) {hi lo hi' lo' : Nat} (h : lo ≤ hi) (hh : hi < 64)
    (hd : hi' < lo ∨ hi < lo') : (s.setFld a hi lo v).fld a hi' lo' = s.fld a hi' lo' := by
  simp [State.fld, field_setField_ne _ v h hh hd]

/-- A flag holds what was written to it. -/
theorem State.flag_setFlag (s : State) (a : Nat) {i : Nat} (b : Bool) (h : i < 64) :
    (s.setFlag a i b).flag a i = b := by
  simp [State.flag, bit_setField_b2n _ b h]

@[simp] theorem State.glade_setGlade (s : State) (c d : Nat) (x : Glade) :
    (s.setGlade c x).glade d = if d = c then x else s.glade d := smGet_smSet ..

@[simp] theorem State.glade_updGlade (s : State) (c d : Nat) (f : Glade → Glade) :
    (s.updGlade c f).glade d = if d = c then f (s.glade c) else s.glade d := State.glade_setGlade ..

@[simp] theorem State.txu_setTxu (s : State) (g k : Nat) (x : Txu) :
    (s.setTxu g x).txu k = if k = g then x else s.txu k := smGet_smSet ..

/-- A Glade's transaction is what was last set for it, and no other changes. -/
@[simp] theorem State.txn_setTxn (s : State) (i k : Nat) (t : Option Txn) :
    (s.setTxn i t).txn k = if k = i then t else s.txn k := by
  unfold State.txn State.setTxn
  rw [State.txu_setTxu]
  by_cases hg : k / 16 = i / 16
  · by_cases hk : k = i
    · subst hk; simp
    · have : k % 16 ≠ i % 16 := by omega
      simp [hg, hk, this]
  · have : k ≠ i := fun h => hg (by rw [h])
    simp [hg, this]

@[simp] theorem State.journal_setJournal (s : State) (j k : Nat) (x : Journal) :
    (s.setJournal j x).journal k = if k = j then x else s.journal k := smGet_smSet ..

@[simp] theorem State.pair_setPair (s : State) (l k : Nat) (p : Pair) :
    (s.setPair l p).pair k = if k = l then p else s.pair k := smGet_smSet ..

@[simp] theorem State.link_setLink (s : State) (l k : Nat) (x : Link) :
    (s.setLink l x).link k = if k = l then x else s.link k := smGet_smSet ..

@[simp] theorem State.byteAt_setByte (s : State) (a x : Nat) (b : Byte) :
    (s.setByte a b).byteAt x = if x = a then b else s.byteAt x := smGet_smSet ..

/-! ### Free values -/

@[simp] theorem State.freeWord_state (s : State) : s.freeWord.2 = { s with free := s.free + 1 } := rfl

@[simp] theorem State.freeBool_state (s : State) : s.freeBool.2 = { s with free := s.free + 1 } := rfl

/-! ### What `State.wr` leaves -/

@[simp] theorem State.wr_mem (s : State) (a : Nat) (v : W64) : (s.wr a v).mem = s.mem := rfl
@[simp] theorem State.wr_ecc (s : State) (a : Nat) (v : W64) : (s.wr a v).ecc = s.ecc := rfl
@[simp] theorem State.wr_dramCheck (s : State) (a : Nat) (v : W64) : (s.wr a v).dramCheck = s.dramCheck := rfl
@[simp] theorem State.wr_stuck (s : State) (a : Nat) (v : W64) : (s.wr a v).stuck = s.stuck := rfl
@[simp] theorem State.wr_readErrs (s : State) (a : Nat) (v : W64) : (s.wr a v).readErrs = s.readErrs := rfl
@[simp] theorem State.wr_ports (s : State) (a : Nat) (v : W64) : (s.wr a v).ports = s.ports := rfl
@[simp] theorem State.wr_spoiled (s : State) (a : Nat) (v : W64) : (s.wr a v).spoiled = s.spoiled := rfl
@[simp] theorem State.wr_scrub (s : State) (a : Nat) (v : W64) : (s.wr a v).scrub = s.scrub := rfl
@[simp] theorem State.wr_glades (s : State) (a : Nat) (v : W64) : (s.wr a v).glades = s.glades := rfl
@[simp] theorem State.wr_snaps (s : State) (a : Nat) (v : W64) : (s.wr a v).snaps = s.snaps := rfl
@[simp] theorem State.wr_qm (s : State) (a : Nat) (v : W64) : (s.wr a v).qm = s.qm := rfl
@[simp] theorem State.wr_txus (s : State) (a : Nat) (v : W64) : (s.wr a v).txus = s.txus := rfl
@[simp] theorem State.wr_jw (s : State) (a : Nat) (v : W64) : (s.wr a v).jw = s.jw := rfl
@[simp] theorem State.wr_drives (s : State) (a : Nat) (v : W64) : (s.wr a v).drives = s.drives := rfl
@[simp] theorem State.wr_media (s : State) (a : Nat) (v : W64) : (s.wr a v).media = s.media := rfl
@[simp] theorem State.wr_unflushed (s : State) (a : Nat) (v : W64) : (s.wr a v).unflushed = s.unflushed := rfl
@[simp] theorem State.wr_keeper (s : State) (a : Nat) (v : W64) : (s.wr a v).keeper = s.keeper := rfl
@[simp] theorem State.wr_est (s : State) (a : Nat) (v : W64) : (s.wr a v).est = s.est := rfl
@[simp] theorem State.wr_time (s : State) (a : Nat) (v : W64) : (s.wr a v).time = s.time := rfl
@[simp] theorem State.wr_board (s : State) (a : Nat) (v : W64) : (s.wr a v).board = s.board := rfl
@[simp] theorem State.wr_sampler (s : State) (a : Nat) (v : W64) : (s.wr a v).sampler = s.sampler := rfl
@[simp] theorem State.wr_power (s : State) (a : Nat) (v : W64) : (s.wr a v).power = s.power := rfl
@[simp] theorem State.wr_monitors (s : State) (a : Nat) (v : W64) : (s.wr a v).monitors = s.monitors := rfl
@[simp] theorem State.wr_pairs (s : State) (a : Nat) (v : W64) : (s.wr a v).pairs = s.pairs := rfl
@[simp] theorem State.wr_uart (s : State) (a : Nat) (v : W64) : (s.wr a v).uart = s.uart := rfl
@[simp] theorem State.wr_jtag (s : State) (a : Nat) (v : W64) : (s.wr a v).jtag = s.jtag := rfl
@[simp] theorem State.wr_rootlink (s : State) (a : Nat) (v : W64) : (s.wr a v).rootlink = s.rootlink := rfl
@[simp] theorem State.wr_regrow (s : State) (a : Nat) (v : W64) : (s.wr a v).regrow = s.regrow := rfl
@[simp] theorem State.wr_out (s : State) (a : Nat) (v : W64) : (s.wr a v).out = s.out := rfl
@[simp] theorem State.wr_msix (s : State) (a : Nat) (v : W64) : (s.wr a v).msix = s.msix := rfl
@[simp] theorem State.wr_bridges (s : State) (a : Nat) (v : W64) : (s.wr a v).bridges = s.bridges := rfl
@[simp] theorem State.wr_sections (s : State) (a : Nat) (v : W64) : (s.wr a v).sections = s.sections := rfl
@[simp] theorem State.wr_findings (s : State) (a : Nat) (v : W64) : (s.wr a v).findings = s.findings := rfl
@[simp] theorem State.wr_free (s : State) (a : Nat) (v : W64) : (s.wr a v).free = s.free := rfl
@[simp] theorem State.wr_pending (s : State) (a : Nat) (v : W64) : (s.wr a v).pending = s.pending := rfl
@[simp] theorem State.wr_glade (s : State) (a : Nat) (v : W64) (d : Nat) : (s.wr a v).glade d = s.glade d := rfl
@[simp] theorem State.wr_txu (s : State) (a : Nat) (v : W64) (k : Nat) : (s.wr a v).txu k = s.txu k := rfl
@[simp] theorem State.wr_journal (s : State) (a : Nat) (v : W64) (k : Nat) : (s.wr a v).journal k = s.journal k := rfl
@[simp] theorem State.wr_pair (s : State) (a : Nat) (v : W64) (k : Nat) : (s.wr a v).pair k = s.pair k := rfl
@[simp] theorem State.wr_link (s : State) (a : Nat) (v : W64) (k : Nat) : (s.wr a v).link k = s.link k := rfl
@[simp] theorem State.wr_byteAt (s : State) (a : Nat) (v : W64) (y : Nat) : (s.wr a v).byteAt y = s.byteAt y := rfl

/-! ### What `State.setFld` leaves -/

@[simp] theorem State.setFld_mem (s : State) (a hi lo v : Nat) : (s.setFld a hi lo v).mem = s.mem := rfl
@[simp] theorem State.setFld_ecc (s : State) (a hi lo v : Nat) : (s.setFld a hi lo v).ecc = s.ecc := rfl
@[simp] theorem State.setFld_dramCheck (s : State) (a hi lo v : Nat) :
    (s.setFld a hi lo v).dramCheck = s.dramCheck := rfl
@[simp] theorem State.setFld_stuck (s : State) (a hi lo v : Nat) : (s.setFld a hi lo v).stuck = s.stuck := rfl
@[simp] theorem State.setFld_readErrs (s : State) (a hi lo v : Nat) : (s.setFld a hi lo v).readErrs = s.readErrs := rfl
@[simp] theorem State.setFld_ports (s : State) (a hi lo v : Nat) : (s.setFld a hi lo v).ports = s.ports := rfl
@[simp] theorem State.setFld_spoiled (s : State) (a hi lo v : Nat) : (s.setFld a hi lo v).spoiled = s.spoiled := rfl
@[simp] theorem State.setFld_scrub (s : State) (a hi lo v : Nat) : (s.setFld a hi lo v).scrub = s.scrub := rfl
@[simp] theorem State.setFld_glades (s : State) (a hi lo v : Nat) : (s.setFld a hi lo v).glades = s.glades := rfl
@[simp] theorem State.setFld_snaps (s : State) (a hi lo v : Nat) : (s.setFld a hi lo v).snaps = s.snaps := rfl
@[simp] theorem State.setFld_qm (s : State) (a hi lo v : Nat) : (s.setFld a hi lo v).qm = s.qm := rfl
@[simp] theorem State.setFld_txus (s : State) (a hi lo v : Nat) : (s.setFld a hi lo v).txus = s.txus := rfl
@[simp] theorem State.setFld_jw (s : State) (a hi lo v : Nat) : (s.setFld a hi lo v).jw = s.jw := rfl
@[simp] theorem State.setFld_drives (s : State) (a hi lo v : Nat) : (s.setFld a hi lo v).drives = s.drives := rfl
@[simp] theorem State.setFld_media (s : State) (a hi lo v : Nat) : (s.setFld a hi lo v).media = s.media := rfl
@[simp] theorem State.setFld_unflushed (s : State) (a hi lo v : Nat) :
    (s.setFld a hi lo v).unflushed = s.unflushed := rfl
@[simp] theorem State.setFld_keeper (s : State) (a hi lo v : Nat) : (s.setFld a hi lo v).keeper = s.keeper := rfl
@[simp] theorem State.setFld_est (s : State) (a hi lo v : Nat) : (s.setFld a hi lo v).est = s.est := rfl
@[simp] theorem State.setFld_time (s : State) (a hi lo v : Nat) : (s.setFld a hi lo v).time = s.time := rfl
@[simp] theorem State.setFld_board (s : State) (a hi lo v : Nat) : (s.setFld a hi lo v).board = s.board := rfl
@[simp] theorem State.setFld_sampler (s : State) (a hi lo v : Nat) : (s.setFld a hi lo v).sampler = s.sampler := rfl
@[simp] theorem State.setFld_power (s : State) (a hi lo v : Nat) : (s.setFld a hi lo v).power = s.power := rfl
@[simp] theorem State.setFld_monitors (s : State) (a hi lo v : Nat) : (s.setFld a hi lo v).monitors = s.monitors := rfl
@[simp] theorem State.setFld_pairs (s : State) (a hi lo v : Nat) : (s.setFld a hi lo v).pairs = s.pairs := rfl
@[simp] theorem State.setFld_uart (s : State) (a hi lo v : Nat) : (s.setFld a hi lo v).uart = s.uart := rfl
@[simp] theorem State.setFld_jtag (s : State) (a hi lo v : Nat) : (s.setFld a hi lo v).jtag = s.jtag := rfl
@[simp] theorem State.setFld_rootlink (s : State) (a hi lo v : Nat) : (s.setFld a hi lo v).rootlink = s.rootlink := rfl
@[simp] theorem State.setFld_regrow (s : State) (a hi lo v : Nat) : (s.setFld a hi lo v).regrow = s.regrow := rfl
@[simp] theorem State.setFld_out (s : State) (a hi lo v : Nat) : (s.setFld a hi lo v).out = s.out := rfl
@[simp] theorem State.setFld_msix (s : State) (a hi lo v : Nat) : (s.setFld a hi lo v).msix = s.msix := rfl
@[simp] theorem State.setFld_bridges (s : State) (a hi lo v : Nat) : (s.setFld a hi lo v).bridges = s.bridges := rfl
@[simp] theorem State.setFld_sections (s : State) (a hi lo v : Nat) : (s.setFld a hi lo v).sections = s.sections := rfl
@[simp] theorem State.setFld_findings (s : State) (a hi lo v : Nat) : (s.setFld a hi lo v).findings = s.findings := rfl
@[simp] theorem State.setFld_free (s : State) (a hi lo v : Nat) : (s.setFld a hi lo v).free = s.free := rfl
@[simp] theorem State.setFld_pending (s : State) (a hi lo v : Nat) : (s.setFld a hi lo v).pending = s.pending := rfl
@[simp] theorem State.setFld_glade (s : State) (a hi lo v : Nat) (d : Nat) :
    (s.setFld a hi lo v).glade d = s.glade d := rfl
@[simp] theorem State.setFld_txu (s : State) (a hi lo v : Nat) (k : Nat) : (s.setFld a hi lo v).txu k = s.txu k := rfl
@[simp] theorem State.setFld_journal (s : State) (a hi lo v : Nat) (k : Nat) :
    (s.setFld a hi lo v).journal k = s.journal k := rfl
@[simp] theorem State.setFld_pair (s : State) (a hi lo v : Nat) (k : Nat) :
    (s.setFld a hi lo v).pair k = s.pair k := rfl
@[simp] theorem State.setFld_link (s : State) (a hi lo v : Nat) (k : Nat) :
    (s.setFld a hi lo v).link k = s.link k := rfl
@[simp] theorem State.setFld_byteAt (s : State) (a hi lo v : Nat) (y : Nat) :
    (s.setFld a hi lo v).byteAt y = s.byteAt y := rfl

/-! ### What `State.setFlag` leaves -/

@[simp] theorem State.setFlag_mem (s : State) (a i : Nat) (b : Bool) : (s.setFlag a i b).mem = s.mem := rfl
@[simp] theorem State.setFlag_ecc (s : State) (a i : Nat) (b : Bool) : (s.setFlag a i b).ecc = s.ecc := rfl
@[simp] theorem State.setFlag_dramCheck (s : State) (a i : Nat) (b : Bool) :
    (s.setFlag a i b).dramCheck = s.dramCheck := rfl
@[simp] theorem State.setFlag_stuck (s : State) (a i : Nat) (b : Bool) : (s.setFlag a i b).stuck = s.stuck := rfl
@[simp] theorem State.setFlag_readErrs (s : State) (a i : Nat) (b : Bool) :
    (s.setFlag a i b).readErrs = s.readErrs := rfl
@[simp] theorem State.setFlag_ports (s : State) (a i : Nat) (b : Bool) : (s.setFlag a i b).ports = s.ports := rfl
@[simp] theorem State.setFlag_spoiled (s : State) (a i : Nat) (b : Bool) : (s.setFlag a i b).spoiled = s.spoiled := rfl
@[simp] theorem State.setFlag_scrub (s : State) (a i : Nat) (b : Bool) : (s.setFlag a i b).scrub = s.scrub := rfl
@[simp] theorem State.setFlag_glades (s : State) (a i : Nat) (b : Bool) : (s.setFlag a i b).glades = s.glades := rfl
@[simp] theorem State.setFlag_snaps (s : State) (a i : Nat) (b : Bool) : (s.setFlag a i b).snaps = s.snaps := rfl
@[simp] theorem State.setFlag_qm (s : State) (a i : Nat) (b : Bool) : (s.setFlag a i b).qm = s.qm := rfl
@[simp] theorem State.setFlag_txus (s : State) (a i : Nat) (b : Bool) : (s.setFlag a i b).txus = s.txus := rfl
@[simp] theorem State.setFlag_jw (s : State) (a i : Nat) (b : Bool) : (s.setFlag a i b).jw = s.jw := rfl
@[simp] theorem State.setFlag_drives (s : State) (a i : Nat) (b : Bool) : (s.setFlag a i b).drives = s.drives := rfl
@[simp] theorem State.setFlag_media (s : State) (a i : Nat) (b : Bool) : (s.setFlag a i b).media = s.media := rfl
@[simp] theorem State.setFlag_unflushed (s : State) (a i : Nat) (b : Bool) :
    (s.setFlag a i b).unflushed = s.unflushed := rfl
@[simp] theorem State.setFlag_keeper (s : State) (a i : Nat) (b : Bool) : (s.setFlag a i b).keeper = s.keeper := rfl
@[simp] theorem State.setFlag_est (s : State) (a i : Nat) (b : Bool) : (s.setFlag a i b).est = s.est := rfl
@[simp] theorem State.setFlag_time (s : State) (a i : Nat) (b : Bool) : (s.setFlag a i b).time = s.time := rfl
@[simp] theorem State.setFlag_board (s : State) (a i : Nat) (b : Bool) : (s.setFlag a i b).board = s.board := rfl
@[simp] theorem State.setFlag_sampler (s : State) (a i : Nat) (b : Bool) : (s.setFlag a i b).sampler = s.sampler := rfl
@[simp] theorem State.setFlag_power (s : State) (a i : Nat) (b : Bool) : (s.setFlag a i b).power = s.power := rfl
@[simp] theorem State.setFlag_monitors (s : State) (a i : Nat) (b : Bool) :
    (s.setFlag a i b).monitors = s.monitors := rfl
@[simp] theorem State.setFlag_pairs (s : State) (a i : Nat) (b : Bool) : (s.setFlag a i b).pairs = s.pairs := rfl
@[simp] theorem State.setFlag_uart (s : State) (a i : Nat) (b : Bool) : (s.setFlag a i b).uart = s.uart := rfl
@[simp] theorem State.setFlag_jtag (s : State) (a i : Nat) (b : Bool) : (s.setFlag a i b).jtag = s.jtag := rfl
@[simp] theorem State.setFlag_rootlink (s : State) (a i : Nat) (b : Bool) :
    (s.setFlag a i b).rootlink = s.rootlink := rfl
@[simp] theorem State.setFlag_regrow (s : State) (a i : Nat) (b : Bool) : (s.setFlag a i b).regrow = s.regrow := rfl
@[simp] theorem State.setFlag_out (s : State) (a i : Nat) (b : Bool) : (s.setFlag a i b).out = s.out := rfl
@[simp] theorem State.setFlag_msix (s : State) (a i : Nat) (b : Bool) : (s.setFlag a i b).msix = s.msix := rfl
@[simp] theorem State.setFlag_bridges (s : State) (a i : Nat) (b : Bool) : (s.setFlag a i b).bridges = s.bridges := rfl
@[simp] theorem State.setFlag_sections (s : State) (a i : Nat) (b : Bool) :
    (s.setFlag a i b).sections = s.sections := rfl
@[simp] theorem State.setFlag_findings (s : State) (a i : Nat) (b : Bool) :
    (s.setFlag a i b).findings = s.findings := rfl
@[simp] theorem State.setFlag_free (s : State) (a i : Nat) (b : Bool) : (s.setFlag a i b).free = s.free := rfl
@[simp] theorem State.setFlag_pending (s : State) (a i : Nat) (b : Bool) : (s.setFlag a i b).pending = s.pending := rfl
@[simp] theorem State.setFlag_glade (s : State) (a i : Nat) (b : Bool) (d : Nat) :
    (s.setFlag a i b).glade d = s.glade d := rfl
@[simp] theorem State.setFlag_txu (s : State) (a i : Nat) (b : Bool) (k : Nat) :
    (s.setFlag a i b).txu k = s.txu k := rfl
@[simp] theorem State.setFlag_journal (s : State) (a i : Nat) (b : Bool) (k : Nat) :
    (s.setFlag a i b).journal k = s.journal k := rfl
@[simp] theorem State.setFlag_pair (s : State) (a i : Nat) (b : Bool) (k : Nat) :
    (s.setFlag a i b).pair k = s.pair k := rfl
@[simp] theorem State.setFlag_link (s : State) (a i : Nat) (b : Bool) (k : Nat) :
    (s.setFlag a i b).link k = s.link k := rfl
@[simp] theorem State.setFlag_byteAt (s : State) (a i : Nat) (b : Bool) (y : Nat) :
    (s.setFlag a i b).byteAt y = s.byteAt y := rfl

/-! ### What `State.setGlade` leaves -/

@[simp] theorem State.setGlade_ctl (s : State) (c : Nat) (x : Glade) : (s.setGlade c x).ctl = s.ctl := rfl
@[simp] theorem State.setGlade_mem (s : State) (c : Nat) (x : Glade) : (s.setGlade c x).mem = s.mem := rfl
@[simp] theorem State.setGlade_ecc (s : State) (c : Nat) (x : Glade) : (s.setGlade c x).ecc = s.ecc := rfl
@[simp] theorem State.setGlade_dramCheck (s : State) (c : Nat) (x : Glade) :
    (s.setGlade c x).dramCheck = s.dramCheck := rfl
@[simp] theorem State.setGlade_stuck (s : State) (c : Nat) (x : Glade) : (s.setGlade c x).stuck = s.stuck := rfl
@[simp] theorem State.setGlade_readErrs (s : State) (c : Nat) (x : Glade) :
    (s.setGlade c x).readErrs = s.readErrs := rfl
@[simp] theorem State.setGlade_ports (s : State) (c : Nat) (x : Glade) : (s.setGlade c x).ports = s.ports := rfl
@[simp] theorem State.setGlade_spoiled (s : State) (c : Nat) (x : Glade) : (s.setGlade c x).spoiled = s.spoiled := rfl
@[simp] theorem State.setGlade_scrub (s : State) (c : Nat) (x : Glade) : (s.setGlade c x).scrub = s.scrub := rfl
@[simp] theorem State.setGlade_snaps (s : State) (c : Nat) (x : Glade) : (s.setGlade c x).snaps = s.snaps := rfl
@[simp] theorem State.setGlade_qm (s : State) (c : Nat) (x : Glade) : (s.setGlade c x).qm = s.qm := rfl
@[simp] theorem State.setGlade_txus (s : State) (c : Nat) (x : Glade) : (s.setGlade c x).txus = s.txus := rfl
@[simp] theorem State.setGlade_jw (s : State) (c : Nat) (x : Glade) : (s.setGlade c x).jw = s.jw := rfl
@[simp] theorem State.setGlade_drives (s : State) (c : Nat) (x : Glade) : (s.setGlade c x).drives = s.drives := rfl
@[simp] theorem State.setGlade_media (s : State) (c : Nat) (x : Glade) : (s.setGlade c x).media = s.media := rfl
@[simp] theorem State.setGlade_unflushed (s : State) (c : Nat) (x : Glade) :
    (s.setGlade c x).unflushed = s.unflushed := rfl
@[simp] theorem State.setGlade_keeper (s : State) (c : Nat) (x : Glade) : (s.setGlade c x).keeper = s.keeper := rfl
@[simp] theorem State.setGlade_est (s : State) (c : Nat) (x : Glade) : (s.setGlade c x).est = s.est := rfl
@[simp] theorem State.setGlade_time (s : State) (c : Nat) (x : Glade) : (s.setGlade c x).time = s.time := rfl
@[simp] theorem State.setGlade_board (s : State) (c : Nat) (x : Glade) : (s.setGlade c x).board = s.board := rfl
@[simp] theorem State.setGlade_sampler (s : State) (c : Nat) (x : Glade) : (s.setGlade c x).sampler = s.sampler := rfl
@[simp] theorem State.setGlade_power (s : State) (c : Nat) (x : Glade) : (s.setGlade c x).power = s.power := rfl
@[simp] theorem State.setGlade_monitors (s : State) (c : Nat) (x : Glade) :
    (s.setGlade c x).monitors = s.monitors := rfl
@[simp] theorem State.setGlade_pairs (s : State) (c : Nat) (x : Glade) : (s.setGlade c x).pairs = s.pairs := rfl
@[simp] theorem State.setGlade_uart (s : State) (c : Nat) (x : Glade) : (s.setGlade c x).uart = s.uart := rfl
@[simp] theorem State.setGlade_jtag (s : State) (c : Nat) (x : Glade) : (s.setGlade c x).jtag = s.jtag := rfl
@[simp] theorem State.setGlade_rootlink (s : State) (c : Nat) (x : Glade) :
    (s.setGlade c x).rootlink = s.rootlink := rfl
@[simp] theorem State.setGlade_regrow (s : State) (c : Nat) (x : Glade) : (s.setGlade c x).regrow = s.regrow := rfl
@[simp] theorem State.setGlade_out (s : State) (c : Nat) (x : Glade) : (s.setGlade c x).out = s.out := rfl
@[simp] theorem State.setGlade_msix (s : State) (c : Nat) (x : Glade) : (s.setGlade c x).msix = s.msix := rfl
@[simp] theorem State.setGlade_bridges (s : State) (c : Nat) (x : Glade) : (s.setGlade c x).bridges = s.bridges := rfl
@[simp] theorem State.setGlade_sections (s : State) (c : Nat) (x : Glade) :
    (s.setGlade c x).sections = s.sections := rfl
@[simp] theorem State.setGlade_findings (s : State) (c : Nat) (x : Glade) :
    (s.setGlade c x).findings = s.findings := rfl
@[simp] theorem State.setGlade_free (s : State) (c : Nat) (x : Glade) : (s.setGlade c x).free = s.free := rfl
@[simp] theorem State.setGlade_pending (s : State) (c : Nat) (x : Glade) : (s.setGlade c x).pending = s.pending := rfl
@[simp] theorem State.setGlade_rd (s : State) (c : Nat) (x : Glade) (r : Nat) : (s.setGlade c x).rd r = s.rd r := rfl
@[simp] theorem State.setGlade_fld (s : State) (c : Nat) (x : Glade) (r m n : Nat) :
    (s.setGlade c x).fld r m n = s.fld r m n := rfl
@[simp] theorem State.setGlade_flag (s : State) (c : Nat) (x : Glade) (r n : Nat) :
    (s.setGlade c x).flag r n = s.flag r n := rfl
@[simp] theorem State.setGlade_txu (s : State) (c : Nat) (x : Glade) (k : Nat) : (s.setGlade c x).txu k = s.txu k := rfl
@[simp] theorem State.setGlade_journal (s : State) (c : Nat) (x : Glade) (k : Nat) :
    (s.setGlade c x).journal k = s.journal k := rfl
@[simp] theorem State.setGlade_pair (s : State) (c : Nat) (x : Glade) (k : Nat) :
    (s.setGlade c x).pair k = s.pair k := rfl
@[simp] theorem State.setGlade_link (s : State) (c : Nat) (x : Glade) (k : Nat) :
    (s.setGlade c x).link k = s.link k := rfl
@[simp] theorem State.setGlade_byteAt (s : State) (c : Nat) (x : Glade) (y : Nat) :
    (s.setGlade c x).byteAt y = s.byteAt y := rfl

/-! ### What `State.updGlade` leaves -/

@[simp] theorem State.updGlade_ctl (s : State) (c : Nat) (f : Glade → Glade) : (s.updGlade c f).ctl = s.ctl := rfl
@[simp] theorem State.updGlade_mem (s : State) (c : Nat) (f : Glade → Glade) : (s.updGlade c f).mem = s.mem := rfl
@[simp] theorem State.updGlade_ecc (s : State) (c : Nat) (f : Glade → Glade) : (s.updGlade c f).ecc = s.ecc := rfl
@[simp] theorem State.updGlade_dramCheck (s : State) (c : Nat) (f : Glade → Glade) :
    (s.updGlade c f).dramCheck = s.dramCheck := rfl
@[simp] theorem State.updGlade_stuck (s : State) (c : Nat) (f : Glade → Glade) : (s.updGlade c f).stuck = s.stuck := rfl
@[simp] theorem State.updGlade_readErrs (s : State) (c : Nat) (f : Glade → Glade) :
    (s.updGlade c f).readErrs = s.readErrs := rfl
@[simp] theorem State.updGlade_ports (s : State) (c : Nat) (f : Glade → Glade) : (s.updGlade c f).ports = s.ports := rfl
@[simp] theorem State.updGlade_spoiled (s : State) (c : Nat) (f : Glade → Glade) :
    (s.updGlade c f).spoiled = s.spoiled := rfl
@[simp] theorem State.updGlade_scrub (s : State) (c : Nat) (f : Glade → Glade) : (s.updGlade c f).scrub = s.scrub := rfl
@[simp] theorem State.updGlade_snaps (s : State) (c : Nat) (f : Glade → Glade) : (s.updGlade c f).snaps = s.snaps := rfl
@[simp] theorem State.updGlade_qm (s : State) (c : Nat) (f : Glade → Glade) : (s.updGlade c f).qm = s.qm := rfl
@[simp] theorem State.updGlade_txus (s : State) (c : Nat) (f : Glade → Glade) : (s.updGlade c f).txus = s.txus := rfl
@[simp] theorem State.updGlade_jw (s : State) (c : Nat) (f : Glade → Glade) : (s.updGlade c f).jw = s.jw := rfl
@[simp] theorem State.updGlade_drives (s : State) (c : Nat) (f : Glade → Glade) :
    (s.updGlade c f).drives = s.drives := rfl
@[simp] theorem State.updGlade_media (s : State) (c : Nat) (f : Glade → Glade) : (s.updGlade c f).media = s.media := rfl
@[simp] theorem State.updGlade_unflushed (s : State) (c : Nat) (f : Glade → Glade) :
    (s.updGlade c f).unflushed = s.unflushed := rfl
@[simp] theorem State.updGlade_keeper (s : State) (c : Nat) (f : Glade → Glade) :
    (s.updGlade c f).keeper = s.keeper := rfl
@[simp] theorem State.updGlade_est (s : State) (c : Nat) (f : Glade → Glade) : (s.updGlade c f).est = s.est := rfl
@[simp] theorem State.updGlade_time (s : State) (c : Nat) (f : Glade → Glade) : (s.updGlade c f).time = s.time := rfl
@[simp] theorem State.updGlade_board (s : State) (c : Nat) (f : Glade → Glade) : (s.updGlade c f).board = s.board := rfl
@[simp] theorem State.updGlade_sampler (s : State) (c : Nat) (f : Glade → Glade) :
    (s.updGlade c f).sampler = s.sampler := rfl
@[simp] theorem State.updGlade_power (s : State) (c : Nat) (f : Glade → Glade) : (s.updGlade c f).power = s.power := rfl
@[simp] theorem State.updGlade_monitors (s : State) (c : Nat) (f : Glade → Glade) :
    (s.updGlade c f).monitors = s.monitors := rfl
@[simp] theorem State.updGlade_pairs (s : State) (c : Nat) (f : Glade → Glade) : (s.updGlade c f).pairs = s.pairs := rfl
@[simp] theorem State.updGlade_uart (s : State) (c : Nat) (f : Glade → Glade) : (s.updGlade c f).uart = s.uart := rfl
@[simp] theorem State.updGlade_jtag (s : State) (c : Nat) (f : Glade → Glade) : (s.updGlade c f).jtag = s.jtag := rfl
@[simp] theorem State.updGlade_rootlink (s : State) (c : Nat) (f : Glade → Glade) :
    (s.updGlade c f).rootlink = s.rootlink := rfl
@[simp] theorem State.updGlade_regrow (s : State) (c : Nat) (f : Glade → Glade) :
    (s.updGlade c f).regrow = s.regrow := rfl
@[simp] theorem State.updGlade_out (s : State) (c : Nat) (f : Glade → Glade) : (s.updGlade c f).out = s.out := rfl
@[simp] theorem State.updGlade_msix (s : State) (c : Nat) (f : Glade → Glade) : (s.updGlade c f).msix = s.msix := rfl
@[simp] theorem State.updGlade_bridges (s : State) (c : Nat) (f : Glade → Glade) :
    (s.updGlade c f).bridges = s.bridges := rfl
@[simp] theorem State.updGlade_sections (s : State) (c : Nat) (f : Glade → Glade) :
    (s.updGlade c f).sections = s.sections := rfl
@[simp] theorem State.updGlade_findings (s : State) (c : Nat) (f : Glade → Glade) :
    (s.updGlade c f).findings = s.findings := rfl
@[simp] theorem State.updGlade_free (s : State) (c : Nat) (f : Glade → Glade) : (s.updGlade c f).free = s.free := rfl
@[simp] theorem State.updGlade_pending (s : State) (c : Nat) (f : Glade → Glade) :
    (s.updGlade c f).pending = s.pending := rfl
@[simp] theorem State.updGlade_rd (s : State) (c : Nat) (f : Glade → Glade) (r : Nat) :
    (s.updGlade c f).rd r = s.rd r := rfl
@[simp] theorem State.updGlade_fld (s : State) (c : Nat) (f : Glade → Glade) (r m n : Nat) :
    (s.updGlade c f).fld r m n = s.fld r m n := rfl
@[simp] theorem State.updGlade_flag (s : State) (c : Nat) (f : Glade → Glade) (r n : Nat) :
    (s.updGlade c f).flag r n = s.flag r n := rfl
@[simp] theorem State.updGlade_txu (s : State) (c : Nat) (f : Glade → Glade) (k : Nat) :
    (s.updGlade c f).txu k = s.txu k := rfl
@[simp] theorem State.updGlade_journal (s : State) (c : Nat) (f : Glade → Glade) (k : Nat) :
    (s.updGlade c f).journal k = s.journal k := rfl
@[simp] theorem State.updGlade_pair (s : State) (c : Nat) (f : Glade → Glade) (k : Nat) :
    (s.updGlade c f).pair k = s.pair k := rfl
@[simp] theorem State.updGlade_link (s : State) (c : Nat) (f : Glade → Glade) (k : Nat) :
    (s.updGlade c f).link k = s.link k := rfl
@[simp] theorem State.updGlade_byteAt (s : State) (c : Nat) (f : Glade → Glade) (y : Nat) :
    (s.updGlade c f).byteAt y = s.byteAt y := rfl

/-! ### What `State.setTxu` leaves -/

@[simp] theorem State.setTxu_ctl (s : State) (g : Nat) (x : Txu) : (s.setTxu g x).ctl = s.ctl := rfl
@[simp] theorem State.setTxu_mem (s : State) (g : Nat) (x : Txu) : (s.setTxu g x).mem = s.mem := rfl
@[simp] theorem State.setTxu_ecc (s : State) (g : Nat) (x : Txu) : (s.setTxu g x).ecc = s.ecc := rfl
@[simp] theorem State.setTxu_dramCheck (s : State) (g : Nat) (x : Txu) : (s.setTxu g x).dramCheck = s.dramCheck := rfl
@[simp] theorem State.setTxu_stuck (s : State) (g : Nat) (x : Txu) : (s.setTxu g x).stuck = s.stuck := rfl
@[simp] theorem State.setTxu_readErrs (s : State) (g : Nat) (x : Txu) : (s.setTxu g x).readErrs = s.readErrs := rfl
@[simp] theorem State.setTxu_ports (s : State) (g : Nat) (x : Txu) : (s.setTxu g x).ports = s.ports := rfl
@[simp] theorem State.setTxu_spoiled (s : State) (g : Nat) (x : Txu) : (s.setTxu g x).spoiled = s.spoiled := rfl
@[simp] theorem State.setTxu_scrub (s : State) (g : Nat) (x : Txu) : (s.setTxu g x).scrub = s.scrub := rfl
@[simp] theorem State.setTxu_glades (s : State) (g : Nat) (x : Txu) : (s.setTxu g x).glades = s.glades := rfl
@[simp] theorem State.setTxu_snaps (s : State) (g : Nat) (x : Txu) : (s.setTxu g x).snaps = s.snaps := rfl
@[simp] theorem State.setTxu_qm (s : State) (g : Nat) (x : Txu) : (s.setTxu g x).qm = s.qm := rfl
@[simp] theorem State.setTxu_jw (s : State) (g : Nat) (x : Txu) : (s.setTxu g x).jw = s.jw := rfl
@[simp] theorem State.setTxu_drives (s : State) (g : Nat) (x : Txu) : (s.setTxu g x).drives = s.drives := rfl
@[simp] theorem State.setTxu_media (s : State) (g : Nat) (x : Txu) : (s.setTxu g x).media = s.media := rfl
@[simp] theorem State.setTxu_unflushed (s : State) (g : Nat) (x : Txu) : (s.setTxu g x).unflushed = s.unflushed := rfl
@[simp] theorem State.setTxu_keeper (s : State) (g : Nat) (x : Txu) : (s.setTxu g x).keeper = s.keeper := rfl
@[simp] theorem State.setTxu_est (s : State) (g : Nat) (x : Txu) : (s.setTxu g x).est = s.est := rfl
@[simp] theorem State.setTxu_time (s : State) (g : Nat) (x : Txu) : (s.setTxu g x).time = s.time := rfl
@[simp] theorem State.setTxu_board (s : State) (g : Nat) (x : Txu) : (s.setTxu g x).board = s.board := rfl
@[simp] theorem State.setTxu_sampler (s : State) (g : Nat) (x : Txu) : (s.setTxu g x).sampler = s.sampler := rfl
@[simp] theorem State.setTxu_power (s : State) (g : Nat) (x : Txu) : (s.setTxu g x).power = s.power := rfl
@[simp] theorem State.setTxu_monitors (s : State) (g : Nat) (x : Txu) : (s.setTxu g x).monitors = s.monitors := rfl
@[simp] theorem State.setTxu_pairs (s : State) (g : Nat) (x : Txu) : (s.setTxu g x).pairs = s.pairs := rfl
@[simp] theorem State.setTxu_uart (s : State) (g : Nat) (x : Txu) : (s.setTxu g x).uart = s.uart := rfl
@[simp] theorem State.setTxu_jtag (s : State) (g : Nat) (x : Txu) : (s.setTxu g x).jtag = s.jtag := rfl
@[simp] theorem State.setTxu_rootlink (s : State) (g : Nat) (x : Txu) : (s.setTxu g x).rootlink = s.rootlink := rfl
@[simp] theorem State.setTxu_regrow (s : State) (g : Nat) (x : Txu) : (s.setTxu g x).regrow = s.regrow := rfl
@[simp] theorem State.setTxu_out (s : State) (g : Nat) (x : Txu) : (s.setTxu g x).out = s.out := rfl
@[simp] theorem State.setTxu_msix (s : State) (g : Nat) (x : Txu) : (s.setTxu g x).msix = s.msix := rfl
@[simp] theorem State.setTxu_bridges (s : State) (g : Nat) (x : Txu) : (s.setTxu g x).bridges = s.bridges := rfl
@[simp] theorem State.setTxu_sections (s : State) (g : Nat) (x : Txu) : (s.setTxu g x).sections = s.sections := rfl
@[simp] theorem State.setTxu_findings (s : State) (g : Nat) (x : Txu) : (s.setTxu g x).findings = s.findings := rfl
@[simp] theorem State.setTxu_free (s : State) (g : Nat) (x : Txu) : (s.setTxu g x).free = s.free := rfl
@[simp] theorem State.setTxu_pending (s : State) (g : Nat) (x : Txu) : (s.setTxu g x).pending = s.pending := rfl
@[simp] theorem State.setTxu_rd (s : State) (g : Nat) (x : Txu) (r : Nat) : (s.setTxu g x).rd r = s.rd r := rfl
@[simp] theorem State.setTxu_fld (s : State) (g : Nat) (x : Txu) (r m n : Nat) :
    (s.setTxu g x).fld r m n = s.fld r m n := rfl
@[simp] theorem State.setTxu_flag (s : State) (g : Nat) (x : Txu) (r n : Nat) :
    (s.setTxu g x).flag r n = s.flag r n := rfl
@[simp] theorem State.setTxu_glade (s : State) (g : Nat) (x : Txu) (d : Nat) : (s.setTxu g x).glade d = s.glade d := rfl
@[simp] theorem State.setTxu_journal (s : State) (g : Nat) (x : Txu) (k : Nat) :
    (s.setTxu g x).journal k = s.journal k := rfl
@[simp] theorem State.setTxu_pair (s : State) (g : Nat) (x : Txu) (k : Nat) : (s.setTxu g x).pair k = s.pair k := rfl
@[simp] theorem State.setTxu_link (s : State) (g : Nat) (x : Txu) (k : Nat) : (s.setTxu g x).link k = s.link k := rfl
@[simp] theorem State.setTxu_byteAt (s : State) (g : Nat) (x : Txu) (y : Nat) :
    (s.setTxu g x).byteAt y = s.byteAt y := rfl

/-! ### What `State.setTxn` leaves -/

@[simp] theorem State.setTxn_ctl (s : State) (i : Nat) (t : Option Txn) : (s.setTxn i t).ctl = s.ctl := rfl
@[simp] theorem State.setTxn_mem (s : State) (i : Nat) (t : Option Txn) : (s.setTxn i t).mem = s.mem := rfl
@[simp] theorem State.setTxn_ecc (s : State) (i : Nat) (t : Option Txn) : (s.setTxn i t).ecc = s.ecc := rfl
@[simp] theorem State.setTxn_dramCheck (s : State) (i : Nat) (t : Option Txn) :
    (s.setTxn i t).dramCheck = s.dramCheck := rfl
@[simp] theorem State.setTxn_stuck (s : State) (i : Nat) (t : Option Txn) : (s.setTxn i t).stuck = s.stuck := rfl
@[simp] theorem State.setTxn_readErrs (s : State) (i : Nat) (t : Option Txn) :
    (s.setTxn i t).readErrs = s.readErrs := rfl
@[simp] theorem State.setTxn_ports (s : State) (i : Nat) (t : Option Txn) : (s.setTxn i t).ports = s.ports := rfl
@[simp] theorem State.setTxn_spoiled (s : State) (i : Nat) (t : Option Txn) : (s.setTxn i t).spoiled = s.spoiled := rfl
@[simp] theorem State.setTxn_scrub (s : State) (i : Nat) (t : Option Txn) : (s.setTxn i t).scrub = s.scrub := rfl
@[simp] theorem State.setTxn_glades (s : State) (i : Nat) (t : Option Txn) : (s.setTxn i t).glades = s.glades := rfl
@[simp] theorem State.setTxn_snaps (s : State) (i : Nat) (t : Option Txn) : (s.setTxn i t).snaps = s.snaps := rfl
@[simp] theorem State.setTxn_qm (s : State) (i : Nat) (t : Option Txn) : (s.setTxn i t).qm = s.qm := rfl
@[simp] theorem State.setTxn_jw (s : State) (i : Nat) (t : Option Txn) : (s.setTxn i t).jw = s.jw := rfl
@[simp] theorem State.setTxn_drives (s : State) (i : Nat) (t : Option Txn) : (s.setTxn i t).drives = s.drives := rfl
@[simp] theorem State.setTxn_media (s : State) (i : Nat) (t : Option Txn) : (s.setTxn i t).media = s.media := rfl
@[simp] theorem State.setTxn_unflushed (s : State) (i : Nat) (t : Option Txn) :
    (s.setTxn i t).unflushed = s.unflushed := rfl
@[simp] theorem State.setTxn_keeper (s : State) (i : Nat) (t : Option Txn) : (s.setTxn i t).keeper = s.keeper := rfl
@[simp] theorem State.setTxn_est (s : State) (i : Nat) (t : Option Txn) : (s.setTxn i t).est = s.est := rfl
@[simp] theorem State.setTxn_time (s : State) (i : Nat) (t : Option Txn) : (s.setTxn i t).time = s.time := rfl
@[simp] theorem State.setTxn_board (s : State) (i : Nat) (t : Option Txn) : (s.setTxn i t).board = s.board := rfl
@[simp] theorem State.setTxn_sampler (s : State) (i : Nat) (t : Option Txn) : (s.setTxn i t).sampler = s.sampler := rfl
@[simp] theorem State.setTxn_power (s : State) (i : Nat) (t : Option Txn) : (s.setTxn i t).power = s.power := rfl
@[simp] theorem State.setTxn_monitors (s : State) (i : Nat) (t : Option Txn) :
    (s.setTxn i t).monitors = s.monitors := rfl
@[simp] theorem State.setTxn_pairs (s : State) (i : Nat) (t : Option Txn) : (s.setTxn i t).pairs = s.pairs := rfl
@[simp] theorem State.setTxn_uart (s : State) (i : Nat) (t : Option Txn) : (s.setTxn i t).uart = s.uart := rfl
@[simp] theorem State.setTxn_jtag (s : State) (i : Nat) (t : Option Txn) : (s.setTxn i t).jtag = s.jtag := rfl
@[simp] theorem State.setTxn_rootlink (s : State) (i : Nat) (t : Option Txn) :
    (s.setTxn i t).rootlink = s.rootlink := rfl
@[simp] theorem State.setTxn_regrow (s : State) (i : Nat) (t : Option Txn) : (s.setTxn i t).regrow = s.regrow := rfl
@[simp] theorem State.setTxn_out (s : State) (i : Nat) (t : Option Txn) : (s.setTxn i t).out = s.out := rfl
@[simp] theorem State.setTxn_msix (s : State) (i : Nat) (t : Option Txn) : (s.setTxn i t).msix = s.msix := rfl
@[simp] theorem State.setTxn_bridges (s : State) (i : Nat) (t : Option Txn) : (s.setTxn i t).bridges = s.bridges := rfl
@[simp] theorem State.setTxn_sections (s : State) (i : Nat) (t : Option Txn) :
    (s.setTxn i t).sections = s.sections := rfl
@[simp] theorem State.setTxn_findings (s : State) (i : Nat) (t : Option Txn) :
    (s.setTxn i t).findings = s.findings := rfl
@[simp] theorem State.setTxn_free (s : State) (i : Nat) (t : Option Txn) : (s.setTxn i t).free = s.free := rfl
@[simp] theorem State.setTxn_pending (s : State) (i : Nat) (t : Option Txn) : (s.setTxn i t).pending = s.pending := rfl
@[simp] theorem State.setTxn_rd (s : State) (i : Nat) (t : Option Txn) (r : Nat) : (s.setTxn i t).rd r = s.rd r := rfl
@[simp] theorem State.setTxn_fld (s : State) (i : Nat) (t : Option Txn) (r m n : Nat) :
    (s.setTxn i t).fld r m n = s.fld r m n := rfl
@[simp] theorem State.setTxn_flag (s : State) (i : Nat) (t : Option Txn) (r n : Nat) :
    (s.setTxn i t).flag r n = s.flag r n := rfl
@[simp] theorem State.setTxn_glade (s : State) (i : Nat) (t : Option Txn) (d : Nat) :
    (s.setTxn i t).glade d = s.glade d := rfl
@[simp] theorem State.setTxn_journal (s : State) (i : Nat) (t : Option Txn) (k : Nat) :
    (s.setTxn i t).journal k = s.journal k := rfl
@[simp] theorem State.setTxn_pair (s : State) (i : Nat) (t : Option Txn) (k : Nat) :
    (s.setTxn i t).pair k = s.pair k := rfl
@[simp] theorem State.setTxn_link (s : State) (i : Nat) (t : Option Txn) (k : Nat) :
    (s.setTxn i t).link k = s.link k := rfl
@[simp] theorem State.setTxn_byteAt (s : State) (i : Nat) (t : Option Txn) (y : Nat) :
    (s.setTxn i t).byteAt y = s.byteAt y := rfl

/-! ### What `State.setJournal` leaves -/

@[simp] theorem State.setJournal_ctl (s : State) (j : Nat) (x : Journal) : (s.setJournal j x).ctl = s.ctl := rfl
@[simp] theorem State.setJournal_mem (s : State) (j : Nat) (x : Journal) : (s.setJournal j x).mem = s.mem := rfl
@[simp] theorem State.setJournal_ecc (s : State) (j : Nat) (x : Journal) : (s.setJournal j x).ecc = s.ecc := rfl
@[simp] theorem State.setJournal_dramCheck (s : State) (j : Nat) (x : Journal) :
    (s.setJournal j x).dramCheck = s.dramCheck := rfl
@[simp] theorem State.setJournal_stuck (s : State) (j : Nat) (x : Journal) : (s.setJournal j x).stuck = s.stuck := rfl
@[simp] theorem State.setJournal_readErrs (s : State) (j : Nat) (x : Journal) :
    (s.setJournal j x).readErrs = s.readErrs := rfl
@[simp] theorem State.setJournal_ports (s : State) (j : Nat) (x : Journal) : (s.setJournal j x).ports = s.ports := rfl
@[simp] theorem State.setJournal_spoiled (s : State) (j : Nat) (x : Journal) :
    (s.setJournal j x).spoiled = s.spoiled := rfl
@[simp] theorem State.setJournal_scrub (s : State) (j : Nat) (x : Journal) : (s.setJournal j x).scrub = s.scrub := rfl
@[simp] theorem State.setJournal_glades (s : State) (j : Nat) (x : Journal) :
    (s.setJournal j x).glades = s.glades := rfl
@[simp] theorem State.setJournal_snaps (s : State) (j : Nat) (x : Journal) : (s.setJournal j x).snaps = s.snaps := rfl
@[simp] theorem State.setJournal_qm (s : State) (j : Nat) (x : Journal) : (s.setJournal j x).qm = s.qm := rfl
@[simp] theorem State.setJournal_txus (s : State) (j : Nat) (x : Journal) : (s.setJournal j x).txus = s.txus := rfl
@[simp] theorem State.setJournal_drives (s : State) (j : Nat) (x : Journal) :
    (s.setJournal j x).drives = s.drives := rfl
@[simp] theorem State.setJournal_media (s : State) (j : Nat) (x : Journal) : (s.setJournal j x).media = s.media := rfl
@[simp] theorem State.setJournal_unflushed (s : State) (j : Nat) (x : Journal) :
    (s.setJournal j x).unflushed = s.unflushed := rfl
@[simp] theorem State.setJournal_keeper (s : State) (j : Nat) (x : Journal) :
    (s.setJournal j x).keeper = s.keeper := rfl
@[simp] theorem State.setJournal_est (s : State) (j : Nat) (x : Journal) : (s.setJournal j x).est = s.est := rfl
@[simp] theorem State.setJournal_time (s : State) (j : Nat) (x : Journal) : (s.setJournal j x).time = s.time := rfl
@[simp] theorem State.setJournal_board (s : State) (j : Nat) (x : Journal) : (s.setJournal j x).board = s.board := rfl
@[simp] theorem State.setJournal_sampler (s : State) (j : Nat) (x : Journal) :
    (s.setJournal j x).sampler = s.sampler := rfl
@[simp] theorem State.setJournal_power (s : State) (j : Nat) (x : Journal) : (s.setJournal j x).power = s.power := rfl
@[simp] theorem State.setJournal_monitors (s : State) (j : Nat) (x : Journal) :
    (s.setJournal j x).monitors = s.monitors := rfl
@[simp] theorem State.setJournal_pairs (s : State) (j : Nat) (x : Journal) : (s.setJournal j x).pairs = s.pairs := rfl
@[simp] theorem State.setJournal_uart (s : State) (j : Nat) (x : Journal) : (s.setJournal j x).uart = s.uart := rfl
@[simp] theorem State.setJournal_jtag (s : State) (j : Nat) (x : Journal) : (s.setJournal j x).jtag = s.jtag := rfl
@[simp] theorem State.setJournal_rootlink (s : State) (j : Nat) (x : Journal) :
    (s.setJournal j x).rootlink = s.rootlink := rfl
@[simp] theorem State.setJournal_regrow (s : State) (j : Nat) (x : Journal) :
    (s.setJournal j x).regrow = s.regrow := rfl
@[simp] theorem State.setJournal_out (s : State) (j : Nat) (x : Journal) : (s.setJournal j x).out = s.out := rfl
@[simp] theorem State.setJournal_msix (s : State) (j : Nat) (x : Journal) : (s.setJournal j x).msix = s.msix := rfl
@[simp] theorem State.setJournal_bridges (s : State) (j : Nat) (x : Journal) :
    (s.setJournal j x).bridges = s.bridges := rfl
@[simp] theorem State.setJournal_sections (s : State) (j : Nat) (x : Journal) :
    (s.setJournal j x).sections = s.sections := rfl
@[simp] theorem State.setJournal_findings (s : State) (j : Nat) (x : Journal) :
    (s.setJournal j x).findings = s.findings := rfl
@[simp] theorem State.setJournal_free (s : State) (j : Nat) (x : Journal) : (s.setJournal j x).free = s.free := rfl
@[simp] theorem State.setJournal_pending (s : State) (j : Nat) (x : Journal) :
    (s.setJournal j x).pending = s.pending := rfl
@[simp] theorem State.setJournal_rd (s : State) (j : Nat) (x : Journal) (r : Nat) :
    (s.setJournal j x).rd r = s.rd r := rfl
@[simp] theorem State.setJournal_fld (s : State) (j : Nat) (x : Journal) (r m n : Nat) :
    (s.setJournal j x).fld r m n = s.fld r m n := rfl
@[simp] theorem State.setJournal_flag (s : State) (j : Nat) (x : Journal) (r n : Nat) :
    (s.setJournal j x).flag r n = s.flag r n := rfl
@[simp] theorem State.setJournal_glade (s : State) (j : Nat) (x : Journal) (d : Nat) :
    (s.setJournal j x).glade d = s.glade d := rfl
@[simp] theorem State.setJournal_txu (s : State) (j : Nat) (x : Journal) (k : Nat) :
    (s.setJournal j x).txu k = s.txu k := rfl
@[simp] theorem State.setJournal_pair (s : State) (j : Nat) (x : Journal) (k : Nat) :
    (s.setJournal j x).pair k = s.pair k := rfl
@[simp] theorem State.setJournal_link (s : State) (j : Nat) (x : Journal) (k : Nat) :
    (s.setJournal j x).link k = s.link k := rfl
@[simp] theorem State.setJournal_byteAt (s : State) (j : Nat) (x : Journal) (y : Nat) :
    (s.setJournal j x).byteAt y = s.byteAt y := rfl

/-! ### What `State.setPair` leaves -/

@[simp] theorem State.setPair_ctl (s : State) (l : Nat) (p : Pair) : (s.setPair l p).ctl = s.ctl := rfl
@[simp] theorem State.setPair_mem (s : State) (l : Nat) (p : Pair) : (s.setPair l p).mem = s.mem := rfl
@[simp] theorem State.setPair_ecc (s : State) (l : Nat) (p : Pair) : (s.setPair l p).ecc = s.ecc := rfl
@[simp] theorem State.setPair_dramCheck (s : State) (l : Nat) (p : Pair) :
    (s.setPair l p).dramCheck = s.dramCheck := rfl
@[simp] theorem State.setPair_stuck (s : State) (l : Nat) (p : Pair) : (s.setPair l p).stuck = s.stuck := rfl
@[simp] theorem State.setPair_readErrs (s : State) (l : Nat) (p : Pair) : (s.setPair l p).readErrs = s.readErrs := rfl
@[simp] theorem State.setPair_ports (s : State) (l : Nat) (p : Pair) : (s.setPair l p).ports = s.ports := rfl
@[simp] theorem State.setPair_spoiled (s : State) (l : Nat) (p : Pair) : (s.setPair l p).spoiled = s.spoiled := rfl
@[simp] theorem State.setPair_scrub (s : State) (l : Nat) (p : Pair) : (s.setPair l p).scrub = s.scrub := rfl
@[simp] theorem State.setPair_glades (s : State) (l : Nat) (p : Pair) : (s.setPair l p).glades = s.glades := rfl
@[simp] theorem State.setPair_snaps (s : State) (l : Nat) (p : Pair) : (s.setPair l p).snaps = s.snaps := rfl
@[simp] theorem State.setPair_qm (s : State) (l : Nat) (p : Pair) : (s.setPair l p).qm = s.qm := rfl
@[simp] theorem State.setPair_txus (s : State) (l : Nat) (p : Pair) : (s.setPair l p).txus = s.txus := rfl
@[simp] theorem State.setPair_jw (s : State) (l : Nat) (p : Pair) : (s.setPair l p).jw = s.jw := rfl
@[simp] theorem State.setPair_drives (s : State) (l : Nat) (p : Pair) : (s.setPair l p).drives = s.drives := rfl
@[simp] theorem State.setPair_media (s : State) (l : Nat) (p : Pair) : (s.setPair l p).media = s.media := rfl
@[simp] theorem State.setPair_unflushed (s : State) (l : Nat) (p : Pair) :
    (s.setPair l p).unflushed = s.unflushed := rfl
@[simp] theorem State.setPair_keeper (s : State) (l : Nat) (p : Pair) : (s.setPair l p).keeper = s.keeper := rfl
@[simp] theorem State.setPair_est (s : State) (l : Nat) (p : Pair) : (s.setPair l p).est = s.est := rfl
@[simp] theorem State.setPair_time (s : State) (l : Nat) (p : Pair) : (s.setPair l p).time = s.time := rfl
@[simp] theorem State.setPair_board (s : State) (l : Nat) (p : Pair) : (s.setPair l p).board = s.board := rfl
@[simp] theorem State.setPair_sampler (s : State) (l : Nat) (p : Pair) : (s.setPair l p).sampler = s.sampler := rfl
@[simp] theorem State.setPair_power (s : State) (l : Nat) (p : Pair) : (s.setPair l p).power = s.power := rfl
@[simp] theorem State.setPair_monitors (s : State) (l : Nat) (p : Pair) : (s.setPair l p).monitors = s.monitors := rfl
@[simp] theorem State.setPair_uart (s : State) (l : Nat) (p : Pair) : (s.setPair l p).uart = s.uart := rfl
@[simp] theorem State.setPair_jtag (s : State) (l : Nat) (p : Pair) : (s.setPair l p).jtag = s.jtag := rfl
@[simp] theorem State.setPair_rootlink (s : State) (l : Nat) (p : Pair) : (s.setPair l p).rootlink = s.rootlink := rfl
@[simp] theorem State.setPair_regrow (s : State) (l : Nat) (p : Pair) : (s.setPair l p).regrow = s.regrow := rfl
@[simp] theorem State.setPair_out (s : State) (l : Nat) (p : Pair) : (s.setPair l p).out = s.out := rfl
@[simp] theorem State.setPair_msix (s : State) (l : Nat) (p : Pair) : (s.setPair l p).msix = s.msix := rfl
@[simp] theorem State.setPair_bridges (s : State) (l : Nat) (p : Pair) : (s.setPair l p).bridges = s.bridges := rfl
@[simp] theorem State.setPair_sections (s : State) (l : Nat) (p : Pair) : (s.setPair l p).sections = s.sections := rfl
@[simp] theorem State.setPair_findings (s : State) (l : Nat) (p : Pair) : (s.setPair l p).findings = s.findings := rfl
@[simp] theorem State.setPair_free (s : State) (l : Nat) (p : Pair) : (s.setPair l p).free = s.free := rfl
@[simp] theorem State.setPair_pending (s : State) (l : Nat) (p : Pair) : (s.setPair l p).pending = s.pending := rfl
@[simp] theorem State.setPair_rd (s : State) (l : Nat) (p : Pair) (r : Nat) : (s.setPair l p).rd r = s.rd r := rfl
@[simp] theorem State.setPair_fld (s : State) (l : Nat) (p : Pair) (r m n : Nat) :
    (s.setPair l p).fld r m n = s.fld r m n := rfl
@[simp] theorem State.setPair_flag (s : State) (l : Nat) (p : Pair) (r n : Nat) :
    (s.setPair l p).flag r n = s.flag r n := rfl
@[simp] theorem State.setPair_glade (s : State) (l : Nat) (p : Pair) (d : Nat) :
    (s.setPair l p).glade d = s.glade d := rfl
@[simp] theorem State.setPair_txu (s : State) (l : Nat) (p : Pair) (k : Nat) : (s.setPair l p).txu k = s.txu k := rfl
@[simp] theorem State.setPair_journal (s : State) (l : Nat) (p : Pair) (k : Nat) :
    (s.setPair l p).journal k = s.journal k := rfl
@[simp] theorem State.setPair_link (s : State) (l : Nat) (p : Pair) (k : Nat) : (s.setPair l p).link k = s.link k := rfl
@[simp] theorem State.setPair_byteAt (s : State) (l : Nat) (p : Pair) (y : Nat) :
    (s.setPair l p).byteAt y = s.byteAt y := rfl

/-! ### What `State.setLink` leaves -/

@[simp] theorem State.setLink_ctl (s : State) (l : Nat) (x : Link) : (s.setLink l x).ctl = s.ctl := rfl
@[simp] theorem State.setLink_mem (s : State) (l : Nat) (x : Link) : (s.setLink l x).mem = s.mem := rfl
@[simp] theorem State.setLink_ecc (s : State) (l : Nat) (x : Link) : (s.setLink l x).ecc = s.ecc := rfl
@[simp] theorem State.setLink_dramCheck (s : State) (l : Nat) (x : Link) :
    (s.setLink l x).dramCheck = s.dramCheck := rfl
@[simp] theorem State.setLink_stuck (s : State) (l : Nat) (x : Link) : (s.setLink l x).stuck = s.stuck := rfl
@[simp] theorem State.setLink_readErrs (s : State) (l : Nat) (x : Link) : (s.setLink l x).readErrs = s.readErrs := rfl
@[simp] theorem State.setLink_ports (s : State) (l : Nat) (x : Link) : (s.setLink l x).ports = s.ports := rfl
@[simp] theorem State.setLink_spoiled (s : State) (l : Nat) (x : Link) : (s.setLink l x).spoiled = s.spoiled := rfl
@[simp] theorem State.setLink_scrub (s : State) (l : Nat) (x : Link) : (s.setLink l x).scrub = s.scrub := rfl
@[simp] theorem State.setLink_glades (s : State) (l : Nat) (x : Link) : (s.setLink l x).glades = s.glades := rfl
@[simp] theorem State.setLink_snaps (s : State) (l : Nat) (x : Link) : (s.setLink l x).snaps = s.snaps := rfl
@[simp] theorem State.setLink_qm (s : State) (l : Nat) (x : Link) : (s.setLink l x).qm = s.qm := rfl
@[simp] theorem State.setLink_txus (s : State) (l : Nat) (x : Link) : (s.setLink l x).txus = s.txus := rfl
@[simp] theorem State.setLink_jw (s : State) (l : Nat) (x : Link) : (s.setLink l x).jw = s.jw := rfl
@[simp] theorem State.setLink_drives (s : State) (l : Nat) (x : Link) : (s.setLink l x).drives = s.drives := rfl
@[simp] theorem State.setLink_media (s : State) (l : Nat) (x : Link) : (s.setLink l x).media = s.media := rfl
@[simp] theorem State.setLink_unflushed (s : State) (l : Nat) (x : Link) :
    (s.setLink l x).unflushed = s.unflushed := rfl
@[simp] theorem State.setLink_keeper (s : State) (l : Nat) (x : Link) : (s.setLink l x).keeper = s.keeper := rfl
@[simp] theorem State.setLink_est (s : State) (l : Nat) (x : Link) : (s.setLink l x).est = s.est := rfl
@[simp] theorem State.setLink_time (s : State) (l : Nat) (x : Link) : (s.setLink l x).time = s.time := rfl
@[simp] theorem State.setLink_board (s : State) (l : Nat) (x : Link) : (s.setLink l x).board = s.board := rfl
@[simp] theorem State.setLink_sampler (s : State) (l : Nat) (x : Link) : (s.setLink l x).sampler = s.sampler := rfl
@[simp] theorem State.setLink_power (s : State) (l : Nat) (x : Link) : (s.setLink l x).power = s.power := rfl
@[simp] theorem State.setLink_monitors (s : State) (l : Nat) (x : Link) : (s.setLink l x).monitors = s.monitors := rfl
@[simp] theorem State.setLink_pairs (s : State) (l : Nat) (x : Link) : (s.setLink l x).pairs = s.pairs := rfl
@[simp] theorem State.setLink_uart (s : State) (l : Nat) (x : Link) : (s.setLink l x).uart = s.uart := rfl
@[simp] theorem State.setLink_jtag (s : State) (l : Nat) (x : Link) : (s.setLink l x).jtag = s.jtag := rfl
@[simp] theorem State.setLink_regrow (s : State) (l : Nat) (x : Link) : (s.setLink l x).regrow = s.regrow := rfl
@[simp] theorem State.setLink_out (s : State) (l : Nat) (x : Link) : (s.setLink l x).out = s.out := rfl
@[simp] theorem State.setLink_msix (s : State) (l : Nat) (x : Link) : (s.setLink l x).msix = s.msix := rfl
@[simp] theorem State.setLink_bridges (s : State) (l : Nat) (x : Link) : (s.setLink l x).bridges = s.bridges := rfl
@[simp] theorem State.setLink_sections (s : State) (l : Nat) (x : Link) : (s.setLink l x).sections = s.sections := rfl
@[simp] theorem State.setLink_findings (s : State) (l : Nat) (x : Link) : (s.setLink l x).findings = s.findings := rfl
@[simp] theorem State.setLink_free (s : State) (l : Nat) (x : Link) : (s.setLink l x).free = s.free := rfl
@[simp] theorem State.setLink_pending (s : State) (l : Nat) (x : Link) : (s.setLink l x).pending = s.pending := rfl
@[simp] theorem State.setLink_rd (s : State) (l : Nat) (x : Link) (r : Nat) : (s.setLink l x).rd r = s.rd r := rfl
@[simp] theorem State.setLink_fld (s : State) (l : Nat) (x : Link) (r m n : Nat) :
    (s.setLink l x).fld r m n = s.fld r m n := rfl
@[simp] theorem State.setLink_flag (s : State) (l : Nat) (x : Link) (r n : Nat) :
    (s.setLink l x).flag r n = s.flag r n := rfl
@[simp] theorem State.setLink_glade (s : State) (l : Nat) (x : Link) (d : Nat) :
    (s.setLink l x).glade d = s.glade d := rfl
@[simp] theorem State.setLink_txu (s : State) (l : Nat) (x : Link) (k : Nat) : (s.setLink l x).txu k = s.txu k := rfl
@[simp] theorem State.setLink_journal (s : State) (l : Nat) (x : Link) (k : Nat) :
    (s.setLink l x).journal k = s.journal k := rfl
@[simp] theorem State.setLink_pair (s : State) (l : Nat) (x : Link) (k : Nat) : (s.setLink l x).pair k = s.pair k := rfl
@[simp] theorem State.setLink_byteAt (s : State) (l : Nat) (x : Link) (y : Nat) :
    (s.setLink l x).byteAt y = s.byteAt y := rfl

/-! ### What `State.setByte` leaves -/

@[simp] theorem State.setByte_ctl (s : State) (a : Nat) (b : Byte) : (s.setByte a b).ctl = s.ctl := rfl
@[simp] theorem State.setByte_ecc (s : State) (a : Nat) (b : Byte) : (s.setByte a b).ecc = s.ecc := rfl
@[simp] theorem State.setByte_dramCheck (s : State) (a : Nat) (b : Byte) :
    (s.setByte a b).dramCheck = s.dramCheck := rfl
@[simp] theorem State.setByte_stuck (s : State) (a : Nat) (b : Byte) : (s.setByte a b).stuck = s.stuck := rfl
@[simp] theorem State.setByte_readErrs (s : State) (a : Nat) (b : Byte) : (s.setByte a b).readErrs = s.readErrs := rfl
@[simp] theorem State.setByte_ports (s : State) (a : Nat) (b : Byte) : (s.setByte a b).ports = s.ports := rfl
@[simp] theorem State.setByte_spoiled (s : State) (a : Nat) (b : Byte) : (s.setByte a b).spoiled = s.spoiled := rfl
@[simp] theorem State.setByte_scrub (s : State) (a : Nat) (b : Byte) : (s.setByte a b).scrub = s.scrub := rfl
@[simp] theorem State.setByte_glades (s : State) (a : Nat) (b : Byte) : (s.setByte a b).glades = s.glades := rfl
@[simp] theorem State.setByte_snaps (s : State) (a : Nat) (b : Byte) : (s.setByte a b).snaps = s.snaps := rfl
@[simp] theorem State.setByte_qm (s : State) (a : Nat) (b : Byte) : (s.setByte a b).qm = s.qm := rfl
@[simp] theorem State.setByte_txus (s : State) (a : Nat) (b : Byte) : (s.setByte a b).txus = s.txus := rfl
@[simp] theorem State.setByte_jw (s : State) (a : Nat) (b : Byte) : (s.setByte a b).jw = s.jw := rfl
@[simp] theorem State.setByte_drives (s : State) (a : Nat) (b : Byte) : (s.setByte a b).drives = s.drives := rfl
@[simp] theorem State.setByte_media (s : State) (a : Nat) (b : Byte) : (s.setByte a b).media = s.media := rfl
@[simp] theorem State.setByte_unflushed (s : State) (a : Nat) (b : Byte) :
    (s.setByte a b).unflushed = s.unflushed := rfl
@[simp] theorem State.setByte_keeper (s : State) (a : Nat) (b : Byte) : (s.setByte a b).keeper = s.keeper := rfl
@[simp] theorem State.setByte_est (s : State) (a : Nat) (b : Byte) : (s.setByte a b).est = s.est := rfl
@[simp] theorem State.setByte_time (s : State) (a : Nat) (b : Byte) : (s.setByte a b).time = s.time := rfl
@[simp] theorem State.setByte_board (s : State) (a : Nat) (b : Byte) : (s.setByte a b).board = s.board := rfl
@[simp] theorem State.setByte_sampler (s : State) (a : Nat) (b : Byte) : (s.setByte a b).sampler = s.sampler := rfl
@[simp] theorem State.setByte_power (s : State) (a : Nat) (b : Byte) : (s.setByte a b).power = s.power := rfl
@[simp] theorem State.setByte_monitors (s : State) (a : Nat) (b : Byte) : (s.setByte a b).monitors = s.monitors := rfl
@[simp] theorem State.setByte_pairs (s : State) (a : Nat) (b : Byte) : (s.setByte a b).pairs = s.pairs := rfl
@[simp] theorem State.setByte_uart (s : State) (a : Nat) (b : Byte) : (s.setByte a b).uart = s.uart := rfl
@[simp] theorem State.setByte_jtag (s : State) (a : Nat) (b : Byte) : (s.setByte a b).jtag = s.jtag := rfl
@[simp] theorem State.setByte_rootlink (s : State) (a : Nat) (b : Byte) : (s.setByte a b).rootlink = s.rootlink := rfl
@[simp] theorem State.setByte_regrow (s : State) (a : Nat) (b : Byte) : (s.setByte a b).regrow = s.regrow := rfl
@[simp] theorem State.setByte_out (s : State) (a : Nat) (b : Byte) : (s.setByte a b).out = s.out := rfl
@[simp] theorem State.setByte_msix (s : State) (a : Nat) (b : Byte) : (s.setByte a b).msix = s.msix := rfl
@[simp] theorem State.setByte_bridges (s : State) (a : Nat) (b : Byte) : (s.setByte a b).bridges = s.bridges := rfl
@[simp] theorem State.setByte_sections (s : State) (a : Nat) (b : Byte) : (s.setByte a b).sections = s.sections := rfl
@[simp] theorem State.setByte_findings (s : State) (a : Nat) (b : Byte) : (s.setByte a b).findings = s.findings := rfl
@[simp] theorem State.setByte_free (s : State) (a : Nat) (b : Byte) : (s.setByte a b).free = s.free := rfl
@[simp] theorem State.setByte_pending (s : State) (a : Nat) (b : Byte) : (s.setByte a b).pending = s.pending := rfl
@[simp] theorem State.setByte_rd (s : State) (a : Nat) (b : Byte) (r : Nat) : (s.setByte a b).rd r = s.rd r := rfl
@[simp] theorem State.setByte_fld (s : State) (a : Nat) (b : Byte) (r m n : Nat) :
    (s.setByte a b).fld r m n = s.fld r m n := rfl
@[simp] theorem State.setByte_flag (s : State) (a : Nat) (b : Byte) (r n : Nat) :
    (s.setByte a b).flag r n = s.flag r n := rfl
@[simp] theorem State.setByte_glade (s : State) (a : Nat) (b : Byte) (d : Nat) :
    (s.setByte a b).glade d = s.glade d := rfl
@[simp] theorem State.setByte_txu (s : State) (a : Nat) (b : Byte) (k : Nat) : (s.setByte a b).txu k = s.txu k := rfl
@[simp] theorem State.setByte_journal (s : State) (a : Nat) (b : Byte) (k : Nat) :
    (s.setByte a b).journal k = s.journal k := rfl
@[simp] theorem State.setByte_pair (s : State) (a : Nat) (b : Byte) (k : Nat) : (s.setByte a b).pair k = s.pair k := rfl
@[simp] theorem State.setByte_link (s : State) (a : Nat) (b : Byte) (k : Nat) : (s.setByte a b).link k = s.link k := rfl

/-! ### What `State.withPorts` leaves -/

@[simp] theorem State.withPorts_ctl (s : State) (ps : List PortAnswer) : (s.withPorts ps).ctl = s.ctl := rfl
@[simp] theorem State.withPorts_mem (s : State) (ps : List PortAnswer) : (s.withPorts ps).mem = s.mem := rfl
@[simp] theorem State.withPorts_ecc (s : State) (ps : List PortAnswer) : (s.withPorts ps).ecc = s.ecc := rfl
@[simp] theorem State.withPorts_dramCheck (s : State) (ps : List PortAnswer) :
    (s.withPorts ps).dramCheck = s.dramCheck := rfl
@[simp] theorem State.withPorts_stuck (s : State) (ps : List PortAnswer) : (s.withPorts ps).stuck = s.stuck := rfl
@[simp] theorem State.withPorts_readErrs (s : State) (ps : List PortAnswer) :
    (s.withPorts ps).readErrs = s.readErrs := rfl
@[simp] theorem State.withPorts_spoiled (s : State) (ps : List PortAnswer) : (s.withPorts ps).spoiled = s.spoiled := rfl
@[simp] theorem State.withPorts_scrub (s : State) (ps : List PortAnswer) : (s.withPorts ps).scrub = s.scrub := rfl
@[simp] theorem State.withPorts_glades (s : State) (ps : List PortAnswer) : (s.withPorts ps).glades = s.glades := rfl
@[simp] theorem State.withPorts_snaps (s : State) (ps : List PortAnswer) : (s.withPorts ps).snaps = s.snaps := rfl
@[simp] theorem State.withPorts_qm (s : State) (ps : List PortAnswer) : (s.withPorts ps).qm = s.qm := rfl
@[simp] theorem State.withPorts_txus (s : State) (ps : List PortAnswer) : (s.withPorts ps).txus = s.txus := rfl
@[simp] theorem State.withPorts_jw (s : State) (ps : List PortAnswer) : (s.withPorts ps).jw = s.jw := rfl
@[simp] theorem State.withPorts_drives (s : State) (ps : List PortAnswer) : (s.withPorts ps).drives = s.drives := rfl
@[simp] theorem State.withPorts_media (s : State) (ps : List PortAnswer) : (s.withPorts ps).media = s.media := rfl
@[simp] theorem State.withPorts_unflushed (s : State) (ps : List PortAnswer) :
    (s.withPorts ps).unflushed = s.unflushed := rfl
@[simp] theorem State.withPorts_keeper (s : State) (ps : List PortAnswer) : (s.withPorts ps).keeper = s.keeper := rfl
@[simp] theorem State.withPorts_est (s : State) (ps : List PortAnswer) : (s.withPorts ps).est = s.est := rfl
@[simp] theorem State.withPorts_time (s : State) (ps : List PortAnswer) : (s.withPorts ps).time = s.time := rfl
@[simp] theorem State.withPorts_board (s : State) (ps : List PortAnswer) : (s.withPorts ps).board = s.board := rfl
@[simp] theorem State.withPorts_sampler (s : State) (ps : List PortAnswer) : (s.withPorts ps).sampler = s.sampler := rfl
@[simp] theorem State.withPorts_power (s : State) (ps : List PortAnswer) : (s.withPorts ps).power = s.power := rfl
@[simp] theorem State.withPorts_monitors (s : State) (ps : List PortAnswer) :
    (s.withPorts ps).monitors = s.monitors := rfl
@[simp] theorem State.withPorts_pairs (s : State) (ps : List PortAnswer) : (s.withPorts ps).pairs = s.pairs := rfl
@[simp] theorem State.withPorts_uart (s : State) (ps : List PortAnswer) : (s.withPorts ps).uart = s.uart := rfl
@[simp] theorem State.withPorts_jtag (s : State) (ps : List PortAnswer) : (s.withPorts ps).jtag = s.jtag := rfl
@[simp] theorem State.withPorts_rootlink (s : State) (ps : List PortAnswer) :
    (s.withPorts ps).rootlink = s.rootlink := rfl
@[simp] theorem State.withPorts_regrow (s : State) (ps : List PortAnswer) : (s.withPorts ps).regrow = s.regrow := rfl
@[simp] theorem State.withPorts_out (s : State) (ps : List PortAnswer) : (s.withPorts ps).out = s.out := rfl
@[simp] theorem State.withPorts_msix (s : State) (ps : List PortAnswer) : (s.withPorts ps).msix = s.msix := rfl
@[simp] theorem State.withPorts_bridges (s : State) (ps : List PortAnswer) : (s.withPorts ps).bridges = s.bridges := rfl
@[simp] theorem State.withPorts_sections (s : State) (ps : List PortAnswer) :
    (s.withPorts ps).sections = s.sections := rfl
@[simp] theorem State.withPorts_findings (s : State) (ps : List PortAnswer) :
    (s.withPorts ps).findings = s.findings := rfl
@[simp] theorem State.withPorts_free (s : State) (ps : List PortAnswer) : (s.withPorts ps).free = s.free := rfl
@[simp] theorem State.withPorts_pending (s : State) (ps : List PortAnswer) : (s.withPorts ps).pending = s.pending := rfl
@[simp] theorem State.withPorts_rd (s : State) (ps : List PortAnswer) (r : Nat) : (s.withPorts ps).rd r = s.rd r := rfl
@[simp] theorem State.withPorts_fld (s : State) (ps : List PortAnswer) (r m n : Nat) :
    (s.withPorts ps).fld r m n = s.fld r m n := rfl
@[simp] theorem State.withPorts_flag (s : State) (ps : List PortAnswer) (r n : Nat) :
    (s.withPorts ps).flag r n = s.flag r n := rfl
@[simp] theorem State.withPorts_glade (s : State) (ps : List PortAnswer) (d : Nat) :
    (s.withPorts ps).glade d = s.glade d := rfl
@[simp] theorem State.withPorts_txu (s : State) (ps : List PortAnswer) (k : Nat) :
    (s.withPorts ps).txu k = s.txu k := rfl
@[simp] theorem State.withPorts_journal (s : State) (ps : List PortAnswer) (k : Nat) :
    (s.withPorts ps).journal k = s.journal k := rfl
@[simp] theorem State.withPorts_pair (s : State) (ps : List PortAnswer) (k : Nat) :
    (s.withPorts ps).pair k = s.pair k := rfl
@[simp] theorem State.withPorts_link (s : State) (ps : List PortAnswer) (k : Nat) :
    (s.withPorts ps).link k = s.link k := rfl
@[simp] theorem State.withPorts_byteAt (s : State) (ps : List PortAnswer) (y : Nat) :
    (s.withPorts ps).byteAt y = s.byteAt y := rfl

/-! ### What `State.find` leaves -/

@[simp] theorem State.find_ctl (s : State) (f : Finding) : (s.find f).ctl = s.ctl := rfl
@[simp] theorem State.find_mem (s : State) (f : Finding) : (s.find f).mem = s.mem := rfl
@[simp] theorem State.find_ecc (s : State) (f : Finding) : (s.find f).ecc = s.ecc := rfl
@[simp] theorem State.find_dramCheck (s : State) (f : Finding) : (s.find f).dramCheck = s.dramCheck := rfl
@[simp] theorem State.find_stuck (s : State) (f : Finding) : (s.find f).stuck = s.stuck := rfl
@[simp] theorem State.find_readErrs (s : State) (f : Finding) : (s.find f).readErrs = s.readErrs := rfl
@[simp] theorem State.find_ports (s : State) (f : Finding) : (s.find f).ports = s.ports := rfl
@[simp] theorem State.find_spoiled (s : State) (f : Finding) : (s.find f).spoiled = s.spoiled := rfl
@[simp] theorem State.find_scrub (s : State) (f : Finding) : (s.find f).scrub = s.scrub := rfl
@[simp] theorem State.find_glades (s : State) (f : Finding) : (s.find f).glades = s.glades := rfl
@[simp] theorem State.find_snaps (s : State) (f : Finding) : (s.find f).snaps = s.snaps := rfl
@[simp] theorem State.find_qm (s : State) (f : Finding) : (s.find f).qm = s.qm := rfl
@[simp] theorem State.find_txus (s : State) (f : Finding) : (s.find f).txus = s.txus := rfl
@[simp] theorem State.find_jw (s : State) (f : Finding) : (s.find f).jw = s.jw := rfl
@[simp] theorem State.find_drives (s : State) (f : Finding) : (s.find f).drives = s.drives := rfl
@[simp] theorem State.find_media (s : State) (f : Finding) : (s.find f).media = s.media := rfl
@[simp] theorem State.find_unflushed (s : State) (f : Finding) : (s.find f).unflushed = s.unflushed := rfl
@[simp] theorem State.find_keeper (s : State) (f : Finding) : (s.find f).keeper = s.keeper := rfl
@[simp] theorem State.find_est (s : State) (f : Finding) : (s.find f).est = s.est := rfl
@[simp] theorem State.find_time (s : State) (f : Finding) : (s.find f).time = s.time := rfl
@[simp] theorem State.find_board (s : State) (f : Finding) : (s.find f).board = s.board := rfl
@[simp] theorem State.find_sampler (s : State) (f : Finding) : (s.find f).sampler = s.sampler := rfl
@[simp] theorem State.find_power (s : State) (f : Finding) : (s.find f).power = s.power := rfl
@[simp] theorem State.find_monitors (s : State) (f : Finding) : (s.find f).monitors = s.monitors := rfl
@[simp] theorem State.find_pairs (s : State) (f : Finding) : (s.find f).pairs = s.pairs := rfl
@[simp] theorem State.find_uart (s : State) (f : Finding) : (s.find f).uart = s.uart := rfl
@[simp] theorem State.find_jtag (s : State) (f : Finding) : (s.find f).jtag = s.jtag := rfl
@[simp] theorem State.find_rootlink (s : State) (f : Finding) : (s.find f).rootlink = s.rootlink := rfl
@[simp] theorem State.find_regrow (s : State) (f : Finding) : (s.find f).regrow = s.regrow := rfl
@[simp] theorem State.find_out (s : State) (f : Finding) : (s.find f).out = s.out := rfl
@[simp] theorem State.find_msix (s : State) (f : Finding) : (s.find f).msix = s.msix := rfl
@[simp] theorem State.find_bridges (s : State) (f : Finding) : (s.find f).bridges = s.bridges := rfl
@[simp] theorem State.find_sections (s : State) (f : Finding) : (s.find f).sections = s.sections := rfl
@[simp] theorem State.find_free (s : State) (f : Finding) : (s.find f).free = s.free := rfl
@[simp] theorem State.find_pending (s : State) (f : Finding) : (s.find f).pending = s.pending := rfl
@[simp] theorem State.find_rd (s : State) (f : Finding) (r : Nat) : (s.find f).rd r = s.rd r := rfl
@[simp] theorem State.find_fld (s : State) (f : Finding) (r m n : Nat) : (s.find f).fld r m n = s.fld r m n := rfl
@[simp] theorem State.find_flag (s : State) (f : Finding) (r n : Nat) : (s.find f).flag r n = s.flag r n := rfl
@[simp] theorem State.find_glade (s : State) (f : Finding) (d : Nat) : (s.find f).glade d = s.glade d := rfl
@[simp] theorem State.find_txu (s : State) (f : Finding) (k : Nat) : (s.find f).txu k = s.txu k := rfl
@[simp] theorem State.find_journal (s : State) (f : Finding) (k : Nat) : (s.find f).journal k = s.journal k := rfl
@[simp] theorem State.find_pair (s : State) (f : Finding) (k : Nat) : (s.find f).pair k = s.pair k := rfl
@[simp] theorem State.find_link (s : State) (f : Finding) (k : Nat) : (s.find f).link k = s.link k := rfl
@[simp] theorem State.find_byteAt (s : State) (f : Finding) (y : Nat) : (s.find f).byteAt y = s.byteAt y := rfl

end Sys2Proof.Machine
end

