-- ==== Sys2Proof/Laws/Memory.lean ====
section
/-! SUPPORT. Laws of memory: a byte read after bytes, code words or bursts are stored, and the canonical form, which
every operation that changes memory keeps. -/

namespace Sys2Proof.Machine

/-! ### Bytes written -/

theorem State.setBytes_eq (s : State) (a : Nat) (bs : List Byte) :
    s.setBytes a bs = { s with mem := (s.setBytes a bs).mem } := by
  induction bs generalizing s a with
  | nil => rfl
  | cons b bs ih => exact ih (s.setByte a b) (a + 1)

/-- Bytes stored from `a` upward read back, and every other byte is as it was. -/
theorem State.byteAt_setBytes (s : State) (a x : Nat) (bs : List Byte) :
    (s.setBytes a bs).byteAt x = if a ≤ x then (bs[x - a]?).getD (s.byteAt x) else s.byteAt x := by
  induction bs generalizing s a with
  | nil => simp [State.setBytes]
  | cons b bs ih =>
    rw [State.setBytes, ih]
    by_cases h : a + 1 ≤ x
    · have h1 : a ≤ x := by omega
      have h2 : x - a = x - (a + 1) + 1 := by omega
      have h3 : x ≠ a := by omega
      simp [h, h1, h2, h3]
    · by_cases h1 : x = a
      · subst h1
        rw [if_neg h]
        simp
      · have : ¬ a ≤ x := by omega
        simp [h, h1, this]

theorem State.byteAt_setBytes_out (s : State) {a x : Nat} {bs : List Byte} (h : x < a ∨ a + bs.length ≤ x) :
    (s.setBytes a bs).byteAt x = s.byteAt x := by
  rw [State.byteAt_setBytes]
  split
  · have : bs.length ≤ x - a := by omega
    simp [this]
  · rfl

@[simp] theorem State.byteAt_setCode (s : State) (w x : Nat) (c : CodeWord) :
    (s.setCode w c).byteAt x = (s.setBytes w (bytesLE 8 (c.toNat % 2 ^ 64))).byteAt x := rfl

@[simp] theorem State.byteAt_setBurst (s : State) (b x : Nat) (bs : List Byte) (k : BitVec 128) :
    (s.setBurst b bs k).byteAt x = (s.setBytes b bs).byteAt x := rfl

/-! ### The canonical form -/

theorem State.setByte_wf (s : State) (a : Nat) (b : Byte) (h : Memory.wf s.mem = true) :
    Memory.wf (s.setByte a b).mem = true := smWf_smSet a b h

theorem State.setBytes_wf (s : State) (a : Nat) (bs : List Byte) (h : Memory.wf s.mem = true) :
    Memory.wf (s.setBytes a bs).mem = true := by
  induction bs generalizing s a with
  | nil => exact h
  | cons b bs ih => exact ih _ _ (s.setByte_wf a b h)

theorem State.setCode_wf (s : State) (w : Nat) (c : CodeWord) (h : Memory.wf s.mem = true) :
    Memory.wf (s.setCode w c).mem = true := s.setBytes_wf w _ h

theorem State.setBurst_wf (s : State) (b : Nat) (bs : List Byte) (k : BitVec 128) (h : Memory.wf s.mem = true) :
    Memory.wf (s.setBurst b bs k).mem = true := s.setBytes_wf b bs h

/-- A fold of steps each of which leaves memory leaves memory. -/
theorem foldl_mem {α : Type} (f : State → α → State) (hf : ∀ s x, (f s x).mem = s.mem) (l : List α) (s : State) :
    (l.foldl f s).mem = s.mem := by
  induction l generalizing s with
  | nil => rfl
  | cons x l ih => rw [List.foldl_cons, ih, hf]

/-- A bulk clear removes the bytes of its range, which then read 0, and no other. -/
theorem State.bulkClear_mem (s : State) (base n : Nat) :
    (s.bulkClear base n).mem = s.mem.filter (fun p => !(decide (base ≤ p.1 ∧ p.1 < base + n))) := by
  unfold State.bulkClear
  rw [foldl_mem]
  · rfl
  · intro s g
    dsimp only
    split <;> rfl

theorem State.byteAt_bulkClear (s : State) (base n x : Nat) :
    (s.bulkClear base n).byteAt x = if base ≤ x ∧ x < base + n then 0#8 else s.byteAt x := by
  unfold State.byteAt
  rw [State.bulkClear_mem, smGet_filter (fun k => !(decide (base ≤ k ∧ k < base + n)))]
  by_cases h : base ≤ x ∧ x < base + n <;> simp [h]

theorem State.bulkClear_wf (s : State) (base n : Nat) (h : Memory.wf s.mem = true) :
    Memory.wf (s.bulkClear base n).mem = true := by
  rw [State.bulkClear_mem]; exact smWf_filter _ h

theorem State.fillChannel_wf (s : State) (n upto : Nat) (h : Memory.wf s.mem = true) :
    Memory.wf (s.fillChannel n upto).mem = true := by
  unfold State.fillChannel
  dsimp only
  split
  · exact h
  · exact smWf_filter _ h

theorem State.afterReset_wf (s : State) (h : Memory.wf s.mem = true) : Memory.wf s.afterReset.mem = true :=
  smWf_filter _ h

theorem State.finishLine_wf (s : State) (h : Memory.wf s.mem = true) : Memory.wf s.finishLine.mem = true := by
  unfold State.finishLine
  split
  · exact h
  · exact s.setBytes_wf _ _ h

end Sys2Proof.Machine
end

