-- ==== Sys2Proof/WellFormed.lean ====
section
/-! DEFINITION. Well-formed commands: the operands that a sender outside the part can really present. The meanings are
total and do not rely on it. -/

namespace Sys2Proof

/-- A flit carries a header and six payload words beside its CRC (R458). -/
def Flit.wf (f : Flit) : Bool := f.words.length == 6

/-- A host request moves 1 to 4,096 bytes (R441). -/
def HostReq.wf : HostReq → Bool
  | .read n => 1 ≤ n && n ≤ 4096
  | .write d => 1 ≤ d.length && d.length ≤ 4096

/-- An inbound request moves 1 to 4,096 bytes within 64-bit addresses (R439). -/
def InboundReq.wf : InboundReq → Bool
  | .read a n => decide (a + n ≤ 2 ^ 64) && 1 ≤ n && n ≤ 4096
  | .write a d => decide (a + d.length ≤ 2 ^ 64) && 1 ≤ d.length && d.length ≤ 4096
  | .other => true

/-- The flash answers a read with at most 256 bytes, and changes at most a sector of 4,096 (R448). -/
def FlashReply.wf (r : FlashReply) : Bool := r.data.length ≤ 256 && r.stored.length ≤ 4096

/-- An I2C device answers at most 32 bytes (R449). -/
def BoardReply.wf (r : BoardReply) : Bool := r.flash.wf && r.i2cData.length ≤ 32

/-- The ROM finds four DDR channels (R257). -/
def BootWorld.wf (w : BootWorld) : Bool := w.dram.length == 4

/-- There are 17 temperature sensors (R528). -/
def TempSensors.wf (t : TempSensors) : Bool := t.groves.length == 16

/-- Every operand is one that its sender can present. -/
def Instr.wf : Instr → Bool
  | .porstNRelease w => w.wf
  | .holdupNRiseInStructure w => w.wf
  | .holdupReturn w => w.wf
  | .brownout _ w => w.wf
  | .tempSample t => t.wf
  | .lookoutSample r => r.temp.wf
  | .bar0StagingWrite _ d => 1 ≤ d.length && d.length ≤ 4096
  | .bundleIssue _ _ _ r => r.wf
  | .storeDrain _ _ _ r => r.wf
  | .m3Ld _ _ _ r => r.wf
  | .m3Ldb _ _ _ r => r.wf
  | .ethFrameReceive _ f _ _ _ => 1 ≤ f.length && f.length ≤ 16384
  | .pcieInboundRequest _ _ r => r.wf
  | .hostBarAccess _ _ q r => q.wf && r.wf
  | .svcAccess _ _ _ r => r.wf
  | .xspiCmd _ r => r.wf
  | .i2cTransfer _ _ bs => bs.length ≤ 32
  | .idle _ f => f.wf
  | .data _ f => f.wf
  | .blaze _ f => f.wf
  | .timeSync _ f => f.wf
  | .timeReq _ f => f.wf
  | .timeResp _ f => f.wf
  | .nak _ f => f.wf
  | .join _ f => f.wf
  | .assign _ f => f.wf
  | .bootReq _ f => f.wf
  | .bootData _ f => f.wf
  | .bootEnd _ f => f.flit.wf
  | .bootResult _ f => f.wf
  | .negOffer _ f => f.wf
  | .negSet _ f => f.wf
  | .blazeReq _ f => f.wf
  | .blazeDone _ f => f.wf
  | .msg _ f => f.wf
  | _ => true

end Sys2Proof
end

