-- ==== Sys2Proof/Tests/Slice0.lean ====
section
/-! SUPPORT. The package's own tests: small states, a witness for the hypotheses of every statement, and single steps. -/

namespace Sys2Proof.Tests

open Sys2Proof.Machine

set_option Elab.async false

/-! ### Small states -/

/-- A control space in which domains 2, 4 and 20 are on: the Heartwood, Grove 0 and its memory. -/
def domsOn : SMap W64 := [(Reg.PWR_DOM 2, 0x10#64), (Reg.PWR_DOM 4, 0x10#64), (Reg.PWR_DOM 20, 0x10#64)]

/-- A running core at rest. -/
def idleCore : Glade := { Glade.reset with run := .running }

/-- GLADE bodies: Glade 0 has three buses, a full LSU, stack mode, and every unit on bus 0 (R46). -/
def gladeSec : List Byte := bytesLE 8 0x1111111111B

/-- A device in which Glade 0 and the Heartwood are `x` and `y`. -/
def cores (x y : Glade) : State :=
  { State.reset with ctl := domsOn, sections := [(0x10, gladeSec)], glades := [(0, x), (256, y)] }

/-- Both running and at rest. -/
def calm : State := cores idleCore idleCore

/-- Control register `a` set to `v`, and nothing else different. -/
def withReg (s : State) (a : Nat) (v : W64) : State := s.wr a v

/-- Several control registers. -/
def withRegs (s : State) (rs : List (Nat × W64)) : State := rs.foldl (fun s p => s.wr p.1 p.2) s

/-! ### The block as a whole -/

theorem witness_emptyQueueTicks :
    State.reset.pending = [] ∧ State.reset.timeRuns = false
      ∧ (withReg State.reset (Reg.UST_ISL 25) 1#64).timeRuns = true
      ∧ (withReg State.reset (Reg.UST_ISL 25) 1#64).pending = [] := by decide +kernel

theorem witness_resetState : (regAt Reg.PWR_MODE).isSome = true ∧ Reg.PWR_MODE ≠ Reg.HW_ID := by decide +kernel

theorem witness_stepKeepsMemory :
    let s := { State.reset with pending := [.porstNAssert], mem := [(5, 7#8)] }
    Memory.wf s.mem = true ∧ isNext (step s) = true := by decide +kernel

theorem witness_commandsLeaveQueue : isNext (exec .porstNAssert State.reset) = true := by decide +kernel

theorem witness_restIsKept : State.reset.atRest = true ∧ calm.atRest = true := by decide +kernel

/-- A move at every field's largest value, an immediate of both kinds, and a NOP. -/
def slots0 : List MoveSlot :=
  [.nop, .move ⟨1, 63, some 63, 0#64, false, false, false⟩]

theorem witness_encodingsAgree : m3Bytes (.lit 0xFFFFFFFF#32) = (0x0A, [0xFF#8, 0xFF#8, 0xFF#8, 0xFF#8])
    ∧ M3Op.nop ≠ .unsupported := by decide +kernel

/-! ### Units and code -/

theorem witness_aluResults : (calm.glade 0).stuckBit = none
    ∧ (∀ o ∈ aluOps, calm.issues 0 (.alu 1 o) (TWord.plain 0x8000000000000000#64) noFlags = true) := by decide +kernel

/-- A DIV in flight into the last register, divisor 0. -/
def dividing : State :=
  cores { idleCore with divOp := some ⟨63, 0, 7#64, 0#64, 3, 0#64, false, false, []⟩, score := 0x8000000000000000#64 } idleCore

theorem witness_mulDivResults :
    (∀ o : MulOp, o ∈ [MulOp.mulu, .muls, .mulsu] → calm.issues 0 (.mul o) (TWord.plain 0x8000000000000000#64) noFlags = true)
      ∧ (∀ o ∈ [DivOp.divu, .divs, .remu, .rems], calm.issues 0 (.div o) (TWord.plain 0#64) noFlags = true)
      ∧ (dividing.glade 0).divOp.map (fun p => p.rd) = some 63 := by decide +kernel

theorem witness_shfResults :
    ∀ o ∈ shfOps, calm.issues 0 (.shf o) (TWord.plain 0x13F#64) noFlags = true := by decide +kernel

/-- A CKU block of two bytes in flight over IMEM, into G5. -/
def checking : State :=
  cores { idleCore with ckuOp := some ⟨5, 0, 0x10000#64, 2#64, 1, 0xFF#64, false, false, []⟩, score := 0x20#64 } idleCore

theorem witness_ckuAndBlocks :
    (∀ f ∈ [CrcFamily.c32c, .c64, .c16], calm.issues 0 (.crc f 3) (TWord.plain 0x0123456789ABCDEF#64) noFlags = true)
      ∧ (∀ o ∈ [CkuOp.par, .parb, .brev8, .brev16, .brev32], calm.issues 0 (.cku o) (TWord.plain 5#64) noFlags = true)
      ∧ (∀ f ∈ [0, 1, 2], calm.issues 0 (.block f) (TWord.plain 16777216#64) noFlags = true)
      ∧ checking.pairOf 0 = none
      ∧ (checking.glade 0).stores = [] ∧ ((checking.glade 0).ckuOp.map (checking.blockWaits 0)) = some false
      ∧ ((checking.glade 0).ckuOp.map (fun o => match ((checking.withPorts []).blockRead 0 o ⟨[], .timeout⟩ o.a.toNat (o.t.toNat + 1) o.t.toNat []).2 with
          | .ok bs => bs.length
          | .error _ => 0)) = some 2 := by decide +kernel

theorem witness_systemResults :
    calm.issues 0 .immSet (TWord.plain 7#64) noFlags = true ∧ calm.issues 256 .timeNow (TWord.plain 0#64) noFlags = true
      ∧ (∀ o ∈ sysOps, o ≠ .eret → o ≠ .rep → calm.issues 0 (.sys o) (TWord.plain 0#64) noFlags = true)
      ∧ calm.issues 0 (.sys .gettag) ⟨5#64, 9#4⟩ noFlags = true ∧ calm.isTrailing 256 = false
      ∧ (Trig.sys .rep).lastOnly = true ∧ (calm.glade 0).rep.owed ≤ 1
      ∧ calm.issues 0 (.sys .rep) (TWord.plain 0x1FFFF#64) noFlags = true
      ∧ calm.issues 0 (.sys .feat) (TWord.plain 2#64) noFlags = true := by decide +kernel

/-- In the handler bank, with a redirect saved. -/
def handling : State :=
  cores { idleCore with inHandler := true, masked := true, epc := 0x40#64, ebr := 0x10008#64, evec := 0x8100#64 } idleCore

theorem witness_branchResults :
    handling.issuesLast 0 (.sys .eret) (TWord.plain 0#64) noFlags = true
      ∧ (∀ o ∈ bruOps, ∀ f ∈ [⟨false, true, false⟩, ⟨true, false, true⟩],
          calm.issuesLast 0 (.bru o) (TWord.plain 0x7FEC#64) f = true)
      ∧ calm.issuesLast 0 (.bru .call) (TWord.plain 0#64) ⟨true, false, false⟩ = true := by decide +kernel

theorem witness_registerFrame :
    calm.issues 0 (.sys .bar) (TWord.plain 0#64) noFlags = true
      ∧ calm.issues 0 (.alu 1 .pass) ⟨5#64, 3#4⟩ noFlags = true
      ∧ handling.issues 0 (.sys .eret) (TWord.plain 0#64) noFlags = true ∧ (handling.glade 0).inHandler = true
      ∧ (handling.glade 0).stores = [] := by decide +kernel

/-- Glade 0 with `LSU.A` at its DMEM. -/
def addressing : State :=
  cores { idleCore with thread := { Bank.reset with lsuA := 0x10008#64, lsuB := 0x1122334455667788#64, lsuX := 1#64 } } idleCore

theorem witness_loadsAndStores :
    (∀ f ∈ [LsuForm.disp, .postInc, .preDec, .indexed], addressing.issues 0 (.lsu .ld f) (TWord.plain 8#64) noFlags = true)
      ∧ (∀ o ∈ lsuOps, addressing.issues 0 (.lsu o .disp) (TWord.plain 8#64) noFlags = true)
      ∧ addressing.isTransactional 0 0x10008 false = false ∧ addressing.isTrailing 0 = false := by decide +kernel

/-- Glade 0 in byte code with three cached entries: 7 below 6 below 0x10010 (an address), and room for more. -/
def stacking : State :=
  cores { idleCore with
    pc := 0x100#64
    evec := 0x8100#64
    rep := ⟨0, false, true, 3⟩
    grf := [(56, TWord.plain 7#64), (57, TWord.plain 6#64), (58, TWord.plain 0x10010#64)]
    thread := { Bank.reset with stkSP := 0x10FF4#64, stkSL := 0x10000#64, stkSB := 0x11000#64, stkNR := 0x18#64 } } idleCore

theorem witness_byteCodeResults :
    (∀ o ∈ [M3Op.nop, .drop, .dup, .swap, .over, .neg, .lit 0xFFFFFF80#32, .bin .add, .bin .sub, .bin .and, .bin .or,
        .bin .xor, .bin .mul, .bin .div, .bin .rem, .bin .shl, .bin .shr, .bin .sar, .ld false, .ld true, .st false,
        .st true], stacking.m3Ready 0 o 1 = true)
      ∧ stacking.regionOf (canon (.glade 0) 0x10010) = .dmem 0
      ∧ stacking.accessCheck (.glade 0) false 0x10010 4 0#64 = none
      ∧ stacking.accessCheck (.glade 0) true 0x10010 4 6#64 = none := by decide +kernel

/-- The cached entries of `stacking` go to two words of DMEM that read as they stand. -/
theorem witness_spills :
    stacking.m3SpillFault 0 (stacking.glade 0) .exit = none ∧ stacking.m3SpillFault 0 (stacking.glade 0) (.ncall 12#16) = none
      ∧ (stacking.glade 0).bank.stkSP.toNat = 0x10FF4 ∧ stacking.stuck = [] ∧ stacking.readErrs = []
      ∧ (∀ w ∈ [gladeBase 0 + 0x10FF0, gladeBase 0 + 0x10FF8], stacking.regionOf w = .dmem 0
        ∧ stacking.codeAt w = 0#73 ∧ codeData 0#73 = stacking.dataAt w)
      ∧ decodeWord (stacking.detectOnly (gladeBase 0 + 0x10FF0)) 0#73 = .ok 0#73 := by decide +kernel

theorem witness_byteCodeFlow :
    (∀ o ∈ [M3Op.jmp 0xFFFF#16, .jz 5#16, .jnz 5#16, .call 5#16, .ncall 12#16], stacking.m3Ready 0 o 3 = true)
      ∧ (∀ o ∈ [M3Op.ret, .exit, .unsupported], stacking.m3Ready 0 o 1 = true)
      ∧ 12 % stacking.bundleSize 0 = 0 ∧ 12 ≤ stacking.highestBundle 0
      ∧ m3Decode 0x3E [] = .unsupported ∧ stacking.pairOf 0 = none ∧ bit (stacking.glade 0).evec 15 = true
      ∧ (cores { idleCore with thread := { Bank.reset with stkSP := 0x11000#64, stkSL := 0x10000#64, stkSB := 0x11000#64 } }
          idleCore).issuesLast 0 .stkEnter (TWord.plain 0x7FFF#64) noFlags = true := by decide +kernel

/-! ### Bundles, entries and answers -/

/-- A MOVE between general registers. -/
def gmove (bus dst src : Nat) : MoveSlot := .move ⟨bus, dst, some src, 0#64, false, false, false⟩

/-- A bundle that swaps G1 and G2, at the start of the Heartwood's memory. -/
def swapping : State :=
  { cores idleCore { idleCore with grf := [(1, ⟨7#64, 3#4⟩), (2, TWord.plain 9#64)] } with
    mem := [(hwMemBase, 0x80#8), (hwMemBase + 2, 0x04#8), (hwMemBase + 3, 0x20#8), (hwMemBase + 5, 0x01#8),
      (hwMemBase + 6, 0x02#8), (hwMemBase + 7, 0x20#8), (hwMemBase + 11, 0xE0#8)]
    ecc := [(hwMemBase / 8, 0x059#9), (hwMemBase / 8 + 1, 0x001#9)] }

theorem witness_bundleMovesAtOnce :
    let x := swapping.glade 256
    let bs := [gmove 0 2 1, gmove 1 1 2, .nop].flatMap (fun sl => bytesLE 4 (slotWord sl))
    swapping.pairOf 256 = none ∧ swapping.mayIssue 256 false = true ∧ x.repBundle = none
      ∧ (swapping.fetchCode 256 x.pc.toNat (swapping.bundleSize 256)).2 = some bs ∧ (swapping.ready 256).2.isGo = true
      ∧ (slotsOf (swapping.buses 256) bs).map (fun sl => (sl.move?).map (fun m => (m.dst, m.src)))
        = [some (2, some 1), some (1, some 2), none] := by decide +kernel

/-- Glade 0 before a bundle whose slots are reserved, with an event pending for it, and a redirect still due. -/
def entering : State :=
  withRegs (cores { idleCore with started := true, evec := 0x8100#64, redirect := some (0x60#64, 2) }
      { idleCore with evec := 0x8100#64, failures := [⟨0, 63, 2, 0x1234⟩] })
    [(Reg.TLY_ROUTE 0, 0x10001#64), (Reg.TLY_CNT 0, 1#64), (Reg.PWR_DOM 36, 0x10#64)]

theorem witness_entriesSaveState :
    entering.runs 0 = true ∧ entering.pairOf 0 = none ∧ (entering.glade 0).rep.byteCode = false ∧ entering.holdOf 0 = .go
      ∧ (match (entering.ready 0).2 with
        | .cause _ e => e.cls + 256 * e.detail
        | _ => 0) = 257
      ∧ bit (entering.glade 0).evec 15 = true ∧ (entering.glade 0).inHandler = false
      ∧ (entering.glade 256).report.map (fun f => f.rd) = some 63 ∧ entering.eventDue 0 = true := by decide +kernel

/-- Glade 0 with an event pending, its next bundle held by a BAR while a DIV runs. -/
def heldByBar : State :=
  withRegs (cores { idleCore with
      started := true
      evec := 0x8100#64
      barWait := .bar
      divOp := some ⟨5, 0, 0#64, 0#64, 0, 0#64, false, false, []⟩ } idleCore)
    [(Reg.TLY_ROUTE 0, 0x10001#64), (Reg.TLY_CNT 0, 1#64), (Reg.PWR_DOM 36, 0x10#64)]

/-- The Heartwood before a bundle that raises nothing, with a failed operation to report. -/
def reporting : State :=
  swapping.updGlade 256 (fun x => { x with evec := 0x8100#64, failures := [⟨0, 63, 2, 0x1234⟩] })

theorem witness_boundaries :
    entering.earlierOpen 0 = false ∧ heldByBar.runs 0 = true ∧ heldByBar.eventDue 0 = true
      ∧ (heldByBar.glade 0).report = none ∧ (heldByBar.glade 0).watchdogDue = false
      ∧ ((reporting.glade 256).report.map (fun f => f.rd)) = some 63 ∧ reporting.runs 256 = true
      ∧ [heldByBar.atBoundary 0, reporting.atBoundary 256].all (fun p => match p.2 with
        | .none => true
        | _ => false) = true := by decide +kernel

/-- Glade 0 with a load of a PCIe window in flight and the Heartwood with one of its memory, each on its way to `LSU.Q`;
a store of Glade 1 to its own DMEM. -/
def loading : State :=
  let waits := { Bank.reset with pos := 1, due := [⟨2, .loadWait⟩] }
  { cores idleCore idleCore with
    glades := [(0, { idleCore with
        evec := 0x8100#64, thread := waits, opSeq := 1
        loads := [⟨0, 1, false, 0x8000000000, 0x8000000000, 2, true, false, 0, true, none⟩] }),
      (1, { idleCore with stores := [⟨0, gladeBase 1 + 0x10008, List.replicate 8 0xA5#8, 0, false⟩] }),
      (256, { idleCore with thread := waits, opSeq := 1, loads := [⟨0, 1, false, hwMemBase, hwMemBase, 8, false, false, 0, false, none⟩] })] }

theorem witness_memoryAnswers :
    (∀ c ∈ [0, 256], (loading.glade c).loads.length = 1 ∧ (∃ d ∈ (loading.glade c).thread.due, d.pos = 2 ∧ d.val = .loadWait)
        ∧ loading.isTrailing c = false)
      ∧ ((loading.glade 256).loads.map (fun l => match loading.loadTarget 256 l [.done, .done] with
          | some (_, .ok bs) => bs.length
          | _ => 0)) = [8]
      ∧ loading.regionOf 0x8000000000 = .pcie 0 ∧ ((loading.glade 0).loads.map (fun l => (l.asked, l.dead))) = [(true, none)]
      ∧ (∀ c ∈ [0, 256], (loading.glade c).heldBack 0 = false)
      ∧ loading.pairOf 0 = none ∧ bit (loading.glade 0).evec 15 = true ∧ loading.snaps = []
      ∧ loading.mayDrain 1 0 = true ∧ loading.regionOf (gladeBase 1 + 0x10008) = .dmem 1
      ∧ (gladeBase 1 + 0x10008) % 8 = 0 ∧ loading.flag (Reg.GRV_INJECT 0) 63 = false := by decide +kernel

/-- Glade 0 with `LSU.A` in its Grove's memory and a transaction whose sets hold the words `ws` and the granules `rs`. -/
def transacting (ws : List (Nat × W64 × Bool)) (rs : List Nat) : State :=
  { cores { idleCore with
      thread := { Bank.reset with lsuA := w64 (groveMemBase 0 + 0x1000), lsuB := 0x1122334455667788#64 } } idleCore with
    txus := [(0, { Txu.reset with txns := [(0, some { Txn.new with wset := ws, rset := rs })] })] }

/-- The premises of transactional stores, with sets that have room and sets that are full. -/
theorem witness_transactionalStores :
    [0#64, 2#64, 7#64].all (fun v => (transacting [] []).issues 0 (.lsu .sh .disp) (TWord.plain v) noFlags) = true
      ∧ (transacting [] []).isTransactional 0 (groveMemBase 0 + 0x1007) false = true
      ∧ (transacting [] []).isTrailing 0 = false ∧ (transacting [] []).ticketMode 0 = false
      ∧ decodeWord ((transacting [] []).detectOnly (groveMemBase 0 + 0x1000))
          ((transacting [] []).codeAt (groveMemBase 0 + 0x1000)) = .ok 0#73
      ∧ ((transacting ((List.range 256).map (fun k => (groveMemBase 0 + 8 * k, 0#64, false))) (List.range 512)).openTxn 0).map
          (fun x => (x.wset.length, x.rset.length)) = some (256, 512) := by decide +kernel

/-- The same with a load of four bytes in flight. -/
def transactingLoad (ws : List (Nat × W64 × Bool)) : State :=
  (transacting ws []).updGlade 0 (fun x => { x with
    thread := { x.thread with pos := 1, due := [⟨2, .loadWait⟩] }
    opSeq := 1
    loads := [⟨0, 1, false, groveMemBase 0 + 0x1002, groveMemBase 0 + 0x1002, 4, false, true, 0, false, none⟩] })

theorem witness_transactionalLoads :
    ∀ ws ∈ [[], [(groveMemBase 0 + 0x1000, 5#64, false)]], let s := transactingLoad ws
      (s.openTxn 0).isSome = true ∧ s.accessWaits (groveMemBase 0 + 0x1002) = false
        ∧ s.regionOf (groveMemBase 0 + 0x1002) = .groveMem 0
        ∧ (s.glade 0).loads.all (fun l => l.txn && l.words.all (· == groveMemBase 0 + 0x1000)
          && (match s.servedFor 0 l with | .memory => true | _ => false)
          && (match s.loadTarget 0 l [.done, .done] with | some (_, .ok bs) => bs.length == 4 | _ => false)) = true := by
  decide +kernel

/-! ### Ports -/

/-- QM body: queues 0 to 15 in Grove 0, partition 0 (R51, R52). -/
def qmSec : List Byte := List.replicate 8 0#8 ++ bytesLE 8 1 ++ bytesLE 4 0 ++ bytesLE 4 16 ++ List.replicate 8 0#8

/-- JOURNALS body: persistent journal 1 with two segments of 64 KiB on drive 0, ring 2 of 64 KiB in DRAM (R48, R50). -/
def journalSec : List Byte :=
  bytesLE 8 2 ++ (bytesLE 2 1 ++ [0#8, 0#8, 16#8] ++ List.replicate 3 0#8 ++ bytesLE 8 1 ++ bytesLE 8 0 ++ bytesLE 8 0x20000)
    ++ (bytesLE 2 2 ++ [0#8, 1#8, 16#8] ++ List.replicate 3 0#8 ++ bytesLE 8 0 ++ bytesLE 8 dramBase ++ bytesLE 8 0x10000)

/-- A device with queues 0 and 1 enabled, cells for them, both engines on, 1 GiB of DRAM, and both journals open. -/
def served (x : Glade) : State :=
  { cores x idleCore with
    sections := [(0x10, gladeSec), (0x30, qmSec), (0x31, journalSec)]
    ctl := (withRegs calm [(Reg.NEG_LOCK, 1#64), (Reg.NEG_ACCEPT 0, 0xFFFFFFFFFFFFFFFF#64), (Reg.QM_STATUS, 3#64), (Reg.QM_GPOOL 0, 0x640000#64), (Reg.JW_JSTATE 1, 2#64),
      (Reg.JW_JSTATE 2, 2#64), (Reg.DDR_CH_CFG 0, 0x10001#64), (Reg.DDR_CH_WMARK 0, 0x8000000040000000#64)]).ctl
    qm := { Qm.reset with cache := [⟨0, { Desc.reset with enabled := true }, false⟩, ⟨1, { Desc.reset with enabled := true }, false⟩] } }

/-- Nothing is open. -/
def fresh : State := served { idleCore with jauA := 2#64, jauRD := 63#64, txuRD := 63#64 }

/-- A packet is open for reading on cursor 0, its last word buffered, and one for writing on cursor 1; a record is
open. -/
def busyPorts : State :=
  served { idleCore with
    qpuA := 0x100001#64
    reads := [(0, some ⟨0, 2#64, 0, 3, 2, [], [.data 5#64], false⟩)]
    writes := [(1, some ⟨1, [7#64], [], 0, false⟩)]
    record := some ⟨2, [9#64], false, 0⟩ }

theorem journalsSound_of (s : State) (h : ∀ i < s.secLE 0x31 0 4, s.secLE 0x31 (8 + 32 * i) 2 < 4096) : s.journalsSound := by
  intro j c hc
  unfold State.jcfg at hc
  cases hf : (List.range (s.secLE 0x31 0 4)).find? (fun i => s.secLE 0x31 (8 + 32 * i) 2 == j) with
  | none => simp [hf] at hc
  | some i =>
    have hj := List.find?_some hf
    have hi := List.mem_range.mp (List.mem_of_find?_eq_some hf)
    have := h i hi
    simp at hj
    omega

theorem witness_enqueueResults :
    fresh.isTrailing 0 = false
      ∧ (∀ t ∈ [0#4, 2#4, 3#4, 8#4, 9#4], fresh.issues 0 (.qpu .putt) ⟨7#64, t⟩ noFlags = true)
      ∧ (∀ o ∈ [QpuOp.put, .putl, .abandon], fresh.issues 0 (.qpu o) ⟨7#64, 0#4⟩ noFlags = true
          ∧ busyPorts.issues 0 (.qpu o) ⟨7#64, 0#4⟩ noFlags = true) := by decide +kernel

/-- The packet that PUTL or PUTT closes is linked by its queue. -/
theorem witness_enqueueLinks :
    (∀ p ∈ [(fresh, QpuOp.putl, 0#4), (busyPorts, .putl, 0#4), (fresh, .putt, 2#4), (fresh, .putt, 3#4)],
      p.1.qpuAtOnce 0 = true ∧ p.1.qm.cache.length ≤ 4000
        ∧ (let a := p.1.before 0 (.qpu p.2.1) ⟨7#64, p.2.2⟩ noFlags
          let sp := (a.settledGlade 0).qpuSpec p.2.1 ⟨7#64, p.2.2⟩
          match a.qpuWrite 0 p.2.1 sp ⟨7#64, p.2.2⟩ with
          | (b, .link w) => decide (b.queueCode (specQueue sp) = 0 ∧ (b.peekDesc (specQueue sp)).group < 4096)
              && ((b.touchDesc (specQueue sp)).linkPacket (specQueue sp) w.cells w.words.length false false
                (p.1.leaderOf 0) 0).2.isSome
          | _ => false) = true) := by decide +kernel

/-- A QPU operation of Glade 0 in flight, and room in the buffer of a packet of 40 words. -/
def streaming : State :=
  served { idleCore with
    qpuOps := [⟨63, 4, ⟨5#64, 3#4⟩, none, none⟩, ⟨7, 5, ⟨0#64, 0#4⟩, none, some (2, 0x1000)⟩]
    score := 0x8000000000000080#64
    reads := [(3, some ⟨0, 40#64, 0, 32, 1, [0], List.replicate 31 (.data 5#64), false⟩)] }

theorem witness_dequeueResults :
    (∀ o ∈ [QpuOp.deq, .skip, .depth, .flush], fresh.issues 0 (.qpu o) (TWord.plain 0#64) noFlags = true)
      ∧ busyPorts.issues 0 (.qpu .deq) (TWord.plain 0#64) noFlags = true
      ∧ busyPorts.issues 0 (.qpu .skip) (TWord.plain 0#64) noFlags = true
      ∧ (busyPorts.readPkt 0 0).map (fun r => (r.lost, r.buf)) = some (false, [.data 5#64])
      ∧ fresh.readPkt 0 0 = none ∧ fresh.deqReady 0 = false ∧ fresh.engineOn 0 = true
      ∧ fresh.qpuAtOnce 0 = true ∧ busyPorts.qpuAtOnce 0 = true ∧ (fresh.peekDesc 0).enabled = true ∧ (fresh.peekDesc 0).packets = 0 ∧ (fresh.peekDesc 2).enabled = false
      ∧ ((streaming.glade 0).qpuOps.map (fun o => (o.rd, o.fail))) = [(63, none), (7, some (2, 0x1000))]
      ∧ (streaming.readPkt 0 3).map (fun r => (r.lost, r.buf.length, r.nextStream, field r.header 11 0))
        = some (false, 31, 32, 40) := by decide +kernel

/-- A packet of two words waits in queue 0. -/
def filled : State := fresh.enqueue 0 0 [5#64, 6#64]

/-- The queues lie in Grove 1's memory, which is waking. -/
def retained : State :=
  { withReg fresh (Reg.PWR_DOM 21) 0x30#64 with
    sections := [(0x10, gladeSec), (0x30, qmSec.take 25 ++ [1#8] ++ List.replicate 6 0#8), (0x31, journalSec)] }

theorem witness_dequeueOpens :
    filled.issues 0 (.qpu .deq) (TWord.plain 0#64) noFlags = true ∧ filled.qpuAtOnce 0 = true
      ∧ filled.queueWaits 0 = false ∧ filled.deqReady 0 = true ∧ filled.readPkt 0 0 = none ∧ (filled.peekDesc 0).packets = 1
      ∧ (match filled.openReach 0 with
        | (b, some (h, cells)) => field h 11 0 == 2 && (match (b.pktWord cells 1).2 with | .data w => w == 5#64 | _ => false)
        | _ => false) = true
      ∧ filled.issues 0 (.qpu .flush) (TWord.plain 0#64) noFlags = true ∧ filled.engineOn 0 = true
      ∧ (filled.peekDesc 0).enabled = true ∧ (filled.peekDesc 0).broken = false
      ∧ filled.flag Reg.SAF_STATUS (32 + (filled.queueInfo 0).grove) = false
      ∧ retained.queueWaits 0 = true ∧ retained.issues 0 (.qpu .deq) (TWord.plain 0#64) noFlags = true
      ∧ retained.qpuAtOnce 0 = true := by decide +kernel

/-- A SEAL of Glade 0 bound to a code and one of Glade 1 whose SYNC record is durable; closed records of both. -/
def closing : State :=
  let waits := { Bank.reset with pos := 1, due := [⟨2, .jauWait⟩] }
  { served idleCore with
    glades := [
      (0, { idleCore with thread := waits, sealOp := some ⟨63, 0, 5, false, 2, 0⟩, score := 0x8000000000000000#64 }),
      (1, { idleCore with thread := waits, sealOp := some ⟨5, 0, 1, false, 0, 4⟩, score := 0x20#64 })]
    jw := { Jw.reset with
      journals := [(1, { Journal.reset with durSync := 4, segOpen := true, nextSeg := 1, off := 100 }),
        (2, { Journal.reset with segOpen := true, nextSeg := 1, off := 100 })]
      closed := [⟨0, 1, false, ⟨9, 0x80, 0, [1#8]⟩⟩, ⟨1, 1, false, ⟨2, 0x81, 1, [1#8, 2#8, 3#8]⟩⟩] } }

theorem witness_appendAndSeal :
    (∀ o ∈ [JauOp.put, .putl, .close, .abandon], fresh.issues 0 (.jau o) ⟨5#64, 0#4⟩ noFlags = true)
      ∧ fresh.issues 0 (.jau .putt) ⟨5#64, 3#4⟩ noFlags = true ∧ fresh.issues 0 (.jau .putt) ⟨5#64, 8#4⟩ noFlags = true
      ∧ busyPorts.issues 0 (.jau .putl) ⟨5#64, 0#4⟩ noFlags = true
      ∧ (fresh.openRec 0).isNone = true ∧ (fresh.joinTxn 0).isNone = true
      ∧ fresh.issues 0 (.jau .seal) (TWord.plain 0x1002#64) noFlags = true
      ∧ closing.pairOf 0 = none ∧ closing.pairOf 1 = none ∧ closing.jstate 1 = 2 ∧ (closing.journal 1).durSync = 4
      ∧ (closing.jw.closed.map (fun r => (r.glade, closing.closeCode r.record.journal r.record.payload.length,
          (closing.jcfg r.record.journal).map (fun c => c.ring), closing.jstate r.record.journal)))
        = [(0, some 2, none, 0), (1, none, some true, 2)] := by decide +kernel

/-- Glade 0 with a transaction open. -/
def opened : State :=
  { fresh with txus := [(0, { Txu.reset with txns := [(0, some { Txn.new with wset := [(0x1000, 5#64, false)], rset := [1] })] })] }

/-- Grove 0 by tickets, its members Glades 0 and 1, the turn Glade 1's. -/
def ticketed : State :=
  { fresh with
    sections := [(0x10, gladeSec), (0x11, [0#8, 1#8] ++ List.replicate 14 0#8 ++ [3#8, 0#8])]
    txus := [(0, { Txu.reset with members := 3#16, turn := 1, next := 0xFFFFFFFF, passes := [(1, 2)] })] }

/-- The same with a transaction of Glade 0, which has left Grove 0's members. -/
def outsider : State :=
  { ticketed with txus := [(0, { Txu.reset with members := 2#16, turn := 1, txns := [(0, some Txn.new)] })] }

theorem witness_transactionPort :
    fresh.isTrailing 0 = false ∧ fresh.issues 0 (.txu .begin_) (TWord.plain 0#64) noFlags = true
      ∧ (∀ o ∈ [TxuOp.commit, .abort], opened.issues 0 (.txu o) (TWord.plain 1#64) noFlags = true)
      ∧ opened.ticketMode 0 = false ∧ (opened.openTxn 0).isSome = true
      ∧ outsider.issues 0 (.txu .commit) (TWord.plain 0#64) noFlags = true ∧ outsider.ticketMode 0 = true
      ∧ outsider.isMember 0 = false ∧ (outsider.openTxn 0).isSome = true
      ∧ ticketed.issues 0 (.txu .pass) (TWord.plain 65535#64) noFlags = true
      ∧ fresh.issues 0 (.txu .probe) (TWord.plain 0#64) noFlags = true ∧ fresh.txn 0 = none
      ∧ opened.issues 0 (.txu .probe) (TWord.plain 0#64) noFlags = true
      ∧ (opened.txn 0).map (fun x => (x.state, x.wset.length, x.rset.length)) = some (.isOpen, 1, 1) := by decide +kernel

/-- A packet that waits in the transaction of `opened`, for queue 1. -/
def holding : State := opened.updGlade 0 (fun x => { x with writes := [(2, some ⟨1, [7#64], [], 0, true⟩)] })

theorem witness_abort :
    holding.issues 0 (.txu .abort) (TWord.plain 1#64) noFlags = true ∧ holding.qm.cache.length ≤ 4000
      ∧ (holding.heldPackets 0).map (fun w => (w.queue, holding.qm.cache.any (fun e => e.queue == w.queue),
          (holding.peekDesc w.queue).audit)) = [(1, true, false)]
      ∧ (fresh.receivers 0).all (fun j => (fresh.glade j).stores.isEmpty) = true := by decide +kernel

/-- Glades 0 and 1 have handed over commits: the first doomed with codes 1 and 9, and received first. -/
def deciding (doomed : Bool) : State :=
  { served idleCore with
    glades := [(0, { idleCore with txuOp := some ⟨63, 0, TWord.plain 0#64, none, none⟩, score := 0x8000000000000000#64 })]
    txus := [(0, { Txu.reset with
      txns := [(0, some { Txn.new with
        state := .committing, dooms := if doomed then 0x202#16 else 0#16, wset := [(groveMemBase 0 + 0x1000, 5#64, false)] })]
      received := [0] })] }

/-- The same commit where Grove 0 decides by tickets and the turn is Glade 0's. -/
def decidingTurn (doomed : Bool) : State :=
  { deciding doomed with
    sections := ticketed.sections
    txus := [(0, { (deciding doomed).txu 0 with received := [], members := 3#16, next := 0xFFFFFFFF })] }

theorem witness_decisionsInOrder :
    (∀ b : Bool, ((deciding b).txu 0).received = [0] ∧ (deciding b).pairOf 0 = none
        ∧ (deciding b).txn 0 = some { Txn.new with
            state := .committing, dooms := if b then 0x202#16 else 0#16, wset := [(groveMemBase 0 + 0x1000, 5#64, false)] }
        ∧ (((deciding b).glade 0).txuOp.map (fun o => o.rd)) = some 63
        ∧ ((deciding b).txu 0).decided = [] ∧ ((deciding b).txn 0).map (deciding b).isDurable = some false)
      ∧ ticketed.ticketMode 0 = true ∧ (ticketed.txu 0).members = 3#16 ∧ 0 < smGet 0 (ticketed.txu 0).passes 1
      ∧ (∀ b : Bool, (decidingTurn b).ticketMode 0 = true ∧ ((decidingTurn b).txu 0).turn = 0
          ∧ smGet 0 ((decidingTurn b).txu 0).passes 0 = 0 ∧ ((decidingTurn b).txu 0).window = []
          ∧ ((decidingTurn b).txn 0).map (fun t => t.state) = some .committing) := by decide +kernel

/-- A decided commit of Glade 0 whose turn to be applied it is. -/
def applying : State :=
  { deciding false with
    txus := [(0, { Txu.reset with
      txns := [(0, some { Txn.new with state := .decided, wset := [(groveMemBase 0 + 0x1000, 5#64, false), (groveMemBase 0, 6#64, false)] })]
      decided := [0] })] }

theorem witness_applicationWrites :
    applying.canApply 0 = true ∧ applying.pairOf 0 = none ∧ applying.ticketMode 0 = false
      ∧ ((applying.glade 0).txuOp.map (fun o => o.rd)) = some 63 ∧ (applying.txu 0).decided = [0]
      ∧ (applying.txn 0).map (fun t => (t.records, t.packets, t.step, t.wset.map (fun e => e.1)))
        = some ([], [], .volatile, [groveMemBase 0 + 0x1000, groveMemBase 0])
      ∧ applying.heldPackets 0 = [] ∧ (applying.txn 0).map (fun t => t.placed) = some []
      ∧ applying.regionOf (groveMemBase 0 + 0x1000) = .groveMem 0 ∧ applying.regionOf (groveMemBase 0) = .groveMem 0
      ∧ applying.flag (Reg.GRV_INJECT 0) 63 = false := by decide +kernel

/-! ### Queues by command, Ethernet -/

theorem witness_queueCommands :
    fresh.qm.cache.length ≤ 4000 ∧ busyPorts.queueOpen 0 = true ∧ fresh.queueOpen 0 = false ∧ fresh.pinnedIn 0 < 1024
      ∧ fresh.pinnedIn 1 < 1024 ∧ fresh.pool 3 = Pool.reset ∧ fresh.fld (Reg.QM_GPOOL 3) 12 0 ≠ 8191
      ∧ fresh.fld (Reg.QM_GPOOL 3) 29 16 ≠ 8192 := by decide +kernel

theorem witness_queueWaits :
    retained.queueWaits 0 = true ∧ retained.qm.command = none ∧ fresh.queueWaits 0 = false ∧ fresh.queueCode 0 = 0
      ∧ fresh.queueCode 2 ≠ 0 ∧ ({ fresh.qm with command := some 0#64 } : Qm).command.isSome = true := by
  decide +kernel

/-- Lane 0 an Ethernet port that takes any address, its frames for queue 1, which has the cells for them; queue 0 sends
on it. -/
def ethernet : State :=
  withRegs { fresh with sections := fresh.sections ++ [(0x20, 3#8 :: List.replicate 151 0#8)] }
    [(Reg.UST_ISL 0, 1#64), (Reg.UST_ISL 19, 1#64), (Reg.LANE_STATE 0, 3#64), (Reg.LANE_ETH_CFG 0, 0x13FF8#64), (Reg.QM_ISRC 0, 0x100001#64), (Reg.QM_EGQ 0, 0x100000#64)]

/-- A frame of 60 bytes. -/
def frame : List Byte := List.replicate 12 1#8 ++ [8#8, 0#8] ++ List.replicate 46 0#8

/-- A packet of 15 bytes waits in queue 0. -/
def sending : State := ethernet.enqueue 0 0 [15#64, 5#64, 6#64]

theorem witness_ethernetTraffic :
    ethernet.ethUp 0 = true ∧ ethernet.rootlink.cutting = none ∧ ethernet.macRefuses 0 (frame.take 59) 0 = some 1
      ∧ ethernet.macRefuses 0 frame 1 = some 0 ∧ ethernet.macRefuses 0 frame 2 = some 4 ∧ ethernet.macRefuses 0 frame 0 = none
      ∧ (ethernet.classify 0 (ethernet.secLE 0x20 (120 + 8 * ethernet.quadMac (0 / 4)) 1)
          (ethernet.frameKey 0 (ethernet.quadMac (0 / 4)) frame)).2 = .queue 1 0xFFFF
      ∧ (match ethernet.writeWords 1 [] 1 (frameWords 0 (ethernet.quadMac 0) 0xFFFF (ethernet.stampOf ethernet.now) frame) with
        | .ok t cells => decide (t.queueCode 1 = 0 ∧ (t.peekDesc 1).egress = false)
            && (t.linkPacket 1 cells 10 false true 0 0).2.isSome
        | _ => false) = true := by decide +kernel

theorem witness_egress :
    (sending.egTake false 0).2 = some (0, [15#64, 5#64, 6#64]) ∧ egressOk [15#64, 5#64, 6#64] = true := by decide +kernel

/-! ### Journals and the Seedbank -/

/-- Journals 1 (on drive 0, in state `p`) and 2 (a ring, in state `r`); the drive is there when `drive`. -/
def keeping (p r : Nat) (drive : Bool) : State :=
  { withRegs fresh [(Reg.JW_JSTATE 1, w64 p), (Reg.JW_JSTATE 2, w64 r)] with
    drives := if drive then
      [(0, some ⟨true, true, 5#8, 1#8, 0#5, 0#3, [⟨1, 12, false, 2 ^ 40, false⟩]⟩)] else [] }

theorem witness_journalCommands :
    fresh.jwBusy = false ∧ fresh.configured 0 = none
      ∧ (fresh.jcfg 1).map (fun c => c.ring) = some false ∧ (fresh.jcfg 2).map (fun c => c.ring) = some true
      ∧ (fresh.configured 1).isSome = true ∧ (fresh.configured 2).isSome = true
      ∧ (withReg fresh Reg.JW_CMD 0xC000000000000000#64).jwBusy = true ∧ (∀ n ∈ [0, 2, 4, 5], (keeping n n false).jstate 1 = n ∧ (keeping n n false).jstate 2 = n
          ∧ (keeping n n false).jwBusy = false) := by decide +kernel

/-- A journal whose last record's transaction is not settled. -/
def unsettled : State :=
  { keeping 2 2 true with jw := { Jw.reset with journals := [(1, { Journal.reset with tail := [⟨0, 1, false, false, 0⟩] })] } }

theorem witness_journalChecks :
    (fresh.configured 2).bind (fun c => (keeping 0 2 false).captureTarget 2 c) = none
      ∧ ((keeping 0 0 false).configured 1).map (fun c => ((keeping 0 0 false).enumerate c.ctrl).openCode c [] []) = some 1
      ∧ ((keeping 0 0 true).configured 1).map (fun c => ((keeping 0 0 true).enumerate c.ctrl).openCode c [] []) = some 0
      ∧ ((keeping 4 0 true).configured 1).map (fun c => (((keeping 4 0 true).enumerate c.ctrl)).openCode c [⟨0, .error, some .error⟩] []) = some 7
      ∧ unsettled.maySync 1 = false := by decide +kernel

/-- Two commands wait at drive 0; ring 2 has a trigger and the copy of a capture done; no further capture waits. -/
def drives (retried : Bool) : State :=
  { keeping 2 2 true with
    jw := { Jw.reset with
      queues := [(0, [⟨.write, 1, 0x1000, [1#8, 2#8], 0, true, true, retried, 100, .none, [], [], 1, 0⟩,
        ⟨.flush, 1, 0, [], 0, false, true, false, 100, .none, [], [], 1, 1⟩])]
      journals := [(1, { Journal.reset with segOpen := true, nextSeg := 1, off := 100 }),
        (2, { Journal.reset with capture := some ⟨1, 1, 2, 1, 1, 0, 0, 5⟩ })]
      triggers := [(2, 1, 1, 5)] } }

theorem witness_journalsSound : (drives true).journalsSound ∧ (drives false).journalsSound :=
  ⟨journalsSound_of _ (by decide +kernel), journalsSound_of _ (by decide +kernel)⟩

/-- A trigger of ring 2 whose target, journal 1, takes a capture. -/
def triggered : State :=
  { withReg (keeping 2 2 true) (Reg.JW_JCFG 2) 0x10000#64 with
    jw := { (drives true).jw with journals := [(1, { Journal.reset with segOpen := true, nextSeg := 1, off := 100 })] } }

theorem witness_captureTrigger :
    triggered.jw.triggers = [(2, 1, 1, 5)] ∧ (triggered.configured 2).map (fun c => c.ring) = some true
      ∧ triggered.jstate 2 = 2 ∧ ((triggered.configured 2).bind (fun c => triggered.captureTarget 2 c)).map (fun t => t.1) = some 1
      ∧ (triggered.journal 2).capture = none := by decide +kernel

theorem witness_drivesAndCaptures :
    (drives true).jw.triggers = [(2, 1, 1, 5)] ∧ ((drives true).configured 2).bind (fun c => (drives true).captureTarget 2 c) = none
      ∧ ((drives true).journal 2).queued = none
      ∧ ((drives true).journal 2).capture.map (fun k => (k.next, k.last, k.target)) = some (2, 1, 1)
      ∧ ((drives true).jcfg 1).map (fun c => (c.ring, (drives true).slotFree 1 c, c.ctrl)) = some (false, true, 0)
      ∧ ((drives true).rd (Reg.JW_JSEQ 1)).toNat < 2 ^ 63 ∧ (drives true).tallyCount (dev 185) < 65535
      ∧ (∀ b : Bool, (smGet [] (drives b).jw.queues 0).map (fun k => (k.retried, k.purpose)) = [(b, .none), (false, .none)])
      ∧ (∀ b : Bool, (drives b).headIssued (smGet [] (drives b).jw.queues 0) = true)
      ∧ (drives true).persistentJournals.map (fun p => (p.1, p.2.ctrl, (drives true).jstate p.1)) = [(1, 0, 2)] := by
  decide +kernel

theorem witness_reopenWaits :
    let s := withReg (drives true) (Reg.JW_JSTATE 1) 4#64
    s.journalBusy 1 = true ∧ s.jwBusy = false ∧ s.jstate 1 = 4 ∧ (s.configured 1).map (fun c => c.ring) = some false
      ∧ (keeping 4 0 true).journalBusy 1 = false := by decide +kernel

/-- RUN, with the time base, the sampler and every domain of Grove 0, the Heartwood and the Canopy on; four Seedbank
lines of Grove 0 (R70). -/
def alive : State :=
  withRegs { fresh with
      sections := fresh.sections ++ [(0x70, 4#8 :: List.replicate 15 0#8 ++ List.replicate 16 1#8)] }
    [(Reg.PWR_MODE, 3#64), (Reg.UST_ISL 25, 1#64), (Reg.UST_ISL 26, 1#64), (Reg.PWR_DOM 1, 0x10#64),
      (Reg.PWR_DOM 36, 0x10#64), (Reg.PWR_DOM 37, 0x10#64)]

/-- A decided commit of Glade 0 waits for a marker slot in line 0 to 3. -/
def marking : State :=
  { alive with txus := [(0, { Txu.reset with decided := [0], txns := [(0, some { Txn.new with state := .decided, step := .marker, cnum := 0xFFFFFFFF })] })] }

/-- A line of 64 bytes is being written for `use_`, in line 0, whose slot is in flight. -/
def writingLine (u : LineFor) : State :=
  { marking with
    keeper := { Keeper.reset with port := some ⟨0, List.replicate 64 0xA5#8, u⟩, slots := [(0, ⟨true, true, 1, [(1, 4)]⟩)] }
    jw := { Jw.reset with journals := [(1, { Journal.reset with durSync := 5 })] } }

theorem witness_recordsAndMarkers :
    fresh.flag Reg.HW_SB_CMD 62 = false ∧ fresh.keeper.port = none ∧ fresh.keeper.queue = []
      ∧ (List.range 16).any fresh.markerReady = false
      ∧ marking.markerTurn 0 = true ∧ marking.freeSlot 0 = some 16
      ∧ (writingLine .lookout).keeper.port = some ⟨0, List.replicate 64 0xA5#8, .lookout⟩
      ∧ (writingLine .lookout).keeper.queue = [] := by decide +kernel

/-- The update of a record: its body of 96 zero bytes stands in Heartwood memory at an address that rounds down to 8. -/
theorem witness_recordBody :
    (∀ r ∈ [0, 1, 2], true = match (((fresh.setFld Reg.HW_SB_CMD 1 0 r).setFld Reg.HW_SB_CMD 25 8 0x107).readMem .heartwood
        (hwMemBase + 0x107 / 8 * 8) 96).2 with
      | .ok body => bodyReservedZero r body
      | .error _ => false) := by decide +kernel

/-- A marker of Glade 0's commit is being written. -/
def covering : State :=
  { marking with
    txus := [(0, { Txu.reset with decided := [0], txns := [(0, some { Txn.new with state := .decided, step := .inMarker })] })]
    keeper := { Keeper.reset with port := some ⟨3, List.replicate 64 1#8, .marker 0 [0]⟩, slots := [(3, ⟨true, false, 1, []⟩)] } }

theorem witness_markerDone :
    (covering.txn 0).map (fun t => t.step) = some .inMarker ∧ (covering.slot 3).needs = []
      ∧ ((writingLine .lookout).slot 0).needs = [(1, 4)] ∧ ((writingLine .lookout).journal 1).durSync = 5 := by decide +kernel

/-! ### Tally, timers and GPIO -/

/-- Sources 0 and 192 have counts at their ends and are routed to Glade 0, which is in Clearing. -/
def pendingWork : State :=
  withRegs { alive with glades := [(0, { idleCore with started := true, run := .clearing }), (256, idleCore)] }
    [(Reg.TLY_ROUTE 0, 0x10001#64), (Reg.TLY_CNT 0, 1#64), (Reg.TLY_CNT (dev 192), 0xFFFF#64), (Reg.TLY_TIMER 7, 1#64),
      (Reg.UST_GPI_CFG 15, 0x8000000000013000#64)]

theorem witness_tallyResults :
    alive.accessCheck (coreRequester 256) true (Reg.TLY_SUB 4351) 8 (w64 65535) = none
      ∧ alive.accessCheck (coreRequester 16) true (Reg.TLY_SUB 4351) 8 (w64 0) = some 2
      ∧ alive.accessCheck (tallyRequester 256) true Reg.TLY_RAISE 8 0xFFFF10C0#64 = none
      ∧ dev 192 ≤ field 0xFFFF10C0#64 12 0 ∧ field 0xFFFF10C0#64 12 0 ≤ dev 255
      ∧ alive.accessCheck (tallyRequester 256) true (Reg.TLY_ROUTE 4351) 8 0x10001#64 = none
      ∧ alive.routeOk 4351 0x10001#64 = true ∧ alive.routeOk 0 1#64 = false
      ∧ pendingWork.tallyPending 0 = true ∧ pendingWork.mode = 3 ∧ pendingWork.domainOn 2 = true
      ∧ pendingWork.flag Reg.PWR_MODE 8 = false ∧ pendingWork.tallyPending 1 = false
      ∧ (pendingWork.effRoute 0).1 = [0]
      ∧ alive.accessCheck (tallyRequester 0) true (Reg.TLY_ROUTE 4351) 8 0#64 = some 2
      ∧ alive.accessCheck (tallyRequester 0) true Reg.TLY_RAISE 8 0xFFFF0000#64 = some 2 := by decide +kernel

theorem witness_timersAndInputs :
    pendingWork.timeRuns = true ∧ pendingWork.timerPeriod 7 = 1000 ∧ pendingWork.samplerOn = true ∧ pendingWork.tallyOn = true
      ∧ pendingWork.flag (Reg.UST_GPI_CFG 15) 63 = true ∧ pendingWork.flag (Reg.UST_GPI_CFG 0) 63 = false
      ∧ pendingWork.sampler = Sampler.reset ∧ pendingWork.mode = 3 ∧ pendingWork.flag Reg.PWR_MODE 8 = false
      ∧ pendingWork.fld (Reg.UST_GPI_CFG 15) 39 16 = 1 ∧ pendingWork.fld (Reg.UST_GPI_CFG 15) 13 12 = 3
      ∧ pendingWork.accessCheck .heartwood true (Reg.UST_GPI_CFG 15) 8 0#64 = none
      ∧ (withReg pendingWork (Reg.UST_ISL 26) 2#64).accessCheck .heartwood true (Reg.UST_GPI_CFG 15) 8 0#64 = some 1 := by
  decide +kernel

/-! ### Reset, boot and structure -/

/-- A board with nothing wrong whose straps say to wait for a push. -/
def pushBoard : BootWorld :=
  { bootSrc := 1, role := 0, hwFails := none, stagingFail := none, grovesFail := ⟨0#16, 0#16⟩, flash := none, readA := 0, readB := 0,
    dram := [], drives := [] }

/-- Mode `m`, every domain powered down by a shutdown, PORST_N high and the straps latched. -/
def poweredDown (m : Nat) : State :=
  { withRegs State.reset [(Reg.PWR_MODE, w64 m), (Reg.HW_BOOT, 1#64)] with
    power := { Power.reset with down := true }
    board := { Board.reset with porst := true } }

theorem witness_resetsAndRom :
    pushBoard.stagingFail = none ∧ pushBoard.bootSrc.val = 1 ∧ pushBoard.hwFails = none
      ∧ { pushBoard with hwFails := some true }.hwFails = some true ∧ State.reset.board.porst = false
      ∧ State.reset.keeper.port = none ∧ (poweredDown 9).mode = 9 ∧ (poweredDown 9).power.down = true
      ∧ (poweredDown 9).flag Reg.RTL_BOARD 8 = false
      ∧ (withReg alive (Reg.PWR_RAIL 16) 0x10000000#64).flag (Reg.PWR_RAIL 16) 28 = true
      ∧ (poweredDown 2).mode = 2 ∧ (poweredDown 2).board.porst = true ∧ (poweredDown 2).fld Reg.HW_BOOT 1 0 = 1 := by
  decide +kernel

/-- The ROM waits for a manager on its link, which has width 4. -/
def awaitingManager : State := withRegs alive [(Reg.HW_BOOT, 0x20#64), (Reg.RTL_LINK_STATE 0, 0x21#64)]

/-- The ROM waits for a push; the staging endpoint's link is up. -/
def awaitingPush : State :=
  { withRegs alive [(Reg.HW_BOOT, 0x30#64), (Reg.LANE_PCIE_STAT 2 0, 1#64), (Reg.PWR_MODE, 2#64)] with
    msix := { Msix.reset with command := 2#16 } }

/-- SERVICE, with key word 3 of slot 3 programmed and slot 0 revoked. -/
def servicing : State :=
  { withRegs alive [(Reg.PWR_MODE, 11#64), (Reg.SM_KEYPROG_DATA, 0xFFFFFFFFFFFFFFFF#64)] with
    board := { Board.reset with keyWords := [(15, some 1#64)], keyRevoked := 1#4 } }

theorem witness_bootSteps :
    awaitingManager.stage = 2 ∧ awaitingManager.linkUp 0 = false ∧ awaitingManager.fld (Reg.RTL_LINK_STATE 0) 5 3 = 4
      ∧ servicing.mode = 11 ∧ servicing.keySlots.word 3 3 = some 1#64 ∧ servicing.keySlots.word 3 2 = none
      ∧ servicing.keySlots.revoked.getLsbD 0 = true ∧ servicing.keySlots.revoked.getLsbD 3 = false
      ∧ awaitingPush.stage = 3 ∧ awaitingPush.mode = 2 ∧ awaitingPush.hostMemory = true ∧ awaitingPush.ports.a = []
      ∧ { awaitingPush with msix := Msix.reset }.hostMemory = false ∧ awaitingPush.flag (Reg.LANE_PCIE_STAT 2 0) 0 = true
      ∧ (∀ g : Fin 16, awaitingPush.flag (Reg.GRV_INJECT g) 63 = false)
      ∧ field 0x800000000000009F#64 17 0 < 160 := by decide +kernel

/-- The image that is checked and applied after RUN was entered; Glade 0 is off and may start. -/
def booted : State :=
  withRegs { alive with glades := [(0, { Glade.reset with grf := [(1, ⟨5#64, 0#4⟩)] })] }
    [(Reg.HW_BOOT, 0x60#64), (Reg.HW_ROLE, 8#64), (Reg.HW_SB_STATUS, 0x400000#64)]

theorem witness_lockAndStart :
    booted.stage = 6 ∧ booted.flag Reg.NEG_LOCK 0 = true ∧ (withReg booted Reg.NEG_LOCK 0#64).flag Reg.NEG_LOCK 0 = false
      ∧ (booted.receivers 0).all booted.mayStart = true ∧ booted.pairOf 0 = none
      ∧ { booted with sections := [(0x20, List.replicate 112 0#8 ++ [1#8])] }.pcieByte 2 0 = 1 := by decide +kernel

/-- A REGROW of Grove 0 waits for it to quiesce. -/
def regrowing : State :=
  { withRegs alive [(Reg.PWR_MODE, 12#64), (Reg.SM_STATUS, 0x10#64), (Reg.SM_REGROW_STATUS, 2#64)] with
    regrow := some ⟨0, [(0x10, gladeSec)]⟩
    txus := [(0, { Txu.reset with quiescing := true })] }

/-- HEADER body (R45): both grades, one partition, nothing else named. -/
def headerSec : List Byte :=
  bytesLE 2 0x2560 ++ [3#8, 0x11#8] ++ List.replicate 28 0#8 ++ [1#8] ++ List.replicate 135 0#8

/-- POWER body (R54) that passes the checks. -/
def wholePower : List Byte :=
  [1, 1000, 0, 1, 1, 1000, 0, 0, 0].flatMap (bytesLE 4) ++ [3#8, 1#8] ++ List.replicate 34 0#8
    ++ (List.replicate 17 800).flatMap (bytesLE 2) ++ List.replicate 8 0#8 ++ [4#8] ++ List.replicate 69 0#8

theorem witness_regrowStates :
    alive.flag Reg.SM_STATUS 4 = false ∧ alive.accepted 10 = true ∧ alive.mode = 3 ∧ alive.flag Reg.PWR_MODE 8 = false
      ∧ (regrowing.flushStores 0).regrow = some ⟨0, [(0x10, gladeSec)]⟩ ∧ (regrowing.flushStores 0).quiesced 0 = true
      ∧ { regrowing with txus := [(0, { Txu.reset with received := [0] })] }.quiesced 0 = false
      ∧ alive.regrow = none ∧ regrowing.regrow = some ⟨0, [(0x10, gladeSec)]⟩ ∧ regrowing.quiesced 0 = true := by
  decide +kernel

theorem witness_regrowRejected :
    (match ((alive.regrowTaken 0 0x3FFF8).fragment 0 0x3FFF8).2 with
      | .ok _ => 0
      | .error e => e.code) = 2 := by decide +kernel

/-- A section of an image (R40). -/
def mapSection (ty : Nat) (body : List Byte) : List Byte :=
  let h := bytesLE 2 ty ++ bytesLE 2 0 ++ bytesLE 4 body.length ++ body
  h ++ bytesLE 4 (crc32c h) ++ List.replicate 4 0#8

/-- The vector of RFC 6979, A.2.5, for P-256 with SHA-256 and the message "sample". -/
theorem test_ecdsaVector :
    ecdsaVerify [0x73#8, 0x61#8, 0x6D#8, 0x70#8, 0x6C#8, 0x65#8]
      0x60FED4BA255A9D31C961EB74C6356D68C049B8923B61FA6CE669622E60F29FB6
      0x7903FE1008B8BC99A41AE9E95628BC64F2F1B20C2D7E9F5177A3C294D4462299
      0xEFD48B2AACB6A8FD1140DD9CD45E81D69D2C877B56AAF991C34D0EA84EAF3716
      0xF7CB1C942D657C41D436C7A1B6E29F65F3E900DBB9AFF4064DC4AB2F843ACDA8 = true := by decide +kernel

/-- The public key of the private key 2: twice the base point. -/
def publicKey2 : Nat × Nat :=
  (0x7CF27B188D034F7E8A52380304B51AC3C08969E277F21B35A60B48FC47669978,
   0x07775510DB8ED040293D9AC69F7430DBBA7DADE63CE982299E04B79D227873D1)

/-- A fragment (R71) for Grove 0 that keeps Glade 0 alone, signed with the private key 2 and the nonce 2. -/
def fragmentImage : List Byte :=
  let q := publicKey2
  let be := fun (v : Nat) => (bytesLE 32 v).reverse
  bytesLE 4 0x4D534843 ++ bytesLE 4 544 ++ [0#8, 1#8, 1#8] ++ List.replicate 5 0#8
    ++ mapSection 0x01 headerSec ++ mapSection 0x10 (gladeSec ++ List.replicate 120 0#8)
    ++ mapSection 0x11 (List.replicate 32 0#8)
    ++ mapSection 0xF0 ([0#8, 1#8] ++ List.replicate 6 0#8 ++ be q.1 ++ be q.2 ++ be q.1
      ++ be 112125067592993313659888908894326636987674972129204236491756518614792583095914)

/-- Bytes as the cells of memory from `a` upward. -/
def cellsFrom (a : Nat) : List Byte → List Host.Cell
  | [] => []
  | b :: bs => if b = 0#8 then cellsFrom (a + 1) bs else (a, b) :: cellsFrom (a + 1) bs

/-- Check bits of the words that bytes fill, from word `k` upward (R235). -/
def eccFrom (k : Nat) : List Byte → SMap (BitVec 9)
  | b0 :: b1 :: b2 :: b3 :: b4 :: b5 :: b6 :: b7 :: bs =>
    (k, BitVec.ofNat 9 ((encodeWord (w64 (ofBytesLE [b0, b1, b2, b3, b4, b5, b6, b7])) true).toNat / 2 ^ 64))
      :: eccFrom (k + 1) bs
  | _ => []

/-- An image whose checks hold is applied, and the fragment lies at the start of the Heartwood memory. -/
def regrowable : State :=
  { alive with
    sections := [(0x01, headerSec), (0x10, gladeSec ++ List.replicate 2040 0#8), (0x11, List.replicate 512 0#8),
      (0x40, wholePower), (0x50, List.replicate 8 0#8), (0x70, List.replicate 16 0#8 ++ List.replicate 16 1#8)]
    mem := cellsFrom hwMemBase fragmentImage
    ecc := eccFrom (hwMemBase / 8) fragmentImage }

theorem witness_regrowAccepted :
    (match ((regrowable.regrowTaken 0 0).fragment 0 0).2 with
      | .ok ss => ss.length
      | .error _ => 0) = 4 := by decide +kernel

/-- A firmware image of two empty bundles (R79), signed like the fragment. -/
def firmwareImage : List Byte :=
  let be := fun (v : Nat) => (bytesLE 32 v).reverse
  bytesLE 4 0x57464843 ++ bytesLE 4 160 ++ List.replicate 16 0#8
    ++ ([0#8, 1#8] ++ List.replicate 6 0#8 ++ be publicKey2.1 ++ be publicKey2.2 ++ be publicKey2.1
      ++ be 43946087753210428774208130398268137679412307229029998658464724588116424449953)

/-- The firmware image is staged, and the ROM waits for `HW_PUSH`. -/
def stagedFirmware : State :=
  { withReg awaitingPush (Reg.PWR_DOM 28) 0x10#64 with
    mem := cellsFrom (groveMemBase 8) firmwareImage
    ecc := eccFrom (groveMemBase 8 / 8) firmwareImage }

/-- A firmware image that passes, as the ROM reads it from the staging memory. -/
theorem witness_firmwareAccepted :
    (match (stagedFirmware.stagedFw .heartwood 0 160).2 with
      | .ok fw => decide (fwCheck stagedFirmware.keySlots fw 160 = none)
      | .error _ => false) = true := by decide +kernel

/-- A REGROW of Grove 0 beside descriptors in DRAM, no transaction left. -/
def regrowingDram : State :=
  { regrowing with sections := [(0x10, gladeSec), (0x30, bytesLE 8 dramBase ++ qmSec.drop 8), (0x31, journalSec)] }

theorem witness_regrowApplies :
    let f := regrowingDram.flushStores 0
    regrowingDram.quiesced 0 = true ∧ f.regrow = some ⟨0, [(0x10, gladeSec)]⟩ ∧ f.quiesced 0 = true ∧ f.mode = 12
      ∧ (List.range 256).all (fun i => (f.txn i).isNone) = true ∧ dramBase ≤ f.descBase
      ∧ (f.groveQueues 0).length + f.qm.cache.length ≤ 3000
      ∧ f.qm.cache.all (fun e => !(f.queueInfo e.queue).dram && (f.queueInfo e.queue).grove == 0) = true := by decide +kernel

/-! ### Power -/

/-- POWER body (R71): the bus code is the millivolts, 10,000 the threshold; a Lookout program that expects GPIO bit 0
low. -/
def powerSec : List Byte :=
  bytesLE 4 1 ++ bytesLE 4 1000 ++ bytesLE 4 0 ++ bytesLE 4 1 ++ bytesLE 4 1 ++ bytesLE 4 1000 ++ List.replicate 8 0#8
    ++ bytesLE 4 1 ++ [7#8, 4#8] ++ bytesLE 2 1 ++ bytesLE 2 0 ++ bytesLE 2 0

/-- Mode `m`, all quiet, every Glade in Clearing, the image applied, and what else `PWR_MODE` says. -/
def resting (m : Nat) (more : Nat) : State :=
  withRegs { alive with
      sections := alive.sections ++ [(0x40, powerSec)]
      glades := [(0, { idleCore with started := true, run := .clearing }), (256, idleCore)] }
    [(Reg.PWR_MODE, w64 (m + more)), (Reg.SM_STATUS, 3#64), (Reg.PWR_WAKE_CFG, 0x130001#64),
      (Reg.PWR_DOM 4, 0x12#64), (Reg.PWR_DOM 5, 0x30#64), (Reg.PWR_DOM 6, 0x630#64)]

/-- The same in RUN with a Glade that still runs. -/
def working : State := { resting 3 0 with glades := [(0, { idleCore with started := true }), (256, idleCore)] }

/-- A request for IDLE waits, and may begin. -/
def idling : State := { resting 3 0 with power := { Power.reset with idleWait := true } }

theorem witness_modeRequests :
    (∀ m ∈ [3, 4, 5, 6, 7, 9], (resting m 0).flag Reg.PWR_MODE 8 = false ∧ (resting m 0).power.idleWait = false
        ∧ (resting m 0).mode = m)
      ∧ ((resting 3 0).allClearing && (resting 3 0).nvmeQuiet && (resting 3 0).txnQuiet && (resting 3 0).captureQuiet) = true
      ∧ working.allClearing = false ∧ working.mode = 3
      ∧ (∀ m ∈ [0, 2, 9, 15], (resting 3 0).requestAllowed m = false)
      ∧ (resting 3 0x150).flag Reg.PWR_MODE 8 = true ∧ (resting 3 0x3150).flag Reg.PWR_MODE 9 = false
      ∧ (resting 3 0x7350).flag Reg.PWR_MODE 9 = true
      ∧ idling.mode = 3 ∧ idling.power.idleWait = true ∧ idling.allClearing = true ∧ idling.flag Reg.PWR_MODE 8 = false := by decide +kernel

/-- Domain 5 is waking, domain 6 waking after its third retry, domain 7 waits for its first. -/
def retrying : State :=
  { withReg (resting 7 0) (Reg.PWR_DOM 7) 0#64 with power := { Power.reset with retry := [7] } }

/-- A transition from mode `m` to mode `t`, with the power state `p`; no domain is waking. -/
def moving (m t : Nat) (p : Power) : State :=
  { withRegs (resting m (16 * t + 0x100)) [(Reg.PWR_DOM 5, 0#64), (Reg.PWR_DOM 6, 0#64)] with power := p }

theorem witness_transitionsEnd :
    retrying.mode = 7 ∧ retrying.flag Reg.PWR_MODE 8 = false ∧ retrying.flag Reg.PWR_WAKE_CFG 0 = true
      ∧ retrying.flag Reg.PWR_WAKE_CFG 15 = false ∧ retrying.flag Reg.PWR_WAKE_CFG 20 = true
      ∧ retrying.domState 5 = 3 ∧ retrying.fld (Reg.PWR_DOM 5) 10 9 = 0 ∧ retrying.domState 6 = 3
      ∧ retrying.fld (Reg.PWR_DOM 6) 10 9 = 3 ∧ 7 ∈ retrying.power.retry ∧ retrying.fld (Reg.PWR_DOM 7) 10 9 < 3
      ∧ (withReg retrying (Reg.UST_ISL 26) 0#64).samplerOn = false ∧ Power.reset.serviceDue = none
      ∧ (moving 3 7 Power.reset).flag Reg.PWR_MODE 8 = true ∧ (moving 3 7 Power.reset).fld Reg.PWR_MODE 7 4 = 7
      ∧ (moving 3 7 Power.reset).flag Reg.PWR_MODE 9 = false ∧ (moving 3 5 Power.reset).allClearing = true
      ∧ (∀ m ∈ [6, 7], (moving m 3 { Power.reset with waking := true }).wakeReady = true)
      ∧ { resting 7 0x130 with power := { Power.reset with waking := true } }.wakeReady = false
      ∧ (moving 3 7 { Power.reset with holdupDue := true }).power.holdupDue = true := by decide +kernel

/-- Octet 5 is waking; its lanes wait for the PLL when `n` is 1. -/
def octetWaking (n : Nat) : State :=
  withRegs { alive with sections := alive.sections ++ [(0x20, List.replicate 40 0#8 ++ [3#8] ++ List.replicate 111 0#8)] }
    [(Reg.LANE_STATE 40, w64 n), (Reg.PWR_DOM 45, 0x30#64), (Reg.UST_ISL 5, 1#64)]

theorem witness_octetWaking :
    (octetWaking 1).domState 45 = 3 ∧ (octetWaking 1).octetLocks 5 = true ∧ (octetWaking 2).domState 45 = 3
      ∧ (octetWaking 2).octetLocks 5 = false ∧ (octetWaking 1).flag (Reg.UST_ISL 5) 0 = true
      ∧ (octetWaking 1).fld (Reg.LANE_STATE 40) 2 0 = 1 := by decide +kernel

/-- A lane whose signal detect the Stand Map lists for wakes. -/
def laneWatched : State :=
  { retrying with sections := (0x20, [0#8, 3#8, 0#8, 0#8, 0x80#8] ++ List.replicate 148 0#8) :: retrying.sections }

theorem witness_laneWake : laneWatched.laneWakes 7 = true ∧ laneWatched.quadRole (7 / 4) ≠ 0 ∧ laneWatched.mode = 7
    ∧ laneWatched.flag Reg.PWR_WAKE_CFG 20 = true := by decide +kernel

/-- Rail 0 up at 800 mV, rail 16 in low power. -/
def railed (m : Nat) : State :=
  withRegs (resting m 0) [(Reg.PWR_RAIL 0, 0x3200320#64), (Reg.PWR_RAIL 16, 0x13200320#64), (Reg.PWR_DOM 20, 0x10#64)]

theorem witness_railsAndLookout :
    (railed 3).mode = 3 ∧ (railed 3).runState 4 = 2 ∧ (railed 3).domState 4 = 1 ∧ (railed 3).runState 2 = 0
      ∧ (railed 3).flag (Reg.PWR_DOM 63) 8 = false ∧ (railed 7).mode = 7
      ∧ (railed 3).flag (Reg.PWR_RAIL 0) 28 = false ∧ (railed 3).fld (Reg.PWR_RAIL 0) 25 16 = 800
      ∧ (railed 8).mode = 8 ∧ (railed 8).flag Reg.PWR_STATUS 4 = false ∧ (railed 8).flag Reg.PWR_MODE 8 = false
      ∧ (railed 8).secLE 0x40 0x25 1 = 4 ∧ (railed 8).secLE 0x40 0x26 2 = 1 ∧ (railed 8).secLE 0x40 0x28 2 = 0
      ∧ (railed 8).sampler.gpio = 0#16 ∧ (railed 8).sampler.sd = 0#96
      ∧ (railed 8).domState 63 = 0 ∧ (railed 8).flag (Reg.PWR_DOM 63) 8 = false ∧ 63 ∉ (railed 8).power.retry
      ∧ (railed 8).flag (Reg.PWR_DOM 63) 2 = false
      ∧ (withReg (railed 8) (Reg.PWR_DOM 63) 0x14#64).domState 63 = 1 ∧ (withReg (railed 8) (Reg.PWR_DOM 63) 0x14#64).flag (Reg.PWR_DOM 63) 2 = true
      ∧ (∀ k : Fin 16, (railed 3).buses k = 0 ∨ ((railed 3).glade k).run = .clearing)
      ∧ ((railed 3).txu 0).received = [] ∧ (railed 3).txnQuiet = true ∧ (railed 3).scrubRate 0 = 0 ∧ (railed 3).temperature < 85 := by
  decide +kernel

/-- The sampler has sampled once in LOOKOUT. -/
def sampled : State := { railed 8 with sampler := { Sampler.reset with sample := 0xFFFFFFFF } }

/-- One sample below the threshold has been taken in RUN. -/
def lowOnce : State := { resting 3 0 with power := { Power.reset with low := 1 } }

theorem witness_holdupEntry :
    0 < sampled.sampler.sample ∧ lowOnce.flag Reg.PWR_MODE 8 = false ∧ lowOnce.mode = 3 ∧ lowOnce.applied = true
      ∧ lowOnce.busMv 999 < lowOnce.secLE 0x40 0x14 4 ∧ ¬ lowOnce.busMv 1000 < lowOnce.secLE 0x40 0x14 4
      ∧ lowOnce.power.low = 1 ∧ State.reset.applied = false ∧ State.reset.flag Reg.PWR_MODE 8 = false := by decide +kernel

/-! ### Clocks and time -/

/-- Island 12 runs and has missed `k` windows, island 5 is held with a fault, island 7 held with a lasting one, island 25
held without one; the clock mechanism is armed when `arm`. -/
def clocked (k : Nat) (arm : Bool) : State :=
  { withRegs alive [(Reg.UST_ISL 12, 1#64), (Reg.UST_ISL 5, 0xFFFF00000012#64), (Reg.UST_ISL 7, 0x92#64), (Reg.UST_ISL 25, 2#64),
      (Reg.SAF_MECH 4, if arm then 1#64 else 0#64), (Reg.PWR_DOM 0, 0x10#64)] with
    monitors := { Monitors.reset with misses := if k = 0 then [] else [(24, k)] }
    time := { TimeBase.reset with count := 100#64, delivered := 200#64 } }

theorem witness_clocksAndTime :
    (clocked 0 true).flag (Reg.UST_ISL 12) 0 = true ∧ smGet 0 (clocked 0 true).monitors.misses 12 = 0
      ∧ smGet 0 (clocked 1 true).monitors.misses 24 = 1 ∧ (clocked 0 true).expect2 12 = 4800
      ∧ (clocked 0 true).fld (Reg.UST_ISL 5) 6 4 = 1 ∧ (clocked 0 true).flag (Reg.UST_ISL 5) 7 = false
      ∧ (clocked 0 true).flag (Reg.UST_ISL 5) 1 = true ∧ (clocked 0 true).fld (Reg.UST_ISL 25) 6 4 = 0
      ∧ (clocked 0 true).flag (Reg.UST_ISL 25) 7 = false ∧ (clocked 0 true).domainOn (islandDomain 25) = true
      ∧ (clocked 0 true).flag (Reg.UST_ISL 25) 1 = true ∧ (clocked 0 true).flag (Reg.UST_ISL 7) 7 = true
      ∧ (clocked 0 true).domState 2 = 1 ∧ (withReg (clocked 0 true) (Reg.PWR_DOM 2) 0#64).domState 2 = 0
      ∧ (clocked 0 true).domainOn (islandDomain 5) = false ∧ (clocked 1 true).tallyOn = true
      ∧ alive.flag (Reg.UST_ISL 25) 0 = true ∧ (clocked 1 true).armed 5 none = true ∧ (clocked 1 false).armed 5 none = false := by
  decide +kernel

/-! ### Care of the memories -/

/-- The last word but one of a pass over Grove 0. -/
def lastWord : Nat := scrubAddr 0 (passWords - 2)

/-- The scrubbers run, and the last word but one of Grove 0's pass is next, its code word with bit `p` flipped when there
is one; the patrol of channel 0 runs at its last burst, channel 0 being filled up to `mark`. -/
def cared (p : Option Nat) (mark : Nat) : State :=
  let s := { withRegs alive [(Reg.GRV_SCRUB_RATE 0, 1#64), (Reg.GRV_SCRUB_STATUS 0, w64 ((passWords - 2) * 2 ^ 32)),
      (Reg.DDR_CH_PATROL 0, 1#64), (Reg.DDR_CH_WMARK 0, w64 mark)] with
    scrub := { Scrub.reset with hwWord := 32767, patrol := [(0, 2 ^ 24 - 1)] } }
  match p with
  | some n => s.flipSram lastWord n .flips
  | none => s

theorem witness_scrubAndFill :
    (cared none 0x8000000040000000).scrubMode = true ∧ (cared none 0x8000000040000000).scrubRuns 0 = true
      ∧ smGet [] (cared none 0x8000000040000000).scrub.wback 0 = []
      ∧ (cared none 0x8000000040000000).fld (Reg.GRV_SCRUB_STATUS 0) 50 32 + 2 = passWords
      ∧ (cared none 0x8000000040000000).retired (scrubAddr 0 (passWords - 1)) = false
      ∧ (cared none 0x8000000040000000).fld (Reg.DDR_CH_PATROL 0) 31 0 ≠ 0
      ∧ (cared none 0x8000000040000000).flag (Reg.DDR_CH_WMARK 0) 63 = true
      ∧ (cared none 0x8000000040000000).chBytes 0 = 2 ^ 30
      ∧ (cared none 0x3FFFFFC0).flag (Reg.DDR_CH_WMARK 0) 63 = false
      ∧ (cared none 0x3FFFFFC0).fld (Reg.DDR_CH_WMARK 0) 39 0 < (cared none 0x3FFFFFC0).chBytes 0 := by decide +kernel

theorem witness_scrubWords :
    decodeWord ((cared none 0).detectOnly lastWord) ((cared none 0).codeAt lastWord) = .ok 0#73
      ∧ decodeWord ((cared (some 72) 0).detectOnly lastWord) ((cared (some 72) 0).codeAt lastWord) = .corrected 0#73 72
      ∧ decodeWord ((cared none 0).detectOnly (hwMemBase + 8 * 32767)) ((cared none 0).codeAt (hwMemBase + 8 * 32767)) = .ok 0#73
      ∧ decodeBurst ((cared none 0).burstAt ((cared none 0).dramAddr 0 (64 * (2 ^ 24 - 1))))
          ((cared none 0).checkAt ((cared none 0).dramAddr 0 (64 * (2 ^ 24 - 1)))) = .ok (List.replicate 64 0#8) := by
  decide +kernel

theorem witness_careAndFlips :
    alive.retirable 0 (4096 * field 0x1#64 47 12) = false
      ∧ alive.retirable 0 (4096 * field (w64 (groveMemBase 0 + 1)) 47 12) = true
      ∧ alive.groveOfAddr (8 * field (w64 (groveMemBase 15 + 72 * 2 ^ 50)) 47 3) = 15
      ∧ field (w64 (groveMemBase 15 + 72 * 2 ^ 50)) 56 50 = 72
      ∧ alive.stuck = [] ∧ alive.isSram hwMemBase = true ∧ alive.regionOf (dramBase + 2 ^ 30 - 64) = .dram := by decide +kernel

/-! ### Lanes, PCIe and the endpoint -/

/-- PADDOCK body (R50): quads 0 to 3 root port complex 0 in one port, 4 the endpoint, 10 and 11 Ethernet at both rates,
22 Rootlink; both PCIe entries enabled at their highest speed. -/
def paddockSec : List Byte :=
  ([1, 1, 0, 0, 0, 0, 0, 0] ++ [1, 1, 0, 0, 0, 0, 0, 0] ++ [2, 0, 0, 0, 0, 0, 0, 0] ++ List.replicate 16 0
    ++ [3, 4, 0, 0, 0, 0, 0, 0] ++ List.replicate 40 0 ++ [5, 0, 0, 0, 0, 0, 0, 0]
    ++ [1, 0, 5, 0, 0, 0, 0, 0] ++ List.replicate 8 0 ++ [1, 4, 5, 0, 0, 0, 0, 0] ++ List.replicate 40 0).map (BitVec.ofNat 8)

/-- LINKS body (R58): link 23 upstream on lanes 88 to 91. -/
def linkSec : List Byte := [0#8, 1#8] ++ List.replicate 6 0#8 ++ [23#8, 0#8, 88#8, 4#8, 0#8, 0#8, 0#8, 0#8]

/-- A board with all of these, their octets on, the lanes in state `n`, the link in state `k`. -/
def wired (n k : Nat) : State :=
  withRegs { alive with sections := alive.sections ++ [(0x20, paddockSec), (0x60, linkSec)] }
    ([0, 16, 40, 44, 88, 89, 90, 91].map (fun l => (Reg.LANE_STATE l, w64 n))
      ++ [(Reg.PWR_DOM 51, 0x10#64), (Reg.PWR_DOM 56, 0x10#64), (Reg.UST_ISL 23, 1#64), (Reg.RTL_LINK_STATE 23, w64 k)]
      ++ [0, 2, 5, 11, 16, 18].map (fun i => (Reg.UST_ISL i, 1#64)))

/-- Lane 40 alone of octet 5 is UP, the others have lost their links, and the octet is automatic. -/
def aloneUp : State :=
  withRegs (wired 3 1) ((Reg.PWR_DOM 45, 0x12#64) :: [41, 42, 43, 44, 45, 46, 47].map (fun l => (Reg.LANE_STATE l, 4#64)))

theorem witness_lanesTrain :
    (wired 1 1).domState 51 = 1 ∧ (wired 1 1).fld (Reg.LANE_STATE 88) 2 0 = 1
      ∧ (∀ l ∈ [0, 16, 40, 44], (wired 2 1).laneUsable l = true ∧ (wired 4 1).fld (Reg.LANE_STATE l) 2 0 = 4)
      ∧ (wired 2 1).quadRole (40 / 4) = 3 ∧ (wired 2 1).quadRole (44 / 4) = 4
      ∧ (wired 2 1).pcieOf 0 = some (0, 0) ∧ (wired 2 1).pcieOf 16 = some (2, 0)
      ∧ (wired 2 1).pcieMax 0 = 5 ∧ (wired 2 1).pcieMax 2 = 5 ∧ (wired 3 1).fld (Reg.LANE_STATE 40) 2 0 = 3
      ∧ (wired 1 1).flag (Reg.UST_ISL 11) 0 = true ∧ (∀ l ∈ [0, 16, 40, 44], (wired 2 1).flag (Reg.UST_ISL (l / 8)) 0 = true)
      ∧ (∀ c ∈ [0, 2], (wired 2 1).flag (Reg.UST_ISL (16 + c)) 0 = true) ∧ (wired 2 1).pcieWidth 0 = 16
      ∧ 0 < (wired 2 1).pcieWidth 2 ∧ (wired 2 1).tallyOn = true ∧ (wired 2 1).mode = 3 ∧ (wired 3 1).runState 45 ≠ 2
      ∧ (aloneUp.runState 45 = 2 ∧ (aloneUp.laneLeaves 40 4).octetWanted 5 = false)
      ∧ (wired 0 1).fld (Reg.LANE_STATE 95) 2 0 ≠ 3 := by decide +kernel

/-- The losses of a lane of a port and of a lane of a link that are up. -/
theorem witness_lanesLost :
    let s := withReg (wired 3 0x22) (Reg.LANE_PCIE_STAT 0 0) 0xA1#64
    s.pcieOf 0 = some (0, 0) ∧ s.quadRole (0 / 4) = 1 ∧ s.fld (Reg.LANE_STATE 0) 2 0 = 3 ∧ s.runState 40 ≠ 2
      ∧ s.flag (Reg.LANE_PCIE_STAT 0 0) 0 = true ∧ s.tallyOn = true ∧ s.mode = 3
      ∧ s.quadRole (88 / 4) = 5 ∧ s.fld (Reg.LANE_STATE 88) 2 0 = 3 ∧ s.runState 51 ≠ 2 ∧ s.linkOfLane 88 = some 23
      ∧ s.linkUp 23 = true ∧ s.linkLanes 23 = [88, 89, 90, 91] ∧ s.flag Reg.PWR_MODE 8 = false := by decide +kernel

/-- A board that answers nothing of note. -/
def quietBoard : BoardReply := ⟨⟨[], [], some 0⟩, 0, [], [], [], ⟨[], .timeout⟩, [], ⟨0#16, 0#16⟩⟩

/-- The endpoint is up, its window on Grove 0's memory; vector 31 is pending; the journal writer's areas lie in DRAM. -/
def hosted : State :=
  { withRegs (wired 3 1) [(Reg.LANE_PCIE_STAT 2 0, 1#64), (Reg.LANE_EP_WIN, 0x100000001#64), (Reg.JW_NVME_BASE, w64 dramBase),
      (Reg.HW_BOOT, 0x60#64)] with
    msix := { Msix.reset with table := [(31, (0xFEE00000#64, 7#32, 0#32))], pending := 0x80000001#32, enable := true, command := 6#16 } }

theorem witness_endpointAccess :
    alive.inJwArea 0 1 = false ∧ hosted.inJwArea busDram 8 = true ∧ ¬ (busDram = 0x00FFFFFFF000 ∧ 8 = 4)
      ∧ ((match (hosted.readMem .jw dramBase 8).2 with
        | .ok d => d.length
        | .error _ => 0) = 8)
      ∧ alive.flag (Reg.LANE_PCIE_STAT 2 0) 0 = false ∧ hosted.flag (Reg.LANE_PCIE_STAT 2 0) 0 = true
      ∧ hosted.barAddr true 0 = some 0x100000000 ∧ hosted.accessCheck .host false 0x100000000 8 0#64 = none
      ∧ ((match (hosted.devRead .host (canon .host 0x100000000) 8 quietBoard).2 with
        | .ok d => d.length
        | .error _ => 0) = 8)
      ∧ hosted.barAddr false 0x8010 = some 0x404000010 ∧ hosted.accessCheck .host false 0x404000010 8 0#64 = some 2
      ∧ hosted.stage = 6 ∧ hosted.hostMemory = true ∧ hosted.mayInterrupt = true
      ∧ { hosted with msix := Msix.reset }.hostMemory = false
      ∧ hosted.engineRefuses dramBase 8 = none
      ∧ (withReg hosted (Reg.DDR_CH_CFG 0) 0#64).engineRefuses dramBase 8 = some 1
      ∧ hosted.msix.pending.getLsbD 31 = true ∧ hosted.msix.pending.getLsbD 0 = true ∧ hosted.msix.pending.getLsbD 1 = false := by
  decide +kernel

/-! ### Rootlink -/

/-- Link 23 UP, where a flit has failed when `bad`; the link mechanism is armed when `arm`. -/
def linked (bad arm : Bool) : State :=
  (withRegs (wired 3 0x22) [(Reg.SAF_MECH 6, if arm then 1#64 else 0#64)]).setLink 23
    { Link.reset with limit := 256, expect := 4096, failing := bad }

/-- A flit of TYPE `ty` and SUB `sub` whose FSEQ is 4,095; words 1 to 6 are `ws`, and its CRC matches. -/
def flitOf (ty sub : Nat) (top : BitVec 16) (ws : List W64) : Flit :=
  let h := w64 (ty + sub * 2 ^ 4 + 4095 * 2 ^ 8 + 4095 * 2 ^ 20 + 256 * 2 ^ 32 + top.toNat * 2 ^ 48)
  ⟨BitVec.ofNat 4 sub, 4095#12, 4095#12, 256#16, top, ws, (flitWords h ws).getD 7 0#64, none⟩

/-- A TRAIN flit with words 1 and 3, on locked lanes. -/
def trainOf (word1 word3 : W64) : TrainFlit := ⟨true, flitOf 6 0 0#16 [word1, 5#64, word3, 0#64], 0xFFFFFFFFFFFFFFFF#64⟩

theorem witness_linksTrain :
    let e := [23#8, 0#8, 88#8, 4#8, 0#8, 0#8, 0#8, 0#8]
    (wired 2 1).linkState 23 = 1 ∧ (wired 2 3).linkState 23 = 3 ∧ (wired 2 4).linkState 23 = 4
      ∧ (wired 2 1).linkEntry 23 = some e ∧ (wired 2 1).linkReady e 1 = true ∧ (wired 4 3).linkReady e 4 = true
      ∧ (∀ f ∈ [trainOf 9#64 0#64, trainOf 9#64 1#64, trainOf 3#64 1#64, trainOf 8#64 1#64],
          f.locked = true ∧ flitIntact f.flit 6 0 = true ∧ topOk 6 f.flit.top = true)
      ∧ field 9#64 0 0 ≠ 0 ∧ field 9#64 3 1 = 4 ∧ field 3#64 3 1 = 1 ∧ field 3#64 5 4 = 0 ∧ (wired 2 1).tallyOn = true
      ∧ (∀ b : Bool, (linked true b).linkUp 23 = true ∧ ((linked true b).link 23).failing = true ∧ (linked true b).armed 7 none = b)
      ∧ (linked true true).mode ≠ 10 ∧ ((linked false false).link 23).failing = false ∧ (linked false false).linkUp 23 = true
      ∧ flitIntact { flitOf 0 0 0#16 (List.replicate 6 0#64) with reserved := some 0 } 0 0 = false
      ∧ flitIntact { flitOf 5 0 0#16 (List.replicate 6 0#64) with crc := 0#64 } 5 0 = false
      ∧ topOk 4 1#16 = false := by decide +kernel

/-- LINKS body: link 0 downstream on lanes 88 to 91, link 23 upstream on lanes 92 to 95. -/
def treeSec : List Byte :=
  [0#8, 2#8] ++ List.replicate 6 0#8 ++ [0#8, 0#8, 88#8, 4#8, 1#8, 0#8, 0#8, 0#8] ++ [23#8, 0#8, 92#8, 4#8, 0#8, 0#8, 0#8, 0#8]

/-- A device of role `role` (1 worker, 2 manager) with an ID when `named`, in boot stage `stage`; both links UP and
quiet. -/
def node (role stage : Nat) (named : Bool) : State :=
  let x := { Link.reset with limit := 256, expect := 4095, exchange := some (1#64, 2#64, 3#64) }
  ((withRegs { alive with sections := alive.sections ++ [(0x60, treeSec)] }
    [(Reg.HW_ROLE, w64 (role + (if named then 8 + 2 ^ 8 else 0))), (Reg.HW_BOOT, w64 (16 * stage)),
      (Reg.RTL_LINK_STATE 0, 0x22#64), (Reg.RTL_LINK_STATE 23, 0x22#64)]).setLink 0 x).setLink 23 x

/-- The first DATA flit of two of a packet of 11 words for device `dst`. -/
def dataFlit (dst : Nat) : Flit := flitOf 1 0 0xE#16 (w64 (dst + 11 * 2 ^ 40) :: [1, 2, 3, 4, 5].map w64)

/-- A manager with ID 1 that routes device 2 to link 23, both engines in one partition. -/
def routing : State := withReg (node 2 6 true) (Reg.RTL_ROUTE 2) 0x37#64

theorem witness_flitsArrive :
    (∀ p ∈ [(0, 0), (4, 1), (4, 2), (4, 3), (5, 0), (2, 0)],
        (node 1 6 false).flitPasses 23 (flitOf p.1 p.2 0#16 [0xFFF#64, 1#64]) p.1 p.2 = true)
      ∧ (∀ d ∈ [1, 2, 3], routing.flitPasses 0 (dataFlit d) 1 0 = true) ∧ (0xE#16).getLsbD 3 = true ∧ (0xE#16).getLsbD 4 = false
      ∧ (dataFlit 1).words.length = 6 ∧ (0xE#16).toNat % 8 = 6 ∧ routing.isolated = false ∧ (routing.link 0).cur = none
      ∧ routing.packetWay 0 ((dataFlit 1).words.headD 0#64) = .own [] 0 .gone
      ∧ routing.packetWay 0 ((dataFlit 2).words.headD 0#64) = .forward 23 11 0 0
      ∧ routing.packetWay 0 ((dataFlit 3).words.headD 0#64) = .drop
      ∧ lengthOk (field ((dataFlit 1).words.headD 0#64) 51 40) 6 1 false = true ∧ lengthOk 11 6 1 false = true
      ∧ routing.rootlink.cutting = none ∧ routing.sendsNow 23 = true ∧ (routing.link 23).ownTurn = false
      ∧ (node 1 6 false).upstream = some 23 ∧ (node 1 6 false).isDown 0 = true
      ∧ ((node 1 6 false).link 23).exchange = some (1#64, 2#64, 3#64) ∧ wordOf (flitOf 4 3 0#16 [9#64, 3#64]) 2 = 3#64
      ∧ (node 1 6 false).rootlink.cutting = none ∧ (node 1 6 false).isManager = false ∧ (node 1 6 false).mayCut = true
      ∧ ((node 1 6 false).rd Reg.RTL_BLAZE_LAST).toNat < (wordOf (flitOf 2 0 0#16 [1#64]) 1).toNat := by decide +kernel

/-- The same where packets for the device go to queue 1, in a pool of `n` cells. -/
def taking (n : Nat) : State :=
  withRegs routing [(Reg.QM_ISRC 96, 0x100001#64), (Reg.QM_GPOOL 0, w64 (n * 2 ^ 16))]

theorem witness_ownPackets :
    (∀ n ∈ [0, 100],
      let s := taking n
      let f := dataFlit 1
      let ws := f.words.take 6
      s.flitPasses 0 f 1 0 = true ∧ s.packetWay 0 (ws.headD 0#64) = .own [] 0 .gone
        ∧ (let b := ((s.heard 0 f true 0).updLink 0 (fun y => { y with rx := [⟨true, false, ws, s.rootlink.cutting.isSome, true⟩] })).openIngress
              0 (ws.headD 0#64)
          ((b.1.setCur 0 (some (.own [] 0 b.2))).putIngress 0 0 ws b.2).isSome = decide (n = 100))) := by decide +kernel

/-- A run that has waited for link 0's answer alone, or has it. -/
def running (waits raised : Bool) : State :=
  { withReg (node 2 6 true) Reg.RTL_BLAZE_CFG 0x10001#64 with
    rootlink := { (node 2 6 true).rootlink with
      runs := [⟨5, [], [], if waits then [0] else [], 0x7FFF, 2, raised⟩] } }

theorem witness_controlFlits :
    (∀ r ∈ [1, 2], ∀ k < 13, (node r 6 true).flitPasses 0 (flitOf 3 k 0x4000#16 [0#64]) 3 k = true)
      ∧ (flitOf 3 11 0#16 []).sub.toNat = 11 ∧ 11 < (flitOf 3 12 0#16 []).sub.toNat
      ∧ (0x4000#16).getLsbD 14 = true ∧ bit (0#64) 14 = false ∧ (node 2 6 true).isManager = true ∧ (node 1 6 false).isWorker = true
      ∧ (node 1 6 false).upstream = some 23 ∧ (node 1 6 false).ownId = none ∧ (node 1 6 true).ownId.isSome = true
      ∧ field (w64 (5 * 2 ^ 25)) 27 25 = 5 ∧ (node 1 2 false).stage = 2 ∧ (withReg (node 1 2 false) Reg.PWR_MODE 2#64).mode = 2
      ∧ (∀ k ∈ [4, 5], (node 1 2 false).flitPasses 0 (flitOf 3 k 0x4000#16 []) 3 k = true)
      ∧ field 0x1FFFFF00#64 31 8 < 2 ^ 21 ∧ (node 1 6 false).mode ≠ 2 ∧ (node 1 2 false).ports.a = [] ∧ (∀ g : Fin 16, (node 1 2 false).flag (Reg.GRV_INJECT g) 63 = false)
      ∧ (withReg (node 1 6 true) Reg.NEG_LOCK 0#64).flag Reg.NEG_LOCK 0 = false ∧ (node 2 6 true).accepted 7 = true
      ∧ (running true false).rootlink.runs = [⟨5, [], [], [0], 0x7FFF, 2, false⟩] := by decide +kernel

/-- BOOT_END of images that are not there. -/
theorem witness_bootEndFails :
    (match ((node 1 2 false).heard 0 (flitOf 3 5 0x4000#16 []) true 1).checkStaged 0 0 3 ⟨0#16, 0#16⟩ with
      | .ok _ => 1
      | .error _ => 2) = 2 := by decide +kernel

/-- A manager in RUN whose command names link 0, with arguments `a` and `b`. -/
def commanding (a b : Nat) : State := withRegs (node 2 6 true) [(Reg.RTL_CMD_ARG 0, w64 a), (Reg.RTL_CMD_ARG 1, w64 b)]

theorem witness_rootlinkCommands :
    (node 1 6 false).upstream = some 23 ∧ (node 1 6 false).sendsNow 23 = true ∧ (node 1 6 false).mode = 3
      ∧ (node 1 6 false).isWorker = true ∧ (node 1 6 false).ownId = none ∧ (node 1 2 false).stage = 2
      ∧ (node 1 2 false).sendsNow 0 = true ∧ (node 1 6 false).linkUp 0 = true ∧ (node 1 6 false).isDown 0 = true
      ∧ (node 2 6 true).isManager = true ∧ (node 2 6 true).accepted 7 = true ∧ (node 1 6 false).isManager = false
      ∧ field ((commanding (5 * 2 ^ 25) 0x3FFF).rd (Reg.RTL_CMD_ARG 1)) 13 0 ≠ 0
      ∧ field ((commanding (5 * 2 ^ 25) 1).rd (Reg.RTL_CMD_ARG 0)) 27 25 = 5 ∧ (commanding 0 1).flag (Reg.RTL_ROUTE 1) 5 = false
      ∧ (withReg (commanding (2 ^ 25) 1) (Reg.RTL_ROUTE 1) 0x37#64).flag (Reg.RTL_ROUTE 1) 5 = true
      ∧ (withReg (commanding (2 ^ 25) 1) (Reg.RTL_ROUTE 1) 0x37#64).fld (Reg.RTL_ROUTE 1) 4 0 ≠ 0
      ∧ (node 2 6 true).linkUp 1 = false ∧ (withReg (node 1 6 true) Reg.RTL_BLAZE_CFG 0#64).flag Reg.RTL_BLAZE_CFG 17 = false
      ∧ (node 2 6 true).sendsNow 0 = true ∧ (node 2 6 true).rootlink.command = none
      ∧ ({ (node 2 6 true).rootlink with command := some 0 } : Rootlink).command.isSome = true := by decide +kernel

/-- BOOT_SEND reads 32 bytes of the Heartwood's memory; of a hole it reads nothing. -/
theorem witness_bootSend :
    ([hwMemBase, 0x7000000000].map (fun a => match ((commanding a 32).bootImage
        ((commanding a 32).rd (Reg.RTL_CMD_ARG 0)).toNat ((commanding a 32).rd (Reg.RTL_CMD_ARG 1)).toNat).2 with
      | .ok d => d.length
      | .error _ => 0)) = [32, 0] := by decide +kernel

/-- A manager at which an initiation is pending, a cut of Blaze 5 in progress when `cut`. -/
def initiating (cut : Bool) : State :=
  { withRegs (node 2 6 true) [(Reg.RTL_BLAZE_CFG, 0x10001#64), (Reg.RTL_BLAZE_STATUS, 4#64), (Reg.RTL_BLAZE_NEXT, 1#64)] with
    rootlink := { (node 2 6 true).rootlink with cutting := if cut then some (5, []) else none } }

theorem witness_blazeLife :
    (initiating false).isManager = true ∧ (initiating false).accepted 7 = true ∧ (initiating false).fld Reg.RTL_BLAZE_CFG 15 0 ≠ 0
      ∧ (initiating false).flag Reg.RTL_BLAZE_CFG 16 = true ∧ (initiating false).flag Reg.RTL_BLAZE_STATUS 2 = true
      ∧ (initiating false).rootlink.cutting = none ∧ (initiating false).rootlink.lastStart = 0
      ∧ (initiating false).mayCut = true ∧ ((initiating false).rd Reg.RTL_BLAZE_LAST).toNat < ((initiating false).rd Reg.RTL_BLAZE_NEXT).toNat
      ∧ (withReg (initiating false) Reg.PWR_MODE 9#64).mayCut = false
      ∧ (initiating true).rootlink.cutting = some (5, []) ∧ (initiating true).rootlink.later = []
      ∧ (running false false).rootlink.runs.all (fun r => (running false false).blazeDoneHere r && r.answers.isEmpty && !r.raised) = true
      ∧ (running true true).rootlink.runs.all (fun r => r.raised && !r.answers.isEmpty) = true := by decide +kernel

/-- The cut of Blaze 5 with two OPEN journals, one of them a ring. -/
def cutting : State :=
  { initiating true with
    jw := { Jw.reset with
      journals := [(1, { Journal.reset with segOpen := true, nextSeg := 1, off := 100 }),
        (2, { Journal.reset with segOpen := true, nextSeg := 1, off := 100 })] } }

theorem witness_cutPoint :
    cutting.rootlink.cutting = some (5, []) ∧ cutting.rootlink.later = [] ∧ cutting.upLinks = [0, 23]
      ∧ cutting.sendsNow 0 = true ∧ cutting.sendsNow 23 = true ∧ cutting.isolated = false
      ∧ cutting.allJournals.map (fun p => (p.1, p.2.ring, cutting.jstate p.1)) = [(1, false, 2), (2, true, 2)]
      ∧ cutting.jw.journals.all (fun p => p.2.capture.isNone) = true ∧ (cutting.rd (Reg.JW_JSEQ 1)).toNat < 2 ^ 62 := by
  decide +kernel

theorem witness_cutPointSound : cutting.journalsSound := journalsSound_of _ (by decide +kernel)

/-! ### Low-speed ports and JTAG -/

/-- The UART runs; its transmit FIFO holds `n` bytes and its receive FIFO `m`; flash BUSY when `busy`. -/
def ported (n m : Nat) (busy : Bool) : State :=
  { withRegs alive [(Reg.UST_ISL 29, 1#64), (Reg.UST_XSPI_CMD, if busy then 0x4000000001000000#64 else 0#64),
      (Reg.UST_SSO, 0x40000#64)] with
    uart := { Uart.reset with tx := List.replicate n 0xFF#8, rx := List.replicate m (0xAA#8, true) } }

theorem witness_lowSpeedPorts :
    (ported 64 64 true).flag Reg.UST_XSPI_CMD 62 = true ∧ (ported 64 64 true).board.flashReady = 0 ∧ (ported 0 0 false).flag Reg.UST_XSPI_CMD 62 = false
      ∧ bit 0x8000000000000000#64 63 = true ∧ min 256 (field 0x1FF#64 18 10) = 0 ∧ (ported 0 0 false).flag Reg.UST_I2C_CMD 62 = false
      ∧ (ported 64 64 true).uartOn = true ∧ (ported 63 63 false).uart.tx.length = 63 ∧ (ported 64 64 true).uart.rx.length = 64
      ∧ (ported 1 1 false).uart.tx = [0xFF#8] ∧ (ported 0 0 false).uart.rx = [] := by decide +kernel

/-- Each port's register is refused while its island is reset, and is reached while it runs. -/
theorem witness_portIslands :
    ∀ p ∈ [(Reg.UST_XSPI_CMD, 27), (Reg.UST_I2C_CMD, 28), (Reg.UST_UART_TX, 29), (Reg.UST_SSO, 26)],
      (ported 0 0 false).accessCheck .heartwood true p.1 8 0#64 = none
        ∧ (withReg (ported 0 0 false) (Reg.UST_ISL p.2) 2#64).accessCheck .heartwood true p.1 8 0#64 = some 1 := by
  decide +kernel

/-- Mode `m`, `n` refusals of service so far, a key word programmed when `keyed`. -/
def serviced (m n : Nat) (keyed : Bool) : State :=
  { withRegs alive [(Reg.PWR_MODE, w64 m), (Reg.UST_SVC, w64 (256 * n))] with
    board := { Board.reset with porst := true, keyWords := if keyed then [(0, some 1#64)] else [] }
    jtag := { Jtag.reset with challenge := some 5#256 } }

/-- A request that no key has signed. -/
def unsigned : SvcRequest := ⟨0, 0#512, 0#256, 0#256⟩

theorem witness_jtagInstructions :
    State.reset.board.porst = false ∧ (serviced 11 0 false).mode = 11 ∧ (serviced 3 0 false).mode = 3
      ∧ (serviced 3 0 false).board.porst = true ∧ (serviced 3 3 false).fld Reg.UST_SVC 9 8 = 3
      ∧ (serviced 10 2 false).fld Reg.UST_SVC 9 8 = 2 ∧ (serviced 10 2 false).keySlots.any = false
      ∧ (serviced 2 2 true).keySlots.any = true ∧ (serviced 2 2 true).jtag.challenge = some 5#256
      ∧ (serviced 2 2 true).svcHolds unsigned 5#256 = false
      ∧ (serviced 11 0 false).jtag.access = none
      ∧ ({ Jtag.reset with access := some (1, 8, 0#64) } : Jtag).access.isSome = true
      ∧ (serviced 11 0 false).accessCheck .jtag false Reg.HW_ROLE 8 0#64 = none
      ∧ ((match ((serviced 11 0 false).devRead .jtag (canon .jtag Reg.HW_ROLE) 8 quietBoard).2 with
        | .ok d => d.length
        | .error _ => 0) = 8) := by decide +kernel

/-- SVC_ACCESS writes: to a Glade's DMEM, to a hole, and to a Grove memory that is waking. -/
theorem witness_serviceWrites :
    let s := (serviced 11 0 false).withPorts []
    let w := (withReg (serviced 11 0 false) (Reg.PWR_DOM 20) 0x30#64).withPorts []
    s.accessCheck .jtag true (gladeBase 0 + 0x10008) 8 5#64 = none ∧ s.accessWaits (gladeBase 0 + 0x10008) = false
      ∧ canon .jtag (gladeBase 0 + 0x10008) = gladeBase 0 + 0x10008 ∧ s.regionOf (gladeBase 0 + 0x10008) = .dmem 0
      ∧ s.flag (Reg.GRV_INJECT 0) 63 = false ∧ s.accessCheck .jtag true 0x7000000000 8 5#64 = some 1
      ∧ w.accessCheck .jtag true (groveMemBase 0) 8 5#64 = none ∧ w.accessWaits (canon .jtag (groveMemBase 0)) = true := by
  decide +kernel

/-! ### Glade control and safety -/

/-- Glade 0 in run state `r`, with a record open and a load in flight. -/
def held (r : RunState) : State :=
  { withReg alive (Reg.SAF_GCTL 0) 0x10#64 with
    glades := [(0, { idleCore with
        run := r, started := true, record := some ⟨2, [9#64], false, 0⟩
        grf := [(1, ⟨5#64, 7#4⟩)], loads := (loading.glade 0).loads }), (256, idleCore)] }

theorem witness_gladeControl :
    (held .running).pairOf 0 = none ∧ ((held .running).glade 0).run = .running ∧ (held .running).buses 0 ≠ 0
      ∧ ((held .clearing).glade 0).run = .clearing ∧ ((held .stopped).glade 0).run = .stopped
      ∧ ((held .held).glade 0).run = .held ∧ ((held .held).glade 0).started = true ∧ ((held .fenced).glade 0).run = .fenced ∧ (held .running).txn 0 = none := by decide +kernel

theorem witness_safeEntry :
    bit 0x100000000#64 32 = true ∧ bit 0#64 32 = false ∧ bit 2#64 1 = true ∧ (held .running).mode = 3
      ∧ (held .running).flag Reg.PWR_MODE 8 = false := by decide +kernel

theorem witness_safeOutputs :
    let s := { held .running with board := { (held .running).board with porst := true } }
    s.board.vio33 = true ∧ s.board.vaon = true ∧ s.board.porst = true ∧ s.jtag.pins = 0 ∧ s.mode = 3
      ∧ s.flag Reg.PWR_MODE 8 = false ∧ s.power.safeDue = 0 ∧ (∃ k : Fin 16, s.buses k ≠ 0)
      ∧ (withReg (wired 3 0x22) Reg.PWR_MODE 10#64).mode = 10 ∧ (withReg (wired 3 0x22) Reg.PWR_MODE 10#64).power.down = false
      ∧ (withReg (wired 3 0x22) Reg.PWR_MODE 10#64).sealingDone = true := by decide +kernel

/-- Glades 0 and 1 a pair at a seal point that the timer has made, the trailing one at position `pc`; a divergence is
being re-run when `again`. -/
def paired (pc : W64) (again : Bool) : State :=
  let x := fun (w : W64) => { idleCore with started := true, cntIssued := 4096#64, pc := w }
  { alive with
    sections := [(0x10, gladeSec ++ gladeSec), (0x11, List.replicate 8 0#8 ++ [0x10#8])]
    glades := [(0, x 0#64), (1, x pc)]
    pairs := [(0, { Pair.reset with timer := true, rerun := again })] }

theorem witness_pairsSeal :
    (paired 0#64 false).pairOf 0 = some (0, 1) ∧ (paired 0#64 false).pairOf 1 = some (0, 1)
      ∧ (paired 0#64 false).runs 0 = true ∧ (paired 0#64 false).runs 1 = true ∧ (paired 0#64 false).timeRuns = true
      ∧ (paired 0#64 false).sealIdle 0 = true ∧ (paired 0#64 false).sealIdle 1 = true := by decide +kernel

/-- What a seal of the two sees. -/
def sealSeen (s : State) : State × Stand × Stand := s.sealView 0 1 (State.standAt [] noReply)

theorem witness_sealPoint :
    (match sealSeen (paired 0#64 false) with
      | (w, a, b) => w.pairOf 0 == some (0, 1) && w.pairOf 1 == some (0, 1) && w.sealPos 0 == w.sealPos 1
          && (w.pair 0).sealed == false && (w.pair 0).feed.isEmpty && w.sealPoint 0 a && !w.mustMeet 0 1 && a.same b) = true := by
  decide +kernel

theorem witness_sealAlike :
    (sealSeen (paired 0#64 false)).1.glade 0 = (sealSeen (paired 0#64 false)).1.glade 1
      ∧ (sealSeen (paired 0#64 false)).2.1.fx = (sealSeen (paired 0#64 false)).2.2.fx := by
  decide +kernel

theorem witness_sealSame :
    ((sealSeen (paired 0#64 false)).1.glade 0).sealFold (sealSeen (paired 0#64 false)).2.1.fx
      = ((sealSeen (paired 0#64 false)).1.glade 1).sealFold (sealSeen (paired 0#64 false)).2.2.fx := by
  rw [witness_sealAlike.1, witness_sealAlike.2]

theorem witness_sealDiffers :
    [false, true].all (fun again => match sealSeen (paired 2#64 again) with
      | (w, a, b) => w.sealPoint 0 a && w.sealPos 0 == w.sealPos 1 && !a.same b) = true := by decide +kernel

/-- The leading Glade has passed a position at which the trailing one raises an exception. -/
theorem witness_sealPassed :
    (match sealSeen ((paired 2#64 false).updGlade 0 (fun x => { x with cntIssued := 4097#64 })) with
      | (w, _, b) => w.sealPos 0 != w.sealPos 1 && w.sealHere 1 b) = true := by decide +kernel

theorem witness_sealWaits :
    let s := (paired 0#64 false).updGlade 1 (fun x => { x with divOp := some ⟨5, 0, 0#64, 0#64, 0, 0#64, false, false, []⟩ })
    let r := s.readyWith 0 (.qpu .putl) (TWord.plain 0#64) noFlags
    s.runs 1 = true ∧ s.mayIssue 0 false = true ∧ r.2.isCause = false ∧ s.entryDue 0 = false
      ∧ r.1.pairHolds 0 (r.1.nativeStand 0 r.2) = true ∧ s.sealIdle 1 = false := by decide +kernel

/-- What a trailing Glade does outside its own memories: a store waits for the seal, a load takes what its leader got. -/
theorem witness_trailingAccess :
    let s := (paired 0#64 false).updGlade 1 (fun x => { x with thread := { Bank.reset with lsuA := w64 dramBase } })
    let r := s.readyWith 1 (.lsu .st .disp) (TWord.plain 0#64) noFlags
    let fed := (s.updGlade 1 (fun x => { x with
        thread := { x.thread with pos := 1, due := [⟨2, .loadWait⟩] }
        loads := [⟨0, 1, false, dramBase, dramBase, 8, false, false, 0, false, none⟩] })).setPair 0
      { Pair.reset with feed := [(0, .load 0x55#64)] }
    s.isTrailing 1 = true ∧ s.isLocal 1 dramBase = false ∧ s.mayIssue 1 false = true
      ∧ r.1.pairHolds 1 (r.1.nativeStand 1 r.2) = true ∧ (fed.glade 1).loads.length = 1
      ∧ (fed.takeFeed 1 (fun e => e.2.isLoad)).map (fun p => match p.2 with
          | .load v => v
          | _ => 0#64) = some 0x55#64 := by decide +kernel

/-- The watchdog of Glade 0 and of the Heartwood is armed; each is in its first expiry when `first`, in the handler
bank when `handler`. -/
def watched (first handler : Bool) : State :=
  let x := { idleCore with started := true, wdogFirst := first, inHandler := handler }
  { withReg alive (Reg.SAF_MECH 7) 0x10001#64 with glades := [(0, x), (256, x)] }

/-- Supply 32 is out of its window when `out`, its record valid; the temperature mechanism is armed with PARAM −1, and
one sample above it has been taken when `hot`. -/
def supplied (out hot : Bool) : State :=
  { withRegs alive [(Reg.SAF_MECH 10, 0xFFFFFFFF00000001#64), (Reg.SAF_STATUS, if out then 0x8000#64 else 0#64),
      (Reg.SAF_ERR_INFO 0, 0x1501#64), (Reg.SAF_ERR_ADDR 0, 16#64)] with
    monitors := { Monitors.reset with outside := if out then [32] else [], tempHigh := if hot then 1 else 0 } }

theorem witness_expiryAndSupplies :
    (watched false false).armed 8 (some 0) = true ∧ (watched false false).pairOf 0 = none ∧ (watched false false).timeRuns = true
      ∧ (∀ a b : Bool, ((watched a b).glade 0).wdogFirst = a ∧ ((watched a b).glade 256).inHandler = b)
      ∧ (watched false false).groveFenced 0 = false ∧ (watched false false).mode ≠ 10
      ∧ (supplied false true).tallyOn = true ∧ (supplied false true).fld (Reg.PWR_RAIL 16) 25 16 = 0
      ∧ (withReg (supplied false true) (Reg.PWR_RAIL 16) 0x3200320#64).flag (Reg.PWR_RAIL 16) 28 = false
      ∧ (withReg (supplied false true) (Reg.PWR_RAIL 16) 0x3200320#64).fld (Reg.PWR_RAIL 16) 25 16 ≠ 0
      ∧ (supplied true false).monitors.outside = [32] ∧ (supplied false false).monitors.outside = []
      ∧ (supplied true false).flag (Reg.SAF_ERR_INFO 0) 0 = true ∧ (supplied true false).fld (Reg.SAF_ERR_INFO 0) 15 8 = 0x15
      ∧ (supplied true false).fld (Reg.SAF_ERR_ADDR 0) 47 0 = 16 ∧ (supplied true true).armed 11 none = true
      ∧ int32 (field ((supplied true true).mech 11) 63 32) = -1 ∧ (supplied true true).monitors.tempHigh = 1 := by decide +kernel

/-- The Heartwood's sensor is the hottest of the 17. -/
theorem witness_tempSensors :
    let x : TempSensors := ⟨85#16, List.replicate 16 0xFFD8#16⟩
    (x.heartwood :: x.groves).contains 85#16 = true
      ∧ (x.heartwood :: x.groves).all (fun k => decide (k.toInt ≤ (85#16).toInt)) = true := by decide +kernel

/-- Premises of several statements on ports, loads and stores, at the states that their other witnesses use. -/
theorem witness_quietPremises :
    ((swapping.withPorts []).ready 256).1.entryDue 256 = false ∧ stacking.readErrs = [] ∧ stacking.spoiled = []
      ∧ closing.jw.closed.all (fun r => closing.drainedBefore r.glade r.seq) = true ∧ ticketed.turnReady 1 = true
      ∧ (∀ b : Bool, (decidingTurn b).turnReady 0 = true) ∧ (applying.txu 0).passDone = []
      ∧ (cared none 0x8000000040000000).readErrs = [] ∧ (cared none 0x8000000040000000).domainOn 36 = true
      ∧ (hosted.withPorts []).accessWaits (canon .host 0x100000000) = false
      ∧ ((serviced 11 0 false).withPorts []).accessWaits (canon .jtag Reg.HW_ROLE) = false
      ∧ ((node 1 6 false).link 23).retry.length ≤ 256 ∧ (railed 3).flag (Reg.PWR_RAIL 16) 28 = true
      ∧ (withReg booted (Reg.LANE_PCIE_STAT 2 0) 1#64).flag (Reg.LANE_PCIE_STAT 2 0) 0 = true
      ∧ (resting 3 0).power.safeDue = 0 := by decide +kernel

theorem witness_accessCodes :
    (regAt Reg.UST_SVC).isSome = true ∧ alive.regionOf Reg.UST_SVC = .control
      ∧ alive.accessCheck .heartwood true Reg.UST_SVC 8 0#64 = none ∧ plainWrite Reg.UST_SVC = true
      ∧ alive.accessCheck .heartwood false Reg.UST_SVC 8 0#64 = none ∧ Reg.UST_SVC ≠ Reg.UST_UART_RX
      ∧ (alive.touch Reg.UST_SVC).formed .heartwood Reg.UST_SVC = none ∧ Reg.UST_SVC ≠ Reg.RTL_BOARD
      ∧ Reg.UST_SVC ≠ Reg.UST_I2C_CMD := by decide +kernel

end Sys2Proof.Tests
end

section
/-! PROOF. The state after reset, and the access codes of registers without behaviour of their own (R4, R10, R11). -/

namespace Sys2Proof.Machine

/-! ### Reset -/

/-- After reset every register holds its reset value. -/
theorem State.rd_reset (a : Nat) : State.reset.rd a = regReset a := rfl

/-- Settles O3: nothing is listed, so every register reads its table's reset value. -/
theorem resetState : Obligations.ResetState := by
  refine ⟨rfl, rfl, rfl, fun _ => rfl, rfl, by decide +kernel, ?_, ?_, rfl⟩
  · intro a row hrow hid
    rw [State.rd_reset, regReset, if_neg hid, hrow]
    rfl
  · rw [State.rd_reset, regReset, if_pos rfl]
    cases Config.gradeX
    · exact Or.inr rfl
    · exact Or.inl rfl

/-! ### The access codes -/

/-- Only control registers change where a Grove's regulator wakes. -/
theorem State.groveWakes_ctlOnly (s : State) (g : Nat) : CtlOnly s (s.groveWakes g) := by
  unfold State.groveWakes
  split <;> rfl

/-- Only control registers change where an access wakes a regulator. -/
theorem State.touch_ctlOnly (s : State) (a : Nat) : CtlOnly s (s.touch a) := by
  unfold State.touch
  split
  · exact s.groveWakes_ctlOnly _
  · exact s.groveWakes_ctlOnly _
  · exact s.groveWakes_ctlOnly _
  · split
    · exact s.groveWakes_ctlOnly _
    · rfl
  · rfl

/-- A register write is a change of control registers. -/
theorem State.wr_ctlOnly (s : State) (a : Nat) (v : W64) : CtlOnly s (s.wr a v) := rfl

/-- A write by the access codes writes its register once. -/
theorem State.codesWrite_of_row {s : State} {a : Nat} {row : RegRow} (h : regAt a = some row) (v : W64) :
    s.codesWrite a v = s.wr a ((((s.rd a &&& ~~~(w64 row.rw)) ||| (v &&& w64 row.rw)) &&& ~~~(v &&& w64 row.w1c))
      ||| (v &&& w64 row.w1s)) := by
  simp only [State.codesWrite, h]

theorem bit_w64 (n : Nat) {i : Nat} (hi : i < 64) : bit (w64 n) i = n.testBit i := by
  rw [bit, w64, BitVec.getLsbD_ofNat, decide_eq_true hi, Bool.true_and]

theorem bit_and (x y : W64) (i : Nat) : bit (x &&& y) i = (bit x i && bit y i) := BitVec.getLsbD_and

theorem bit_or (x y : W64) (i : Nat) : bit (x ||| y) i = (bit x i || bit y i) := BitVec.getLsbD_or

theorem bit_not (x : W64) {i : Nat} (hi : i < 64) : bit (~~~x) i = !bit x i := by
  rw [bit, BitVec.getLsbD_not, decide_eq_true hi, Bool.true_and, bit]

/-- Bit by bit, a write by the access codes (R10): RW as written, W1C cleared and W1S set by ones. -/
theorem State.flag_codesWrite {s : State} {a : Nat} {row : RegRow} (h : regAt a = some row) (v : W64) {i : Nat}
    (hi : i < 64) : (s.codesWrite a v).flag a i =
      (((if row.rw.testBit i then bit v i else s.flag a i) && !(row.w1c.testBit i && bit v i))
        || (row.w1s.testBit i && bit v i)) := by
  rw [State.codesWrite_of_row h]
  simp only [State.flag, State.rd_wr, if_true, bit_or, bit_and, bit_not _ hi, bit_w64 _ hi]
  cases row.rw.testBit i <;> cases row.w1c.testBit i <;> cases row.w1s.testBit i <;> simp

/-- An address below a run of registers is none of them. -/
theorem nth_of_lt {base a : Nat} (stride n : Nat) (h : a < base) : nth base stride n a = none :=
  if_neg fun k => absurd k.1 (Nat.not_le.2 h)

/-- A register whose writes follow a rule of their own is not written by its access codes alone. -/
theorem ruledWrite_of_plainWrite {a : Nat} (h : plainWrite a = true) : ruledWrite a = false := by
  have hq : Reg.QM_EGQ 0 = 0x402001000 := rfl
  have he : Reg.LANE_EQ 0 = 0x407010008 := rfl
  by_cases ha : a < 0x401000000
  · have hlist : [Reg.NEG_ACCEPT 0, Reg.NEG_ACCEPT 1, Reg.SM_KEYPROG_DATA, Reg.PWR_LEAN_CFG,
        Reg.RTL_BLAZE_NEXT].contains a = false := by
      simp [Reg.NEG_ACCEPT, Reg.SM_KEYPROG_DATA, Reg.PWR_LEAN_CFG, Reg.RTL_BLAZE_NEXT]
      omega
    rw [ruledWrite, hlist, nth_of_lt _ _ (by omega), nth_of_lt _ _ (by omega)]
    rfl
  · simp only [plainWrite, if_neg ha, Bool.and_eq_true, List.all_cons, Bool.not_eq_true', Option.isNone_iff_eq_none,
      List.contains_cons, Bool.or_eq_false_iff] at h
    simp only [ruledWrite, List.contains_cons, h, Bool.or_self]
    rfl

theorem State.registerWrite_plain {s : State} {a : Nat} {v : W64} (hc : s.regionOf a = .control)
    (hk : s.accessCheck .heartwood true a 8 v = none) (hp : plainWrite a = true) :
    s.registerWrite a v = (s.touch a).codesWrite a v := by
  simp [State.registerWrite, hc, hk, hp, ruledWrite_of_plainWrite hp]

/-- A plain write leaves what its access codes say, and nothing else. -/
theorem settles_registerWrite {s : State} {a : BitVec 48} {row : RegRow} (hr : regAt a.toNat = some row)
    (hc : s.regionOf a.toNat = .control) {v : W64} (hk : s.accessCheck .heartwood true a.toNat 8 v = none)
    (hp : plainWrite a.toNat = true) :
    Settles (.registerWrite a v) s (fun u =>
      (CtlOnly (s.touch a.toNat) u ∧ ∀ b, b ≠ a.toNat → u.rd b = (s.touch a.toNat).rd b)
        ∧ ∀ i, i < 64 → u.flag a.toNat i =
          (((if row.rw.testBit i then bit v i else (s.touch a.toNat).flag a.toNat i)
            && !(row.w1c.testBit i && bit v i)) || (row.w1s.testBit i && bit v i))) := by
  refine ⟨s.registerWrite a.toNat v, rfl, ?_⟩
  rw [State.registerWrite_plain hc hk hp]
  refine ⟨⟨?_, fun b hb => ?_⟩, fun i hi => State.flag_codesWrite hr v hi⟩
  · rw [State.codesWrite_of_row hr]
    exact State.wr_ctlOnly ..
  · rw [State.codesWrite_of_row hr, State.rd_wr, if_neg hb]

/-- Pins that other devices drive take a free value at most. -/
theorem State.pinLevels_state (s : State) (a : Nat) (v : W64) :
    (s.pinLevels a v).1 = { s with free := (s.pinLevels a v).1.free } := by
  unfold State.pinLevels
  split
  · rfl
  · split <;> rfl

/-- A register without such pins reads as it is formed. -/
theorem State.pinLevels_of_ne (s : State) {a : Nat} (v : W64) (hb : a ≠ Reg.RTL_BOARD) (hi : a ≠ Reg.UST_I2C_CMD) :
    s.pinLevels a v = (s, v) := by
  rw [State.pinLevels, if_neg hb, if_neg hi]

/-- What a read of register `a` finds before WO and reserved bits are masked. -/
def State.shown (s : State) (r : Requester) (a : Nat) : State × W64 := s.pinLevels a ((s.formed r a).getD (s.rd a))

/-- A read of a register clears its RC fields and shows the bits that are neither WO nor reserved. -/
theorem State.regRead_of_row {s : State} {a : Nat} {row : RegRow} (hr : regAt a = some row) (r : Requester)
    (hu : a ≠ Reg.UST_UART_RX) : s.regRead r a =
      (let p := (s.touch a).shown r a
      (if row.rc = 0 then p.1 else p.1.wr a (p.1.rd a &&& ~~~(w64 row.rc)),
        p.2 &&& ~~~(w64 row.wo) &&& w64 row.used)) := by
  simp only [State.regRead, hr, if_neg hu, State.shown]
  split <;> rfl

/-- The state a read leaves: RC bits of its register cleared, free values drawn, a regulator woken. -/
theorem State.regRead_leaves {s : State} {a : Nat} {row : RegRow} (hr : regAt a = some row) (r : Requester)
    (hu : a ≠ Reg.UST_UART_RX) :
    (∀ i, i < 64 → (s.regRead r a).1.flag a i = ((s.touch a).flag a i && !row.rc.testBit i))
      ∧ (∀ b, b ≠ a → (s.regRead r a).1.rd b = (s.touch a).rd b)
      ∧ (s.regRead r a).1 = { s with ctl := (s.regRead r a).1.ctl, free := (s.regRead r a).1.free } := by
  have hs : ((s.touch a).shown r a).1 = { s.touch a with free := ((s.touch a).shown r a).1.free } :=
    State.pinLevels_state ..
  have ht : s.touch a = { s with ctl := (s.touch a).ctl } := s.touch_ctlOnly a
  have hd : ∀ b, ((s.touch a).shown r a).1.rd b = (s.touch a).rd b := fun b => by rw [hs]; rfl
  rw [State.regRead_of_row hr r hu]
  dsimp only
  by_cases hrc : row.rc = 0
  · rw [if_pos hrc]
    refine ⟨fun i _ => ?_, fun b _ => hd b, ?_⟩
    · rw [State.flag, hd, hrc, Nat.zero_testBit, Bool.not_false, Bool.and_true]
      rfl
    · rw [hs, ht]
  · rw [if_neg hrc]
    refine ⟨fun i hi => ?_, fun b hb => ?_, ?_⟩
    · rw [State.flag, State.rd_wr, if_pos rfl, hd, bit_and, bit_not _ hi, bit_w64 _ hi]
      rfl
    · rw [State.rd_wr, if_neg hb, hd]
    · rw [hs, ht]
      rfl

/-- The word a read shows: WO and reserved bits 0, and every other bit as it is stored where nothing forms it. -/
theorem State.regRead_shows {s : State} {a : Nat} {row : RegRow} (hr : regAt a = some row) (r : Requester)
    (hu : a ≠ Reg.UST_UART_RX) {i : Nat} (hi : i < 64) :
    ((row.used.testBit i = false ∨ row.wo.testBit i = true) → bit (s.regRead r a).2 i = false)
      ∧ ((s.touch a).formed r a = none → a ≠ Reg.RTL_BOARD → a ≠ Reg.UST_I2C_CMD →
          row.used.testBit i = true → row.wo.testBit i = false → bit (s.regRead r a).2 i = (s.touch a).flag a i) := by
  rw [State.regRead_of_row hr r hu]
  simp only [bit_and, bit_not _ hi, bit_w64 _ hi]
  constructor
  · rintro (h | h) <;> simp [h]
  · intro hf hb hc hused hwo
    rw [State.shown, hf, State.pinLevels_of_ne _ _ hb hc, hused, hwo, Bool.not_false, Bool.and_true, Bool.and_true]
    rfl

theorem State.registerRead_allowed {s : State} {a : Nat} (hc : s.regionOf a = .control)
    (hk : s.accessCheck .heartwood false a 8 0#64 = none) :
    s.registerRead a = { (s.regRead .heartwood a).1 with
      out := .reg (s.regRead .heartwood a).2 :: (s.regRead .heartwood a).1.out } := by
  simp [State.registerRead, hc, hk]

/-- Settles O59: a write by `State.flag_codesWrite`, a read by what it leaves and what it shows. -/
theorem accessCodes : Obligations.AccessCodes := by
  intro s a row hr hc
  refine ⟨fun v hk hp => settles_registerWrite hr hc hk hp, fun hk hu => ?_⟩
  obtain ⟨hflag, hrd, hst⟩ := State.regRead_leaves (s := s) hr .heartwood hu
  refine ⟨s.registerRead a.toNat, rfl, ?_⟩
  rw [State.registerRead_allowed hc hk]
  refine ⟨⟨_, ?_, fun i hi => (State.regRead_shows hr _ hu hi).1, fun hf hb hi2 i hi hused hwo =>
    (State.regRead_shows hr _ hu hi).2 hf hb hi2 hused hwo⟩, hflag, hrd, ?_⟩
  · rw [hst]
  · rw [hst]

end Sys2Proof.Machine
end

section
/-! SUPPORT. What an access to memory leaves of the engines: the queue manager's state and registers, and the journal
writer's but for the trigger points that it may note (R350). -/

namespace Sys2Proof.Machine

/-! ### The relation -/

/-- A control register of the queue manager's or of the journal writer's block (R26). -/
def engineReg (a : Nat) : Prop := 0x402000000 ≤ a ∧ a < 0x404000000

/-- From `s` to `t` the queue manager and the journal writer stay as they were, trigger points noted aside. -/
structure EnginesKept (s t : State) : Prop where
  qm : t.qm = s.qm
  jw : t.jw = { s.jw with triggers := t.jw.triggers }
  rd : ∀ a, engineReg a → t.rd a = s.rd a

namespace EnginesKept

theorem refl (s : State) : EnginesKept s s := ⟨rfl, rfl, fun _ _ => rfl⟩

theorem trans {s t u : State} (h : EnginesKept s t) (k : EnginesKept t u) : EnginesKept s u :=
  ⟨k.qm.trans h.qm, by rw [k.jw, h.jw], fun a ha => (k.rd a ha).trans (h.rd a ha)⟩

/-- Any change that leaves the engines and every control register. -/
theorem of_eq {s t : State} (hq : t.qm = s.qm) (hj : t.jw = s.jw) (hc : t.ctl = s.ctl) : EnginesKept s t :=
  ⟨hq, by rw [hj], fun a _ => by rw [State.rd, State.rd, hc]⟩

theorem wr (s : State) {a : Nat} (v : W64) (h : ¬ engineReg a) : EnginesKept s (s.wr a v) :=
  ⟨rfl, rfl, fun b hb => by rw [State.rd_wr, if_neg fun e : b = a => h (e ▸ hb)]⟩

theorem setFld (s : State) {a : Nat} (hi lo v : Nat) (h : ¬ engineReg a) : EnginesKept s (s.setFld a hi lo v) :=
  wr s _ h

theorem setFlag (s : State) {a : Nat} (i : Nat) (b : Bool) (h : ¬ engineReg a) : EnginesKept s (s.setFlag a i b) :=
  wr s _ h

theorem satAdd (s : State) {a : Nat} (hi lo n : Nat) (h : ¬ engineReg a) : EnginesKept s (s.satAdd a hi lo n) :=
  wr s _ h

theorem wrapAdd (s : State) {a : Nat} (hi lo n : Nat) (h : ¬ engineReg a) : EnginesKept s (s.wrapAdd a hi lo n) :=
  wr s _ h

theorem foldl {α : Type} {f : State → α → State} (hf : ∀ s x, EnginesKept s (f s x)) (l : List α) (s : State) :
    EnginesKept s (l.foldl f s) := by
  induction l generalizing s with
  | nil => exact refl s
  | cons x l ih => exact (hf s x).trans (ih _)

/-- The same after a change that leaves the engines and every control register. -/
theorem after {s t u : State} (h : EnginesKept t u) (hq : t.qm = s.qm) (hj : t.jw = s.jw) (hc : t.ctl = s.ctl) :
    EnginesKept s u := (of_eq hq hj hc).trans h

/-- A change made only where a condition holds. -/
theorem ite {p : Prop} [Decidable p] {s t u : State} (ht : EnginesKept s t) (hu : EnginesKept s u) :
    EnginesKept s (if p then t else u) := by
  split
  · exact ht
  · exact hu

end EnginesKept

/-! ### Places -/

/-- A region that the part has: those of a Grove are of one of its 16. -/
def Region.inPart (r : Region) : Prop :=
  (∀ g, r = .groveMem g → g < 16) ∧ (∀ i, r = .imem i → i < 256) ∧ ∀ i, r = .dmem i → i < 256

theorem Region.inPart_ite {p : Prop} [Decidable p] {x y : Region} (hx : p → x.inPart) (hy : ¬ p → y.inPart) :
    (if p then x else y).inPart := by
  split
  next h => exact hx h
  next h => exact hy h

/-- Every address lies in a region that the part has. -/
theorem State.regionOf_inPart (s : State) (a : Nat) : (s.regionOf a).inPart := by
  have away : ∀ {p : Prop} [Decidable p] {x y : Region}, x.inPart → y.inPart → (if p then x else y).inPart :=
    fun hx hy => Region.inPart_ite (fun _ => hx) (fun _ => hy)
  have unmapped : Region.unmapped.inPart := by simp [Region.inPart]
  unfold State.regionOf
  dsimp only
  refine away unmapped (Region.inPart_ite (fun h => away ?_ unmapped) fun _ => away unmapped
    (Region.inPart_ite (fun h => Region.inPart_ite (fun _ => unmapped) fun k => away ?_ (away unmapped ?_))
      fun _ => ?_))
  · simp only [Region.inPart, Region.groveMem.injEq, forall_eq', reduceCtorEq, false_implies, implies_true, and_true]
    omega
  · simp only [Region.inPart, Region.imem.injEq, forall_eq', reduceCtorEq, false_implies, implies_true, true_and,
      and_true]
    omega
  · simp only [Region.inPart, Region.dmem.injEq, forall_eq', reduceCtorEq, false_implies, implies_true, true_and]
    omega
  · iterate 13 refine away (by simp [Region.inPart]) ?_
    exact unmapped

/-- A set of error records that the part has. -/
def RecSet.inPart : RecSet → Prop
  | .grove g => g < 16
  | _ => True

/-- The registers of a record set are none of the engines'. -/
theorem RecSet.outside {r : RecSet} (h : r.inPart) {n : Nat} (hn : n < 8) :
    ¬ engineReg r.status ∧ ¬ engineReg (r.info n) ∧ ¬ engineReg (r.addr n) := by
  cases r with
  | grove g =>
    have hg : g < 16 := h
    simp only [RecSet.status, RecSet.info, RecSet.addr, engineReg, Reg.GRV_ERR_STATUS, Reg.GRV_ERR_INFO,
      Reg.GRV_ERR_ADDR]
    omega
  | heartwood =>
    simp only [RecSet.status, RecSet.info, RecSet.addr, engineReg, Reg.SAF_ERR_STATUS, Reg.SAF_ERR_INFO,
      Reg.SAF_ERR_ADDR]
    omega
  | ddr c =>
    simp only [RecSet.status, RecSet.info, RecSet.addr, engineReg, Reg.DDR_ERR_STATUS, Reg.DDR_ERR_INFO,
      Reg.DDR_ERR_ADDR]
    omega

theorem RecSet.status_outside {r : RecSet} (h : r.inPart) : ¬ engineReg r.status :=
  (RecSet.outside h (n := 0) (by decide)).1

theorem RecSet.info_outside {r : RecSet} (h : r.inPart) {n : Nat} (hn : n < 8) : ¬ engineReg (r.info n) :=
  (RecSet.outside h hn).2.1

theorem RecSet.addr_outside {r : RecSet} (h : r.inPart) {n : Nat} (hn : n < 8) : ¬ engineReg (r.addr n) :=
  (RecSet.outside h hn).2.2

theorem TLY_CNT_outside (k : Nat) : ¬ engineReg (Reg.TLY_CNT k) := by
  simp only [engineReg, Reg.TLY_CNT]; omega

theorem PWR_DOM_outside (d : Nat) : ¬ engineReg (Reg.PWR_DOM d) := by
  simp only [engineReg, Reg.PWR_DOM]; omega

theorem PWR_RAIL_outside (n : Nat) : ¬ engineReg (Reg.PWR_RAIL n) := by
  simp only [engineReg, Reg.PWR_RAIL]; omega

theorem UST_ISL_outside (i : Nat) : ¬ engineReg (Reg.UST_ISL i) := by
  simp only [engineReg, Reg.UST_ISL]; omega

theorem DDR_CH_WMARK_outside (n : Nat) : ¬ engineReg (Reg.DDR_CH_WMARK n) := by
  simp only [engineReg, Reg.DDR_CH_WMARK]; omega

theorem GRV_BUSY_outside {g : Nat} (h : g < 16) : ¬ engineReg (Reg.GRV_BUSY g) := by
  simp only [engineReg, Reg.GRV_BUSY]; omega

theorem GRV_INJECT_outside {g : Nat} (h : g < 16) : ¬ engineReg (Reg.GRV_INJECT g) := by
  simp only [engineReg, Reg.GRV_INJECT]; omega

/-- The record set of an SRAM word is one of the part's. -/
theorem State.sramErr_inPart (s : State) (r : Requester) (w kind : Nat) : (s.sramErr r w kind).1.inPart := by
  have h := s.regionOf_inPart w
  unfold State.sramErr
  split
  next g e => exact h.1 g e
  next i e => exact Nat.div_lt_of_lt_mul (h.2.1 i e)
  next i e => exact Nat.div_lt_of_lt_mul (h.2.2 i e)
  next => trivial

/-! ### Counters, findings and records -/

namespace EnginesKept

theorem find (s : State) (f : Finding) : EnginesKept s (s.find f) := of_eq rfl rfl rfl

theorem noteTriggers (s : State) (k : Nat) : EnginesKept s (s.noteTriggers k) := by
  unfold State.noteTriggers
  exact ite (refl s) ⟨rfl, rfl, fun _ _ => rfl⟩

theorem tallyInc (s : State) (k n : Nat) : EnginesKept s (s.tallyInc k n) := by
  unfold State.tallyInc
  dsimp only
  refine ite (refl s) ?_
  have h1 : EnginesKept s (if s.tallyCount k + n > 65535 then s.setFlag (Reg.TLY_CNT k) 17 true else s) :=
    ite (setFlag s _ _ (TLY_CNT_outside k)) (refl s)
  exact (h1.trans (setFld _ _ _ _ (TLY_CNT_outside k))).trans ((noteTriggers _ k).after rfl rfl rfl)

theorem loseEvents (s : State) (i n : Nat) : EnginesKept s (s.loseEvents i n) := by
  unfold State.loseEvents
  exact ite (refl s) ((satAdd s _ _ _ (UST_ISL_outside i)).trans (tallyInc _ _ _))

theorem crossInc (s : State) (i k n : Nat) : EnginesKept s (s.crossInc i k n) := by
  unfold State.crossInc
  exact ite (tallyInc s _ _) (ite (loseEvents s _ _) ((loseEvents _ _ _).after rfl rfl rfl))

theorem recordError (s : State) {r : RecSet} (e : ErrInfo) (h : r.inPart) : EnginesKept s (s.recordError r e) := by
  unfold State.recordError
  dsimp only
  split
  next n hn =>
    have hi := RecSet.info_outside h (List.mem_range.1 (List.mem_of_find?_eq_some hn))
    exact (satAdd s _ _ _ hi).trans (ite (setFlag _ _ _ hi) (refl _))
  next =>
    split
    next n hn =>
      have hlt := List.mem_range.1 (List.mem_of_find?_eq_some hn)
      have hs := RecSet.status_outside h
      exact (((wr s _ (RecSet.info_outside h hlt)).trans (wr _ _ (RecSet.addr_outside h hlt))).trans
        (setFlag _ _ _ hs)).trans (wrapAdd _ _ _ _ hs)
    next => exact satAdd s _ _ _ (RecSet.status_outside h)

/-- A refusal of an engine is recorded with the Heartwood's errors. -/
theorem recordRefusal (s : State) {r : Requester} (a d : Nat) (hr : r.portB = true) :
    EnginesKept s (s.recordRefusal r a d) := by
  have h1 := fun e =>
    (recordError s (r := .heartwood) e trivial).trans (tallyInc _ (if d = 3 then dev 165 else dev 164) 1)
  unfold State.recordRefusal
  dsimp only
  cases r with
  | qm => exact ite ((h1 _).trans (find _ _)) (h1 _)
  | jw => exact ite ((h1 _).trans (find _ _)) (h1 _)
  | scrubber => exact ite ((h1 _).trans (find _ _)) (h1 _)
  | _ => cases hr

/-! ### Regulators and ports -/

theorem groveWakes (s : State) (g : Nat) : EnginesKept s (s.groveWakes g) := by
  unfold State.groveWakes
  exact ite ((setFlag s _ _ (PWR_RAIL_outside g)).trans (setFld _ _ _ _ (PWR_DOM_outside _))) (refl s)

theorem touch (s : State) (a : Nat) : EnginesKept s (s.touch a) := by
  unfold State.touch
  split
  · exact groveWakes s _
  · exact groveWakes s _
  · exact groveWakes s _
  · exact ite (groveWakes s _) (refl s)
  · exact refl s

theorem updAsync (s : State) (c : Nat) (f : Glade → Glade) : EnginesKept s (s.updAsync c f) := of_eq rfl rfl rfl

theorem noteBusy (s : State) {r : Requester} {g : Nat} (n : Nat) (hg : g < 16) : EnginesKept s (s.noteBusy r g n) := by
  unfold State.noteBusy
  refine ite (refl s) ?_
  have h1 : EnginesKept s
      (if r.portB then s.wrapAdd (Reg.GRV_BUSY g) 63 32 n else s.wrapAdd (Reg.GRV_BUSY g) 31 0 n) :=
    ite (wrapAdd s _ _ _ (GRV_BUSY_outside hg)) (wrapAdd s _ _ _ (GRV_BUSY_outside hg))
  dsimp only
  split
  · exact h1.trans (updAsync _ _ _)
  · exact h1.trans (updAsync _ _ _)
  · exact h1

theorem portAnswer (s : State) (r : Requester) (write : Bool) (w : Nat) :
    EnginesKept s (s.portAnswer r write w).1 := by
  unfold State.portAnswer
  split
  next g e =>
    have hg : g < 16 := (s.regionOf_inPart w).1 g e
    split
    · split
      · exact (noteBusy _ _ hg).after rfl rfl rfl
      · exact refl s
    · exact (noteBusy _ _ hg).after rfl rfl rfl
  next => exact refl s

/-! ### Words -/

theorem setBytes (s : State) (a : Nat) (bs : List Byte) : EnginesKept s (s.setBytes a bs) := by
  rw [State.setBytes_eq]
  exact of_eq rfl rfl rfl

theorem setCode (s : State) (w : Nat) (c : CodeWord) : EnginesKept s (s.setCode w c) :=
  (setBytes s _ _).trans (of_eq rfl rfl rfl)

theorem setBurst (s : State) (b : Nat) (bs : List Byte) (k : BitVec 128) : EnginesKept s (s.setBurst b bs k) :=
  (setBytes s _ _).trans (of_eq rfl rfl rfl)

theorem readOnce (s : State) (a : Nat) : EnginesKept s (s.readOnce a) := of_eq rfl rfl rfl

theorem storeCode (s : State) (w : Nat) (c : CodeWord) : EnginesKept s (s.storeCode w c) := by
  unfold State.storeCode
  dsimp only
  split
  next h => exact (setCode s _ _).trans (setFlag _ _ _ (GRV_INJECT_outside h.1))
  next => exact setCode s _ _

theorem memFinding (s : State) (m kind w : Nat) (src : Option Nat) : EnginesKept s (s.memFinding m kind w src) :=
  find s _

theorem heartwoodMemFault (s : State) (r : Requester) (w : Nat) : EnginesKept s (s.heartwoodMemFault r w) := by
  unfold State.heartwoodMemFault
  exact ite (find s _) (refl s)

theorem noteCorrected (s : State) (r : Requester) (w pos : Nat) : EnginesKept s (s.noteCorrected r w pos) := by
  have h1 := fun e => (recordError s e (s.sramErr_inPart r w 1)).trans (readOnce _ w)
  unfold State.noteCorrected
  exact ite ((h1 _).trans (of_eq rfl rfl rfl)) (h1 _)

theorem sramFind (s : State) (r : Requester) (w : Nat) : EnginesKept s (s.sramFind r w).1 := by
  have h1 := fun e => ((readOnce s w).trans (recordError _ e (s.sramErr_inPart r w 3))).trans (readOnce _ w)
  have h2 := (readOnce s w).trans (readOnce _ w)
  unfold State.sramFind
  dsimp only
  split
  · exact readOnce s w
  · exact noteCorrected s r w _
  · exact readOnce s w
  · split
    · exact h1 _
    · exact (h1 _).trans (setCode _ _ _)
    · exact h2
    · exact h2

theorem sramRead (s : State) (r : Requester) (w : Nat) : EnginesKept s (s.sramRead r w).1 := by
  have h := sramFind s r w
  unfold State.sramRead
  dsimp only
  split
  next t c e => rw [e] at h; exact h
  next t e =>
    rw [e] at h
    exact ((h.trans (recordError _ _ (t.sramErr_inPart r w 5))).trans (heartwoodMemFault _ _ _)).trans
      (memFinding _ _ _ _ _)
  next t e =>
    rw [e] at h
    exact ((((h.trans (recordError _ _ (t.sramErr_inPart r w 3))).trans (tallyInc _ _ _)).trans (setCode _ _ _)).trans
      (heartwoodMemFault _ _ _)).trans (memFinding _ _ _ _ _)

theorem noteCode (s : State) (a n : Nat) (how : CodeWriter) : EnginesKept s (s.noteCode a n how) := by
  unfold State.noteCode
  split
  · exact refl s
  · exact ite (refl s) (updAsync s _ _)

theorem sramWrite (s : State) (r : Requester) (how : CodeWriter) (a : Nat) (data : List Byte) :
    EnginesKept s (s.sramWrite r how a data) := by
  have h1 := noteCode s a data.length how
  have h2 := h1.trans (sramFind _ r (a / 8 * 8))
  have lost := fun (t : State) (e : ErrInfo) (k : Nat) =>
    ((((storeCode t (a / 8 * 8) poisonWord).trans (recordError _ e (t.sramErr_inPart r (a / 8 * 8) 6))).trans
      (tallyInc _ k 1)).trans (memFinding _ 1 6 (a / 8 * 8) none))
  unfold State.sramWrite
  dsimp only
  refine ite (h1.trans (storeCode _ _ _)) ?_
  split
  next t c e => rw [e] at h2; exact h2.trans (storeCode _ _ _)
  next t e => rw [e] at h2; exact h2.trans (lost t _ _)
  next t e => rw [e] at h2; exact h2.trans (lost t _ _)

/-! ### Bursts -/

theorem fillChannel (s : State) (n upto : Nat) : EnginesKept s (s.fillChannel n upto) := by
  unfold State.fillChannel
  dsimp only
  refine ite (refl s) ?_
  exact ((setFld _ _ _ _ (DDR_CH_WMARK_outside n)).trans (setFlag _ _ _ (DDR_CH_WMARK_outside n))).after rfl rfl rfl

theorem fillPast (s : State) (b : Nat) : EnginesKept s (s.fillPast b) := by
  unfold State.fillPast
  exact ite (refl s) (fillChannel s _ _)

theorem classifyBurst (s : State) (ch b : Nat) (e : ErrInfo) (bs : List Byte) (k : BitVec 128) (d : Nat) :
    EnginesKept s (s.classifyBurst ch b e bs k d) := by
  have h1 := fun e => ((setBurst s b bs k).trans (readOnce _ b)).trans (recordError _ (r := .ddr ch) e trivial)
  unfold State.classifyBurst
  exact ite ((h1 _).trans (crossInc _ _ _ _)) (h1 _)

theorem dramFind (s : State) (r : Requester) (b : Nat) : EnginesKept s (s.dramFind r b).1 := by
  have h1 := fun ch e => ((readOnce s b).trans (recordError _ (r := .ddr ch) e trivial)).trans (readOnce _ b)
  have h2 := (readOnce s b).trans (readOnce _ b)
  unfold State.dramFind
  dsimp only
  split
  · exact readOnce s b
  · exact (readOnce s b).trans (classifyBurst _ _ _ _ _ _ _)
  · exact readOnce s b
  · split
    · exact h1 _ _
    · exact (h1 _ _).trans (setBurst _ _ _ _)
    · exact h2
    · exact h2

theorem dramRead (s : State) (r : Requester) (a n w : Nat) : EnginesKept s (s.dramRead r a n w).1 := by
  have h := dramFind s r (w / 64 * 64)
  unfold State.dramRead
  split
  · exact refl s
  · dsimp only
    split
    next t bs e => rw [e] at h; exact h
    next t m bs e =>
      rw [e] at h
      split
      · exact (h.trans (recordError _ (r := .ddr _) _ trivial)).trans (find _ _)
      · exact h
    next t e =>
      rw [e] at h
      exact (((h.trans (recordError _ (r := .ddr _) _ trivial)).trans (crossInc _ _ _ _)).trans
        (setBurst _ _ _ _)).trans (find _ _)

theorem dramWrite (s : State) (r : Requester) (a : Nat) (data : List Byte) : EnginesKept s (s.dramWrite r a data) := by
  have h1 := fillPast s (a / 64 * 64)
  have h2 := h1.trans (dramFind _ r (a / 64 * 64))
  unfold State.dramWrite
  dsimp only
  split
  next t bs e => rw [e] at h2; exact h2.trans (setBurst _ _ _ _)
  next t m bs e => rw [e] at h2; exact h2.trans (setBurst _ _ _ _)
  next t e =>
    rw [e] at h2
    exact (((h2.trans (setBurst _ _ _ _)).trans (recordError _ (r := .ddr _) _ trivial)).trans (crossInc _ _ _ _)).trans
      (find _ _)

/-! ### Whole accesses -/

theorem doomGranule (s : State) (w code : Nat) (except : Option Nat) : EnginesKept s (s.doomGranule w code except) := by
  unfold State.doomGranule
  dsimp only
  split
  next g e =>
    have h1 : EnginesKept s (if (s.txu g).kept.isEmpty then s else s.setTxu g
        ((s.txu g).doomKept (except.map (· - 16 * g)) (fun t => t.meetsGranule w) code)) :=
      ite (refl s) (of_eq rfl rfl rfl)
    refine h1.trans (foldl (fun t k => ?_) _ _)
    refine ite (refl t) ?_
    split
    · exact ite (of_eq rfl rfl rfl) (refl t)
    · exact refl t
  next => exact refl s

theorem writeWord (s : State) (r : Requester) (how : CodeWriter) (except : Option Nat) (a : Nat) (data : List Byte) :
    EnginesKept s (s.writeWord r how except a data) := by
  have h1 := touch s a
  unfold State.writeWord
  dsimp only
  split
  · exact h1.trans (dramWrite _ _ _ _)
  · have h2 := h1.trans (portAnswer _ r true (a / 8 * 8))
    split
    · exact h2
    · exact (h2.trans (sramWrite _ _ _ _ _)).trans (doomGranule _ _ _ _)
  · exact h1
  · exact h1
  · exact h1
  · exact h1
  · exact h1
  · exact h1.trans (sramWrite _ _ _ _ _)

theorem unspoil (s : State) (a n : Nat) : EnginesKept s (s.unspoil a n) := of_eq rfl rfl rfl

theorem undefine (s : State) (rs : List (Nat × Nat)) : EnginesKept s (s.undefine rs) :=
  (foldl (fun t x => unspoil t x.1 x.2) rs s).trans (of_eq rfl rfl rfl)

theorem spoil (s : State) (r : Requester) (a n : Nat) : EnginesKept s (s.spoil r a n) := by
  unfold State.spoil
  split
  · exact unspoil s a n
  · exact unspoil s a n
  · exact (unspoil s a n).trans (undefine _ _)

theorem writeMem (s : State) (r : Requester) (how : CodeWriter) (except : Option Nat) (a : Nat) (data : List Byte) :
    EnginesKept s (s.writeMem r how except a data) :=
  (foldl (fun t (p : Nat × List Byte) => writeWord t r how except p.1 p.2) (splitWords a data) s).trans (spoil _ _ _ _)

theorem readSeedbank (s : State) (w : Nat) : EnginesKept s (s.readSeedbank w).1 := by
  unfold State.readSeedbank
  split
  · split
    · exact of_eq rfl rfl rfl
    · exact refl s
  · exact refl s

theorem readStored (s : State) (r : Requester) (a n w : Nat) : EnginesKept s (s.readStored r a n w).1 := by
  unfold State.readStored
  split
  · exact dramRead s r a n w
  · exact readSeedbank s w
  · exact refl s
  · exact refl s
  · exact refl s
  · exact refl s
  · exact sramRead s r w

theorem readWord (s : State) (r : Requester) (w : Nat) : EnginesKept s (s.readWord r w).1 := by
  have h1 := (touch s w).trans (portAnswer _ r false w)
  have h2 := h1.trans (readStored _ r w 8 w)
  unfold State.readWord State.readWordOf
  dsimp only
  split
  · exact h1.trans (of_eq rfl rfl rfl)
  · split
    · split
      · exact h2.trans (of_eq rfl rfl rfl)
      · exact h2
    · exact h2

end EnginesKept

end Sys2Proof.Machine
end

section
/-! PROOF. The commands of `JW_CMD` (R328, R330, R338, R347, R348, R350). -/

namespace Sys2Proof.Machine

/-! ### The command's two registers -/

/-- `JW_CMD` shows OP `op` and JOURNAL `j`, with GO and BUSY as `busy` says. -/
def JwShows (u : State) (op j : Nat) (busy : Bool) : Prop :=
  u.fld Reg.JW_CMD 3 0 = op ∧ u.fld Reg.JW_CMD 27 16 = j ∧ u.flag Reg.JW_CMD 62 = busy ∧ u.flag Reg.JW_CMD 63 = busy

theorem State.jwStart_rd (s : State) (op j : Nat) (issued : Bool) {a : Nat} (h : a ≠ Reg.JW_CMD) :
    (s.jwStart op j issued).rd a = s.rd a := (State.rd_wr ..).trans (if_neg h)

theorem State.jwDone_rd (s : State) (code : Nat) {a : Nat} (h : a ≠ Reg.JW_CMD) (k : a ≠ Reg.JW_CMD_STATUS) :
    (s.jwDone code).rd a = s.rd a := by
  show (State.setFld _ _ _ _ _).rd a = _
  rw [State.rd_setFld, if_neg k, State.rd_setFlag, if_neg h, State.rd_setFlag, if_neg h]

theorem State.jwAtOnce_rd (s : State) (op j code : Nat) {a : Nat} (h : a ≠ Reg.JW_CMD) (k : a ≠ Reg.JW_CMD_STATUS) :
    (s.jwAtOnce op j code).rd a = s.rd a := by
  rw [State.jwAtOnce, State.jwDone_rd _ _ h k, State.jwStart_rd _ _ _ _ h]

/-- A command taken up shows its fields, GO and BUSY. -/
theorem State.jwStart_shows (s : State) {op j : Nat} (issued : Bool) (ho : op < 16) (hj : j < 4096) :
    JwShows (s.jwStart op j issued) op j true := by
  have hrd : (s.jwStart op j issued).rd Reg.JW_CMD = setField (setField (setField (setField (s.rd Reg.JW_CMD)
      3 0 op) 27 16 j) 62 62 (b2n true)) 63 63 (b2n true) := (State.rd_wr ..).trans (if_pos rfl)
  refine ⟨?_, ?_, ?_, ?_⟩
  · rw [State.fld, hrd, field_setField_ne, field_setField_ne, field_setField_ne, field_setField] <;> omega
  · rw [State.fld, hrd, field_setField_ne, field_setField_ne, field_setField] <;> omega
  · rw [State.flag, hrd, bit_setField_ne, bit_setField_b2n] <;> omega
  · rw [State.flag, hrd, bit_setField_b2n]
    omega

/-- The end of a command clears GO and BUSY, and gives its CODE. -/
theorem State.jwDone_shows {s : State} {op j code : Nat} (ho : s.fld Reg.JW_CMD 3 0 = op)
    (hj : s.fld Reg.JW_CMD 27 16 = j) (hc : code < 16) :
    JwShows (s.jwDone code) op j false ∧ (s.jwDone code).fld Reg.JW_CMD_STATUS 3 0 = code
      ∧ (s.jwDone code).jw.command = none := by
  have hrd : (s.jwDone code).rd Reg.JW_CMD
      = setField (setField (s.rd Reg.JW_CMD) 62 62 (b2n false)) 63 63 (b2n false) := by
    show (State.setFld _ _ _ _ _).rd _ = _
    rw [State.rd_setFld, if_neg (by decide), State.rd_setFlag, if_pos rfl, State.rd_setFlag, if_pos rfl]
  refine ⟨⟨?_, ?_, ?_, ?_⟩, ?_, rfl⟩
  · rwa [State.fld, hrd, field_setField_ne _ _ (by decide) (by decide) (by decide),
      field_setField_ne _ _ (by decide) (by decide) (by decide)]
  · rwa [State.fld, hrd, field_setField_ne _ _ (by decide) (by decide) (by decide),
      field_setField_ne _ _ (by decide) (by decide) (by decide)]
  · rw [State.flag, hrd, bit_setField_ne, bit_setField_b2n] <;> omega
  · rw [State.flag, hrd, bit_setField_b2n]
    omega
  · exact (State.fld_setFld _ _ _ (by decide) (by decide)).trans (Nat.mod_eq_of_lt hc)

theorem State.jwAtOnce_shows (s : State) {op j code : Nat} (ho : op < 16) (hj : j < 4096) (hc : code < 16) :
    JwShows (s.jwAtOnce op j code) op j false ∧ (s.jwAtOnce op j code).fld Reg.JW_CMD_STATUS 3 0 = code
      ∧ (s.jwAtOnce op j code).jw.command = none :=
  let h := s.jwStart_shows false ho hj
  State.jwDone_shows h.1 h.2.1 hc

/-! ### Ends and refusals -/

/-- Command `i` ends with `code` in a state of which `P` holds. -/
def JwEnds (i : Instr) (s : State) (op j code : Nat) (P : State → Prop) : Prop :=
  Settles i s (fun u => JwShows u op j false ∧ u.fld Reg.JW_CMD_STATUS 3 0 = code ∧ u.jw.command = none ∧ P u)

/-- Command `i` ends with `code`, and nothing but its two registers changes. -/
def JwRefused (i : Instr) (s : State) (op j code : Nat) : Prop :=
  JwEnds i s op j code (fun u => CtlOnly { s with jw := { s.jw with command := none } } u
    ∧ ∀ a, a ≠ Reg.JW_CMD → a ≠ Reg.JW_CMD_STATUS → u.rd a = s.rd a)

section
variable {i : Instr} {s t u : State} {op code : Nat} {j : Fin 4096}

/-- A command that completes at once, in a state `t` made before. -/
theorem jwEnds_of_atOnce {P : State → Prop} (hx : exec i s = .next u.settled) (hu : u = t.jwAtOnce op j code)
    (ho : op < 16) (hc : code < 16) (hP : P (t.jwAtOnce op j code)) : JwEnds i s op j code P := by
  obtain ⟨hs, hcode, hnone⟩ := t.jwAtOnce_shows ho j.isLt hc
  exact ⟨u, hx, by rw [hu]; exact ⟨hs, hcode, hnone, hP⟩⟩

/-- A command refused at once. -/
theorem jwRefused_of_atOnce (hx : exec i s = .next u.settled) (hu : u = s.jwAtOnce op j code) (ho : op < 16)
    (hc : code < 16) : JwRefused i s op j code :=
  jwEnds_of_atOnce hx hu ho hc ⟨rfl, fun _ h k => State.jwAtOnce_rd s op j code h k⟩

end

/-! ### GO while a command is in progress -/

/-- A word written under a mask shows, in a field that the mask covers, what is written. -/
theorem field_masked (old v : W64) {m hi lo : Nat} (hm : ∀ i, i < 64 → lo ≤ i ∧ i ≤ hi → m.testBit i = true)
    (hh : hi < 64) : field ((old &&& ~~~(w64 m)) ||| (v &&& w64 m)) hi lo = field v hi lo := by
  refine Nat.eq_of_testBit_eq fun k => ?_
  rw [testBit_field, testBit_field]
  by_cases hk : k < hi + 1 - lo
  · have hi64 : lo + k < 64 := by omega
    have hb : bit (w64 m) (lo + k) = true := by rw [bit_w64 _ hi64, hm _ hi64 (by omega)]
    have := congrArg (fun b => decide (k < hi + 1 - lo) && b)
      (show bit ((old &&& ~~~(w64 m)) ||| (v &&& w64 m)) (lo + k) = bit v (lo + k) by
        rw [bit_or, bit_and, bit_and, bit_not _ hi64, hb, Bool.not_true, Bool.and_false, Bool.false_or, Bool.and_true])
    exact this
  · simp [hk]

/-- And in a field that the mask leaves out, what it held. -/
theorem field_unmasked (old v : W64) {m hi lo : Nat} (hm : ∀ i, i < 64 → lo ≤ i ∧ i ≤ hi → m.testBit i = false)
    (hh : hi < 64) : field ((old &&& ~~~(w64 m)) ||| (v &&& w64 m)) hi lo = field old hi lo := by
  refine Nat.eq_of_testBit_eq fun k => ?_
  rw [testBit_field, testBit_field]
  by_cases hk : k < hi + 1 - lo
  · have hi64 : lo + k < 64 := by omega
    have hb : bit (w64 m) (lo + k) = false := by rw [bit_w64 _ hi64, hm _ hi64 (by omega)]
    have := congrArg (fun b => decide (k < hi + 1 - lo) && b)
      (show bit ((old &&& ~~~(w64 m)) ||| (v &&& w64 m)) (lo + k) = bit old (lo + k) by
        rw [bit_or, bit_and, bit_and, bit_not _ hi64, hb, Bool.not_false, Bool.and_false, Bool.or_false, Bool.and_true])
    exact this
  · simp [hk]

/-- The row of `JW_CMD`: OP and JOURNAL are its RW fields. -/
theorem State.fieldsWrite_JW_CMD (s : State) (v : W64) : s.fieldsWrite Reg.JW_CMD v
    = s.wr Reg.JW_CMD ((s.rd Reg.JW_CMD &&& ~~~(w64 0xFFF000F)) ||| (v &&& w64 0xFFF000F)) := rfl

theorem JW_CMD_engineReg : engineReg Reg.JW_CMD := ⟨by decide, by decide⟩

/-- GO is ignored while a command is in progress: its fields alone are written (R10). -/
theorem State.jwIfIdle_busy {s : State} (hb : s.jwBusy = true) {op : Nat} (j : Fin 4096) (ho : op < 16)
    (f : State → State) :
    CtlOnly s (s.jwIfIdle op j f) ∧ (s.jwIfIdle op j f).fld Reg.JW_CMD 3 0 = op
      ∧ (s.jwIfIdle op j f).fld Reg.JW_CMD 27 16 = j
      ∧ (s.jwIfIdle op j f).fld Reg.JW_CMD 63 62 = s.fld Reg.JW_CMD 63 62
      ∧ ∀ c, c ≠ Reg.JW_CMD → (s.jwIfIdle op j f).rd c = s.rd c := by
  have hj := j.isLt
  rw [State.jwIfIdle, if_pos hb, State.fieldsWrite_JW_CMD]
  refine ⟨rfl, ?_, ?_, ?_, fun c hc => by rw [State.rd_wr, if_neg hc]⟩
  · rw [State.fld, State.rd_wr, if_pos rfl, field_masked _ _ (by decide) (by decide)]
    simp only [field, w64, BitVec.toNat_ofNat, Nat.shiftRight_eq_div_pow]
    omega
  · rw [State.fld, State.rd_wr, if_pos rfl, field_masked _ _ (by decide) (by decide)]
    simp only [field, w64, BitVec.toNat_ofNat, Nat.shiftRight_eq_div_pow]
    omega
  · rw [State.fld, State.rd_wr, if_pos rfl, field_unmasked _ _ (by decide) (by decide)]
    rfl

theorem State.jwIfIdle_idle {s : State} (hb : s.jwBusy = false) (op j : Nat) (f : State → State) :
    s.jwIfIdle op j f = f s := by
  rw [State.jwIfIdle, hb]
  rfl

/-! ### Opens of a persistent journal -/

theorem State.jstate_setJstate (s : State) (j err : Nat) {st : Nat} (h : st < 8) :
    (s.setJstate j st err).jstate j = st := by
  unfold State.jstate State.setJstate
  rw [State.fld_setFld_ne _ _ _ (by decide) (by decide) (by decide), State.fld_setFld _ _ _ (by decide) (by decide)]
  exact Nat.mod_eq_of_lt h

theorem State.err_setJstate (s : State) (j st : Nat) {err : Nat} (h : err < 256) :
    (s.setJstate j st err).fld (Reg.JW_JSTATE j) 15 8 = err := by
  unfold State.setJstate
  rw [State.fld_setFld _ _ _ (by decide) (by decide)]
  exact Nat.mod_eq_of_lt h

/-- The registers of a journal are none of the command's. -/
theorem JW_JSTATE_ne (j : Nat) : Reg.JW_JSTATE j ≠ Reg.JW_CMD ∧ Reg.JW_JSTATE j ≠ Reg.JW_CMD_STATUS := by
  simp only [Reg.JW_JSTATE, Reg.JW_CMD, Reg.JW_CMD_STATUS]
  omega

theorem JW_JSEQ_ne (j : Nat) : Reg.JW_JSEQ j ≠ Reg.JW_CMD ∧ Reg.JW_JSEQ j ≠ Reg.JW_CMD_STATUS := by
  simp only [Reg.JW_JSEQ, Reg.JW_CMD, Reg.JW_CMD_STATUS]
  omega

theorem State.jwAtOnce_jstate (s : State) (op j code k : Nat) : (s.jwAtOnce op j code).jstate k = s.jstate k := by
  rw [State.jstate, State.fld, State.jwAtOnce_rd _ _ _ _ (JW_JSTATE_ne k).1 (JW_JSTATE_ne k).2]
  rfl

theorem missCode_lt (m : IoMiss) : missCode m < 256 := by
  cases m <;> decide

theorem retryCode_lt (r : IoRetry) : retryCode r < 256 := by
  unfold retryCode
  split
  · decide
  · decide
  · exact missCode_lt _

theorem State.openCode_lt (s : State) (c : JCfg) (a b : List IoRetry) : s.openCode c a b < 256 := by
  have hcheck : s.openCheck c < 256 := by
    unfold State.openCheck
    split_ifs
    · decide
    · split
      · decide
      · split_ifs <;> decide
  unfold State.openCode ioCode
  dsimp only
  split
  · exact hcheck
  · cases h : (b ++ a).find? (fun r => retryCode r != 0) with
    | none => simp
    | some r => simpa using retryCode_lt r

/-- An open that fails a check leaves its journal in ERROR with the check's number. -/
theorem State.openPersistent_fails {s : State} {c : JCfg} {a b : List IoRetry} (op j : Nat)
    (h : (s.enumerate c.ctrl).openCode c a b ≠ 0) :
    ∃ t : State, s.openPersistent op j c a b
      = (t.setJstate j 4 ((s.enumerate c.ctrl).openCode c a b)).jwAtOnce op j 4 :=
  ⟨_, if_pos h⟩

/-- An open that passes every check leaves its journal OPENING. -/
theorem State.openPersistent_passes {s : State} {c : JCfg} {a b : List IoRetry} (op j : Nat)
    (h : (s.enumerate c.ctrl).openCode c a b = 0) :
    ∃ t : State, s.openPersistent op j c a b = (t.setJstate j 1 0).jwAtOnce op j 0 :=
  ⟨_, if_neg (not_not.2 h)⟩

/-! ### The controllers' queues -/

theorem State.undefine_queues (s : State) (rs : List (Nat × Nat)) : (s.undefine rs).jw.queues = s.jw.queues := by
  rw [(EnginesKept.undefine s rs).jw]

theorem State.stageJw_queues (s : State) (n : Nat) : (s.stageJw n).1.jw.queues = s.jw.queues := by
  unfold State.stageJw
  dsimp only
  split
  · rfl
  · exact s.undefine_queues _

theorem State.nvmeWrites_queues (s : State) (rs : List (Nat × Nat)) : (s.nvmeWrites rs).jw.queues = s.jw.queues := by
  unfold State.nvmeWrites
  split
  · rfl
  · exact s.undefine_queues _

/-- An admin command takes no place in the queues of I/O commands. -/
theorem State.sendAdmin_queues (s : State) (i : Nat) (c : NvmeAdmin) : (s.sendAdmin i c).jw.queues = s.jw.queues :=
  (State.nvmeWrites_queues _ _).trans (s.stageJw_queues _)

theorem State.sendAdmins_queues (s : State) (i : Nat) (cs : List NvmeAdmin) :
    (s.sendAdmins i cs).jw.queues = s.jw.queues := by
  induction cs generalizing s with
  | nil => rfl
  | cons c cs ih => exact (ih (s.sendAdmin i c)).trans (s.sendAdmin_queues i c)

/-- Finding a controller and making it ready leaves the I/O commands. -/
theorem State.enumerate_queues (s : State) (i : Nat) : (s.enumerate i).jw.queues = s.jw.queues := by
  unfold State.enumerate
  dsimp only
  split
  · rfl
  · simp only [State.setFld_jw, State.setFlag_jw]
    split
    · exact s.sendAdmins_queues i _
    · rfl

/-- A command issued stands behind those its controller has. -/
theorem State.issue_queues (s : State) (ctrl : Nat) (c : NvmeCmd) :
    ∃ ps, smGet [] (s.issue ctrl c).jw.queues ctrl = smGet [] s.jw.queues ctrl ++ [{ c with prps := ps }] := by
  refine ⟨prpEntries (s.stageJw c.data.length).2 c.data.length, ?_⟩
  unfold State.issue
  simp only [smGet_smSet, if_true, s.stageJw_queues]

/-- Issuing a command leaves the engines' registers. -/
theorem State.issue_rd (s : State) (ctrl : Nat) (c : NvmeCmd) {a : Nat} (ha : engineReg a) :
    (s.issue ctrl c).rd a = s.rd a := by
  show (s.stageJw c.data.length).1.rd a = s.rd a
  unfold State.stageJw
  dsimp only
  split
  · rfl
  · exact (EnginesKept.undefine s _).rd a ha

/-! ### Records in a ring -/

section
variable {c : JCfg} (hr : c.ring = true)
include hr

/-- Bytes stored in a ring are a write of memory. -/
theorem EnginesKept.storeBytes (s : State) (j pos : Nat) (data : List Byte) (fua : Bool) (p : Purpose) :
    EnginesKept s (s.storeBytes j c pos data fua p) := by
  unfold State.storeBytes
  rw [if_pos hr]
  dsimp only
  split
  · exact recordRefusal s _ _ rfl
  · exact writeMem s _ _ _ _ _

/-- A record laid in a ring moves its journal's end and SEQ, and no other register of the engines. -/
theorem State.layRecord_ring (s : State) (j ty src txn : Nat) (payload : List Byte) (fua : Bool) (p : Purpose) :
    ((s.layRecord j c ty src txn payload fua p).1.journal j).segOpen = (s.journal j).segOpen
      ∧ ∀ a, engineReg a → (s.layRecord j c ty src txn payload fua p).1.rd a
          = if a = Reg.JW_JSEQ j then w64 ((s.rd (Reg.JW_JSEQ j)).toNat + 1) else s.rd a := by
  have hk := EnginesKept.storeBytes hr s j
  unfold State.layRecord
  dsimp only
  refine ⟨?_, fun a ha => ?_⟩
  · rw [State.updJournal, State.journal_setJournal, if_pos rfl, State.wr_journal, State.journal, (hk _ _ _ _).jw]
    rfl
  · rw [State.updJournal, State.setJournal_rd, State.rd_wr, (hk _ _ _ _).rd a ha]

/-- A segment opened in a ring is open; its first record takes the next SEQ. -/
theorem State.openSegment_ring (s : State) (j : Nat) :
    ((s.openSegment j c).journal j).segOpen = true
      ∧ ∀ a, engineReg a → a ≠ Reg.JW_JSTATE j → (s.openSegment j c).rd a
          = if a = Reg.JW_JSEQ j then w64 ((s.rd (Reg.JW_JSEQ j)).toNat + 1) else s.rd a := by
  have hne : Reg.JW_JSEQ j ≠ Reg.JW_JSTATE j := by
    simp only [Reg.JW_JSEQ, Reg.JW_JSTATE]
    omega
  unfold State.openSegment
  dsimp only
  obtain ⟨hopen, hrd⟩ := State.layRecord_ring hr
    ((s.setJournal j { s.journal j with
      segOpen := true
      off := 0
      records := 0
      nextSeg := (s.journal j).nextSeg + 1
      segs := (s.journal j).segs.filter (fun g => decide ((s.journal j).nextSeg < g.1 + c.slots))
        ++ [((s.journal j).nextSeg, (s.rd (Reg.JW_JSEQ j)).toNat)] }).setFld (Reg.JW_JSTATE j) 63 24
          (s.journal j).nextSeg)
    j 1 jwSrc 0 _ false .none
  refine ⟨hopen.trans ?_, fun a ha hja => (hrd a ha).trans ?_⟩
  · rw [State.setFld_journal, State.journal_setJournal, if_pos rfl]
  · rw [State.rd_setFld, State.rd_setFld, if_neg hne, if_neg hja, State.setJournal_rd, State.setJournal_rd]

/-- A segment of a ring closed leaves no segment open, and `JW_CMD` as it was. -/
theorem State.closeSegment_ring (s : State) (j r : Nat) (fua : Bool) (p : Purpose) :
    ((s.closeSegment j c r fua p).journal j).segOpen = false
      ∧ (s.closeSegment j c r fua p).rd Reg.JW_CMD = s.rd Reg.JW_CMD := by
  unfold State.closeSegment
  dsimp only
  split
  next h => exact ⟨by simpa using h, rfl⟩
  next =>
    refine ⟨?_, ?_⟩
    · rw [State.updJournal, State.journal_setJournal, if_pos rfl]
    · rw [State.updJournal, State.setJournal_rd, (State.layRecord_ring hr s j _ _ _ _ _ _).2 _ JW_CMD_engineReg,
        if_neg (JW_JSEQ_ne j).1.symm]

/-- A ring has room for every record: it overwrites its oldest segment (R329). -/
theorem State.appendPlain_ring (s : State) (j ty src txn : Nat) (payload : List Byte) (fua : Bool) (p : Purpose) :
    (s.appendPlain j c ty src txn payload fua p).2.isSome = true
      ∧ (s.appendPlain j c ty src txn payload fua p).1.rd Reg.JW_CMD = s.rd Reg.JW_CMD := by
  have hcmd := JW_CMD_engineReg
  have hlay := fun t : State => (State.layRecord_ring hr t j ty src txn payload fua p).2 _ hcmd
  have hfree : s.slotFree j c = true := by rw [State.slotFree, hr]; rfl
  unfold State.appendPlain
  dsimp only
  split
  · exact ⟨rfl, by rw [hlay, if_neg (JW_JSEQ_ne j).1.symm]⟩
  · rw [hfree, Bool.not_true, if_neg Bool.false_ne_true]
    refine ⟨rfl, ?_⟩
    rw [hlay, if_neg (JW_JSEQ_ne j).1.symm, (State.openSegment_ring hr _ j).2 _ hcmd (JW_JSTATE_ne j).1.symm,
      if_neg (JW_JSEQ_ne j).1.symm, (State.closeSegment_ring hr s j _ _ _).2]

/-- SEAL of a ring ends once its SYNC record is written and its segment closed. -/
theorem State.jwSealWrite_ring {s : State} {j : Nat} (h : (s.writeSync j c).2.isNone = false) :
    s.jwSealWrite j c = ((s.writeSync j c).1.closeSegment j c 1 false .none).jwDone 0 := by
  simp only [State.jwSealWrite, h, hr, Bool.false_eq_true, if_false, if_true]

/-- A SYNC record of a ring of which no capture is in progress is written at once. -/
theorem State.writeSync_ring {s : State} {j : Nat} (hcap : (s.journal j).capture = none) :
    (s.writeSync j c).2.isNone = false ∧ (s.writeSync j c).1.rd Reg.JW_CMD = s.rd Reg.JW_CMD := by
  have happend : ∀ ty src txn payload fua p,
      s.append j c ty src txn payload fua p = s.appendPlain j c ty src txn payload fua p := fun _ _ _ _ _ _ => by
    unfold State.append State.beforeOverwrite
    simp only [hcap, ite_self]
  have h := State.appendPlain_ring hr s j 3 jwSrc 0 (bytesLE 8 s.now) false .none
  unfold State.writeSync State.laySync
  rw [happend]
  generalize s.appendPlain j c 3 jwSrc 0 (bytesLE 8 s.now) false .none = r at h
  obtain ⟨t, _ | q⟩ := r
  · exact absurd h.1 Bool.false_ne_true
  · simp only [hr, if_true]
    exact ⟨rfl, h.2⟩

end

/-- A capture begun is the one in progress. -/
theorem State.beginCapture_capture {s : State} {j : Nat} {k : Capture} {ct : JCfg} (h : s.jcfg k.target = some ct) :
    ((s.beginCapture j k).journal j).capture = some k := by
  simp only [State.beginCapture, h, State.updJournal, State.journal_setJournal, if_true]

/-! ### Each command -/

section
variable {s : State} {j : Fin 4096} {c : JCfg} (hb : s.jwBusy = false)
include hb

/-- A command that ends at once, none being in progress. -/
theorem jwEnds_of_idle {i : Instr} {t : State} {op code : Nat} {f : State → State} {P : State → Prop}
    (hx : exec i s = .next (s.jwIfIdle op j f).settled) (hf : f s = t.jwAtOnce op j code) (ho : op < 16)
    (hc : code < 16) (hP : P (t.jwAtOnce op j code)) : JwEnds i s op j code P :=
  jwEnds_of_atOnce hx ((State.jwIfIdle_idle hb op j f).trans hf) ho hc hP

/-- A command refused, none being in progress. -/
theorem jwRefused_of_idle {i : Instr} {op code : Nat} {f : State → State}
    (hx : exec i s = .next (s.jwIfIdle op j f).settled) (hf : f s = s.jwAtOnce op j code) (ho : op < 16)
    (hc : code < 16) : JwRefused i s op j code :=
  jwRefused_of_atOnce hx ((State.jwIfIdle_idle hb op j f).trans hf) ho hc

theorem jwBadOp_refused (op : Fin 16) (h : op.val = 0 ∨ 5 < op.val) : JwRefused (.jwBadOp op j) s op j 2 := by
  refine jwRefused_of_atOnce (u := s.jwBadCommand op j) rfl ?_ op.isLt (by decide)
  rw [State.jwBadCommand, if_neg (by omega), State.jwIfIdle_idle hb]

theorem jwOpen_refused (h : ∀ c, s.configured j = some c → s.jstate j ≠ 0) (a b : List IoRetry) :
    JwRefused (.jwOpen j a b) s 1 j 1 := by
  refine jwRefused_of_idle hb rfl ?_ (by decide) (by decide)
  cases hc : s.configured j with
  | none => simp [State.jwOpen, hb, hc]
  | some c => simp [State.jwOpen, hb, hc, h c hc]

theorem jwReopen_refused (h : ∀ c, s.configured j = some c → s.jstate j ≠ 4 ∧ s.jstate j ≠ 5) (a b : List IoRetry) :
    JwRefused (.jwReopen j a b) s 5 j 1 := by
  refine jwRefused_of_idle hb rfl ?_ (by decide) (by decide)
  cases hc : s.configured j with
  | none => simp [State.jwReopen, hb, hc]
  | some c => simp [State.jwReopen, hb, hc, h c hc]

theorem jwSeal_refused (h : ∀ c, s.configured j = some c → s.jstate j ≠ 2) : JwRefused (.jwSeal j) s 2 j 1 := by
  refine jwRefused_of_idle hb rfl ?_ (by decide) (by decide)
  cases hc : s.configured j with
  | none => simp [State.jwSeal, hb, hc]
  | some c => simp [State.jwSeal, hb, hc, h c hc]

theorem jwPersist_refused (h : ∀ c, s.configured j = some c → s.jstate j ≠ 2) : JwRefused (.jwPersist j) s 4 j 1 := by
  refine jwRefused_of_idle hb rfl ?_ (by decide) (by decide)
  cases hc : s.configured j with
  | none => simp [State.jwPersist, hb, hc]
  | some c => simp [State.jwPersist, hb, hc, h c hc]

theorem jwFormat_refused (hc : s.jcfg j = some c) (h : c.ring = true ∨ (s.jstate j ≠ 0 ∧ s.jstate j ≠ 4)) :
    JwRefused (.jwFormat j) s 3 j 1 := by
  refine jwRefused_of_idle hb rfl ?_ (by decide) (by decide)
  simp only [State.jwFormat, hb, hc, if_pos h, Bool.false_eq_true, if_false]

/-- FORMAT issues its zeroes and stays busy. -/
theorem jwFormat_issues (hc : s.jcfg j = some c) (hr : c.ring = false) (hst : s.jstate j = 0 ∨ s.jstate j = 4) :
    Settles (.jwFormat j) s (fun u => JwShows u 3 j true
      ∧ (smGet [] u.jw.queues c.ctrl).map (fun k => (k.kind, k.journal))
        = (smGet [] s.jw.queues c.ctrl).map (fun k => (k.kind, k.journal)) ++ [(.zeroes, j.val)]) := by
  have hno : ¬ (c.ring = true ∨ (s.jstate j ≠ 0 ∧ s.jstate j ≠ 4)) := by
    rintro (h | h)
    · exact Bool.false_ne_true (hr.symm.trans h)
    · omega
  refine ⟨s.jwFormat j, by rw [← State.jwIfIdle_idle hb 3 j (fun s => s.jwFormat j)]; rfl, ?_⟩
  simp only [State.jwFormat, hb, hc, if_neg hno, Bool.false_eq_true, if_false]
  generalize hz : NvmeCmd.mk .zeroes j.val c.base [] 0 true false false 0 .command [] [] 0 0 = z
  generalize ht : (s.enumerate c.ctrl).jwStart 3 j.val true = t
  obtain ⟨hop, hj, hbusy, hgo⟩ := (s.enumerate c.ctrl).jwStart_shows (op := 3) true (by decide) j.isLt
  rw [ht] at hop hj hbusy hgo
  have hrd := t.issue_rd c.ctrl z JW_CMD_engineReg
  refine ⟨⟨?_, ?_, ?_, ?_⟩, ?_⟩
  · rwa [State.fld, hrd]
  · rwa [State.fld, hrd]
  · rwa [State.flag, hrd]
  · rwa [State.flag, hrd]
  · obtain ⟨ps, hq⟩ := t.issue_queues c.ctrl z
    have hs : t.jw.queues = s.jw.queues := by
      rw [← ht]
      exact s.enumerate_queues c.ctrl
    rw [hq, hs, List.map_append, ← hz]
    rfl

theorem jwPersist_noTarget (hc : s.configured j = some c) (hr : c.ring = true) (hst : s.jstate j = 2)
    (ht : s.captureTarget j c = none) : JwRefused (.jwPersist j) s 4 j 3 := by
  refine jwRefused_of_idle hb rfl ?_ (by decide) (by decide)
  simp [State.jwPersist, hb, hc, hr, hst, ht]

/-- PERSIST of a ring with a target and no capture in progress starts one of what the ring holds. -/
theorem jwPersist_starts (hc : s.configured j = some c) (hr : c.ring = true) (hst : s.jstate j = 2)
    (hcap : (s.journal j).capture = none) {t : Nat × JCfg} (ht : s.captureTarget j c = some t) :
    JwEnds (.jwPersist j) s 4 j 0 (fun u => (u.journal j).capture
      = some ⟨(s.ringBounds j).1, (s.ringBounds j).2, (s.ringBounds j).1, t.1, 0, 0, 0, s.now⟩) := by
  have hcfg : ∃ ct, s.jcfg t.1 = some ct := by
    unfold State.captureTarget at ht
    dsimp only at ht
    split at ht
    next ct h =>
      split at ht
      · obtain rfl := Option.some.inj ht
        exact ⟨ct, h⟩
      · cases ht
    next => cases ht
  obtain ⟨ct, hct⟩ := hcfg
  refine jwEnds_of_idle hb rfl (t := s.captureOrQueue j
    ⟨(s.ringBounds j).1, (s.ringBounds j).2, (s.ringBounds j).1, t.1, 0, 0, 0, s.now⟩) ?_ (by decide) (by decide) ?_
  · simp [State.jwPersist, hb, hc, hr, hst, ht]
  · rw [State.captureOrQueue, hcap]
    exact State.beginCapture_capture hct

/-- OPEN of a ring starts it empty: one segment, one record. -/
theorem jwOpen_ring (hc : s.configured j = some c) (hr : c.ring = true) (hst : s.jstate j = 0) (a b : List IoRetry) :
    JwEnds (.jwOpen j a b) s 1 j 0 (fun u =>
      u.jstate j = 2 ∧ (u.journal j).segOpen = true ∧ (u.rd (Reg.JW_JSEQ j)).toNat = 1) := by
  have hne : Reg.JW_JSEQ j ≠ Reg.JW_JSTATE j := by
    simp only [Reg.JW_JSEQ, Reg.JW_JSTATE]
    omega
  have hseq : engineReg (Reg.JW_JSEQ j) := by
    have := j.isLt
    simp only [engineReg, Reg.JW_JSEQ]
    omega
  let t := ((s.unspoil c.base c.size).setJournal j Journal.reset).wr (Reg.JW_JSEQ j) 0#64
  obtain ⟨hopen, hrd⟩ := State.openSegment_ring hr t j
  refine jwEnds_of_idle hb rfl (t := (t.openSegment j c).setJstate j 2 0) ?_ (by decide) (by decide) ⟨?_, hopen, ?_⟩
  · simp [State.jwOpen, hb, hc, hr, hst, t]
  · rw [State.jwAtOnce_jstate]
    exact State.jstate_setJstate _ _ _ (by decide)
  · rw [State.jwAtOnce_rd _ _ _ _ (JW_JSEQ_ne j).1 (JW_JSEQ_ne j).2, State.setJstate, State.rd_setFld, if_neg hne,
      State.rd_setFld, if_neg hne, hrd _ hseq hne, if_pos rfl, State.rd_wr, if_pos rfl]
    rfl

/-- OPEN of a persistent journal, by what its checks answer. -/
theorem jwOpen_persistent (hc : s.configured j = some c) (hr : c.ring = false) (hst : s.jstate j = 0)
    (a b : List IoRetry) :
    ((s.enumerate c.ctrl).openCode c a b ≠ 0 → JwEnds (.jwOpen j a b) s 1 j 4 (fun u => u.jstate j = 4))
      ∧ ((s.enumerate c.ctrl).openCode c a b = 0 → JwEnds (.jwOpen j a b) s 1 j 0 (fun u => u.jstate j = 1)) := by
  have hrun : s.jwOpen j a b = s.openPersistent 1 j c a b := by simp [State.jwOpen, hb, hc, hr, hst]
  constructor
  · intro h
    obtain ⟨t, ht⟩ := State.openPersistent_fails 1 j h
    refine jwEnds_of_idle hb rfl (hrun.trans ht) (by decide) (by decide) ?_
    rw [State.jwAtOnce_jstate, State.jstate_setJstate _ _ _ (by decide)]
  · intro h
    obtain ⟨t, ht⟩ := State.openPersistent_passes 1 j h
    refine jwEnds_of_idle hb rfl (hrun.trans ht) (by decide) (by decide) ?_
    rw [State.jwAtOnce_jstate, State.jstate_setJstate _ _ _ (by decide)]

/-- REOPEN of a persistent journal none of whose commands is at its drive, by what its checks answer. -/
theorem jwReopen_persistent (hc : s.configured j = some c) (hr : c.ring = false) (hst : s.jstate j = 4 ∨ s.jstate j = 5)
    (hq : s.journalBusy j = false) (a b : List IoRetry) :
    ((s.enumerate c.ctrl).openCode c a b = 0 → JwEnds (.jwReopen j a b) s 5 j 0 (fun u => u.jstate j = 1))
      ∧ ((s.enumerate c.ctrl).openCode c a b ≠ 0 → JwEnds (.jwReopen j a b) s 5 j 4 (fun u => u.jstate j = 4
        ∧ u.fld (Reg.JW_JSTATE j) 15 8 = (s.enumerate c.ctrl).openCode c a b)) := by
  have hno : ¬ (s.jstate j ≠ 4 ∧ s.jstate j ≠ 5) := by omega
  have hrun : s.jwReopen j a b = s.openPersistent 5 j c a b := by
    simp only [State.jwReopen, hb, hc, hr, hq, if_neg hno, Bool.false_eq_true, if_false]
  constructor
  · intro h
    obtain ⟨t, ht⟩ := State.openPersistent_passes 5 j h
    refine jwEnds_of_idle hb rfl (hrun.trans ht) (by decide) (by decide) ?_
    rw [State.jwAtOnce_jstate, State.jstate_setJstate _ _ _ (by decide)]
  · intro h
    obtain ⟨t, ht⟩ := State.openPersistent_fails 5 j h
    refine jwEnds_of_idle hb rfl (hrun.trans ht) (by decide) (by decide) ⟨?_, ?_⟩
    · rw [State.jwAtOnce_jstate, State.jstate_setJstate _ _ _ (by decide)]
    · rw [State.fld, State.jwAtOnce_rd _ _ _ _ (JW_JSTATE_ne j).1 (JW_JSTATE_ne j).2]
      exact State.err_setJstate _ _ _ (State.openCode_lt _ _ _ _)

/-- REOPEN waits for the journal's commands at its drive. -/
theorem jwReopen_waits (hc : s.configured j = some c) (hr : c.ring = false) (hst : s.jstate j = 4 ∨ s.jstate j = 5)
    (hq : s.journalBusy j = true) (a b : List IoRetry) :
    Settles (.jwReopen j a b) s (fun u =>
      JwShows u 5 j true ∧ u.jstate j = s.jstate j ∧ u.jw.queues = s.jw.queues) := by
  have hno : ¬ (s.jstate j ≠ 4 ∧ s.jstate j ≠ 5) := by omega
  refine ⟨s.jwReopen j a b, by rw [← State.jwIfIdle_idle hb 5 j (fun s => s.jwReopen j a b)]; rfl, ?_⟩
  simp only [State.jwReopen, hb, hc, hr, hq, if_neg hno, Bool.false_eq_true, if_false, if_true]
  refine ⟨s.jwStart_shows (op := 5) false (by decide) j.isLt, ?_, rfl⟩
  exact congrArg (field · 2 0) (s.jwStart_rd 5 j false (JW_JSTATE_ne j).1)

/-- SEAL of a ring closes its segment, no transaction before it being unsettled. -/
theorem jwSeal_ring (hc : s.configured j = some c) (hr : c.ring = true) (hst : s.jstate j = 2)
    (hcap : (s.journal j).capture = none) (hm : s.maySync j = true) :
    JwEnds (.jwSeal j) s 2 j 0 (fun u => (u.journal j).segOpen = false) := by
  let t := s.jwStart 2 j false
  have hm' : t.maySync j = true := hm
  obtain ⟨hsome, hsync⟩ := State.writeSync_ring hr (s := t) (j := j) hcap
  obtain ⟨hclosed, hclose⟩ := State.closeSegment_ring hr (t.writeSync j c).1 j 1 false .none
  have hrun : s.jwSeal j = ((t.writeSync j c).1.closeSegment j c 1 false .none).jwDone 0 := by
    simp only [State.jwSeal, hb, hc, hst, ne_eq, not_true_eq_false, Bool.false_eq_true, if_false]
    rw [if_pos hm', State.jwSealWrite_ring hr hsome]
  obtain ⟨hop, hj, -, -⟩ := s.jwStart_shows (op := 2) false (by decide) j.isLt
  obtain ⟨hshow, hcode, hnone⟩ := State.jwDone_shows (s := (t.writeSync j c).1.closeSegment j c 1 false .none)
    (code := 0) ((congrArg (field · 3 0) (hclose.trans hsync)).trans hop)
    ((congrArg (field · 27 16) (hclose.trans hsync)).trans hj) (by decide)
  refine ⟨s.jwSeal j, by rw [← State.jwIfIdle_idle hb 2 j (fun s => s.jwSeal j)]; rfl, ?_⟩
  rw [hrun]
  exact ⟨hshow, hcode, hnone, hclosed⟩

/-- SEAL waits for the transactions before it to be settled. -/
theorem jwSeal_waits (hc : s.configured j = some c) (hst : s.jstate j = 2) (hm : s.maySync j = false) :
    Settles (.jwSeal j) s (fun u => JwShows u 2 j true ∧ u.jstate j = 2) := by
  have hm' : ¬ (s.jwStart 2 j false).maySync j = true := by
    rw [show (s.jwStart 2 j false).maySync j = s.maySync j from rfl, hm]
    exact Bool.false_ne_true
  refine ⟨s.jwSeal j, by rw [← State.jwIfIdle_idle hb 2 j (fun s => s.jwSeal j)]; rfl, ?_⟩
  simp only [State.jwSeal, hb, hc, hst, ne_eq, not_true_eq_false, Bool.false_eq_true, if_false]
  rw [if_neg hm']
  exact ⟨s.jwStart_shows (op := 2) false (by decide) j.isLt,
    (congrArg (field · 2 0) (s.jwStart_rd 2 j false (JW_JSTATE_ne j).1)).trans hst⟩

end

/-- Settles O30, command by command. -/
theorem journalCommands : Obligations.JournalCommands := by
  intro s j
  refine ⟨fun hb a b p hp => ?_, fun hb => ?_⟩
  · have hbusy := fun op (ho : op < 16) f => State.jwIfIdle_busy (op := op) hb j ho f
    simp only [List.mem_cons, List.not_mem_nil, or_false] at hp
    rcases hp with rfl | rfl | rfl | rfl | rfl
    · exact ⟨_, rfl, hbusy 1 (by decide) _⟩
    · exact ⟨_, rfl, hbusy 2 (by decide) _⟩
    · exact ⟨_, rfl, hbusy 3 (by decide) _⟩
    · exact ⟨_, rfl, hbusy 4 (by decide) _⟩
    · exact ⟨_, rfl, hbusy 5 (by decide) _⟩
  · refine ⟨jwBadOp_refused hb, fun hno => ?_, fun c hc => ?_, fun c hc => ?_⟩
    · have none_some : ∀ {P : Prop} c, s.configured j = some c → P := fun c hc => by rw [hno] at hc; cases hc
      exact ⟨fun a b => ⟨jwOpen_refused hb none_some a b, jwReopen_refused hb none_some a b⟩,
        jwSeal_refused hb none_some, jwPersist_refused hb none_some⟩
    · exact ⟨jwFormat_refused hb hc, jwFormat_issues hb hc⟩
    · exact ⟨fun h => jwOpen_refused hb fun _ _ => h, fun h4 h5 => jwReopen_refused hb fun _ _ => ⟨h4, h5⟩,
        fun h => ⟨jwSeal_refused hb fun _ _ => h, jwPersist_refused hb fun _ _ => h⟩,
        jwPersist_noTarget hb hc, jwOpen_ring hb hc, jwOpen_persistent hb hc,
        fun hr hst hcap t ht => jwPersist_starts hb hc hr hst hcap ht, jwSeal_ring hb hc,
        jwReopen_waits hb hc, fun hr hst hq a b => (jwReopen_persistent hb hc hr hst hq a b).1,
        fun hr hst hq a b => (jwReopen_persistent hb hc hr hst hq a b).2, jwSeal_waits hb hc⟩

end Sys2Proof.Machine
end

section
/-! SUPPORT. What a read of memory answers does not depend on the engines: states that differ in the queue manager's and
the journal writer's state and registers alone read alike. -/

namespace Sys2Proof.Machine

/-! ### The relation -/

/-- States that agree but for the engines' state and registers. -/
inductive Alike (s : State) : State → Prop
  | mk (c : SMap W64) (j : Jw) (m : Qm) (h : ∀ a, ¬ engineReg a → smGet (regReset a) c a = s.rd a) :
    Alike s { s with ctl := c, jw := j, qm := m }

/-- Answers that agree, with states that do but for the engines. -/
def AlikeAns {α : Type} (p q : State × α) : Prop := Alike p.1 q.1 ∧ q.2 = p.2

namespace Alike

theorem refl (s : State) : Alike s s := mk s.ctl s.jw s.qm fun _ _ => rfl

theorem rd {s u : State} (h : Alike s u) {a : Nat} (ha : ¬ engineReg a) : u.rd a = s.rd a := by
  cases h with | mk c j m h => exact h a ha

theorem fld {s u : State} (h : Alike s u) {a : Nat} (ha : ¬ engineReg a) (m n : Nat) : u.fld a m n = s.fld a m n :=
  congrArg (field · m n) (h.rd ha)

theorem flag {s u : State} (h : Alike s u) {a : Nat} (ha : ¬ engineReg a) (i : Nat) : u.flag a i = s.flag a i :=
  congrArg (bit · i) (h.rd ha)

/-- What only the journal writer does keeps the relation. -/
theorem of_jw {s u s' u' : State} (h : Alike s u) (hs : s' = { s with jw := s'.jw })
    (hu : u' = { u with jw := u'.jw }) :
    Alike s' u' := by
  cases h with | mk c j m h =>
    rw [hs, hu]
    exact mk c u'.jw m h

theorem wr {s u : State} (h : Alike s u) (a : Nat) (v : W64) : Alike (s.wr a v) (u.wr a v) := by
  cases h with | mk c j m h =>
    refine mk (smSet (regReset a) c a v) j m fun b hb => ?_
    have hw := State.rd_wr { s with ctl := c } a b v
    rw [State.rd_wr, ← h b hb]
    exact hw

theorem setFld {s u : State} (h : Alike s u) {a : Nat} (ha : ¬ engineReg a) (hi lo v : Nat) :
    Alike (s.setFld a hi lo v) (u.setFld a hi lo v) := by
  unfold State.setFld
  rw [h.rd ha]
  exact h.wr _ _

theorem setFlag {s u : State} (h : Alike s u) {a : Nat} (ha : ¬ engineReg a) (i : Nat) (b : Bool) :
    Alike (s.setFlag a i b) (u.setFlag a i b) := h.setFld ha _ _ _

theorem satAdd {s u : State} (h : Alike s u) {a : Nat} (ha : ¬ engineReg a) (hi lo n : Nat) :
    Alike (s.satAdd a hi lo n) (u.satAdd a hi lo n) := by
  unfold State.satAdd
  rw [h.fld ha]
  exact h.setFld ha _ _ _

theorem wrapAdd {s u : State} (h : Alike s u) {a : Nat} (ha : ¬ engineReg a) (hi lo n : Nat) :
    Alike (s.wrapAdd a hi lo n) (u.wrapAdd a hi lo n) := by
  unfold State.wrapAdd
  rw [h.fld ha]
  exact h.setFld ha _ _ _

theorem ite {p : Prop} [Decidable p] {s s' u u' : State} (h : p → Alike s u) (h' : ¬ p → Alike s' u') :
    Alike (if p then s else s') (if p then u else u') := by
  split
  next k => exact h k
  next k => exact h' k

end Alike

theorem AlikeAns.ite {α : Type} {p : Prop} [Decidable p] {s s' u u' : State × α} (h : p → AlikeAns s u)
    (h' : ¬ p → AlikeAns s' u') : AlikeAns (if p then s else s') (if p then u else u') := by
  split
  next k => exact h k
  next k => exact h' k

/-! ### Places -/

theorem HW_BOOT_outside : ¬ engineReg Reg.HW_BOOT := by simp [engineReg, Reg.HW_BOOT]

theorem PWR_MODE_outside : ¬ engineReg Reg.PWR_MODE := by simp [engineReg, Reg.PWR_MODE]

theorem SAF_STATUS_outside : ¬ engineReg Reg.SAF_STATUS := by simp [engineReg, Reg.SAF_STATUS]

theorem DDR_CH_CFG_outside (n : Nat) : ¬ engineReg (Reg.DDR_CH_CFG n) := by
  simp only [engineReg, Reg.DDR_CH_CFG]; omega

theorem LANE_EP_MSIX_outside (n : Nat) : ¬ engineReg (Reg.LANE_EP_MSIX n) := by
  simp only [engineReg, Reg.LANE_EP_MSIX]; omega

theorem GRV_RETIRE_outside {g n : Nat} (hg : g < 16) (hn : n < 64) : ¬ engineReg (Reg.GRV_RETIRE g n) := by
  simp only [engineReg, Reg.GRV_RETIRE]; omega

namespace Alike
section
variable {s u : State} (h : Alike s u)
include h

theorem regionOf (a : Nat) : u.regionOf a = s.regionOf a := by
  unfold State.regionOf State.flashBytes State.dramBytes
  simp only [h.fld HW_BOOT_outside, h.fld (DDR_CH_CFG_outside _), h.flag (DDR_CH_CFG_outside _)]

theorem oneRegion (a n : Nat) : u.oneRegion a n = s.oneRegion a n := by
  simp only [State.oneRegion, h.regionOf]

theorem mode : u.mode = s.mode := h.fld PWR_MODE_outside _ _

theorem domainOn (d : Nat) : u.domainOn d = s.domainOn d := by
  simp only [State.domainOn, h.fld (PWR_DOM_outside _), h.mode]

theorem dramChannel (o : Nat) : u.dramChannel o = s.dramChannel o := by
  unfold State.dramChannel
  simp only [h.fld (DDR_CH_CFG_outside _), h.flag (DDR_CH_CFG_outside _)]

theorem anyOff (a n : Nat) : u.anyOff a n = s.anyOff a n := by
  simp only [State.anyOff, State.dramOff, h.dramChannel, h.domainOn, h.flag (UST_ISL_outside _)]

theorem memoryOff (g : Nat) : u.memoryOff g = s.memoryOff g := by
  simp only [State.memoryOff, h.fld (PWR_DOM_outside _), h.flag SAF_STATUS_outside]

theorem groveIs_memoryOff (a : Nat) : u.groveIs a u.memoryOff = s.groveIs a s.memoryOff := by
  simp only [State.groveIs, h.regionOf, h.memoryOff]

theorem retired (a : Nat) : u.retired a = s.retired a := by
  unfold State.retired
  refine Bool.eq_iff_iff.2 ?_
  simp only [List.any_eq_true, List.mem_range]
  refine exists_congr fun g => and_congr_right fun hg => exists_congr fun n => and_congr_right fun hn => ?_
  rw [h.flag (GRV_RETIRE_outside hg hn), h.fld (GRV_RETIRE_outside hg hn)]

theorem engineRefuses (a n : Nat) : u.engineRefuses a n = s.engineRefuses a n := by
  unfold State.engineRefuses State.anyRetired
  rw [h.regionOf, h.oneRegion, h.groveIs_memoryOff, h.anyOff]
  simp only [h.retired]

/-! ### Counters, findings and records -/

theorem find (f : Finding) : Alike (s.find f) (u.find f) := by
  cases h with | mk c j m h => exact mk c j m h

theorem noteMsix (k : Nat) : Alike (s.noteMsix k) (u.noteMsix k) := by
  unfold State.noteMsix
  simp only [h.flag (LANE_EP_MSIX_outside _), h.fld (LANE_EP_MSIX_outside _)]
  cases h with | mk c j m h => exact mk c j m h

theorem noteTriggers (k : Nat) : Alike (s.noteTriggers k) (u.noteTriggers k) := by
  have hjw : ∀ t : State, t.noteTriggers k = { t with jw := (t.noteTriggers k).jw } := fun t => by
    unfold State.noteTriggers
    dsimp only
    split <;> rfl
  exact h.of_jw (hjw s) (hjw u)

theorem loggedOnly (k : Nat) : u.loggedOnly k = s.loggedOnly k := by
  simp only [State.loggedOnly, h.mode, h.flag SAF_STATUS_outside]

theorem tallyInc (k n : Nat) : Alike (s.tallyInc k n) (u.tallyInc k n) := by
  have hk := TLY_CNT_outside k
  unfold State.tallyInc State.tallyCount
  rw [h.loggedOnly, h.fld hk]
  refine ite (fun _ => h) fun _ => noteTriggers (noteMsix (setFld ?_ hk _ _ _) k) k
  exact ite (fun _ => h.setFlag hk _ _) fun _ => h

theorem loseEvents (i n : Nat) : Alike (s.loseEvents i n) (u.loseEvents i n) :=
  ite (fun _ => h) fun _ => (h.satAdd (UST_ISL_outside i) _ _ _).tallyInc _ _

/-- The events that a sender holds back. -/
theorem held (m : SMap Nat) : Alike { s with sampler := { s.sampler with held := m } }
    { u with sampler := { u.sampler with held := m } } := by
  cases h with | mk c j q h => exact mk c j q h

theorem sampler : u.sampler = s.sampler := by
  cases h with | mk c j q h => rfl

theorem crossInc (i k n : Nat) : Alike (s.crossInc i k n) (u.crossInc i k n) := by
  unfold State.crossInc State.tallyOn
  rw [h.mode, h.domainOn, h.fld (PWR_DOM_outside 2), h.sampler]
  exact ite (fun _ => h.tallyInc _ _) fun _ => ite (fun _ => h.loseEvents _ _) fun _ =>
    loseEvents (h.sampler ▸ h.held _) _ _

theorem recordError {r : RecSet} (hr : r.inPart) (e : ErrInfo) : Alike (s.recordError r e) (u.recordError r e) := by
  have hs := RecSet.status_outside hr
  have hsame : (List.range 8).find? (fun n => u.flag (r.info n) 0 && e.kind != 0x12
        && u.fld (r.addr n) 47 0 == e.addr % 2 ^ 48 && errGroup (u.fld (r.info n) 15 8) == errGroup e.kind)
      = (List.range 8).find? (fun n => s.flag (r.info n) 0 && e.kind != 0x12
        && s.fld (r.addr n) 47 0 == e.addr % 2 ^ 48 && errGroup (s.fld (r.info n) 15 8) == errGroup e.kind) :=
    List.find?_congr fun n hn => by
      have hn := List.mem_range.1 hn
      rw [h.flag (RecSet.info_outside hr hn), h.fld (RecSet.addr_outside hr hn), h.fld (RecSet.info_outside hr hn)]
  have hfree : (List.range 8).find? (fun n => !u.flag (r.info n) 0)
      = (List.range 8).find? (fun n => !s.flag (r.info n) 0) :=
    List.find?_congr fun n hn => by rw [h.flag (RecSet.info_outside hr (List.mem_range.1 hn))]
  unfold State.recordError
  dsimp only
  rw [hsame]
  split
  next n hn =>
    have hi := RecSet.info_outside hr (List.mem_range.1 (List.mem_of_find?_eq_some hn))
    exact ite (fun _ => (h.satAdd hi _ _ _).setFlag hi _ _) fun _ => h.satAdd hi _ _ _
  next =>
    rw [hfree]
    split
    next n hn =>
      rw [h.fld hs]
      exact (((h.wr _ _).wr _ _).setFlag hs _ _).wrapAdd hs _ _ _
    next => exact h.satAdd hs _ _ _

theorem reqCode (r : Requester) (a : Nat) : u.reqCode r a = s.reqCode r a := by
  unfold State.reqCode
  simp only [h.regionOf]

theorem recordRefusal {r : Requester} (hr : r.portB = true) (a d : Nat) :
    Alike (s.recordRefusal r a d) (u.recordRefusal r a d) := by
  have h1 := fun e => (h.recordError (r := .heartwood) trivial e).tallyInc (if d = 3 then dev 165 else dev 164) 1
  unfold State.recordRefusal
  rw [h.reqCode]
  dsimp only
  cases r with
  | qm => exact ite (fun _ => (h1 _).find _) fun _ => h1 _
  | jw => exact ite (fun _ => (h1 _).find _) fun _ => h1 _
  | scrubber => exact ite (fun _ => (h1 _).find _) fun _ => h1 _
  | _ => cases hr

/-! ### Regulators and ports -/

theorem groveWakes (g : Nat) : Alike (s.groveWakes g) (u.groveWakes g) := by
  unfold State.groveWakes
  rw [h.flag (PWR_RAIL_outside g)]
  exact ite (fun _ => (h.setFlag (PWR_RAIL_outside g) _ _).setFld (PWR_DOM_outside _) _ _ _) fun _ => h

theorem touch (a : Nat) : Alike (s.touch a) (u.touch a) := by
  unfold State.touch
  rw [h.regionOf]
  split
  · exact h.groveWakes _
  · exact h.groveWakes _
  · exact h.groveWakes _
  · exact ite (fun _ => h.groveWakes _) fun _ => h
  · exact h

theorem ports : u.ports = s.ports := by
  cases h with | mk c j q h => rfl

theorem withPortsB (p : Ports) : Alike { s with ports := p } { u with ports := p } := by
  cases h with | mk c j q h => exact mk c j q h

/-- BUSY answers that an engine meets. -/
theorem noteBusy {r : Requester} (hr : r.portB = true) {g : Nat} (hg : g < 16) (n : Nat) :
    Alike (s.noteBusy r g n) (u.noteBusy r g n) := by
  have h1 := h.wrapAdd (GRV_BUSY_outside hg) 63 32 n
  unfold State.noteBusy
  rw [hr]
  dsimp only
  refine ite (fun _ => h) fun _ => ?_
  cases r with
  | qm => exact h1
  | jw => exact h1
  | scrubber => exact h1
  | _ => cases hr

theorem portAnswer {r : Requester} (hr : r.portB = true) (write : Bool) (w : Nat) :
    AlikeAns (s.portAnswer r write w) (u.portAnswer r write w) := by
  unfold State.portAnswer
  rw [h.regionOf, h.ports, hr]
  split
  next g e =>
    have hg : g < 16 := (s.regionOf_inPart w).1 g e
    simp only [if_true]
    split
    · exact ⟨noteBusy (h.withPortsB _) hr hg _, rfl⟩
    · exact ⟨h, rfl⟩
  next => exact ⟨h, rfl⟩

/-! ### Words -/

theorem setByte (a : Nat) (b : Byte) : Alike (s.setByte a b) (u.setByte a b) := by
  cases h with | mk c j m h => exact mk c j m h

theorem setBytes (a : Nat) (bs : List Byte) : Alike (s.setBytes a bs) (u.setBytes a bs) := by
  induction bs generalizing s u a with
  | nil => exact h
  | cons b bs ih => exact ih (h.setByte a b) (a + 1)

theorem setCode (w : Nat) (k : CodeWord) : Alike (s.setCode w k) (u.setCode w k) := by
  have h1 := h.setBytes w (bytesLE 8 (k.toNat % 2 ^ 64))
  unfold State.setCode
  generalize s.setBytes w (bytesLE 8 (k.toNat % 2 ^ 64)) = x at h1
  generalize u.setBytes w (bytesLE 8 (k.toNat % 2 ^ 64)) = y at h1
  cases h1 with | mk c j m h1 => exact mk c j m h1

theorem setBurst (b : Nat) (bs : List Byte) (k : BitVec 128) : Alike (s.setBurst b bs k) (u.setBurst b bs k) := by
  have h1 := h.setBytes b bs
  unfold State.setBurst
  generalize s.setBytes b bs = x at h1
  generalize u.setBytes b bs = y at h1
  cases h1 with | mk c j m h1 => exact mk c j m h1

theorem readOnce (a : Nat) : Alike (s.readOnce a) (u.readOnce a) := by
  cases h with | mk c j m h => exact mk c j m h

theorem readCode (w : Nat) : u.readCode w = s.readCode w := by
  cases h with | mk c j m h => rfl

theorem readBurst (b : Nat) : u.readBurst b = s.readBurst b := by
  cases h with | mk c j m h => rfl

theorem groveOfAddr (a : Nat) : u.groveOfAddr a = s.groveOfAddr a := by
  simp only [State.groveOfAddr, h.regionOf]

theorem detectOnly (w : Nat) : u.detectOnly w = s.detectOnly w := by
  have hm : ∀ g, u.memcode1 g = s.memcode1 g := by cases h with | mk c j m h => exact fun _ => rfl
  simp only [State.detectOnly, h.groveOfAddr, hm]

theorem sramErr (r : Requester) (w kind : Nat) : u.sramErr r w kind = s.sramErr r w kind := by
  simp only [State.sramErr, h.regionOf]

theorem uncorrSource (w : Nat) : u.uncorrSource w = s.uncorrSource w := by
  simp only [State.uncorrSource, h.groveOfAddr]

theorem memFinding (n kind w : Nat) (src : Option Nat) :
    Alike (s.memFinding n kind w src) (u.memFinding n kind w src) := by
  unfold State.memFinding
  rw [h.regionOf, h.groveOfAddr]
  exact h.find _

theorem heartwoodMemFault (r : Requester) (w : Nat) : Alike (s.heartwoodMemFault r w) (u.heartwoodMemFault r w) := by
  unfold State.heartwoodMemFault
  rw [h.regionOf, h.flag SAF_STATUS_outside]
  exact ite (fun _ => h.find _) fun _ => h

theorem scrub : u.scrub = s.scrub := by
  cases h with | mk c j m h => rfl

theorem withScrub (x : Scrub) : Alike { s with scrub := x } { u with scrub := x } := by
  cases h with | mk c j m h => exact mk c j m h

theorem noteCorrected (r : Requester) (w pos : Nat) : Alike (s.noteCorrected r w pos) (u.noteCorrected r w pos) := by
  have h1 := fun e => (h.recordError (s.sramErr_inPart r w 1) e).readOnce w
  unfold State.noteCorrected State.isSram
  rw [h.sramErr, h.readCode, h.groveOfAddr, h.scrub, h.regionOf]
  exact ite (fun _ => (h1 _).withScrub _) fun _ => h1 _

theorem sramFind (r : Requester) (w : Nat) : AlikeAns (s.sramFind r w) (u.sramFind r w) := by
  have ht := h.readOnce w
  have h1 := fun e => (ht.recordError (s.sramErr_inPart r w 3) e).readOnce w
  unfold State.sramFind
  dsimp only
  rw [h.detectOnly, h.readCode]
  split
  · exact ⟨ht, rfl⟩
  · exact ⟨h.noteCorrected r w _, rfl⟩
  · exact ⟨ht, rfl⟩
  · rw [ht.detectOnly, ht.readCode, h.sramErr]
    split
    · exact ⟨h1 _, rfl⟩
    · exact ⟨(h1 _).setCode _ _, rfl⟩
    · exact ⟨ht.readOnce w, rfl⟩
    · exact ⟨ht.readOnce w, rfl⟩

theorem sramRead (r : Requester) (w : Nat) : AlikeAns (s.sramRead r w) (u.sramRead r w) := by
  have hf := h.sramFind r w
  unfold State.sramRead
  dsimp only
  rw [h.readCode]
  generalize s.sramFind r w = p at hf
  generalize u.sramFind r w = q at hf
  obtain ⟨t, x⟩ := p
  obtain ⟨v, y⟩ := q
  obtain ⟨ht, rfl⟩ := hf
  dsimp only at ht
  cases y with
  | good k => exact ⟨ht, rfl⟩
  | poisoned =>
    dsimp only
    rw [ht.sramErr]
    have h1 := fun e => (ht.recordError (t.sramErr_inPart r w 5) e).heartwoodMemFault r w
    refine ⟨?_, rfl⟩
    dsimp only
    rw [uncorrSource (ht.recordError (t.sramErr_inPart r w 5) _)]
    exact (h1 _).memFinding _ _ _ _
  | lost =>
    dsimp only
    rw [ht.sramErr]
    have h1 := fun e => ht.recordError (t.sramErr_inPart r w 3) e
    refine ⟨?_, rfl⟩
    dsimp only
    rw [uncorrSource (h1 _)]
    exact ((((h1 _).tallyInc _ _).setCode _ _).heartwoodMemFault r w).memFinding _ _ _ _

/-! ### Bursts -/

theorem belowMark (a : Nat) : u.belowMark a = s.belowMark a := by
  simp only [State.belowMark, h.dramChannel, h.fld (DDR_CH_WMARK_outside _)]

theorem burstAt (b : Nat) : u.burstAt b = s.burstAt b := by
  cases h with | mk c j m h => rfl

theorem classifyBurst (ch b : Nat) (e : ErrInfo) (bs : List Byte) (k : BitVec 128) (d : Nat) :
    Alike (s.classifyBurst ch b e bs k d) (u.classifyBurst ch b e bs k d) := by
  have ht := h.setBurst b bs k
  have h1 := fun e => (ht.readOnce b).recordError (r := .ddr ch) trivial e
  unfold State.classifyBurst
  dsimp only
  rw [ht.readBurst]
  exact ite (fun _ => (h1 _).crossInc _ _ _) fun _ => h1 _

theorem dramFind (r : Requester) (b : Nat) : AlikeAns (s.dramFind r b) (u.dramFind r b) := by
  have ht := h.readOnce b
  have h1 := fun ch e => (ht.recordError (r := .ddr ch) trivial e).readOnce b
  unfold State.dramFind
  dsimp only
  rw [h.readBurst, h.dramChannel]
  split
  · exact ⟨ht, rfl⟩
  · exact ⟨ht.classifyBurst _ _ _ _ _ _, rfl⟩
  · exact ⟨ht, rfl⟩
  · rw [ht.readBurst]
    split
    · exact ⟨h1 _ _, rfl⟩
    · exact ⟨(h1 _ _).setBurst _ _ _, rfl⟩
    · exact ⟨ht.readOnce b, rfl⟩
    · exact ⟨ht.readOnce b, rfl⟩

theorem dramRead (r : Requester) (a n w : Nat) : AlikeAns (s.dramRead r a n w) (u.dramRead r a n w) := by
  have hf := h.dramFind r (w / 64 * 64)
  unfold State.dramRead
  dsimp only
  rw [h.belowMark, h.dramChannel]
  refine AlikeAns.ite (fun _ => ⟨h, rfl⟩) fun _ => ?_
  generalize s.dramFind r (w / 64 * 64) = p at hf
  generalize u.dramFind r (w / 64 * 64) = q at hf
  obtain ⟨t, x⟩ := p
  obtain ⟨v, y⟩ := q
  obtain ⟨ht, rfl⟩ := hf
  dsimp only at ht
  cases y with
  | good bs => exact ⟨ht, rfl⟩
  | poisoned m bs =>
    exact AlikeAns.ite (fun _ => ⟨(ht.recordError (r := .ddr _) trivial _).find _, rfl⟩) fun _ => ⟨ht, rfl⟩
  | lost =>
    dsimp only
    rw [ht.burstAt]
    exact ⟨(((ht.recordError (r := .ddr _) trivial _).crossInc _ _ _).setBurst _ _ _).find _, rfl⟩

/-! ### Whole accesses -/

theorem freeWord : Alike s.freeWord.2 u.freeWord.2 ∧ u.freeWord.1 = s.freeWord.1 := by
  cases h with | mk c j m h => exact ⟨mk c j m h, rfl⟩

theorem readSeedbank (w : Nat) : AlikeAns (s.readSeedbank w) (u.readSeedbank w) := by
  cases h with | mk c j m h =>
    unfold State.readSeedbank
    dsimp only
    split
    · exact AlikeAns.ite (fun _ => ⟨mk c j m h, rfl⟩) fun _ => ⟨mk c j m h, rfl⟩
    · exact ⟨mk c j m h, rfl⟩

theorem readStored (r : Requester) (a n w : Nat) : AlikeAns (s.readStored r a n w) (u.readStored r a n w) := by
  unfold State.readStored
  rw [h.regionOf]
  split
  · exact h.dramRead r a n w
  · exact ⟨(h.readSeedbank w).1, congrArg ReadAns.ok (h.readSeedbank w).2⟩
  · exact ⟨h, rfl⟩
  · exact ⟨h, rfl⟩
  · exact ⟨h, rfl⟩
  · exact ⟨h, rfl⟩
  · exact h.sramRead r w

theorem spoiled : u.spoiled = s.spoiled := by
  cases h with | mk c j m h => rfl

theorem readWord {r : Requester} (hr : r.portB = true) (w : Nat) : AlikeAns (s.readWord r w) (u.readWord r w) := by
  obtain ⟨hp, hans⟩ := (h.touch w).portAnswer hr false w
  obtain ⟨hq, hval⟩ := hp.readStored r w 8 w
  unfold State.readWord State.readWordOf
  dsimp only
  rw [hans, hval, h.spoiled]
  refine AlikeAns.ite (fun _ => ?_) fun _ => ?_
  · exact ⟨hp.freeWord.1, congrArg ReadAns.ok hp.freeWord.2⟩
  · split
    · exact AlikeAns.ite (fun _ => ⟨hq.freeWord.1, congrArg ReadAns.ok hq.freeWord.2⟩) fun _ => ⟨hq, hval⟩
    · exact ⟨hq, hval⟩

/-! ### The queue manager's reads -/

theorem qmRead (a : Nat) : AlikeAns (s.qmRead a) (u.qmRead a) := by
  have hw := h.readWord (r := .qm) rfl a
  unfold State.qmRead State.qmError
  rw [h.engineRefuses]
  split
  · exact ⟨(h.recordRefusal (r := .qm) rfl _ _).tallyInc _ _, rfl⟩
  · generalize s.readWord .qm a = p at hw
    generalize u.readWord .qm a = q at hw
    obtain ⟨t, x⟩ := p
    obtain ⟨v, y⟩ := q
    obtain ⟨ht, rfl⟩ := hw
    cases y with
    | ok w => exact ⟨ht, rfl⟩
    | err d => exact ⟨tallyInc ht _ _, rfl⟩

theorem qmWords (n a : Nat) : AlikeAns (s.qmWords n a) (u.qmWords n a) := by
  induction n generalizing s u a with
  | zero => exact ⟨h, rfl⟩
  | succ n ih =>
    have hq := h.qmRead a
    unfold State.qmWords
    generalize s.qmRead a = p at hq
    generalize u.qmRead a = q at hq
    obtain ⟨t, x⟩ := p
    obtain ⟨v, y⟩ := q
    obtain ⟨ht, rfl⟩ := hq
    cases y with
    | ok w => exact ⟨(ih ht (a + 8)).1, congrArg (w :: ·) (ih ht (a + 8)).2⟩
    | err d => exact ⟨ht, rfl⟩

end
end Alike
end Sys2Proof.Machine
end

section
/-! PROOF. The commands of `QM_CMD` (R274, R293, R299, R383) and the writes of Grove pools (R300). -/

namespace Sys2Proof.Machine

/-! ### What the queue manager's reads leave -/

namespace EnginesKept

theorem qmRead (s : State) (a : Nat) : EnginesKept s (s.qmRead a).1 := by
  have hw := readWord s .qm a
  unfold State.qmRead
  split
  · exact (recordRefusal s _ _ rfl).trans (tallyInc _ _ _)
  · split
    next t v e => rw [e] at hw; exact hw
    next t d e => rw [e] at hw; exact hw.trans (tallyInc _ _ _)

theorem qmWords (s : State) (n a : Nat) : EnginesKept s (s.qmWords n a).1 := by
  induction n generalizing s a with
  | zero => exact refl s
  | succ n ih =>
    have hq := qmRead s a
    unfold State.qmWords
    split
    next t v e => rw [e] at hq; exact hq.trans (ih t (a + 8))
    next t d e => rw [e] at hq; exact hq

theorem qmBadWord (s : State) (a : Nat) : EnginesKept s (s.qmBadWord a) := by
  unfold State.qmBadWord
  dsimp only
  refine EnginesKept.trans (recordError s _ ?_) (tallyInc _ _ _)
  split
  · trivial
  · exact s.sramErr_inPart _ _ _

theorem readLinkWord (s : State) (q cell : Nat) (more : Bool) : EnginesKept s (s.readLinkWord q cell more).1 := by
  have hq := qmRead s cell
  unfold State.readLinkWord
  split
  next t v e =>
    rw [e] at hq
    split
    · exact hq
    · exact hq.trans (qmBadWord t _)
  next t d e => rw [e] at hq; exact hq

theorem walkChain (s : State) (q n cell : Nat) : EnginesKept s (s.walkChain q n cell).1 := by
  induction n generalizing s cell with
  | zero => exact readLinkWord s q cell false
  | succ n ih =>
    have hl := readLinkWord s q cell true
    unfold State.walkChain
    split
    next t next e => rw [e] at hl; exact hl.trans (ih t next)
    next t e => rw [e] at hl; exact hl

theorem reach (s : State) (q n cell : Nat) : EnginesKept s (s.reach q n cell).1 := by
  induction n generalizing s cell with
  | zero => exact refl s
  | succ n ih =>
    have hr : EnginesKept s
        (if s.retired cell then (s.recordRefusal .qm cell 6, ReadAns.err 6) else s.readWord .qm cell).1 := by
      split
      · exact recordRefusal s (r := .qm) cell 6 rfl
      · exact readWord s _ _
    unfold State.reach
    split
    · exact refl s
    · split
      next t v e => rw [e] at hr; exact hr.trans (ih t _)
      next t d e => rw [e] at hr; exact hr

end EnginesKept

/-! ### A cached descriptor -/

/-- Queue `q` is the most recently used in the caches, with descriptor `d`, and they hold no more than 4,001. -/
def State.Caches (s : State) (q : Nat) (d : Desc) : Prop :=
  ∃ p rest, s.qm.cache = ⟨q, d, p⟩ :: rest ∧ rest.length ≤ 4000

/-- The other queues of the caches leave room for `q`. -/
def State.HasRoom (s : State) (q : Nat) : Prop := (s.qm.drop q).length ≤ 4000

theorem State.hasRoom_of_length {s : State} (h : s.qm.cache.length ≤ 4000) (q : Nat) : s.HasRoom q :=
  (List.length_filter_le _ _).trans h

namespace State.Caches

theorem of_cache {s t : State} {q : Nat} {d : Desc} (h : s.Caches q d) (hc : t.qm.cache = s.qm.cache) :
    t.Caches q d := by
  obtain ⟨p, rest, he, hl⟩ := h
  exact ⟨p, rest, hc.trans he, hl⟩

theorem kept {s t : State} {q : Nat} {d : Desc} (h : s.Caches q d) (k : EnginesKept s t) : t.Caches q d :=
  h.of_cache (by rw [k.qm])

theorem hasRoom {s : State} {q : Nat} {d : Desc} (h : s.Caches q d) : s.HasRoom q := by
  obtain ⟨p, rest, he, hl⟩ := h
  rw [State.HasRoom, Qm.drop, he, List.filter_cons_of_neg (by simp)]
  exact (List.length_filter_le _ _).trans hl

theorem peek {s : State} {q : Nat} {d : Desc} (h : s.Caches q d) : s.peekDesc q = d := by
  obtain ⟨p, rest, he, -⟩ := h
  simp [State.peekDesc, State.getDesc, he]

end State.Caches

/-- With room for it, a descriptor set is cached and nothing is written back. -/
theorem State.setDesc_caches {s : State} {q : Nat} (h : s.HasRoom q) (d : Desc) : (s.setDesc q d).Caches q d := by
  unfold State.setDesc State.evict
  rw [if_pos]
  · exact ⟨_, _, rfl, h⟩
  · refine (List.length_filter_le _ _).trans ?_
    exact (Nat.succ_le_succ h).trans (by decide)

/-- A descriptor fetched is cached as it was seen. -/
theorem State.getDesc_caches {s : State} {q : Nat} (h : s.HasRoom q) : (s.getDesc q).1.Caches q (s.peekDesc q) := by
  have hw := EnginesKept.qmWords s 4 (s.descAddr q)
  have room : ∀ t : State, t.qm.cache = s.qm.cache → t.HasRoom q := fun t ht => by
    rw [State.HasRoom, Qm.drop, ht]
    exact h
  unfold State.peekDesc State.getDesc
  split
  · exact State.setDesc_caches h _
  · dsimp only
    split
    · apply State.setDesc_caches
      exact room _ rfl
    · split
      · apply State.setDesc_caches
        exact room _ (congrArg Qm.cache hw.qm)
      · apply State.setDesc_caches
        exact room _ (congrArg Qm.cache hw.qm)

/-- An update of a queue's descriptor is what is then cached. -/
theorem State.updDesc_caches {s : State} {q : Nat} (h : s.HasRoom q) (f : Desc → Desc) :
    (s.updDesc q f).Caches q (f (s.peekDesc q)) :=
  State.setDesc_caches (State.getDesc_caches h).hasRoom _

theorem State.Caches.updDesc {s : State} {q : Nat} {d : Desc} (h : s.Caches q d) (f : Desc → Desc) :
    (s.updDesc q f).Caches q (f d) := by
  have := State.updDesc_caches h.hasRoom f
  rwa [h.peek] at this

/-- A descriptor read does not depend on the engines but for the caches themselves. -/
theorem Alike.peekDesc {s u : State} (h : Alike s u) (hc : u.qm.cache = s.qm.cache)
    (hu : u.qm.unwritten = s.qm.unwritten) (hn : u.qm.cells = s.qm.cells) (q : Nat) : u.peekDesc q = s.peekDesc q := by
  have ha : u.descAddr q = s.descAddr q := by cases h with | mk c j m h => rfl
  have hw := (h.qmWords 4 (s.descAddr q)).2
  unfold State.peekDesc State.getDesc
  rw [hc, hu, hn, ha]
  split
  · rfl
  · dsimp only
    rw [hw]
    split
    · rfl
    · split <;> rfl

/-- The queue manager's own state is no matter for what else the device holds. -/
theorem Alike.of_qm (s : State) (m : Qm) : Alike s { s with qm := m } := mk s.ctl s.jw m fun _ _ => rfl

/-- Nor is a register of the engines. -/
theorem Alike.wr_engine {s u : State} (h : Alike s u) {a : Nat} (ha : engineReg a) (v : W64) : Alike s (u.wr a v) := by
  cases h with | mk c j m h =>
    refine mk _ j m fun b hb => ?_
    have hw := State.rd_wr { s with ctl := c } a b v
    rw [if_neg fun e : b = a => hb (e ▸ ha)] at hw
    exact hw.trans (h b hb)

theorem State.peekDesc_fixGroup (s : State) (q g p : Nat) : (s.fixGroup g p).peekDesc q = s.peekDesc q := by
  unfold State.fixGroup
  split
  · rfl
  · exact (Alike.of_qm s { s.qm with groupPart := smSet 0 s.qm.groupPart g (p + 1) }).peekDesc rfl rfl rfl q

theorem QM_CMD_engineReg : engineReg Reg.QM_CMD := ⟨by decide, by decide⟩

theorem QM_CMD_STATUS_engineReg : engineReg Reg.QM_CMD_STATUS := ⟨by decide, by decide⟩

/-- The end of a command leaves every descriptor. -/
theorem State.peekDesc_qmDone (s : State) (q code : Nat) (v : W64) : (s.qmDone v code).peekDesc q = s.peekDesc q := by
  have h : Alike s (s.qmDone v code) :=
    ((Alike.refl s).wr_engine QM_CMD_engineReg _).wr_engine QM_CMD_STATUS_engineReg _
  exact h.peekDesc rfl rfl rfl q

/-! ### The command's registers -/

/-- The fields of a command word that `QM_CMD` keeps. -/
def qmCmdFields (v : W64) : W64 := w64 (v.toNat % 2 ^ 53 &&& 0x1F7FFF0FFFFF0F)

/-- A field that the mask covers is kept. -/
theorem field_qmCmdFields (v : W64) {hi lo : Nat}
    (hm : ∀ i, i < 64 → lo ≤ i ∧ i ≤ hi → (0x1F7FFF0FFFFF0F : Nat).testBit i = true) (hh : hi < 53) :
    field (qmCmdFields v) hi lo = field v hi lo := by
  refine Nat.eq_of_testBit_eq fun k => ?_
  rw [testBit_field, testBit_field]
  by_cases hk : k < hi + 1 - lo
  · have hb : bit (qmCmdFields v) (lo + k) = v.getLsbD (lo + k) := by
      rw [qmCmdFields, bit_w64 _ (by omega), Nat.testBit_and, hm _ (by omega) (by omega), Nat.testBit_mod_two_pow,
        decide_eq_true (by omega), Bool.true_and, Bool.and_true, BitVec.testBit_toNat]
    exact congrArg (decide (k < hi + 1 - lo) && ·) hb
  · simp [hk]

/-- A row of `QM_CMD` sets OP, and leaves the queue and the other operands. -/
theorem field_withOp {op : Nat} (v : W64) (h : op < 16) : field (withOp 4 0 op v) 3 0 = op :=
  (field_setField v op (by decide) (by decide)).trans (Nat.mod_eq_of_lt h)

theorem field_withOp_ne (op : Nat) (v : W64) {hi lo : Nat} (h : 3 < lo) :
    field (withOp 4 0 op v) hi lo = field v hi lo :=
  field_setField_ne v op (by decide) (by decide) (Or.inr h)

theorem bit_withOp_ne (op : Nat) (v : W64) {i : Nat} (h : 3 < i) : bit (withOp 4 0 op v) i = bit v i :=
  bit_setField_ne v op (by decide) (by decide) (Or.inr h)

/-- The end of a command gives its CODE. -/
theorem State.qmDone_code (s : State) (v : W64) (code : Nat) : (s.qmDone v code).rd Reg.QM_CMD_STATUS = w64 code := by
  rw [State.qmDone, State.rd_wr, if_pos rfl]

theorem State.qmDone_rd (s : State) (v : W64) (code : Nat) {a : Nat} (h : a ≠ Reg.QM_CMD) (k : a ≠ Reg.QM_CMD_STATUS) :
    (s.qmDone v code).rd a = s.rd a := by
  rw [State.qmDone, State.rd_wr, if_neg k, State.rd_wr, if_neg h]

/-- `QM_CMD` written with its fields and GO and BUSY as `busy` says. -/
theorem State.wr_QM_CMD_shows (s : State) {op busy : Nat} (v : W64) (ho : op < 16) (hb : busy < 4) :
    let u := s.wr Reg.QM_CMD (setField (qmCmdFields (withOp 4 0 op v)) 63 62 busy)
    u.fld Reg.QM_CMD 3 0 = op ∧ u.fld Reg.QM_CMD 27 8 = field v 27 8 ∧ u.fld Reg.QM_CMD 63 62 = busy
      ∧ ∀ a, a ≠ Reg.QM_CMD → u.rd a = s.rd a := by
  dsimp only
  simp only [State.fld, State.rd_wr, if_true]
  refine ⟨?_, ?_, ?_, fun a h => if_neg h⟩
  · rw [field_setField_ne _ _ (by decide) (by decide) (by decide), field_qmCmdFields _ (by decide) (by decide),
      field_withOp v ho]
  · rw [field_setField_ne _ _ (by decide) (by decide) (by decide), field_qmCmdFields _ (by decide) (by decide),
      field_withOp_ne op v (by decide)]
  · rw [field_setField _ _ (by decide) (by decide)]
    exact Nat.mod_eq_of_lt hb

/-! ### GO -/

/-- GO is ignored while a command is in progress: its fields alone are written (R10). -/
theorem State.qmCommand_ignored {s : State} (h : s.qm.command.isSome = true) {op : Nat} (v : W64) (ho : op < 16) :
    let u := s.qmCommand (withOp 4 0 op v)
    CtlOnly s u ∧ u.fld Reg.QM_CMD 3 0 = op ∧ u.fld Reg.QM_CMD 27 8 = field v 27 8
      ∧ u.fld Reg.QM_CMD 63 62 = s.fld Reg.QM_CMD 63 62 ∧ ∀ a, a ≠ Reg.QM_CMD → u.rd a = s.rd a := by
  have hu : s.qmCommand (withOp 4 0 op v)
      = s.wr Reg.QM_CMD (setField (qmCmdFields (withOp 4 0 op v)) 63 62 (s.fld Reg.QM_CMD 63 62)) := if_pos h
  dsimp only
  rw [hu]
  exact ⟨rfl, s.wr_QM_CMD_shows v ho (field_lt _ 63 62)⟩

/-- A FLUSH or RESET of a queue whose memory answers no access stays BUSY (R265). -/
theorem State.qmCommand_waits {s : State} (hn : s.qm.command = none) {op : Nat} (v : W64) (ho : op = 2 ∨ op = 3)
    (hw : s.queueWaits (field v 27 8) = true) :
    let u := s.qmCommand (withOp 4 0 op v)
    u = { s with ctl := u.ctl, qm := { s.qm with command := u.qm.command } } ∧ u.qm.command.isSome = true
      ∧ u.fld Reg.QM_CMD 3 0 = op ∧ u.fld Reg.QM_CMD 27 8 = field v 27 8 ∧ u.fld Reg.QM_CMD 63 62 = 3
      ∧ ∀ a, a ≠ Reg.QM_CMD → u.rd a = s.rd a := by
  have hlt : op < 16 := by omega
  have hc : ((field (withOp 4 0 op v) 3 0 == 2 || field (withOp 4 0 op v) 3 0 == 3)
      && s.queueWaits (field (withOp 4 0 op v) 27 8)) = true := by
    rw [field_withOp v hlt, field_withOp_ne op v (by decide), hw]
    rcases ho with rfl | rfl <;> rfl
  have hs : ¬ s.qm.command.isSome = true := by simp [hn]
  have hu : s.qmCommand (withOp 4 0 op v) = { s.wr Reg.QM_CMD (setField (qmCmdFields (withOp 4 0 op v)) 63 62 3) with
      qm := { s.qm with command := some (withOp 4 0 op v) } } := (if_neg hs).trans (if_pos hc)
  dsimp only
  rw [hu]
  exact ⟨rfl, rfl, s.wr_QM_CMD_shows v hlt (by decide)⟩

/-- Otherwise a command is carried out at once. -/
theorem State.qmCommand_runs {s : State} (hn : s.qm.command = none) {v : W64}
    (hw : (field v 3 0 = 2 ∨ field v 3 0 = 3) → s.queueWaits (field v 27 8) = false) : s.qmCommand v = s.qmRun v := by
  have hs : ¬ s.qm.command.isSome = true := by simp [hn]
  have hc : ¬ ((field v 3 0 == 2 || field v 3 0 == 3) && s.queueWaits (field v 27 8)) = true := by
    simp only [Bool.and_eq_true, Bool.or_eq_true, beq_iff_eq, not_and, Bool.not_eq_true]
    exact hw
  exact (if_neg hs).trans (if_neg hc)

/-! ### CONFIG, PIN, UNPIN, READ and an undefined OP -/

/-- The CODE of a CONFIG: the first of 0x5, 0x2 and 0x3 that refuses it, else 0 (R383). -/
def State.configCode (s : State) (v : W64) : Nat :=
  let q := field v 27 8
  let limit := field v 52 48
  let fixed := smGet 0 s.qm.groupPart (field v 43 32)
  if limit ≠ 0 ∧ (limit < 7 ∨ 24 < limit) then 5
  else if fixed ≠ 0 ∧ fixed ≠ (s.queueInfo q).deq + 1 then 2
  else if bit v 46 ≠ (s.peekDesc q).drop ∧ s.queueOpen q = true then 3
  else 0

/-- A descriptor with what a CONFIG writes in it. -/
def Desc.config (d : Desc) (v : W64) : Desc :=
  { d with group := field v 43 32, enabled := bit v 44, audit := bit v 45, drop := bit v 46, limit := field v 52 48 }

theorem State.configCode_withOp (s : State) (op : Nat) (v : W64) : s.configCode (withOp 4 0 op v) = s.configCode v := by
  unfold State.configCode
  rw [field_withOp_ne op v (by decide), field_withOp_ne op v (by decide), field_withOp_ne op v (by decide),
    bit_withOp_ne op v (by decide)]

theorem Desc.config_withOp (d : Desc) (op : Nat) (v : W64) : d.config (withOp 4 0 op v) = d.config v := by
  unfold Desc.config
  rw [field_withOp_ne op v (by decide), field_withOp_ne op v (by decide), bit_withOp_ne op v (by decide),
    bit_withOp_ne op v (by decide), bit_withOp_ne op v (by decide)]

theorem State.qmConfig_eq (s : State) (v : W64) : s.qmConfig v =
    if s.configCode v ≠ 0 then s.qmDone v (s.configCode v)
    else ((s.fixGroup (field v 43 32) (s.groupPartOf (field v 27 8))).updDesc (field v 27 8)
      (fun d => d.config v)).qmDone v 0 := rfl

/-- CONFIG ends with its CODE; the descriptor takes the fields where that is 0, and stays as it was where it is not. -/
theorem State.qmConfig_result {s : State} (v : W64) (hroom : s.HasRoom (field v 27 8)) :
    (s.qmConfig v).rd Reg.QM_CMD_STATUS = w64 (s.configCode v)
      ∧ (s.qmConfig v).peekDesc (field v 27 8)
        = if s.configCode v ≠ 0 then s.peekDesc (field v 27 8) else (s.peekDesc (field v 27 8)).config v := by
  rw [State.qmConfig_eq]
  by_cases h : s.configCode v = 0
  · rw [if_neg (not_not.2 h), if_neg (not_not.2 h), h]
    refine ⟨State.qmDone_code .., ?_⟩
    have hfix : (s.fixGroup (field v 43 32) (s.groupPartOf (field v 27 8))).HasRoom (field v 27 8) := by
      unfold State.fixGroup
      split
      · exact hroom
      · exact hroom
    rw [State.peekDesc_qmDone, (State.updDesc_caches hfix _).peek, State.peekDesc_fixGroup]
  · rw [if_pos h, if_pos h]
    exact ⟨State.qmDone_code .., State.peekDesc_qmDone ..⟩

/-- Pins set or cleared keep every cached descriptor. -/
theorem State.Caches.setPin {s : State} {q : Nat} {d : Desc} (h : s.Caches q d) (b : Bool) :
    (s.setPin q b).Caches q d := by
  obtain ⟨p, rest, he, hl⟩ := h
  refine ⟨b, rest.map (fun c => if c.queue = q then { c with pinned := b } else c), ?_, by rwa [List.length_map]⟩
  show s.qm.cache.map _ = _
  rw [he, List.map_cons, if_pos rfl]

/-- PIN, with room among its engine's pins, pins the descriptor and ends with CODE 0. -/
theorem State.qmPin_result {s : State} (v : W64) (hroom : s.HasRoom (field v 27 8))
    (hp : s.pinnedIn (field v 27 8 % 2) < 1024) :
    (s.qmPin v).rd Reg.QM_CMD_STATUS = w64 0
      ∧ (s.qmPin v).qm.cache.any (fun e => e.queue == field v 27 8 && e.pinned) = true
      ∧ (s.qmPin v).peekDesc (field v 27 8) = s.peekDesc (field v 27 8) := by
  have hc := State.getDesc_caches hroom
  have hu : s.qmPin v = ((s.getDesc (field v 27 8)).1.setPin (field v 27 8) true).qmDone v 0 := by
    refine if_neg ?_
    rw [decide_eq_false (by omega), Bool.and_false]
    exact Bool.false_ne_true
  rw [hu]
  refine ⟨State.qmDone_code .., ?_, ?_⟩
  · obtain ⟨p, rest, he, -⟩ := hc
    show ((s.getDesc (field v 27 8)).1.qm.cache.map _).any _ = true
    rw [he, List.map_cons, if_pos rfl]
    simp
  · rw [State.peekDesc_qmDone, (hc.setPin true).peek]

/-- UNPIN leaves no pin of the queue, and ends with CODE 0. -/
theorem State.qmUnpin_result (s : State) (v : W64) :
    (s.qmUnpin v).rd Reg.QM_CMD_STATUS = w64 0
      ∧ (s.qmUnpin v).qm.cache.any (fun e => e.queue == field v 27 8 && e.pinned) = false := by
  refine ⟨State.qmDone_code .., ?_⟩
  show (s.qm.cache.map _).any _ = false
  rw [List.any_map, List.any_eq_false]
  intro e _
  by_cases h : e.queue = field v 27 8 <;> simp [h]

/-- A run of registers written in order, `stride` apart: each holds its word. -/
theorem rd_foldl_wr (s : State) (reg : Nat → Nat) (hreg : Function.Injective reg) (w : Nat → W64) (n k : Nat) :
    ((List.range n).foldl (fun s i => s.wr (reg i) (w i)) s).rd (reg k) = if k < n then w k else s.rd (reg k) := by
  induction n with
  | zero => simp
  | succ n ih =>
    rw [List.range_succ, List.foldl_append, List.foldl_cons, List.foldl_nil, State.rd_wr, ih]
    by_cases hk : k = n
    · simp [hk]
    · have hn : reg k ≠ reg n := fun e => hk (hreg e)
      have : k < n + 1 ↔ k < n := by omega
      simp [hn, this]

theorem QM_CMD_DATA_injective : Function.Injective Reg.QM_CMD_DATA := fun a b h => by
  simp only [Reg.QM_CMD_DATA] at h
  omega

/-- READ puts the descriptor in `QM_CMD_DATAn`, and ends with CODE 0. -/
theorem State.qmReadDesc_result (s : State) (v : W64) :
    (s.qmReadDesc v).rd Reg.QM_CMD_STATUS = w64 0
      ∧ ∀ k, k < 4 → (s.qmReadDesc v).rd (Reg.QM_CMD_DATA k) = (s.peekDesc (field v 27 8)).words.getD k 0#64 := by
  refine ⟨State.qmDone_code .., fun k hk => ?_⟩
  have hne : Reg.QM_CMD_DATA k ≠ Reg.QM_CMD ∧ Reg.QM_CMD_DATA k ≠ Reg.QM_CMD_STATUS := by
    simp only [Reg.QM_CMD_DATA, Reg.QM_CMD, Reg.QM_CMD_STATUS]
    omega
  unfold State.qmReadDesc
  rw [State.qmDone_rd _ _ _ hne.1 hne.2, rd_foldl_wr _ _ QM_CMD_DATA_injective, if_pos hk]
  rfl

/-! ### RESET -/

/-- Cells freed leave the caches. -/
theorem State.poolFree_cache (s : State) (p : Nat) (cells : List Nat) :
    (cells.foldl (fun s a => s.poolFree p a) s).qm.cache = s.qm.cache := by
  induction cells generalizing s with
  | nil => rfl
  | cons a cells ih => exact ih (s.poolFree p a)

/-- RESET of a queue with a packet open ends with CODE 3; of any other it empties the queue and clears BROKEN. -/
theorem State.qmReset_result {s : State} (v : W64) (hroom : s.HasRoom (field v 27 8)) :
    (s.queueOpen (field v 27 8) = true → (s.qmReset v).rd Reg.QM_CMD_STATUS = w64 3)
      ∧ (s.queueOpen (field v 27 8) = false → (s.qmReset v).rd Reg.QM_CMD_STATUS = w64 0
        ∧ (s.qmReset v).peekDesc (field v 27 8) = { s.peekDesc (field v 27 8) with
            head := 0, tail := 0, packets := 0, cells := 0, broken := false }) := by
  unfold State.qmReset
  dsimp only
  constructor
  · intro h
    rw [if_pos h]
    exact State.qmDone_code ..
  · intro h
    rw [if_neg (by rw [h]; exact Bool.false_ne_true)]
    refine ⟨State.qmDone_code .., ?_⟩
    have hc := (State.getDesc_caches hroom).kept
      (EnginesKept.reach _ (field v 27 8) (s.getDesc (field v 27 8)).2.cells (s.getDesc (field v 27 8)).2.head)
    rw [State.peekDesc_qmDone]
    refine State.Caches.peek (State.setDesc_caches ?_ _)
    exact (hc.of_cache (State.poolFree_cache ..)).hasRoom

/-! ### FLUSH -/

/-- The head packet as its engine reads it: the descriptor stays, or turns BROKEN where no whole packet is found. -/
theorem State.Caches.readHead {s : State} {q : Nat} {d : Desc} (h : s.Caches q d) :
    (∃ w cells next, (s.readHead q).2 = some (w, cells, some next) ∧ (s.readHead q).1.Caches q d)
      ∨ ((∀ w cells next, (s.readHead q).2 ≠ some (w, cells, some next))
        ∧ (s.readHead q).1.Caches q { d with broken := true }) := by
  have h1 : (s.getDesc q).1.Caches q d := by
    have := State.getDesc_caches h.hasRoom
    rwa [h.peek] at this
  have hq := h1.kept (EnginesKept.qmRead _ ((s.getDesc q).2.head + 8))
  have hbreak : ∀ {t : State}, t.Caches q d → (t.breakQueue q).Caches q { d with broken := true } :=
    fun ht => ht.updDesc _
  unfold State.readHead
  dsimp only
  split
  next t w e =>
    rw [e] at hq
    split
    · have hw := hq.kept (EnginesKept.walkChain t q (cellsFor (field w 11 0) - 1) (s.getDesc q).2.head)
      split
      next t2 cells next e2 => rw [e2] at hw; exact Or.inl ⟨w, cells, next, rfl, hw⟩
      next t2 cells e2 =>
        rw [e2] at hw
        exact Or.inr ⟨fun _ _ _ => by simp, hbreak hw⟩
    · exact Or.inr ⟨fun _ _ _ => by simp, hbreak (hq.kept (EnginesKept.qmBadWord t _))⟩
  next t n e =>
    rw [e] at hq
    exact Or.inr ⟨fun _ _ _ => by simp, hbreak hq⟩

/-- The head packet taken off, or the queue BROKEN with its packets where they were. -/
theorem State.Caches.openHead {s : State} {q : Nat} {d : Desc} (h : s.Caches q d) :
    (∃ x d', (s.openHead q).2 = some x ∧ (s.openHead q).1.Caches q d' ∧ d'.packets = d.packets - 1)
      ∨ ((s.openHead q).2 = none ∧ (s.openHead q).1.Caches q { d with broken := true }) := by
  unfold State.openHead
  rcases h.readHead with ⟨w, cells, next, he, hc⟩ | ⟨hne, hc⟩
  · generalize s.readHead q = r at he hc
    obtain ⟨t, y⟩ := r
    obtain rfl := he
    exact Or.inl ⟨_, _, rfl, hc.updDesc _, rfl⟩
  · generalize s.readHead q = r at hne hc
    obtain ⟨t, y⟩ := r
    refine Or.inr ?_
    split
    next t2 w cells next e => exact absurd (congrArg Prod.snd e) (hne w cells next)
    next t2 y e =>
      obtain ⟨rfl, -⟩ := Prod.mk.inj e
      exact ⟨rfl, hc⟩

/-- Cells returned to their pool are no packets. -/
theorem State.Caches.freeCells {s : State} {q : Nat} {d : Desc} (h : s.Caches q d) (cells : List Nat) :
    ∃ d', (s.freeCells q cells).Caches q d' ∧ d'.packets = d.packets ∧ d'.broken = d.broken := by
  have hc := h.of_cache (State.poolFree_cache s (s.queueInfo q).pool cells)
  unfold State.freeCells
  dsimp only
  split
  · exact ⟨d, hc, rfl, rfl⟩
  · exact ⟨_, hc.updDesc _, rfl, rfl⟩

/-- A flush takes packets off the head until none is left, `n` have gone, or the queue is BROKEN. -/
theorem State.Caches.flushQueue {q : Nat} (n : Nat) {s : State} {d : Desc} (h : s.Caches q d) :
    ∃ k d', (s.flushQueue q n).1.Caches q d' ∧ k ≤ d.packets ∧ d'.packets = d.packets - k
      ∧ (k < n → k < d.packets → d'.broken = true) := by
  induction n generalizing s d with
  | zero => exact ⟨0, d, h, Nat.zero_le _, rfl, fun h => absurd h (Nat.lt_irrefl 0)⟩
  | succ n ih =>
    unfold State.flushQueue
    rw [h.peek]
    by_cases hstop : d.packets = 0 ∨ d.broken = true
    · rw [if_pos hstop]
      exact ⟨0, d, h, Nat.zero_le _, rfl, fun _ hk => hstop.resolve_left (by omega)⟩
    · rw [if_neg hstop]
      obtain ⟨hpos, -⟩ := not_or.1 hstop
      rcases h.openHead with ⟨x, d1, he, hc, hp⟩ | ⟨he, hc⟩
      · generalize s.openHead q = r at he hc
        obtain ⟨t, y⟩ := r
        obtain rfl := he
        obtain ⟨d2, hc2, hp2, -⟩ := hc.freeCells x.2
        obtain ⟨k, d3, hc3, hk, hp3, hb3⟩ := ih hc2
        exact ⟨k + 1, d3, hc3, by omega, by omega, fun h1 h2 => hb3 (by omega) (by omega)⟩
      · generalize s.openHead q = r at he hc
        obtain ⟨t, y⟩ := r
        obtain rfl := he
        exact ⟨0, _, hc, Nat.zero_le _, rfl, fun _ _ => rfl⟩

/-- FLUSH ends with CODE 0: it leaves a queue that its readers may not open, and of any other takes packets off the head
until none is left or the queue is BROKEN. -/
theorem State.qmFlush_result {s : State} (v : W64) (hroom : s.HasRoom (field v 27 8)) :
    (s.qmFlush v).rd Reg.QM_CMD_STATUS = w64 0
      ∧ (s.queueCode (field v 27 8) ≠ 0 → (s.qmFlush v).peekDesc (field v 27 8) = s.peekDesc (field v 27 8))
      ∧ (s.queueCode (field v 27 8) = 0 → ∃ n, n ≤ (s.peekDesc (field v 27 8)).packets
        ∧ ((s.qmFlush v).peekDesc (field v 27 8)).packets = (s.peekDesc (field v 27 8)).packets - n
        ∧ (n < (s.peekDesc (field v 27 8)).packets → ((s.qmFlush v).peekDesc (field v 27 8)).broken = true)) := by
  have hc := State.getDesc_caches hroom
  refine ⟨State.qmDone_code .., fun h => ?_, fun h => ?_⟩
  · rw [State.qmFlush, State.peekDesc_qmDone, State.flush, if_pos h, hc.peek]
  · obtain ⟨k, d', hd, hk, hp, hb⟩ := hc.flushQueue (s.peekDesc (field v 27 8)).packets
    rw [State.qmFlush, State.peekDesc_qmDone, State.flush, if_neg (not_not.2 h), hd.peek]
    exact ⟨k, hk, hp, fun h => hb h h⟩

/-! ### Grove pools -/

/-- What a write of `QM_GPOOLg` asks for: the first cell and their number. -/
theorem field_gpool (f n : Nat) (hf : f < 2 ^ 13) (hn : n < 2 ^ 14) :
    field (w64 (f + n * 2 ^ 16)) 12 0 = f ∧ field (w64 (f + n * 2 ^ 16)) 29 16 = n := by
  simp only [field, w64, BitVec.toNat_ofNat, Nat.shiftRight_eq_div_pow]
  omega

/-- A Grove pool none of whose cells is in use takes another place where it lies in the Grove's 8,192 cells, and sets
CFG_ERR where it does not. -/
theorem State.poolWrite_grove {s : State} {k : Nat} {v : W64} (hk : k < 16) (hp : s.pool k = Pool.reset)
    (hnew : s.fld (Reg.QM_GPOOL k) 12 0 ≠ field v 12 0 ∨ s.fld (Reg.QM_GPOOL k) 29 16 ≠ field v 29 16) :
    s.poolWrite k v = if field v 12 0 + field v 29 16 ≤ 8192 then
      ((((s.setPool k Pool.reset).wr (Reg.QM_GPOOL k) (w64 (field v 12 0 + field v 29 16 * 2 ^ 16))).setPool k
        Pool.reset).setFld (Reg.QM_GPOOL k) 59 46 0)
      else s.setFlag Reg.QM_STATUS 2 true := by
  have hsame : (s.fld (Reg.QM_GPOOL k) 12 0 == field v 12 0 && s.fld (Reg.QM_GPOOL k) 29 16 == field v 29 16)
      = false := by
    rw [Bool.and_eq_false_iff, beq_eq_false_iff_ne, beq_eq_false_iff_ne]
    exact hnew
  have hused : decide (Pool.reset.lost < Pool.reset.used) = false := rfl
  rw [State.poolWrite, if_pos hk, State.placePool, hp, hsame, hused, Bool.false_and, if_neg Bool.false_ne_true,
    Bool.or_false, if_pos hk]
  by_cases h : field v 12 0 + field v 29 16 ≤ 8192 <;> simp [h]

/-- The register and the pool that a write of a place leaves. -/
theorem State.poolWrite_grove_result {s : State} {k : Nat} {v : W64} (hk : k < 16) (hp : s.pool k = Pool.reset)
    (hnew : s.fld (Reg.QM_GPOOL k) 12 0 ≠ field v 12 0 ∨ s.fld (Reg.QM_GPOOL k) 29 16 ≠ field v 29 16) :
    let u := s.poolWrite k v
    if field v 12 0 + field v 29 16 ≤ 8192 then
      u.fld (Reg.QM_GPOOL k) 12 0 = field v 12 0 ∧ u.fld (Reg.QM_GPOOL k) 29 16 = field v 29 16 ∧ u.pool k = Pool.reset
        ∧ CtlOnly s { u with qm := s.qm }
    else u.flag Reg.QM_STATUS 2 = true ∧ CtlOnly s u ∧ ∀ a, a ≠ Reg.QM_STATUS → u.rd a = s.rd a := by
  dsimp only
  rw [State.poolWrite_grove hk hp hnew]
  by_cases h : field v 12 0 + field v 29 16 ≤ 8192
  · rw [if_pos h, if_pos h]
    obtain ⟨h12, h29⟩ := field_gpool _ _ (field_lt v 12 0) (field_lt v 29 16)
    have hrd : ∀ t : State, ((t.wr (Reg.QM_GPOOL k) (w64 (field v 12 0 + field v 29 16 * 2 ^ 16))).setPool k
        Pool.reset).rd (Reg.QM_GPOOL k) = w64 (field v 12 0 + field v 29 16 * 2 ^ 16) := fun t =>
      (State.rd_wr ..).trans (if_pos rfl)
    have hpool : ∀ t : State, (t.setPool k Pool.reset).pool k = Pool.reset := fun t =>
      (smGet_smSet Pool.reset t.qm.pools k k Pool.reset).trans (if_pos rfl)
    refine ⟨?_, ?_, hpool _, rfl⟩
    · rw [State.fld_setFld_ne _ _ _ (by decide) (by decide) (by decide), State.fld, hrd, h12]
    · rw [State.fld_setFld_ne _ _ _ (by decide) (by decide) (by decide), State.fld, hrd, h29]
  · rw [if_neg h, if_neg h]
    exact ⟨State.flag_setFlag _ _ _ (by decide), rfl, fun a ha => (State.rd_setFlag ..).trans (if_neg ha)⟩

/-! ### The obligation -/

/-- A command carried out at once, by what its operation leaves. -/
theorem settles_qmRun {i : Instr} {s : State} {v : W64} {op : Nat} {P : State → Prop} (hn : s.qm.command = none)
    (ho : op < 16) (hx : exec i s = .next (s.qmCommand (withOp 4 0 op v)).settled)
    (hw : (op = 2 ∨ op = 3) → s.queueWaits (field v 27 8) = false) (hP : P (s.qmRun (withOp 4 0 op v))) :
    Settles i s P :=
  ⟨_, hx, by rwa [State.qmCommand_runs hn (by rwa [field_withOp v ho, field_withOp_ne op v (by decide)])]⟩

/-- An undefined OP is refused with CODE 6. -/
theorem settles_qmBadOp {s : State} {v : W64} (hn : s.qm.command = none) (h : field v 3 0 = 0 ∨ 6 < field v 3 0) :
    Settles (.qmBadOp v) s (fun u => u.rd Reg.QM_CMD_STATUS = w64 6 ∧ u.qm = s.qm) := by
  have hrun : s.qmRun v = s.qmBadOp v := by
    rcases h with h | h
    · rw [State.qmRun, h]
      rfl
    · obtain ⟨n, hn⟩ := Nat.exists_eq_add_of_le' (Nat.succ_le_of_lt h)
      rw [State.qmRun, hn]
      rfl
  refine ⟨s.qmBadCommand v, rfl, ?_⟩
  rw [State.qmBadCommand, if_neg (by omega), State.qmCommand_runs hn (by omega), hrun]
  exact ⟨State.qmDone_code .., rfl⟩

/-- The operation that a row of `QM_CMD` names. -/
theorem State.qmRun_withOp (s : State) (v : W64) :
    s.qmRun (withOp 4 0 1 v) = s.qmConfig (withOp 4 0 1 v) ∧ s.qmRun (withOp 4 0 2 v) = s.qmFlush (withOp 4 0 2 v)
      ∧ s.qmRun (withOp 4 0 3 v) = s.qmReset (withOp 4 0 3 v) ∧ s.qmRun (withOp 4 0 4 v) = s.qmPin (withOp 4 0 4 v)
      ∧ s.qmRun (withOp 4 0 5 v) = s.qmUnpin (withOp 4 0 5 v)
      ∧ s.qmRun (withOp 4 0 6 v) = s.qmReadDesc (withOp 4 0 6 v) := by
  refine ⟨?_, ?_, ?_, ?_, ?_, ?_⟩ <;> rw [State.qmRun, field_withOp v (by decide)] <;> rfl

/-- Settles O28, command by command. -/
theorem queueCommands : Obligations.QueueCommands := by
  refine ⟨fun s v hlen hn => ?_, fun s v hc p hp => ?_, fun s k v hk hpool hnew =>
    ⟨_, rfl, State.poolWrite_grove_result hk hpool hnew⟩⟩
  · have hq : ∀ op, field (withOp 4 0 op v) 27 8 = field v 27 8 := fun op => field_withOp_ne op v (by decide)
    have hroom : ∀ op, s.HasRoom (field (withOp 4 0 op v) 27 8) := fun op => State.hasRoom_of_length hlen _
    have never : ∀ {op : Nat} {p : Prop}, op ≠ 2 → op ≠ 3 → (op = 2 ∨ op = 3) → p :=
      fun h2 h3 h => absurd h (not_or.2 ⟨h2, h3⟩)
    obtain ⟨rconfig, rflush, rreset, rpin, runpin, rread⟩ := s.qmRun_withOp v
    refine ⟨?_, ?_, ?_, ?_, ?_, ?_, ?_, ?_, ?_⟩
    · refine settles_qmRun hn (by decide) rfl (never (by decide) (by decide)) ?_
      have hresult := State.qmConfig_result _ (hroom 1)
      rw [s.configCode_withOp, hq, Desc.config_withOp, ← rconfig] at hresult
      have ends : ∀ n, s.configCode v = n → (s.qmRun (withOp 4 0 1 v)).rd Reg.QM_CMD_STATUS = w64 n
          ∧ (s.qmRun (withOp 4 0 1 v)).peekDesc (field v 27 8)
            = if n ≠ 0 then s.peekDesc (field v 27 8) else (s.peekDesc (field v 27 8)).config v := fun n hn => by
        rwa [hn] at hresult
      exact ⟨fun h => ends 5 (if_pos h), fun h h' => ends 2 ((if_neg h).trans (if_pos h')),
        fun h h' h'' => ends 3 ((if_neg h).trans ((if_neg h').trans (if_pos h''))),
        fun h h' h'' => ends 0 ((if_neg h).trans ((if_neg h').trans (if_neg h'')))⟩
    · exact fun hw => ⟨_, rfl, State.qmCommand_waits hn v (Or.inl rfl) hw⟩
    · exact fun hw => ⟨_, rfl, State.qmCommand_waits hn v (Or.inr rfl) hw⟩
    · intro hw
      refine settles_qmRun hn (by decide) rfl (fun _ => hw) ?_
      rw [rflush]
      have h := State.qmFlush_result _ (hroom 2)
      rwa [hq] at h
    · intro hw
      refine settles_qmRun hn (by decide) rfl (fun _ => hw) ?_
      rw [rreset]
      have h := State.qmReset_result _ (hroom 3)
      rwa [hq] at h
    · intro hpin
      refine settles_qmRun hn (by decide) rfl (never (by decide) (by decide)) ?_
      rw [rpin]
      have h := State.qmPin_result _ (hroom 4)
      rw [hq] at h
      exact h hpin
    · refine settles_qmRun hn (by decide) rfl (never (by decide) (by decide)) ?_
      rw [runpin]
      have h := s.qmUnpin_result (withOp 4 0 5 v)
      rwa [hq] at h
    · refine settles_qmRun hn (by decide) rfl (never (by decide) (by decide)) ?_
      rw [rread]
      have h := s.qmReadDesc_result (withOp 4 0 6 v)
      rwa [hq] at h
    · exact settles_qmBadOp hn
  · have hign := fun op (ho : op < 16) => State.qmCommand_ignored hc v ho
    simp only [List.mem_cons, List.not_mem_nil, or_false] at hp
    rcases hp with rfl | rfl | rfl | rfl | rfl | rfl
    · exact ⟨_, rfl, hign 1 (by decide)⟩
    · exact ⟨_, rfl, hign 2 (by decide)⟩
    · exact ⟨_, rfl, hign 3 (by decide)⟩
    · exact ⟨_, rfl, hign 4 (by decide)⟩
    · exact ⟨_, rfl, hign 5 (by decide)⟩
    · exact ⟨_, rfl, hign 6 (by decide)⟩

end Sys2Proof.Machine
end

section
/-! PROOF. Memory's canonical form (R24, R233): the relation `Keeps`, and how the branches, folds and answers of a
definition are passed. The sections after this one state it once for each operation, under the operation's name: what an
operation is composed of is read off the chain of those names, as in `h.setFlag.setFld.react`. Where a chain stands under
`with_reducible`, the unifier is kept from computing the folds of a definition. -/

namespace Sys2Proof.Machine

/-- From `s` to `t` memory keeps its canonical form, and the waiting commands stay as they are. -/
structure Keeps (s t : State) : Prop where
  mem : Memory.wf s.mem = true → Memory.wf t.mem = true
  pending : t.pending = s.pending

namespace Keeps

variable {s t u : State}

theorem refl (s : State) : Keeps s s := ⟨id, rfl⟩

/-- Whatever else changes, where memory and the queue do not. The fields stand one by one, so that the record which is
updated is read off its `mem`. -/
theorem keep {ctl : SMap W64} {ecc : SMap (BitVec 9)} {dramCheck : SMap (BitVec 128)} {stuck : List Stuck}
    {readErrs : List ReadErr} {ports : Ports} {spoiled : List (Nat × Nat)} {scrub : Scrub} {glades : SMap Glade}
    {snaps : List (Nat × Nat × Bool × Glade)} {qm : Qm} {txus : SMap Txu} {jw : Jw} {drives : SMap (Option
    Controller)} {media : Media} {unflushed : List OldBlock} {keeper : Keeper} {est : Estimator} {time : TimeBase}
    {board : Board} {sampler : Sampler} {power : Power} {monitors : Monitors} {pairs : SMap Pair} {uart : Uart}
    {jtag : Jtag} {rootlink : Rootlink} {regrow : Option Regrow} {out : List Out} {msix : Msix} {bridges : SMap
    Bridge} {sections : SMap (List Byte)} {findings : List Finding} {free : Nat}
    (h : Keeps s t) : Keeps s ⟨ctl, t.mem, ecc, dramCheck, stuck, readErrs, ports, spoiled, scrub, glades, snaps,
    qm, txus, jw, drives, media, unflushed, keeper, est, time, board, sampler, power, monitors, pairs, uart, jtag,
    rootlink, regrow, out, msix, bridges, sections, findings, free, t.pending⟩ := ⟨h.mem, h.pending⟩

/-! How the branches, folds and pairs of a definition are passed. -/

theorem ite {p : Prop} {_ : Decidable p} (ht : Keeps s t) (hu : Keeps s u) : Keeps s (if p then t else u) := by
  split
  · exact ht
  · exact hu

theorem iteFst {α : Type} {p : Prop} {_ : Decidable p} {x y : State × α} (hx : Keeps s x.1) (hy : Keeps s y.1) :
    Keeps s (if p then x else y).1 := by
  split
  · exact hx
  · exact hy

theorem iteSnd {α : Type} {p : Prop} {_ : Decidable p} {x y : α × State} (hx : Keeps s x.2) (hy : Keeps s y.2) :
    Keeps s (if p then x else y).2 := by
  split
  · exact hx
  · exact hy

theorem pair {α : Type} {x : α} (h : Keeps s t) : Keeps s (t, x).1 := h

/-- The state of a pair that is named by its parts. -/
theorem of_eq {α : Type} {p : State × α} {x : α} (h : Keeps s p.1) (e : p = (t, x)) : Keeps s t := by
  subst e; exact h

theorem foldl {α : Type} {f : State → α → State} {l : List α} (h : Keeps s t)
    (hf : ∀ u x, Keeps s u → Keeps s (f u x)) : Keeps s (l.foldl f t) := by
  induction l generalizing t with
  | nil => exact h
  | cons x l ih => exact ih (hf t x h)

theorem foldlFst {α β : Type} {f : State × β → α → State × β} {l : List α} {p : State × β} (h : Keeps s p.1)
    (hf : ∀ q x, Keeps s q.1 → Keeps s (f q x).1) : Keeps s (l.foldl f p).1 := by
  induction l generalizing p with
  | nil => exact h
  | cons x l ih => exact ih (hf p x h)

/-- The same of a fold that is named, so that no fold is computed where its steps compare large numbers. -/
theorem foldlEq {α β : Type} {f : State × β → α → State × β} {l : List α} {p q : State × β} (e : l.foldl f p = q)
    (h : Keeps s p.1) (hf : ∀ q x r, f q x = r → Keeps s q.1 → Keeps s r.1) : Keeps s q.1 :=
  e ▸ h.foldlFst fun q x k => hf q x _ rfl k

theorem iter {f : State → State} {n : Nat} (h : Keeps s t) (hf : ∀ u, Keeps s u → Keeps s (f u)) :
    Keeps s (Machine.iter n f t) := by
  induction n generalizing t with
  | zero => exact h
  | succ n ih => exact ih (hf t h)

end Keeps

/-- `P` holds of what an answer gives, if it gives anything. -/
def EverySome {α : Type} (P : α → Prop) : Option α → Prop
  | none => True
  | some x => P x

theorem EverySome.of_eq {α : Type} {P : α → Prop} {o : Option α} {x : α} (h : EverySome P o) (e : o = some x) :
    P x := by
  subst e; exact h

/-- `P` holds of what an answer gives, unless it is a failure. -/
def EveryOk {ε α : Type} (P : α → Prop) : Except ε α → Prop
  | .error _ => True
  | .ok x => P x

theorem EveryOk.of_eq {ε α : Type} {P : α → Prop} {o : Except ε α} {x : α} (h : EveryOk P o) (e : o = .ok x) :
    P x := by
  subst e; exact h

/-- `P` or `Q` holds of what an answer gives, as it is a failure or not. -/
def EveryCase {ε α : Type} (P : ε → Prop) (Q : α → Prop) : Except ε α → Prop
  | .error e => P e
  | .ok x => Q x

theorem EveryCase.of_eq {ε α : Type} {P : ε → Prop} {Q : α → Prop} {o p : Except ε α} (h : EveryCase P Q o)
    (e : o = p) : EveryCase P Q p := e ▸ h

theorem EverySome.map {α β : Type} {P : α → Prop} {Q : β → Prop} {f : α → β} {o : Option α} (h : EverySome P o)
    (hf : ∀ x, P x → Q (f x)) : EverySome Q (o.map f) := by
  cases o with
  | none => trivial
  | some x => exact hf x h

theorem EverySome.map_of {α β : Type} {Q : β → Prop} {f : α → β} {o : Option α} (hf : ∀ x, Q (f x)) :
    EverySome Q (o.map f) := by
  cases o with
  | none => trivial
  | some x => exact hf x

theorem EverySome.bind_of {α β : Type} {Q : β → Prop} {f : α → Option β} {o : Option α}
    (hf : ∀ x, EverySome Q (f x)) : EverySome Q (o.bind f) := by
  cases o with
  | none => trivial
  | some x => exact hf x

theorem EverySome.findSome {α : Type} {P : α → Prop} {l : List (Option α)} (h : ∀ o ∈ l, EverySome P o) :
    EverySome P (l.findSome? id) := by
  cases e : l.findSome? id with
  | none => trivial
  | some x =>
    obtain ⟨o, ho, hx⟩ := List.exists_of_findSome?_eq_some e
    exact (h o ho).of_eq hx

theorem EverySome.getD {s t : State} {o : Option State} (h : EverySome (Keeps s) o) (k : Keeps s t) :
    Keeps s (o.getD t) := by
  cases o with
  | none => exact k
  | some u => exact h

/-! The answers that have a type of their own. -/

def Appended.Kept (s : State) : Appended → Prop
  | .ok t _ => Keeps s t
  | .noCell _ => True
  | .broken t => Keeps s t

theorem Appended.Kept.of_eq {s : State} {x y : Appended} (h : x.Kept s) (e : x = y) : y.Kept s := e ▸ h

def Written.Kept (s : State) : Written → Prop
  | .ok t _ => Keeps s t
  | .noCell t => Keeps s t
  | .broken t => Keeps s t

theorem Written.Kept.of_eq {s : State} {x y : Written} (h : x.Kept s) (e : x = y) : y.Kept s := e ▸ h

def M3Out.Kept (s : State) : M3Out → Prop
  | .wait t => Keeps s t
  | .raised t _ => Keeps s t
  | .done t => Keeps s t

theorem M3Out.Kept.state {s : State} {o : M3Out} (h : o.Kept s) : Keeps s o.state := by
  cases o with
  | wait => exact h
  | raised => exact h
  | done => exact h

theorem M3Out.Kept.of_eq {s : State} {x y : M3Out} (h : x.Kept s) (e : x = y) : y.Kept s := e ▸ h

def CauseAns.Kept (s : State) : CauseAns → Prop
  | .none => True
  | .wait => True
  | .raised t => Keeps s t

theorem CauseAns.Kept.of_eq {s : State} {x y : CauseAns} (h : x.Kept s) (e : x = y) : y.Kept s := e ▸ h

def PairSpot.Kept (s : State) : PairSpot → Prop
  | .native _ => True
  | .byteCode o => o.Kept s

theorem PairSpot.Kept.of_eq {s : State} {x y : PairSpot} (h : x.Kept s) (e : x = y) : y.Kept s := e ▸ h

end Sys2Proof.Machine
end

section
/-! PROOF. Memory's canonical form is kept: memory, queues and control. -/

namespace Sys2Proof.Machine

variable {s t : State}

/-! ### Registers, Glades, error records and Tally counters -/

theorem Keeps.wr {a : Nat} {v : W64} (h : Keeps s t) : Keeps s (t.wr a v) := h.keep
theorem Keeps.setFld {a hi lo v : Nat} (h : Keeps s t) : Keeps s (t.setFld a hi lo v) := h.wr
theorem Keeps.setFlag {a i : Nat} {b : Bool} (h : Keeps s t) : Keeps s (t.setFlag a i b) := h.setFld
theorem Keeps.satAdd {a hi lo n : Nat} (h : Keeps s t) : Keeps s (t.satAdd a hi lo n) := h.setFld
theorem Keeps.wrapAdd {a hi lo n : Nat} (h : Keeps s t) : Keeps s (t.wrapAdd a hi lo n) := h.setFld

theorem Keeps.codesWrite {a : Nat} {v : W64} (h : Keeps s t) : Keeps s (t.codesWrite a v) := by
  unfold State.codesWrite
  split
  · exact h
  · exact h.wr

theorem Keeps.fieldsWrite {a : Nat} {v : W64} (h : Keeps s t) : Keeps s (t.fieldsWrite a v) := by
  unfold State.fieldsWrite
  split
  · exact h
  · exact h.wr

theorem Keeps.freeWord (h : Keeps s t) : Keeps s t.freeWord.2 := h.keep
theorem Keeps.freeBool (h : Keeps s t) : Keeps s t.freeBool.2 := h.keep
theorem Keeps.setGlade {c : Nat} {x : Glade} (h : Keeps s t) : Keeps s (t.setGlade c x) := h.keep
theorem Keeps.updGlade {c : Nat} {f : Glade → Glade} (h : Keeps s t) : Keeps s (t.updGlade c f) := h.setGlade
theorem Keeps.updAsync {c : Nat} {f : Glade → Glade} (h : Keeps s t) : Keeps s (t.updAsync c f) := h.keep
theorem Keeps.noteMsix {k : Nat} (h : Keeps s t) : Keeps s (t.noteMsix k) := h.keep
theorem Keeps.noteTriggers {k : Nat} (h : Keeps s t) : Keeps s (t.noteTriggers k) := .ite h h.keep

theorem Keeps.tallyInc {k n : Nat} (h : Keeps s t) : Keeps s (t.tallyInc k n) :=
  .ite h ((Keeps.ite h.setFlag h).setFld.noteMsix.noteTriggers)

theorem Keeps.loseEvents {i n : Nat} (h : Keeps s t) : Keeps s (t.loseEvents i n) := .ite h h.satAdd.tallyInc

theorem Keeps.crossInc {i k n : Nat} (h : Keeps s t) : Keeps s (t.crossInc i k n) :=
  .ite h.tallyInc (.ite h.loseEvents h.keep.loseEvents)

theorem Keeps.recordError {r : RecSet} {e : ErrInfo} (h : Keeps s t) : Keeps s (t.recordError r e) := by
  unfold State.recordError
  dsimp only
  split
  · exact .ite h.satAdd.setFlag h.satAdd
  · split
    · exact h.wr.wr.setFlag.wrapAdd
    · exact h.satAdd

theorem Keeps.find {f : Finding} (h : Keeps s t) : Keeps s (t.find f) := h.keep

/-! ### The memories -/

theorem Keeps.setDomState {d st : Nat} (h : Keeps s t) : Keeps s (t.setDomState d st) := h.setFld
theorem Keeps.groveWakes {g : Nat} (h : Keeps s t) : Keeps s (t.groveWakes g) := .ite h.setFlag.setDomState h

theorem Keeps.touch {a : Nat} (h : Keeps s t) : Keeps s (t.touch a) := by
  unfold State.touch
  split
  · exact h.groveWakes
  · exact h.groveWakes
  · exact h.groveWakes
  · exact .ite h.groveWakes h
  · exact h

theorem Keeps.recordRefusal {r : Requester} {addr detail : Nat} (h : Keeps s t) :
    Keeps s (t.recordRefusal r addr detail) :=
  .ite h.recordError.tallyInc.find h.recordError.tallyInc

theorem Keeps.setByte {a : Nat} {b : Byte} (h : Keeps s t) : Keeps s (t.setByte a b) :=
  ⟨fun k => t.setByte_wf a b (h.mem k), h.pending⟩

theorem Keeps.setBytes {a : Nat} {bs : List Byte} (h : Keeps s t) : Keeps s (t.setBytes a bs) := by
  induction bs generalizing t a with
  | nil => exact h
  | cons b bs ih => exact ih h.setByte

theorem Keeps.readOnce {a : Nat} (h : Keeps s t) : Keeps s (t.readOnce a) := h.keep
theorem Keeps.setCode {w : Nat} {c : CodeWord} (h : Keeps s t) : Keeps s (t.setCode w c) := h.setBytes.keep

theorem Keeps.memFinding {m kind w : Nat} {src : Option Nat} (h : Keeps s t) : Keeps s (t.memFinding m kind w src) :=
  h.find

theorem Keeps.heartwoodMemFault {r : Requester} {w : Nat} (h : Keeps s t) : Keeps s (t.heartwoodMemFault r w) :=
  .ite h.find h

theorem Keeps.noteCode {a n : Nat} {how : CodeWriter} (h : Keeps s t) : Keeps s (t.noteCode a n how) := by
  unfold State.noteCode
  split
  · exact h
  · exact .ite h h.updAsync

theorem Keeps.setTxu {g : Nat} {x : Txu} (h : Keeps s t) : Keeps s (t.setTxu g x) := h.keep
theorem Keeps.setTxn {i : Nat} {t' : Option Txn} (h : Keeps s t) : Keeps s (t.setTxn i t') := h.setTxu

theorem Keeps.doomGranule {w code : Nat} {except : Option Nat} (h : Keeps s t) :
    Keeps s (t.doomGranule w code except) := by
  unfold State.doomGranule
  split
  · refine (Keeps.ite h h.setTxu).foldl fun _ _ k => .ite k ?_
    split
    · exact .ite k.setTxn k
    · exact k
  · exact h

theorem Keeps.storeCode {w : Nat} {c : CodeWord} (h : Keeps s t) : Keeps s (t.storeCode w c) :=
  .ite h.setCode.setFlag h.setCode

theorem Keeps.noteCorrected {r : Requester} {w pos : Nat} (h : Keeps s t) : Keeps s (t.noteCorrected r w pos) :=
  .ite h.recordError.keep h.recordError.readOnce

theorem Keeps.sramFind {r : Requester} {w : Nat} (h : Keeps s t) : Keeps s (t.sramFind r w).1 := by
  unfold State.sramFind
  dsimp only
  split
  · exact h.readOnce
  · exact h.noteCorrected
  · exact h.readOnce
  · split
    · exact h.readOnce.recordError.readOnce
    · exact h.readOnce.recordError.readOnce.setCode
    · exact h.readOnce.readOnce
    · exact h.readOnce.readOnce

theorem Keeps.sramWrite {r : Requester} {how : CodeWriter} {a : Nat} {data : List Byte} (h : Keeps s t) :
    Keeps s (t.sramWrite r how a data) := by
  unfold State.sramWrite
  refine .ite h.noteCode.storeCode ?_
  dsimp only
  split
  next e => exact (h.noteCode.sramFind.of_eq e).storeCode
  next e => exact (h.noteCode.sramFind.of_eq e).storeCode.recordError.tallyInc.memFinding
  next e => exact (h.noteCode.sramFind.of_eq e).storeCode.recordError.tallyInc.memFinding

theorem Keeps.fillChannel {n upto : Nat} (h : Keeps s t) : Keeps s (t.fillChannel n upto) := by
  refine ⟨fun k => t.fillChannel_wf n upto (h.mem k), ?_⟩
  unfold State.fillChannel
  dsimp only
  split
  · exact h.pending
  · exact h.pending

theorem Keeps.fillPast {b : Nat} (h : Keeps s t) : Keeps s (t.fillPast b) := .ite h h.fillChannel

theorem Keeps.setBurst {b : Nat} {bs : List Byte} {chk : BitVec 128} (h : Keeps s t) :
    Keeps s (t.setBurst b bs chk) :=
  h.setBytes.keep

theorem Keeps.classifyBurst {ch b : Nat} {e : ErrInfo} {bs : List Byte} {chk : BitVec 128} {d : Nat} (h : Keeps s t) :
    Keeps s (t.classifyBurst ch b e bs chk d) :=
  .ite h.setBurst.readOnce.recordError.crossInc h.setBurst.readOnce.recordError

theorem Keeps.dramFind {r : Requester} {b : Nat} (h : Keeps s t) : Keeps s (t.dramFind r b).1 := by
  unfold State.dramFind
  dsimp only
  split
  · exact h.readOnce
  · exact h.readOnce.classifyBurst
  · exact h.readOnce
  · split
    · exact h.readOnce.recordError.readOnce
    · exact h.readOnce.recordError.readOnce.setBurst
    · exact h.readOnce.readOnce
    · exact h.readOnce.readOnce

theorem Keeps.dramWrite {r : Requester} {a : Nat} {data : List Byte} (h : Keeps s t) :
    Keeps s (t.dramWrite r a data) := by
  unfold State.dramWrite
  dsimp only
  split
  next e => exact (h.fillPast.dramFind.of_eq e).setBurst
  next e => exact (h.fillPast.dramFind.of_eq e).setBurst
  next e => exact (h.fillPast.dramFind.of_eq e).setBurst.recordError.crossInc.find

theorem Keeps.noteBusy {r : Requester} {g n : Nat} (h : Keeps s t) : Keeps s (t.noteBusy r g n) := by
  unfold State.noteBusy
  refine .ite h ?_
  dsimp only
  split
  · exact (Keeps.ite h.wrapAdd h.wrapAdd).updAsync
  · exact (Keeps.ite h.wrapAdd h.wrapAdd).updAsync
  · exact .ite h.wrapAdd h.wrapAdd

theorem Keeps.portAnswer {r : Requester} {write : Bool} {w : Nat} (h : Keeps s t) :
    Keeps s (t.portAnswer r write w).1 := by
  unfold State.portAnswer
  split
  · refine .iteFst ?_ h.keep.noteBusy
    split
    · exact h.keep.noteBusy
    · exact h
  · exact h

theorem Keeps.withPorts {ps : List PortAnswer} (h : Keeps s t) : Keeps s (t.withPorts ps) := h.keep

theorem Keeps.onPorts {ps : List PortAnswer} {α : Type} {f : State → State × α} (h : Keeps s t)
    (hf : ∀ u, Keeps s u → Keeps s (f u).1) :
    Keeps s (t.onPorts ps f).1 :=
  (hf _ h.withPorts).withPorts

theorem Keeps.writeWord {r : Requester} {how : CodeWriter} {except : Option Nat} {a : Nat} {data : List Byte}
    (h : Keeps s t) :
    Keeps s (t.writeWord r how except a data) := by
  unfold State.writeWord
  dsimp only
  split
  · exact h.touch.dramWrite
  · exact .ite h.touch.portAnswer h.touch.portAnswer.sramWrite.doomGranule
  · exact h.touch
  · exact h.touch
  · exact h.touch
  · exact h.touch
  · exact h.touch
  · exact h.touch.sramWrite

theorem Keeps.unspoil {a n : Nat} (h : Keeps s t) : Keeps s (t.unspoil a n) := h.keep

theorem Keeps.undefine {rs : List (Nat × Nat)} (h : Keeps s t) : Keeps s (t.undefine rs) :=
  (h.foldl fun _ _ k => k.unspoil).keep

theorem Keeps.spoil {r : Requester} {a n : Nat} (h : Keeps s t) : Keeps s (t.spoil r a n) := by
  unfold State.spoil
  split
  · exact h.unspoil
  · exact h.unspoil
  · exact h.unspoil.undefine

theorem Keeps.writeMem {r : Requester} {how : CodeWriter} {except : Option Nat} {a : Nat} {data : List Byte}
    (h : Keeps s t) :
    Keeps s (t.writeMem r how except a data) :=
  (h.foldl fun _ _ k => k.writeWord).spoil

theorem Keeps.writeW64 {r : Requester} {a : Nat} {v : W64} (h : Keeps s t) : Keeps s (t.writeW64 r a v) := h.writeMem

theorem Keeps.sramRead {r : Requester} {w : Nat} (h : Keeps s t) : Keeps s (t.sramRead r w).1 := by
  unfold State.sramRead
  dsimp only
  split
  next e => exact h.sramFind.of_eq e
  next e => exact (h.sramFind.of_eq e).recordError.heartwoodMemFault.memFinding
  next e => exact (h.sramFind.of_eq e).recordError.tallyInc.setCode.heartwoodMemFault.memFinding

theorem Keeps.dramRead {r : Requester} {a n w : Nat} (h : Keeps s t) : Keeps s (t.dramRead r a n w).1 := by
  unfold State.dramRead
  refine .iteFst h ?_
  dsimp only
  split
  next e => exact h.dramFind.of_eq e
  next e => exact .iteFst ((h.dramFind.of_eq e).recordError.find) (h.dramFind.of_eq e)
  next e => exact (h.dramFind.of_eq e).recordError.crossInc.setBurst.find

theorem Keeps.readSeedbank {w : Nat} (h : Keeps s t) : Keeps s (t.readSeedbank w).1 := by
  unfold State.readSeedbank
  split
  · exact .iteFst h.freeBool h
  · exact h

theorem Keeps.readStored {r : Requester} {a n w : Nat} (h : Keeps s t) : Keeps s (t.readStored r a n w).1 := by
  unfold State.readStored
  split
  · exact h.dramRead
  · exact h.readSeedbank
  · exact h
  · exact h
  · exact h
  · exact h
  · exact h.sramRead

theorem Keeps.readWordOf {r : Requester} {a n w : Nat} (h : Keeps s t) : Keeps s (t.readWordOf r a n w).1 := by
  unfold State.readWordOf
  refine .iteFst h.touch.portAnswer.freeWord ?_
  dsimp only
  split
  · exact .iteFst h.touch.portAnswer.readStored.freeWord h.touch.portAnswer.readStored
  · exact h.touch.portAnswer.readStored

theorem Keeps.readWord {r : Requester} {w : Nat} (h : Keeps s t) : Keeps s (t.readWord r w).1 := h.readWordOf

theorem Keeps.gather {a n : Nat} {read : State → Nat → State × ReadAns} (h : Keeps s t)
    (hf : ∀ u w, Keeps s u → Keeps s (read u w).1) :
    Keeps s (t.gather a n read).1 := by
  have walk := fun w0 : Nat => h.foldlFst (p := (t, Except.ok [])) (l := List.range ((a + n - 1) / 8 - a / 8 + 1))
    (f := fun (acc : State × Except Nat (List Byte)) k =>
      match acc.2 with
      | .error e => (acc.1, .error e)
      | .ok bs =>
        match read acc.1 (w0 + 8 * k) with
        | (s, .ok v) => (s, .ok (bs ++ bytesLE 8 v.toNat))
        | (s, .err d) => (s, .error d)) fun q w k => by
    split
    · exact k
    · split
      next e => exact (hf _ _ k).of_eq e
      next e => exact (hf _ _ k).of_eq e
  unfold State.gather
  dsimp only
  split
  · exact walk _
  · exact walk _

theorem Keeps.readMem {r : Requester} {a n : Nat} (h : Keeps s t) : Keeps s (t.readMem r a n).1 := by
  unfold State.readMem
  with_reducible exact h.gather (fun _ _ k => k.readWordOf)

theorem Keeps.engineRead {r : Requester} {a n : Nat} (h : Keeps s t) : Keeps s (t.engineRead r a n).1 := by
  unfold State.engineRead
  split
  · exact h.recordRefusal
  · exact h.readMem

theorem Keeps.engineWrite {r : Requester} {a : Nat} {data : List Byte} (h : Keeps s t) :
    Keeps s (t.engineWrite r a data) := by
  unfold State.engineWrite
  refine .ite h ?_
  split
  · exact h.recordRefusal
  · exact h.writeMem

theorem Keeps.bulkClear {base n : Nat} (h : Keeps s t) : Keeps s (t.bulkClear base n) := by
  unfold State.bulkClear
  exact .foldl ⟨fun k => smWf_filter _ ((h.unspoil (a := base) (n := n)).mem k), h.pending⟩ fun _ _ k => .ite k.setFlag k

theorem Keeps.clearGrove {g : Nat} (h : Keeps s t) : Keeps s (t.clearGrove g) :=
  h.keep.bulkClear.foldl fun _ _ k => k.bulkClear.bulkClear

/-! ### The queue manager's engines -/

theorem Keeps.qmError (h : Keeps s t) : Keeps s t.qmError := h.tallyInc

theorem Keeps.qmRead {a : Nat} (h : Keeps s t) : Keeps s (t.qmRead a).1 := by
  unfold State.qmRead
  split
  · exact h.recordRefusal.qmError
  · split
    next e1 => exact (h.readWord.of_eq e1)
    next e1 => exact (h.readWord.of_eq e1).qmError

theorem Keeps.qmWrite {a : Nat} {v : W64} (h : Keeps s t) : Keeps s (t.qmWrite a v).1 := by
  unfold State.qmWrite
  split
  · exact h.recordRefusal.qmError
  · dsimp only
    exact h.writeW64

theorem Keeps.qmBadWord {a : Nat} (h : Keeps s t) : Keeps s (t.qmBadWord a) := h.recordError.qmError

theorem Keeps.evict {q : Nat} (h : Keeps s t) : Keeps s (t.evict q) := by
  unfold State.evict
  refine .ite h ?_
  split
  · dsimp only
    split
    · exact h.recordRefusal.qmError.keep.keep
    · exact (h.foldl fun _ _ k => k.qmWrite).keep
  · exact h

theorem Keeps.setDesc {q : Nat} {d : Desc} (h : Keeps s t) : Keeps s (t.setDesc q d) := h.keep.evict

theorem Keeps.qmWords {n a : Nat} (h : Keeps s t) : Keeps s (t.qmWords n a).1 := by
  induction n generalizing t a with
  | zero => exact h.pair
  | succ n ih =>
    unfold State.qmWords
    split
    next e => exact (ih (h.qmRead.of_eq e)).pair
    next e => exact (h.qmRead.of_eq e).pair

theorem Keeps.getDesc {q : Nat} (h : Keeps s t) : Keeps s (t.getDesc q).1 := by
  unfold State.getDesc
  split
  · exact h.setDesc
  · refine .iteFst h.keep.setDesc ?_
    dsimp only
    split
    · exact h.qmWords.setDesc
    · exact h.qmWords.setFlag.setDesc

theorem Keeps.touchDesc {q : Nat} (h : Keeps s t) : Keeps s (t.touchDesc q) := h.getDesc
theorem Keeps.updDesc {q : Nat} {f : Desc → Desc} (h : Keeps s t) : Keeps s (t.updDesc q f) := h.getDesc.setDesc
theorem Keeps.breakQueue {q : Nat} (h : Keeps s t) : Keeps s (t.breakQueue q) := h.updDesc
theorem Keeps.setPool {p : Nat} {x : Pool} (h : Keeps s t) : Keeps s (t.setPool p x) := h.keep

theorem Keeps.poolTake {p : Nat} (h : Keeps s t) : EverySome (fun x => Keeps s x.1) (t.poolTake p) := by
  unfold State.poolTake
  dsimp only
  split
  · exact trivial
  · split
    · exact h.setPool
    · split
      · exact h.setPool
      · split
        · exact h.setPool
        · exact trivial

theorem Keeps.poolFree {p a : Nat} (h : Keeps s t) : Keeps s (t.poolFree p a) := h.setPool.unspoil

theorem Keeps.takeCell {q : Nat} (h : Keeps s t) : EveryOk (fun x => Keeps s x.1) (t.takeCell q) := by
  unfold State.takeCell
  dsimp only
  split
  · exact trivial
  · split
    next e => exact (h.getDesc.poolTake.of_eq e).updDesc.pair
    · exact trivial

theorem Keeps.freeCells {q : Nat} {cells : List Nat} (h : Keeps s t) : Keeps s (t.freeCells q cells) :=
  .ite (h.foldl fun _ _ k => k.poolFree) ((h.foldl fun _ _ k => k.poolFree).updDesc)

theorem Keeps.writePktWord {cells : List Nat} {n : Nat} {v : W64} (h : Keeps s t) :
    Keeps s (t.writePktWord cells n v) :=
  h.qmWrite

theorem Keeps.writeLink {cell next : Nat} (h : Keeps s t) : Keeps s (t.writeLink cell next).1 := h.qmWrite

theorem Keeps.cellFor {q : Nat} (h : Keeps s t) : EveryOk (fun x => Keeps s x.1) (t.cellFor q) := by
  unfold State.cellFor
  split
  · exact trivial
  · exact h.takeCell

theorem Keeps.appendWord {q : Nat} {cells : List Nat} {n : Nat} {v : W64} (h : Keeps s t) :
    Appended.Kept s (t.appendWord q cells n v) := by
  unfold State.appendWord
  split
  · exact h.writePktWord
  · split
    · exact trivial
    next e =>
      dsimp only
      split
      · split
        · exact (h.cellFor.of_eq e).writeLink.writeLink.writePktWord
        · exact (h.cellFor.of_eq e).writeLink.writeLink.breakQueue.freeCells
      · split
        · exact (h.cellFor.of_eq e).writeLink.pair.writePktWord
        · exact (h.cellFor.of_eq e).writeLink.pair.breakQueue.freeCells

theorem Keeps.linkPacket {q : Nat} {cells : List Nat} {len : Nat} {aborted ingress : Bool} {src code : Nat}
    (h : Keeps s t) :
    Keeps s (t.linkPacket q cells len aborted ingress src code).1 :=
  .iteFst ((Keeps.iteFst h.getDesc.qmWrite h.getDesc.qmWrite.writeLink).breakQueue.freeCells) ((Keeps.iteFst
    h.getDesc.qmWrite h.getDesc.qmWrite.writeLink).setDesc.tallyInc)

theorem Keeps.readLinkWord {q cell : Nat} {more : Bool} (h : Keeps s t) : Keeps s (t.readLinkWord q cell more).1 := by
  unfold State.readLinkWord
  split
  next e => exact .iteFst (h.qmRead.of_eq e) ((h.qmRead.of_eq e).qmBadWord)
  next e => exact h.qmRead.of_eq e

theorem Keeps.walkChain {q n cell : Nat} (h : Keeps s t) : Keeps s (t.walkChain q n cell).1 := by
  induction n generalizing t cell with
  | zero => exact h.readLinkWord.pair
  | succ n ih =>
    unfold State.walkChain
    split
    next e => exact (ih (h.readLinkWord.of_eq e)).pair
    next e => exact (h.readLinkWord.of_eq e).pair

theorem Keeps.readHead {q : Nat} (h : Keeps s t) : Keeps s (t.readHead q).1 := by
  unfold State.readHead
  dsimp only
  split
  next e =>
    refine .iteFst ?_ ((h.getDesc.qmRead.of_eq e).qmBadWord.breakQueue)
    split
    next e1 => exact ((h.getDesc.qmRead.of_eq e).walkChain.of_eq e1)
    next e1 => exact ((h.getDesc.qmRead.of_eq e).walkChain.of_eq e1).breakQueue
  next e => exact (h.getDesc.qmRead.of_eq e).breakQueue

theorem Keeps.unlinkHead {q next : Nat} (h : Keeps s t) : Keeps s (t.unlinkHead q next) := h.updDesc

theorem Keeps.openHead {q : Nat} (h : Keeps s t) : Keeps s (t.openHead q).1 := by
  unfold State.openHead
  split
  next e => exact (h.readHead.of_eq e).unlinkHead
  next e => exact h.readHead.of_eq e

theorem Keeps.openReach {q : Nat} (h : Keeps s t) : Keeps s (t.openReach q).1 := by
  unfold State.openReach
  split
  next e => exact (h.readHead.of_eq e).unlinkHead
  next e => exact h.readHead.of_eq e

theorem Keeps.pktWord {cells : List Nat} {n : Nat} (h : Keeps s t) : Keeps s (t.pktWord cells n).1 := by
  unfold State.pktWord
  dsimp only
  split
  next e => exact h.qmRead.of_eq e
  next e => exact h.qmRead.of_eq e

theorem Keeps.flushQueue {q n : Nat} (h : Keeps s t) : Keeps s (t.flushQueue q n).1 := by
  induction n generalizing t with
  | zero => exact h.pair
  | succ n ih =>
    unfold State.flushQueue
    refine .iteFst h.pair ?_
    split
    next e => exact (ih (h.openHead.of_eq e).freeCells).pair
    next e => exact (h.openHead.of_eq e).pair

theorem Keeps.flush {q : Nat} (h : Keeps s t) : Keeps s (t.flush q).1 := .iteFst h.getDesc h.getDesc.flushQueue

/-! ### What ends a Glade's run or turns it -/

theorem Keeps.noteUndo {c : Nat} {e : StoreEntry} (h : Keeps s t) : Keeps s (t.noteUndo c e) := .ite h.updAsync h

theorem Keeps.storeToMemory {c : Nat} {e : StoreEntry} (h : Keeps s t) : Keeps s (t.storeToMemory c e) :=
  h.noteUndo.writeMem

theorem Keeps.syncCode {c : Nat} (h : Keeps s t) : Keeps s (t.syncCode c) := by
  unfold State.syncCode
  exact (h.updAsync.foldl fun _ _ k => k.storeToMemory).updGlade

theorem Keeps.closeRead {i k : Nat} (h : Keeps s t) : Keeps s (t.closeRead i k) := by
  unfold State.closeRead
  split
  · exact h.freeCells.updGlade
  · exact h

theorem Keeps.closeWrite {i k : Nat} (h : Keeps s t) : Keeps s (t.closeWrite i k) := by
  unfold State.closeWrite
  split
  · exact h.freeCells.updGlade
  · exact h

theorem Keeps.discardBut {i : Nat} {keep : Nat → Bool} (h : Keeps s t) : Keeps s (t.discardBut i keep) := by
  unfold State.discardBut
  exact (h.foldl fun _ _ k => (Keeps.ite k k.closeRead).closeWrite).updGlade

theorem Keeps.discardOpen {i : Nat} (h : Keeps s t) : Keeps s (t.discardOpen i) := h.discardBut

theorem Keeps.linkStub {i code : Nat} {w : WritePkt} (h : Keeps s t) : Keeps s (t.linkStub i code w) := by
  unfold State.linkStub
  refine .ite h.touchDesc ?_
  split
  · exact h.touchDesc.satAdd
  next e => exact (h.touchDesc.poolTake.of_eq e).updDesc.writeLink.writePktWord.linkPacket

theorem Keeps.countAbort {g code : Nat} (h : Keeps s t) : Keeps s (t.countAbort g code) := h.satAdd

theorem Keeps.freePackets {ws : List WritePkt} (h : Keeps s t) : Keeps s (t.freePackets ws) :=
  h.foldl fun _ _ k => k.freeCells

theorem Keeps.closeTxn {i : Nat} (h : Keeps s t) : Keeps s (t.closeTxn i) := h.updGlade.setTxu.setTxn

theorem Keeps.abortBare {i code : Nat} (h : Keeps s t) : Keeps s (t.abortBare i code) :=
  .ite h h.freePackets.closeTxn.countAbort

theorem Keeps.abortTxn {i code : Nat} (h : Keeps s t) : Keeps s (t.abortTxn i code) :=
  h.abortBare.foldl fun _ _ k => k.linkStub

theorem Keeps.updLate {c : Nat} {f : Glade → Glade} (h : Keeps s t) : Keeps s (t.updLate c f) := by
  unfold State.updLate
  dsimp only
  split
  · exact h.updAsync
  · exact h.keep

theorem Keeps.retireTxu {i : Nat} {w : W64} (h : Keeps s t) : Keeps s (t.retireTxu i w) :=
  h.foldl fun _ _ k => k.updLate

theorem Keeps.retireAbort {i code ticket : Nat} (h : Keeps s t) : Keeps s (t.retireAbort i code ticket) :=
  h.abortTxn.retireTxu

theorem Keeps.interruptTxn {i : Nat} (h : Keeps s t) : Keeps s (t.interruptTxn i) := by
  unfold State.interruptTxn
  extract_lets u x v y
  have hu : Keeps s u := by
    simp only [u]
    split
    · split
      · exact h
      · exact h.setTxn
      · exact h.abortTxn
    · exact h
  clear_value u
  exact .ite hu.setTxu.setTxu hu.setTxu

theorem Keeps.haltOne {c : Nat} {dest : RunState} (h : Keeps s t) : Keeps s (t.haltOne c dest) :=
  (Keeps.ite h.discardBut.interruptTxn h).keep

theorem Keeps.halt {c : Nat} {dest : RunState} (h : Keeps s t) : Keeps s (t.halt c dest) := by
  unfold State.halt
  split
  · exact h.haltOne.haltOne
  · exact h.haltOne

theorem Keeps.enter {c : Nat} {ecause eaddr : W64} {at_ : Nat} (h : Keeps s t) :
    Keeps s (t.enter c ecause eaddr at_) := by
  unfold State.enter
  exact h.syncCode.updGlade

theorem Keeps.foldFor {c : Nat} {a b : W64} (h : Keeps s t) : Keeps s (t.foldFor c a b) := .ite h.updGlade h

theorem Keeps.stopFor {c : Nat} {e : Cause} {pc : W64} (h : Keeps s t) : Keeps s (t.stopFor c e pc) :=
  .ite h.updGlade.halt.recordError.tallyInc.find h.updGlade.halt.recordError.find

theorem Keeps.raise {c : Nat} {e : Cause} (h : Keeps s t) : Keeps s (t.raise c e) := .ite h.enter.foldFor h.stopFor
theorem Keeps.enterEvent {c : Nat} (h : Keeps s t) : Keeps s (t.enterEvent c) := h.updGlade.enter

theorem Keeps.enterImprecise {c : Nat} {f : Failure} (h : Keeps s t) : Keeps s (t.enterImprecise c f) :=
  h.updGlade.raise

/-! ### The Stand Map -/

theorem Keeps.withFragment {ss : List MapSection} {g : Nat} (h : Keeps s t) : Keeps s (t.withFragment ss g) := h.keep

/-! ### Configuration space -/

theorem Keeps.heldOrFree {w : Option (BitVec 32)} (h : Keeps s t) : Keeps s (t.heldOrFree w).1 := by
  unfold State.heldOrFree
  split
  · exact h
  · exact h.freeWord

theorem Keeps.configRead {word : Nat → Option (BitVec 32)} {r n : Nat} (h : Keeps s t) :
    Keeps s (t.configRead word r n).1 := by
  unfold State.configRead
  exact .iteFst h.heldOrFree h.heldOrFree.heldOrFree

theorem Keeps.bridgeRead {c o n : Nat} (h : Keeps s t) : Keeps s (t.bridgeRead c o n).1 := by
  have e : State.bridgeRead = State.bridgeRead := rfl
  conv at e => rhs; delta State.bridgeRead
  suffices ∀ x, t.bridgeRead c o n = x → Keeps s x.1 from this _ rfl
  rw [e]
  beta_reduce
  generalize t.ownBridge c o = q
  rintro _ rfl
  cases q with
  | none => exact h.pair
  | some p => exact h.configRead.pair

theorem Keeps.bridgeWrite {c o : Nat} {data : List Byte} (h : Keeps s t) : Keeps s (t.bridgeWrite c o data) := by
  have e : State.bridgeWrite = State.bridgeWrite := rfl
  conv at e => rhs; delta State.bridgeWrite
  rw [e]
  beta_reduce
  generalize t.ownBridge c o = q
  cases q with
  | none => exact h
  | some p => exact h.keep

theorem Keeps.errorPort {c o : Nat} (h : Keeps s t) : Keeps s (t.errorPort c o).2 := by
  unfold State.errorPort
  split
  · exact h
  · exact .iteSnd h h.freeWord

theorem Keeps.portError {c p : Nat} {aer : BitVec 32} (h : Keeps s t) : Keeps s (t.portError c p aer) := h.keep

theorem Keeps.pcieError {c o : Nat} {aer : BitVec 32} (h : Keeps s t) : Keeps s (t.pcieError c o aer) :=
  h.errorPort.portError

theorem Keeps.windowRead {c o n : Nat} {reply : PcieReply} (h : Keeps s t) : Keeps s (t.windowRead c o n reply).1 :=
  .iteFst h.bridgeRead (.iteFst h.keep (.iteFst h.keep h.keep.pcieError))

theorem Keeps.postPcie {c o : Nat} {data : List Byte} (h : Keeps s t) : Keeps s (t.postPcie c o data) := by
  unfold State.postPcie
  extract_lets up ports r
  have hr : Keeps s r.2 := by
    simp only [r]
    split
    · exact h
    · exact .iteSnd h (.iteSnd h h.freeBool)
  clear_value r
  exact .ite h.bridgeWrite (.ite hr.pcieError hr.keep)

theorem Keeps.hostConfig {r : Nat} {req : HostReq} (h : Keeps s t) : Keeps s (t.hostConfig r req) := by
  unfold State.hostConfig
  refine .ite h ?_
  split
  · exact .ite h.keep h.configRead.keep
  · exact .ite h h.keep

theorem Keeps.hostWriteUr (h : Keeps s t) : Keeps s t.hostWriteUr := h.keep

theorem Keeps.hostUr {req : HostReq} (h : Keeps s t) : Keeps s (t.hostUr req) := by
  unfold State.hostUr
  split
  · exact h.keep
  · exact h.hostWriteUr

/-! ### The LSU -/

theorem Keeps.updTxn {c : Nat} {f : Txn → Txn} (h : Keeps s t) : Keeps s (t.updTxn c f) := by
  unfold State.updTxn
  dsimp only
  split
  · exact h.setTxn
  · exact h

theorem Keeps.txnMemory {c w : Nat} (h : Keeps s t) : Keeps s (t.txnMemory c w).1 := by
  unfold State.txnMemory
  dsimp only
  split
  · split
    · exact h
    · exact h
    · exact h
    · exact h
  · exact h.readWord

theorem Keeps.txnAnswered {c w : Nat} (h : Keeps s t) : Keeps s (t.txnAnswered c w) := .ite h h.touch.portAnswer

theorem Keeps.txnStoreWord {c a : Nat} {data : List Byte} (h : Keeps s t) : Keeps s (t.txnStoreWord c a data) := by
  unfold State.txnStoreWord
  refine .ite h.updTxn ?_
  dsimp only
  split
  · exact h.updTxn
  · split
    next e1 => exact (h.updTxn.txnMemory.of_eq e1).updTxn
    · exact h.updTxn.txnAnswered.recordError.tallyInc.memFinding.updTxn

theorem Keeps.txnStore {c a : Nat} {data : List Byte} (h : Keeps s t) : Keeps s (t.txnStore c a data) := by
  unfold State.txnStore
  split
  · exact h
  · exact .ite (.ite ((Keeps.ite h.updTxn h).updTxn) (.ite h.updTxn h)) (h.foldl fun _ _ k => k.txnStoreWord)

theorem Keeps.askLoad {c k : Nat} {l : LoadFlight} (h : Keeps s t) : Keeps s (t.askLoad c k l) :=
  .ite h h.keep.updAsync

theorem Keeps.askPcie {c : Nat} (h : Keeps s t) : Keeps s (t.askPcie c) := by
  unfold State.askPcie
  refine h.foldl fun _ _ k => ?_
  split
  · split
    · exact k.askLoad
    · exact k
  · exact k

theorem Keeps.doLsu {c : Nat} {op : LsuOp} {f : LsuForm} {t' : W64} {bus : Nat} (h : Keeps s t) :
    Keeps s (t.doLsu c op f t' bus) :=
  .ite (.ite h.setGlade (.ite h.setGlade.txnStore h.setGlade)) h.setGlade.askPcie

theorem Keeps.txnLoadWord {c w : Nat} (h : Keeps s t) : Keeps s (t.txnLoadWord c w).1 := by
  unfold State.txnLoadWord
  dsimp only
  split
  · exact h.updTxn
  · exact h.updTxn.txnMemory

theorem Keeps.loadMemory {c : Nat} {l : LoadFlight} {ps : List PortAnswer} (h : Keeps s t) :
    Keeps s (t.loadMemory c l ps).1 := by
  unfold State.loadMemory
  with_reducible exact h.onPorts (fun _ k => k.gather (fun _ _ m => .iteFst m.txnLoadWord m.readWordOf))

theorem Keeps.answerWith {c : Nat} {l : LoadFlight} {v : W64} (h : Keeps s t) : Keeps s (t.answerWith c l v) :=
  h.updLate.keep

theorem Keeps.backTo {c : Nat} {y : Glade} (h : Keeps s t) : Keeps s (t.backTo c y) := h.keep

theorem Keeps.failLoad {c : Nat} {l : LoadFlight} {detail : Nat} (h : Keeps s t) : Keeps s (t.failLoad c l detail) :=
  .ite h.backTo.updGlade h.backTo.raise

/-! ### The QPU -/

theorem Keeps.setRead {i k : Nat} {r : Option ReadPkt} (h : Keeps s t) : Keeps s (t.setRead i k r) := h.updAsync
theorem Keeps.setWrite {i k : Nat} {w : Option WritePkt} (h : Keeps s t) : Keeps s (t.setWrite i k w) := h.updAsync

theorem Keeps.openWrite {i k q : Nat} (h : Keeps s t) : Keeps s (t.openWrite i k q) := by
  unfold State.openWrite
  dsimp only
  split
  · exact .ite h.touchDesc.updTxn.setWrite h.touchDesc.updTxn.setWrite
  · exact h.touchDesc.setWrite

theorem Keeps.keepQpu {i bus : Nat} {dram : Bool} {kind : PendKind} (h : Keeps s t) :
    Keeps s (t.keepQpu i bus dram kind) :=
  (Keeps.ite h.setTxu h).foldl fun _ _ k => k.updGlade

theorem Keeps.discardPacket {i : Nat} {w : WritePkt} (h : Keeps s t) : Keeps s (t.discardPacket i w) :=
  .ite h.keepQpu h.freeCells

theorem Keeps.discardWrite {i k : Nat} {w : WritePkt} {code : Nat} (h : Keeps s t) :
    Keeps s (t.discardWrite i k w code) :=
  h.discardPacket.setWrite

theorem Keeps.putWord {i k : Nat} {v : W64} (h : Keeps s t) : Keeps s (t.putWord i k v) := by
  unfold State.putWord
  split
  · exact h
  · refine .ite h.setWrite (.ite h.discardWrite ?_)
    split
    next e1 => exact (h.appendWord.of_eq e1).setWrite
    next e1 => exact (h.appendWord.of_eq e1).setWrite
    · exact h.discardWrite

theorem Keeps.closePut {i k : Nat} (h : Keeps s t) : Keeps s (t.closePut i k).1 := by
  unfold State.closePut
  split
  · exact h
  · exact .iteFst (.ite h.setWrite.updTxn h.setWrite) (.iteFst h.setWrite (.iteFst (.ite
      h.setWrite.discardPacket.updTxn h.setWrite.discardPacket) h.setWrite.updTxn))

theorem Keeps.linkPut {i : Nat} {w : WritePkt} (h : Keeps s t) : Keeps s (t.linkPut i w).1 := by
  unfold State.linkPut
  refine .iteFst h.touchDesc.freeCells ?_
  split
  next e => exact (h.touchDesc.linkPacket.of_eq e)
  next e => exact (h.touchDesc.linkPacket.of_eq e)

theorem Keeps.qpuWrite {i : Nat} {op : QpuOp} {spec : W64} {t' : TWord} (h : Keeps s t) :
    Keeps s (t.qpuWrite i op spec t').1 := by
  unfold State.qpuWrite
  dsimp only
  split
  · exact h
  · split
    · exact h.setWrite
    · exact h
  · exact .iteFst ((Keeps.ite h.openWrite h).putWord.closePut) ((Keeps.ite h.openWrite h).putWord)

theorem Keeps.deliver {i k : Nat} {r : ReadPkt} {w : BufWord} {header : Option W64} (h : Keeps s t) :
    Keeps s (t.deliver i k r w header).1 := by
  unfold State.deliver
  dsimp only
  split
  · exact (Keeps.ite h.freeCells h).setRead
  · exact (Keeps.ite h.freeCells h).setRead
  · exact (Keeps.ite h.freeCells h).setRead

theorem Keeps.deq {i : Nat} {t' : W64} (h : Keeps s t) : Keeps s (t.deq i t').1 := by
  unfold State.deq
  dsimp only
  split
  · refine .iteFst h.setRead ?_
    split
    · exact h.freeCells.setRead
    · exact h.deliver
    · exact h
  · refine .iteFst h.getDesc ?_
    split
    next e1 => exact (h.openReach.of_eq e1)
    next e1 => exact (h.openReach.of_eq e1).pktWord.deliver

theorem Keeps.skip {i : Nat} {t' : W64} (h : Keeps s t) : Keeps s (t.skip i t').1 := by
  unfold State.skip
  dsimp only
  split
  · exact .iteFst h h.freeCells.setRead
  · exact h

theorem Keeps.enterCell {r : ReadPkt} {j : Nat} (h : Keeps s t) : Keeps s (t.enterCell r j).1 := by
  unfold State.enterCell
  refine .iteFst h ?_
  split
  · exact h
  · split
    next e1 => exact .iteFst (h.readLinkWord.of_eq e1) ((h.readLinkWord.of_eq e1).breakQueue)
    next e1 => exact (h.readLinkWord.of_eq e1).breakQueue

theorem Keeps.streamWord {i k : Nat} (h : Keeps s t) : Keeps s (t.streamWord i k) := by
  unfold State.streamWord
  split
  · exact h
  · refine .ite h ?_
    dsimp only
    split
    next e1 => exact (h.enterCell.of_eq e1).setRead
    next e1 => exact (h.enterCell.of_eq e1).qmRead.setRead

theorem Keeps.qpuEffect {i : Nat} {x2 : PendKind} (h : Keeps s t) : Keeps s (t.qpuEffect i x2).1 := by
  unfold State.qpuEffect
  split
  · split
    next e => exact h.deq.of_eq e
    next e => exact h.deq.of_eq e
  · exact h.skip
  · exact h.getDesc
  · exact h.flush
  · exact h.linkPut
  · exact h.linkStub
  · exact h.freePackets
  · exact h.freePackets.countAbort
  · exact h.freePackets
  · exact h
  · exact h

theorem Keeps.beginQpu {i bus : Nat} {dram : Bool} {kind : PendKind} (h : Keeps s t) :
    Keeps s (t.beginQpu i bus dram kind).1 := by
  unfold State.beginQpu
  refine .iteFst h.keepQpu ?_
  dsimp only
  split
  next e => exact (h.qpuEffect.of_eq e).foldl fun _ _ k => k.updGlade
  next e => exact .iteFst ((h.qpuEffect.of_eq e).foldl fun _ _ k => k.updGlade) (h.qpuEffect.of_eq e)

theorem Keeps.doQpu {i : Nat} {op : QpuOp} {t' : TWord} {bus : Nat} (h : Keeps s t) :
    Keeps s (t.doQpu i op t' bus).1 := by
  unfold State.doQpu
  refine .iteFst ?_ h.beginQpu
  split
  next e => exact (h.qpuWrite.of_eq e).beginQpu
  next e => exact (h.qpuWrite.of_eq e).beginQpu
  next e => exact (h.qpuWrite.of_eq e).beginQpu
  next e => exact .iteFst ((h.qpuWrite.of_eq e).beginQpu) (h.qpuWrite.of_eq e)

theorem Keeps.dropSnap {j : Nat} (h : Keeps s t) : Keeps s (t.dropSnap j) := by
  unfold State.dropSnap
  split
  · exact h
  · exact .ite h.keep h

theorem Keeps.keepReads {i : Nat} (h : Keeps s t) : Keeps s (t.keepReads i) := by
  unfold State.keepReads
  split
  · exact h
  · exact h.keep

theorem Keeps.endFinal {i : Nat} {d : QpuPend} (h : Keeps s t) : Keeps s (t.endFinal i d) := by
  unfold State.endFinal
  split
  · exact .ite h.closeRead h
  · exact h

theorem Keeps.backedUp {j : Nat} (h : Keeps s t) : Keeps s (t.backedUp j) := by
  unfold State.backedUp
  split
  · exact h
  · exact .ite h h.keep

theorem Keeps.failPend {j a b : Nat} (h : Keeps s t) : Keeps s (t.failPend j a b) := by
  unfold State.failPend
  split
  · exact h
  · extract_lets u
    have hu : Keeps s u := by
      simp only [u]
      split
      · exact h.backTo
      · exact h.updAsync
    clear_value u
    exact .ite hu.backedUp.updGlade hu.raise

theorem Keeps.dropKept {l seq : Nat} {all : Bool} (h : Keeps s t) : Keeps s (t.dropKept l seq all) := h.setTxu

theorem Keeps.takeBack {l : Nat} {d : QpuPend} (h : Keeps s t) : Keeps s (t.takeBack l d) :=
  .ite h ((Keeps.ite ((h.foldl fun _ _ k => k.freeCells).keep) ((h.foldl fun _ _ k =>
      k.freeCells).keep.setTxu)).setTxn.dropKept)

theorem Keeps.pendStep {i : Nat} (h : Keeps s t) : Keeps s (t.pendStep i) := by
  unfold State.pendStep
  split
  · exact h
  · refine .ite h ?_
    dsimp only
    split
    next e1 =>
      exact .ite (((h.qpuEffect.of_eq e1).foldl fun _ _ k => k.dropSnap.updLate).keepReads.endFinal.dropKept)
          (((h.qpuEffect.of_eq e1).foldl fun _ _ k => k.dropSnap.updLate).keepReads.endFinal)
    next e1 =>
      exact .ite (((h.qpuEffect.of_eq e1).foldl fun _ _ k => k.dropSnap.updLate).keepReads.endFinal)
          ((h.qpuEffect.of_eq e1).takeBack.foldl fun _ _ k => k.failPend)

theorem Keeps.pendSteps {i n : Nat} (h : Keeps s t) : Keeps s (t.pendSteps i n) := by
  induction n generalizing t with
  | zero => exact h
  | succ n ih => exact ih h.pendStep

theorem Keeps.qpuRetire {i n : Nat} (h : Keeps s t) : Keeps s (t.qpuRetire i n) := by
  unfold State.qpuRetire
  split
  · exact h
  · exact h.updLate

/-! ### The commands of `QM_CMD` -/

theorem Keeps.qmDone {v : W64} {code : Nat} (h : Keeps s t) : Keeps s (t.qmDone v code) := h.wr.wr
theorem Keeps.fixGroup {g p : Nat} (h : Keeps s t) : Keeps s (t.fixGroup g p) := .ite h h.keep
theorem Keeps.qmConfig {v : W64} (h : Keeps s t) : Keeps s (t.qmConfig v) := .ite h.qmDone h.fixGroup.updDesc.qmDone
theorem Keeps.qmFlush {v : W64} (h : Keeps s t) : Keeps s (t.qmFlush v) := h.flush.qmDone

theorem Keeps.reach {q n cell : Nat} (h : Keeps s t) : Keeps s (t.reach q n cell).1 := by
  induction n generalizing t cell with
  | zero => exact h.pair
  | succ n ih =>
    have read : Keeps s (if t.retired cell then (t.recordRefusal .qm cell 6, ReadAns.err 6) else t.readWord .qm cell).1 :=
      .iteFst h.recordRefusal.pair h.readWord
    unfold State.reach
    refine .iteFst h.pair ?_
    split
    next e => exact (ih (read.of_eq e)).pair
    next e => exact (read.of_eq e).pair

theorem Keeps.qmReset {v : W64} (h : Keeps s t) : Keeps s (t.qmReset v) :=
  .ite h.qmDone ((h.getDesc.reach.foldl fun _ _ k => k.poolFree).setPool.setDesc.qmDone)

theorem Keeps.setPin {q : Nat} {b : Bool} (h : Keeps s t) : Keeps s (t.setPin q b) := h.keep.setFld.setFld
theorem Keeps.qmPin {v : W64} (h : Keeps s t) : Keeps s (t.qmPin v) := .ite h.qmDone h.getDesc.setPin.qmDone
theorem Keeps.qmUnpin {v : W64} (h : Keeps s t) : Keeps s (t.qmUnpin v) := h.setPin.qmDone

theorem Keeps.qmReadDesc {v : W64} (h : Keeps s t) : Keeps s (t.qmReadDesc v) :=
  (h.getDesc.foldl fun _ _ k => k.wr).qmDone

theorem Keeps.qmBadOp {v : W64} (h : Keeps s t) : Keeps s (t.qmBadOp v) := h.qmDone

theorem Keeps.qmRun {v : W64} (h : Keeps s t) : Keeps s (t.qmRun v) := by
  unfold State.qmRun
  split
  · exact h.qmConfig
  · exact h.qmFlush
  · exact h.qmReset
  · exact h.qmPin
  · exact h.qmUnpin
  · exact h.qmReadDesc
  · exact h.qmBadOp

theorem Keeps.qmCommand {v : W64} (h : Keeps s t) : Keeps s (t.qmCommand v) := .ite h.wr (.ite h.keep h.qmRun)

theorem Keeps.pollQm (h : Keeps s t) : Keeps s t.pollQm := by
  unfold State.pollQm
  split
  · exact h
  · exact .ite h h.keep.qmRun.wr

theorem Keeps.placePool {k : Nat} {same ok : Bool} {put : State → State} (h : Keeps s t)
    (hp : ∀ u, Keeps s u → Keeps s (put u)) :
    Keeps s (t.placePool k same ok put) := by
  have placed := (hp _ (h.setPool (p := k) (x := Pool.reset))).setPool (p := k) (x := Pool.reset)
  exact .ite h (.ite h.setFlag (.ite placed.setFld placed.wr))

theorem Keeps.poolWrite {which : Nat} {v : W64} (h : Keeps s t) : Keeps s (t.poolWrite which v) := by
  unfold State.poolWrite
  with_reducible exact .ite (h.placePool (fun _ k => k.wr)) (.ite (h.placePool (fun _ k => k.wr)) (h.placePool (fun _
      k => k.wr)))

theorem Keeps.noteEgress {q : Nat} (h : Keeps s t) : Keeps s (t.noteEgress q) := h.updDesc

theorem Keeps.egqWrite {n : Nat} {v : W64} (h : Keeps s t) : Keeps s (t.egqWrite n v) :=
  .ite ((Keeps.ite h.wr.noteEgress h.wr).noteEgress) (.ite h.wr.noteEgress h.wr)

end Sys2Proof.Machine
end

section
/-! PROOF. Memory's canonical form is kept: journals, the Seedbank and transactions. -/

namespace Sys2Proof.Machine

variable {s t : State}

/-! ### The journal writer's engine -/

theorem Keeps.setJstate {j st err : Nat} (h : Keeps s t) : Keeps s (t.setJstate j st err) := h.setFld.setFld
theorem Keeps.setJournal {j : Nat} {x : Journal} (h : Keeps s t) : Keeps s (t.setJournal j x) := h.keep

theorem Keeps.updJournal {j : Nat} {f : Journal → Journal} (h : Keeps s t) : Keeps s (t.updJournal j f) :=
  h.setJournal

theorem Keeps.nvmeWrites {rs : List (Nat × Nat)} (h : Keeps s t) : Keeps s (t.nvmeWrites rs) := .ite h h.undefine
theorem Keeps.stageJw {n : Nat} (h : Keeps s t) : Keeps s (t.stageJw n).1 := (Keeps.ite h h.undefine).keep
theorem Keeps.issue {ctrl : Nat} {c : NvmeCmd} (h : Keeps s t) : Keeps s (t.issue ctrl c) := h.stageJw.keep

theorem Keeps.sendIo {i : Nat} {c : NvmeIo} {nsid pos n : Nat} {prps : List Nat} (h : Keeps s t) :
    Keeps s (t.sendIo i c nsid pos n prps).1 :=
  (Keeps.ite h.nvmeWrites.nvmeWrites h.nvmeWrites).keep

theorem Keeps.sendAdmin {i : Nat} {c : NvmeAdmin} (h : Keeps s t) : Keeps s (t.sendAdmin i c) :=
  h.stageJw.nvmeWrites.keep

theorem Keeps.sendAdmins {i : Nat} {cs : List NvmeAdmin} (h : Keeps s t) : Keeps s (t.sendAdmins i cs) :=
  h.foldl fun _ _ k => k.sendAdmin

theorem Keeps.issueFlush {j : Nat} {c : JCfg} {cost : Nat} {p : Purpose} (h : Keeps s t) :
    Keeps s (t.issueFlush j c cost p) := by
  unfold State.issueFlush
  with_reducible exact h.issue.keep

theorem Keeps.storeBytes {j : Nat} {c : JCfg} {pos : Nat} {data : List Byte} {fua : Bool} {p : Purpose}
    (h : Keeps s t) :
    Keeps s (t.storeBytes j c pos data fua p) := by
  unfold State.storeBytes
  refine .ite ?_ ((Keeps.ite h.issueFlush h).issue.updJournal)
  dsimp only
  split
  · exact h.recordRefusal
  · exact h.writeMem

theorem Keeps.layRecord {j : Nat} {c : JCfg} {ty src txn : Nat} {payload : List Byte} {fua : Bool} {p : Purpose}
    (h : Keeps s t) :
    Keeps s (t.layRecord j c ty src txn payload fua p).1 := by
  unfold State.layRecord
  dsimp only
  exact h.storeBytes.wr.updJournal

theorem Keeps.closeSegment {j : Nat} {c : JCfg} {r : Nat} {fua : Bool} {p : Purpose} (h : Keeps s t) :
    Keeps s (t.closeSegment j c r fua p) :=
  .ite h h.layRecord.updJournal

theorem Keeps.openSegment {j : Nat} {c : JCfg} (h : Keeps s t) : Keeps s (t.openSegment j c) :=
  h.setJournal.setFld.layRecord

theorem Keeps.appendPlain {j : Nat} {c : JCfg} {ty src txn : Nat} {payload : List Byte} {fua : Bool} {p : Purpose}
    (h : Keeps s t) :
    Keeps s (t.appendPlain j c ty src txn payload fua p).1 :=
  .iteFst h.layRecord (.iteFst h.closeSegment.setJstate h.closeSegment.openSegment.layRecord)

theorem Keeps.ringWord {w : Nat} (h : Keeps s t) : Keeps s (t.ringWord w).1 := by
  unfold State.ringWord
  split
  · exact h.recordRefusal.pair
  · split
    next e1 => exact (h.readWord.of_eq e1).pair
    next e1 => exact (h.readWord.of_eq e1).pair

theorem Keeps.skipRecords {n a : Nat} (h : Keeps s t) : Keeps s (t.skipRecords n a).1 := by
  induction n generalizing t a with
  | zero => exact h.pair
  | succ n ih =>
    unfold State.skipRecords
    split
    next e => exact ih (h.ringWord.of_eq e)
    next e => exact (h.ringWord.of_eq e).pair

theorem Keeps.freeRecord (h : Keeps s t) : Keeps s t.freeRecord.1 := h.freeWord.foldlFst fun _ _ k => k.freeWord

theorem Keeps.walkStart {a first : Nat} (h : Keeps s t) : Keeps s (t.walkStart a first).1 := by
  unfold State.walkStart
  split
  · exact h
  · split
    next e1 => exact (h.ringWord.of_eq e1)
    next e1 => exact (h.ringWord.of_eq e1)

theorem Keeps.ringWords {n a : Nat} (h : Keeps s t) : Keeps s (t.ringWords n a).1 := by
  induction n generalizing t a with
  | zero => exact h.pair
  | succ n ih =>
    unfold State.ringWords
    split
    next e => exact (h.ringWord.of_eq e).pair
    next e =>
      split
      next e1 => exact ((ih (h.ringWord.of_eq e)).of_eq e1).pair
      next e1 => exact ((ih (h.ringWord.of_eq e)).of_eq e1).pair

theorem Keeps.ringRecord {j : Nat} {c : JCfg} {seq : Nat} (h : Keeps s t) : Keeps s (t.ringRecord j c seq).1 := by
  unfold State.ringRecord
  split
  · exact h
  · refine .iteFst h (.iteFst h.freeRecord ?_)
    split
    next e1 => exact (h.walkStart.of_eq e1)
    next e1 =>
      refine .iteFst ((h.walkStart.of_eq e1).freeRecord) ?_
      split
      next e2 => exact ((h.walkStart.of_eq e1).skipRecords.of_eq e2)
      next e2 =>
        split
        next e3 => exact (((h.walkStart.of_eq e1).skipRecords.of_eq e2).ringWord.of_eq e3)
        next e3 => exact (((h.walkStart.of_eq e1).skipRecords.of_eq e2).ringWord.of_eq e3).ringWords

theorem Keeps.updCapture {j : Nat} {f : Capture → Capture} (h : Keeps s t) : Keeps s (t.updCapture j f) :=
  h.updJournal

theorem Keeps.copyOne {j : Nat} {c : JCfg} (h : Keeps s t) : Keeps s (t.copyOne j c) := by
  unfold State.copyOne
  split
  · exact h
  · dsimp only
    split
    next e2 =>
      refine .ite ((h.ringRecord.of_eq e2).updCapture) ?_
      split
      next e3 => exact ((h.ringRecord.of_eq e2).appendPlain.of_eq e3).updCapture
      next e3 => exact ((h.ringRecord.of_eq e2).appendPlain.of_eq e3).updCapture
    next e1 _ => exact (h.ringRecord.of_eq e1).updCapture

theorem Keeps.beforeOverwrite {j : Nat} {c : JCfg} (h : Keeps s t) : Keeps s (t.beforeOverwrite j c) := by
  unfold State.beforeOverwrite
  dsimp only
  split
  next k _ _ _ _ _ _ _ => exact .ite h ((h.foldlFst fun _ _ k => .iteFst k.freeBool.copyOne k.freeBool).updCapture)
  · exact h

theorem Keeps.append {j : Nat} {c : JCfg} {ty src txn : Nat} {payload : List Byte} {fua : Bool} {p : Purpose}
    (h : Keeps s t) :
    Keeps s (t.append j c ty src txn payload fua p).1 :=
  (Keeps.ite h.beforeOverwrite h).appendPlain

theorem Keeps.synced {j q : Nat} (h : Keeps s t) : Keeps s (t.synced j q) := h.updJournal

theorem Keeps.laySync {j : Nat} {c : JCfg} (h : Keeps s t) : Keeps s (t.laySync j c).1 := by
  unfold State.laySync
  split
  next e => exact .ite ((h.append.of_eq e).updJournal.synced) ((h.append.of_eq e).updJournal)
  next e => exact h.append.of_eq e

theorem Keeps.writeSync {j : Nat} {c : JCfg} (h : Keeps s t) : Keeps s (t.writeSync j c).1 := by
  unfold State.writeSync
  split
  next e => exact .ite (h.laySync.of_eq e) ((h.laySync.of_eq e).issueFlush)
  next e => exact h.laySync.of_eq e

theorem Keeps.settle {g cnum : Nat} (h : Keeps s t) : Keeps s (t.settle g cnum) := h.keep

theorem Keeps.writeVoids {j : Nat} {c : JCfg} (h : Keeps s t) : Keeps s (t.writeVoids j c) := by
  unfold State.writeVoids
  refine h.foldl fun _ _ k => ?_
  dsimp only
  split
  next e => exact (k.append.of_eq e).updJournal
  next e => exact (k.append.of_eq e)

theorem Keeps.pollVoids {j : Nat} (h : Keeps s t) : Keeps s (t.pollVoids j) := by
  unfold State.pollVoids
  split
  · exact .ite h.writeVoids h
  · exact h

theorem Keeps.voidTxn {g cnum : Nat} {js : List Nat} (h : Keeps s t) : Keeps s (t.voidTxn g cnum js) :=
  h.foldl fun _ _ k => k.updJournal.pollVoids

theorem Keeps.putMedia {k : Nat} {bs : List Byte} (h : Keeps s t) : Keeps s (t.putMedia k bs) := h.keep

theorem Keeps.mediaWrite {c : JCfg} {pos : Nat} {fua : Bool} {data : List Byte} (h : Keeps s t) :
    Keeps s (t.mediaWrite c pos fua data) :=
  h.foldl fun _ _ k => k.keep.putMedia

theorem Keeps.stopJournal {j err : Nat} (h : Keeps s t) : Keeps s (t.stopJournal j err) := by
  unfold State.stopJournal
  dsimp only
  split
  · exact h.keep
  · exact h.keep.foldl fun _ _ k => k.updJournal

theorem Keeps.driveLasting {i : Nat} (h : Keeps s t) : Keeps s (t.driveLasting i) := h.recordError.tallyInc
theorem Keeps.driveFailed {i : Nat} (h : Keeps s t) : Keeps s (t.driveFailed i) := h.sendAdmins.satAdd.driveLasting
theorem Keeps.driveTimeout {i : Nat} (h : Keeps s t) : Keeps s (t.driveTimeout i) := h.keep
theorem Keeps.driveRetried {i : Nat} (h : Keeps s t) : Keeps s (t.driveRetried i) := h.satAdd.recordError

theorem Keeps.ioRetry {i : Nat} {send : Nat → State → State} {r : IoRetry} (h : Keeps s t)
    (hs : ∀ k u, Keeps s u → Keeps s (send k u)) :
    Keeps s (t.ioRetry i send r) := by
  have sent : Keeps s (if r.first ≠ .doNotRetry then send r.which (if r.first = .timeout then t.driveTimeout i else t)
      else if r.first = .timeout then t.driveTimeout i else t) :=
    .ite (hs _ _ (.ite h.driveTimeout h)) (.ite h.driveTimeout h)
  exact .ite (Keeps.driveRetried (.ite sent.driveTimeout sent)) (Keeps.driveFailed (.ite sent.driveTimeout sent))

theorem Keeps.ioRetries {i : Nat} {send : Nat → State → State} {rs : List IoRetry} (h : Keeps s t)
    (hs : ∀ k u, Keeps s u → Keeps s (send k u)) :
    Keeps s (t.ioRetries i send rs) := by
  induction rs generalizing t with
  | nil => exact h
  | cons r rs ih => exact .ite (ih (h.ioRetry hs)) (h.ioRetry hs)

theorem Keeps.journalError {j err : Nat} (h : Keeps s t) : Keeps s (t.journalError j err) := by
  unfold State.journalError
  dsimp only
  split
  · exact h.stopJournal
  · exact h.stopJournal.driveFailed

/-! ### The Seedbank -/

theorem Keeps.addCost {n : Nat} (h : Keeps s t) : Keeps s (t.addCost n) := h.keep
theorem Keeps.dropCost {n : Nat} (h : Keeps s t) : Keeps s (t.dropCost n) := h.keep

theorem Keeps.resolveLogged {record : Nat} (h : Keeps s t) : Keeps s (t.resolveLogged record).1 := by
  unfold State.resolveLogged
  dsimp only
  split
  · exact .iteFst h.setFld h.setFld.recordError.keep
  · exact h.setFld.recordError
  · exact h.setFld

theorem Keeps.setSlot {line : Nat} {x : Slot} (h : Keeps s t) : Keeps s (t.setSlot line x) := h.keep

theorem Keeps.startUpdate {record : Nat} {body : List Byte} {cmd : Bool} (h : Keeps s t) :
    Keeps s (t.startUpdate record body cmd) := by
  unfold State.startUpdate
  exact h.resolveLogged.keep

theorem Keeps.startLookout {body : List Byte} (h : Keeps s t) : Keeps s (t.startLookout body) := h.keep

theorem Keeps.pump (h : Keeps s t) : Keeps s t.pump := by
  unfold State.pump
  split
  · refine .ite h ?_
    dsimp only
    split
    · exact h.keep.startUpdate
    · exact h.keep
    · exact h.keep.startLookout
  · exact h

theorem Keeps.queueJob {w : LineJob} (h : Keeps s t) : Keeps s (t.queueJob w) := h.keep

theorem Keeps.updateRecord {record : Nat} {body : List Byte} (h : Keeps s t) : Keeps s (t.updateRecord record body) :=
  h.queueJob.pump

theorem Keeps.writeLookout {body : List Byte} (h : Keeps s t) : Keeps s (t.writeLookout body) := h.queueJob.pump

theorem Keeps.writeLastFault {source code grove addr info : Nat} (h : Keeps s t) :
    Keeps s (t.writeLastFault source code grove addr info) :=
  h.updateRecord

theorem Keeps.resolveReported {record : Nat} (h : Keeps s t) : Keeps s (t.resolveReported record).1 := by
  unfold State.resolveReported
  dsimp only
  split
  · exact h.resolveLogged.writeLastFault
  · exact h.resolveLogged

theorem Keeps.checkStall {g : Nat} (h : Keeps s t) : Keeps s (t.checkStall g) :=
  .ite ((h.foldl fun _ _ k => k.setTxn).keep) (.ite ((h.foldl fun _ _ k => k.setTxn).satAdd) ((h.foldl fun _ _ k =>
      k.setTxn).satAdd.tallyInc.keep))

theorem Keeps.startMarker {g : Nat} (h : Keeps s t) : Keeps s (t.startMarker g) := by
  unfold State.startMarker
  split
  · exact h
  · exact (h.foldl fun _ _ k => k.setTxn).keep.checkStall

theorem Keeps.markerDone {line g : Nat} {glades : List Nat} (h : Keeps s t) :
    Keeps s (t.markerDone line g glades) := by
  unfold State.markerDone
  refine h.setSlot.foldl fun _ _ k => ?_
  split
  · exact .ite k.setTxn.dropCost.settle k
  · exact k

theorem Keeps.lineDone (h : Keeps s t) : Keeps s t.lineDone := by
  unfold State.lineDone
  split
  · exact h
  · refine (?_ : Keeps _ _).pump
    split
    · exact h.setBytes.keep.markerDone
    · exact .ite h.setBytes.keep.keep.setFlag.setFlag.setFld (.ite h.setBytes.keep.keep h.setBytes.keep.setFld)
    · exact h.setBytes.keep

/-! ### Recovery -/

theorem Keeps.noteScan {j : Nat} {c : JCfg} (h : Keeps s t) : Keeps s (t.noteScan j c) := h.keep
theorem Keeps.stopControllers (h : Keeps s t) : Keeps s t.stopControllers := h.foldl fun _ _ k => .ite k.sendAdmins k
theorem Keeps.sendScan {c : JCfg} {p : Nat} (h : Keeps s t) : Keeps s (t.sendScan c p) := h.stageJw.sendIo.nvmeWrites

theorem Keeps.sendOpen {c : JCfg} {readOk timely : List IoRetry} (h : Keeps s t) :
    Keeps s (t.sendOpen c readOk timely) := by
  unfold State.sendOpen
  with_reducible exact .ite (h.sendAdmins.ioRetries (fun _ _ k => k.sendAdmins)) (((h.sendAdmins.ioRetries (fun _ _ k
      => k.sendAdmins)).foldl fun _ _ k => k.sendScan).ioRetries (fun _ _ k => k.sendScan))

theorem Keeps.enumerate {i : Nat} (h : Keeps s t) : Keeps s (t.enumerate i) := by
  unfold State.enumerate
  dsimp only
  split
  · exact h.setFlag.setFlag
  · exact (Keeps.ite h.sendAdmins h).setFlag.setFlag.setFlag.setFld.setFld.setFld.setFld

theorem Keeps.opened {j : Nat} {c : JCfg} (h : Keeps s t) : Keeps s (t.opened j c) := h.setJstate

theorem Keeps.resume {j : Nat} {c : JCfg} {x : Scan} {drop : List (Nat × Nat)} (h : Keeps s t) :
    Keeps s (t.resume j c x drop) :=
  .ite ((Keeps.ite h.setJournal.wr h.setJournal.wr.wr).setFld.openSegment) ((Keeps.ite h.setJournal.wr
    h.setJournal.wr.wr).setFld)

theorem Keeps.recoverJournal {j : Nat} {c : JCfg} (h : Keeps s t) : Keeps s (t.recoverJournal j c) :=
  .ite h.resume.opened ((Keeps.ite h.resume.writeVoids.laySync h.resume.writeVoids).setJstate.issueFlush)

theorem Keeps.pollRecovery (h : Keeps s t) : Keeps s t.pollRecovery := by
  unfold State.pollRecovery
  refine .ite h (h.keep.foldl fun _ _ k => ?_)
  split
  · exact k.recoverJournal
  · exact k

theorem Keeps.finishRecovery (h : Keeps s t) : Keeps s t.finishRecovery := by
  unfold State.finishRecovery
  with_reducible exact .ite h ((h.resolveReported.resolveReported.foldl fun _ _ k => (k.foldl fun _ _ m =>
      m.setJstate).recordError).keep.wr.updateRecord)

/-! ### The transaction units -/

theorem Keeps.placeRecord {i : Nat} {t' : Txn} {step2 : Bool} {p : Nat × Rec} (h : Keeps s t) :
    Keeps s (t.placeRecord i t' step2 p).1 := by
  unfold State.placeRecord
  dsimp only
  split
  · exact h
  · split
    next e1 =>
      split
      · exact (h.append.of_eq e1).updJournal.setTxn
      · dsimp only
        exact (h.append.of_eq e1).updJournal
    next e1 => exact (h.append.of_eq e1)

theorem Keeps.placeRecords {i : Nat} {x : Txn} {step2 : Bool} {ps : List (Nat × Rec)} (h : Keeps s t) :
    Keeps s (t.placeRecords i x step2 ps).1 := by
  induction ps generalizing t with
  | nil => exact h.pair
  | cons p ps ih =>
    unfold State.placeRecords
    split
    next e => exact ih (h.placeRecord.of_eq e)
    next e => exact (h.placeRecord.of_eq e).pair

theorem Keeps.failDurable {i code : Nat} (h : Keeps s t) : Keeps s (t.failDurable i code) := by
  unfold State.failDurable
  split
  · exact h
  · exact h.voidTxn.dropCost.retireAbort

theorem Keeps.beginStep2 {i : Nat} (h : Keeps s t) : Keeps s (t.beginStep2 i) := by
  unfold State.beginStep2
  split
  · exact h
  · split
    · exact h.failDurable
    · exact .ite h.setTxn.placeRecords h.setTxn.placeRecords.failDurable

theorem Keeps.advance {g : Nat} (h : Keeps s t) : Keeps s (t.advance g) := by
  unfold State.advance
  refine h.foldlFst fun _ _ k => ?_
  split
  · exact k
  · refine .iteFst k.beginStep2 (.iteFst k ?_)
    exact k

theorem Keeps.step2Done {i cnum : Nat} (h : Keeps s t) : Keeps s (t.step2Done i cnum) := by
  unfold State.step2Done
  dsimp only
  split
  · exact .ite h.keep.setTxn.checkStall h
  · exact h

theorem Keeps.decideCommit {i n : Nat} (h : Keeps s t) : Keeps s (t.decideCommit i n) := by
  unfold State.decideCommit
  dsimp only
  split
  · exact h
  · exact .ite h.setTxu.retireAbort h.setTxu.addCost.setTxn.advance

theorem Keeps.freeDecide {g : Nat} (h : Keeps s t) : Keeps s (t.freeDecide g) := by
  unfold State.freeDecide
  split
  · exact h
  · dsimp only
    split
    · exact h.setTxu
    · exact .ite h.retireAbort (.ite h.retireAbort h.decideCommit)

theorem Keeps.settlePasses {g : Nat} (h : Keeps s t) : Keeps s (t.settlePasses g) :=
  h.foldl fun _ _ k => .ite k k.setTxu.retireTxu

theorem Keeps.nextTurn {g n k : Nat} (h : Keeps s t) : Keeps s (t.nextTurn g n k) := h.setTxu

theorem Keeps.ticketDecide {g : Nat} (h : Keeps s t) : Keeps s (t.ticketDecide g) := by
  unfold State.ticketDecide
  refine .ite h (.ite ((?_ : Keeps _ _).setTxu.tallyInc.nextTurn) (.ite h (.ite h.setTxu.nextTurn ?_)))
  · split
    · exact .ite h.retireAbort h
    · exact h
  · split
    · exact .ite h ((Keeps.ite h.retireAbort (.ite h.retireAbort h.decideCommit)).nextTurn)
    · exact h

theorem Keeps.applyWrites {i : Nat} {t' : Txn} (h : Keeps s t) : Keeps s (t.applyWrites i t') :=
  h.foldl fun _ _ k => .ite ((Keeps.ite k.setTxu k).portAnswer) ((Keeps.ite k.setTxu k).portAnswer.storeCode.spoil)

theorem Keeps.doomReaders {i : Nat} {t' : Txn} (h : Keeps s t) : Keeps s (t.doomReaders i t') := by
  unfold State.doomReaders
  refine .ite h (h.setTxu.foldl fun _ _ k => .ite k ?_)
  split
  · exact .ite k.setTxn k
  · exact k

theorem Keeps.applyTxn {i : Nat} {fail : Bool} (h : Keeps s t) : Keeps s (t.applyTxn i fail) := by
  unfold State.applyTxn
  dsimp only
  split
  · exact h
  · split
    · exact h.failDurable.advance
    · exact .ite h.failDurable.advance ((h.placeRecords.applyWrites.doomReaders.foldl fun _ _ k => .ite k.freeCells
        k.linkPacket).wrapAdd.setTxu.setTxn.retireTxu.advance)

/-! ### The commands and events of the journal writer -/

theorem Keeps.jwStart {op j : Nat} {issued : Bool} (h : Keeps s t) : Keeps s (t.jwStart op j issued) := h.keep
theorem Keeps.jwDone {code : Nat} (h : Keeps s t) : Keeps s (t.jwDone code) := h.keep
theorem Keeps.jwAtOnce {op j code : Nat} (h : Keeps s t) : Keeps s (t.jwAtOnce op j code) := h.jwStart.jwDone

theorem Keeps.jwIfIdle {op j : Nat} {f : State → State} (h : Keeps s t) (hf : ∀ u, Keeps s u → Keeps s (f u)) :
    Keeps s (t.jwIfIdle op j f) :=
  .ite h.fieldsWrite (hf _ h)

theorem Keeps.openPersistent {op j : Nat} {c : JCfg} {readOk timely : List IoRetry} (h : Keeps s t) :
    Keeps s (t.openPersistent op j c readOk timely) :=
  .ite ((Keeps.ite h.enumerate.sendOpen h.enumerate).setJstate.jwAtOnce) ((Keeps.ite h.enumerate.sendOpen
    h.enumerate).noteScan.setJstate.jwAtOnce)

theorem Keeps.jwOpen {j : Nat} {readOk timely : List IoRetry} (h : Keeps s t) :
    Keeps s (t.jwOpen j readOk timely) := by
  unfold State.jwOpen
  refine .ite h ?_
  split
  · exact h.jwAtOnce
  · exact .ite h.jwAtOnce (.ite h.unspoil.setJournal.wr.openSegment.setJstate.jwAtOnce h.openPersistent)

theorem Keeps.jwReopen {j : Nat} {readOk timely : List IoRetry} (h : Keeps s t) :
    Keeps s (t.jwReopen j readOk timely) := by
  unfold State.jwReopen
  refine .ite h ?_
  split
  · exact h.jwAtOnce
  · exact .ite h.jwAtOnce (.ite h.unspoil.setJournal.wr.openSegment.setJstate.jwAtOnce (.ite h.keep h.openPersistent))

theorem Keeps.jwSealWrite {j : Nat} {c : JCfg} (h : Keeps s t) : Keeps s (t.jwSealWrite j c) :=
  .ite h.writeSync.closeSegment.jwDone (.ite h.writeSync.closeSegment.jwDone h.writeSync.closeSegment.issueFlush.keep)

theorem Keeps.jwSeal {j : Nat} (h : Keeps s t) : Keeps s (t.jwSeal j) := by
  unfold State.jwSeal
  refine .ite h ?_
  split
  · exact h.jwAtOnce
  · exact .ite h.jwAtOnce (.ite h.jwStart.jwSealWrite h.jwStart)

theorem Keeps.jwFormat {j : Nat} (h : Keeps s t) : Keeps s (t.jwFormat j) := by
  unfold State.jwFormat
  refine .ite h ?_
  split
  · exact h.jwAtOnce
  · exact .ite h.jwAtOnce h.enumerate.jwStart.issue

theorem Keeps.beginCapture {j : Nat} {k : Capture} (h : Keeps s t) : Keeps s (t.beginCapture j k) := by
  unfold State.beginCapture
  split
  · exact h
  · exact h.append.updJournal

theorem Keeps.captureOrQueue {j : Nat} {k : Capture} (h : Keeps s t) : Keeps s (t.captureOrQueue j k) := by
  unfold State.captureOrQueue
  split
  · exact h.beginCapture
  · exact h.updJournal
  · exact h.updJournal

theorem Keeps.jwPersist {j : Nat} (h : Keeps s t) : Keeps s (t.jwPersist j) := by
  unfold State.jwPersist
  refine .ite h ?_
  split
  · exact h.jwAtOnce
  · refine .ite h.jwAtOnce ?_
    split
    · exact h.jwAtOnce
    · exact h.captureOrQueue.jwAtOnce

theorem Keeps.captureTrigger {j : Nat} (h : Keeps s t) : Keeps s (t.captureTrigger j) := by
  unfold State.captureTrigger
  split
  · exact h
  · dsimp only
    split
    · exact h.keep
    · refine .ite h.keep ?_
      split
      · exact h.keep
      · exact h.keep.captureOrQueue

theorem Keeps.endCapture {j result cost : Nat} {p : Purpose} (h : Keeps s t) :
    Keeps s (t.endCapture j result cost p) := by
  unfold State.endCapture
  split
  · exact h
  · refine (?_ : Keeps _ _).satAdd.updJournal.tallyInc
    split
    · exact h
    · exact .ite h h.append.issueFlush.addCost

theorem Keeps.finishCapture {j : Nat} (h : Keeps s t) : Keeps s (t.finishCapture j) := by
  unfold State.finishCapture
  split
  next k _ _ _ =>
    dsimp only
    split
    · exact (h.foldl fun _ _ k => k.copyOne).endCapture.beginCapture
    · exact (h.foldl fun _ _ k => k.copyOne).endCapture.updJournal
    · exact (h.foldl fun _ _ k => k.copyOne).endCapture
  · exact h

theorem Keeps.jrelWrite {j : Nat} {v : W64} (h : Keeps s t) : Keeps s (t.jrelWrite j v) := by
  unfold State.jrelWrite
  refine .ite h ?_
  dsimp only
  split
  · exact .ite h.wr.setJstate h.wr
  · exact h.wr

theorem Keeps.answerClose {i : Nat} {handler : Bool} {w : W64} (h : Keeps s t) :
    Keeps s (t.answerClose i handler w) :=
  h.foldl fun _ _ k => k.updLate

theorem Keeps.recordAccept {i : Nat} (h : Keeps s t) : Keeps s (t.recordAccept i) := by
  unfold State.recordAccept
  split
  · exact h
  · refine .ite h ?_
    split
    · exact h.keep.answerClose
    · exact h
    · refine .ite h ?_
      split
      next e3 => exact (h.keep.append.of_eq e3).answerClose
      next e3 => exact (h.keep.append.of_eq e3).answerClose

theorem Keeps.pollSeal {i : Nat} (h : Keeps s t) : Keeps s (t.pollSeal i) := by
  unfold State.pollSeal
  split
  · exact h
  · refine .ite h ?_
    dsimp only
    split
    · exact h.updAsync
    · exact h.updAsync
    · refine .ite h ?_
      split
      next e3 => exact (h.writeSync.of_eq e3).updAsync
      next e3 => exact (h.writeSync.of_eq e3).updAsync

theorem Keeps.writeSyncs {js : List (Nat × JCfg)} (h : Keeps s t) : Keeps s (t.writeSyncs js) := by
  unfold State.writeSyncs
  refine (h.foldl fun _ _ k => k.laySync).foldl fun _ _ k => ?_
  dsimp only
  split
  · refine (k.foldlFst fun _ _ k => ?_).issueFlush
    split
    next e2 => exact (k.laySync.of_eq e2)
    next e2 => exact (k.laySync.of_eq e2)
  · refine k.foldlFst fun _ _ k => ?_
    split
    next e => exact (k.laySync.of_eq e)
    next e => exact (k.laySync.of_eq e)

theorem Keeps.pollJw (h : Keeps s t) : Keeps s t.pollJw := by
  unfold State.pollJw
  dsimp only
  split
  · split
    · exact .ite (((h.foldl fun _ _ k => k.pollVoids).writeSyncs.foldl fun _ _ k => k.pollSeal).jwDone) (.ite
        (((h.foldl fun _ _ k => k.pollVoids).writeSyncs.foldl fun _ _ k => k.pollSeal).jwSealWrite) ((h.foldl fun _ _
        k => k.pollVoids).writeSyncs.foldl fun _ _ k => k.pollSeal))
    · exact ((h.foldl fun _ _ k => k.pollVoids).writeSyncs.foldl fun _ _ k => k.pollSeal).jwDone
  · split
    · exact .ite ((h.foldl fun _ _ k => k.pollVoids).writeSyncs.foldl fun _ _ k => k.pollSeal) (((h.foldl fun _ _ k =>
        k.pollVoids).writeSyncs.foldl fun _ _ k => k.pollSeal).openPersistent)
    · exact ((h.foldl fun _ _ k => k.pollVoids).writeSyncs.foldl fun _ _ k => k.pollSeal).jwDone
  · exact (h.foldl fun _ _ k => k.pollVoids).writeSyncs.foldl fun _ _ k => k.pollSeal

theorem Keeps.sealRetire {i : Nat} (h : Keeps s t) : Keeps s (t.sealRetire i) := by
  unfold State.sealRetire
  split
  · exact h
  · refine .ite h ((?_ : Keeps _ _).foldl fun _ _ k => k.updAsync)
    split
    · exact .ite h.closeSegment h
    · exact h

theorem Keeps.failPurpose {p : Purpose} (h : Keeps s t) : Keeps s (t.failPurpose p) := by
  unfold State.failPurpose
  split
  · exact .ite h.failDurable h
  · exact h.jwDone
  · exact h

theorem Keeps.failJournal {j err : Nat} (h : Keeps s t) : Keeps s (t.failJournal j err) :=
  (h.foldl fun _ _ k => k.dropCost).journalError.foldl fun _ _ k => k.failPurpose

theorem Keeps.failHead {ctrl err : Nat} (h : Keeps s t) : Keeps s (t.failHead ctrl err) := by
  unfold State.failHead
  split
  · exact h
  next k _ _ => exact ((h.foldl fun _ _ k => k.dropCost).foldl fun _ _ k => k.stopJournal).driveFailed.foldl fun _ _ k
      => k.failPurpose

theorem Keeps.completeHead {ctrl : Nat} (h : Keeps s t) : Keeps s (t.completeHead ctrl) := by
  unfold State.completeHead
  split
  · exact h
  · extract_lets jw u v w
    have hv : Keeps s v := .dropCost (.keep h)
    have hw : Keeps s w := .ite hv.driveRetried hv
    clear_value w
    split
    · exact hw
    · extract_lets x
      have hx : Keeps s x := by
        simp only [x]
        split
        · exact hw.mediaWrite
        · exact hw.keep
        · exact hw.keep
      clear_value x
      split
      · exact hx.step2Done
      · exact hx.foldl fun _ _ k => k.synced
      · exact hx.jwDone
      · exact (Keeps.ite hx hx.synced).opened
      · exact hx.keep
      · exact hx

theorem Keeps.nvmeCompletion {ctrl status : Nat} (h : Keeps s t) : Keeps s (t.nvmeCompletion ctrl status) := by
  unfold State.nvmeCompletion
  dsimp only
  split
  · with_reducible exact h.keep
  · with_reducible exact .ite h.keep (.ite h.keep.nvmeWrites.completeHead (.ite h.keep.nvmeWrites.keep
      h.keep.nvmeWrites.failHead))

theorem Keeps.nvmeTimeout {ctrl : Nat} (h : Keeps s t) : Keeps s (t.nvmeTimeout ctrl) := by
  unfold State.nvmeTimeout
  split
  · exact h
  · exact .ite h (.ite h.driveTimeout.failHead h.keep)

theorem Keeps.nvmeFatal {ctrl : Nat} (h : Keeps s t) : Keeps s (t.nvmeFatal ctrl) := by
  unfold State.nvmeFatal
  with_reducible exact (h.setFlag.setFlag.keep.satAdd.foldl fun _ _ k =>
      k.stopJournal.driveLasting).dropCost.keep.foldl fun _ _ k => k.failPurpose

theorem Keeps.admitRecords (h : Keeps s t) : Keeps s t.admitRecords :=
  .ite h (h.foldl fun _ _ k => (k.pair.foldlFst fun _ _ m => .iteFst m.pair m.addCost.pair).keep)

theorem Keeps.sealSpace {js : List (Nat × JCfg)} (h : Keeps s t) : Keeps s (t.sealSpace js) := by
  unfold State.sealSpace
  dsimp only
  split
  · refine (h.foldlFst fun _ _ k => .iteFst ?_ k.closeSegment.setJstate.addCost).issueFlush
    exact k
  · refine h.foldlFst fun _ _ k => .iteFst ?_ k.closeSegment.setJstate.addCost
    exact k

theorem Keeps.sendCmd {ctrl : Nat} {k : NvmeCmd} (h : Keeps s t) : Keeps s (t.sendCmd ctrl k).1 := .iteFst h h.sendIo

theorem Keeps.sendQueue {ctrl : Nat} {q : List NvmeCmd} (h : Keeps s t) : Keeps s (t.sendQueue ctrl q) :=
  (h.pair.foldlFst fun _ _ k => k.sendCmd.pair).keep

theorem Keeps.sendNvme (h : Keeps s t) : Keeps s t.sendNvme := h.foldl fun _ _ k => .ite k k.sendQueue

theorem Keeps.sealItems (h : Keeps s t) : Keeps s t.sealItems :=
  .ite h (.ite h.admitRecords ((h.admitRecords.foldl fun _ _ k => .ite k.endCapture k).foldl fun _ _ k =>
      k.sealSpace))

/-! ### The care of the memories -/

theorem Keeps.scrubCount {g f : Nat} (h : Keeps s t) : Keeps s (t.scrubCount g f) := .ite h.satAdd h

theorem Keeps.scrubMend {g w : Nat} {c : CodeWord} {p syn : Nat} (h : Keeps s t) :
    Keeps s (t.scrubMend g w c p syn) :=
  .ite h.storeCode.readOnce.recordError.scrubCount.tallyInc.memFinding h.storeCode.readOnce.recordError.scrubCount

theorem Keeps.scrubHandle {g w : Nat} (h : Keeps s t) : Keeps s (t.scrubHandle g w) := by
  unfold State.scrubHandle
  dsimp only
  split
  · exact h.readOnce
  · exact h.readOnce
  · exact h.readOnce.scrubMend
  · split
    · exact h.readOnce.readOnce.scrubMend
    · exact h.readOnce.readOnce.scrubMend
    · exact h.readOnce.readOnce
    · exact h.readOnce.readOnce.storeCode.recordError.scrubCount.tallyInc.memFinding

theorem Keeps.endPass {g : Nat} (h : Keeps s t) : Keeps s (t.endPass g) :=
  .ite h.keep.freeWord.recordError.find h.keep

theorem Keeps.beginPass {g : Nat} (h : Keeps s t) : Keeps s (t.beginPass g) := .ite h.keep h

theorem Keeps.scrubAt {g w : Nat} {skip : Bool} (h : Keeps s t) : Keeps s (t.scrubAt g w skip) :=
  .ite h.scrubCount h.scrubHandle

theorem Keeps.scrubGrove {g : Nat} {skip : Bool} (h : Keeps s t) : Keeps s (t.scrubGrove g skip) := by
  unfold State.scrubGrove
  refine .ite h ?_
  split
  · exact .ite h.keep h.keep.scrubAt
  · exact .ite h.beginPass.endPass (.ite h.beginPass.scrubAt.endPass h.beginPass.scrubAt.setFld)

theorem Keeps.scrubHeartwood (h : Keeps s t) : Keeps s t.scrubHeartwood := by
  unfold State.scrubHeartwood
  refine .ite h ?_
  split
  · exact h.keep.scrubHandle
  · exact h.scrubHandle.keep

theorem Keeps.scrubWord {g : Nat} {skip : Bool} (h : Keeps s t) : Keeps s (t.scrubWord g skip) :=
  .ite h.scrubGrove h.scrubHeartwood

theorem Keeps.zeroFill {n k : Nat} (h : Keeps s t) : Keeps s (t.zeroFill n k) := h.fillChannel

theorem Keeps.patrolHandle {n b : Nat} (h : Keeps s t) : Keeps s (t.patrolHandle n b) := by
  unfold State.patrolHandle
  dsimp only
  split
  · exact h.readOnce
  · exact h.readOnce
  · exact h.readOnce.classifyBurst
  · split
    · exact h.readOnce.readOnce.classifyBurst
    · exact h.readOnce.readOnce.classifyBurst
    · exact h.readOnce.readOnce
    · exact h.readOnce.readOnce.setBurst.recordError.crossInc.find

theorem Keeps.patrolBurst {n : Nat} (h : Keeps s t) : Keeps s (t.patrolBurst n) :=
  .ite h (.ite ((Keeps.ite h h.patrolHandle).keep.wrapAdd) ((Keeps.ite h h.patrolHandle).keep))

theorem Keeps.retireWrite {g n : Nat} {v : W64} (h : Keeps s t) : Keeps s (t.retireWrite g n v) := .ite h h.wr
theorem Keeps.injectWrite {g : Nat} {v : W64} (h : Keeps s t) : Keeps s (t.injectWrite g v) := .ite h h.wr

theorem Keeps.errRecordFree {r : RecSet} {n : Nat} (h : Keeps s t) : Keeps s (t.errRecordFree r n) :=
  h.setFlag.setFlag

theorem Keeps.failBit {a pos : Nat} {x3 : FlipHow} (h : Keeps s t) : Keeps s (t.failBit a pos x3) := by
  unfold State.failBit
  split
  · exact h
  · exact h.keep
  · exact h.keep

theorem Keeps.flipSram {w pos : Nat} {how : FlipHow} (h : Keeps s t) : Keeps s (t.flipSram w pos how) := by
  unfold State.flipSram
  refine .ite h ?_
  split
  · exact h.setCode
  · exact h.failBit

theorem Keeps.flipDram {b pos : Nat} {how : FlipHow} (h : Keeps s t) : Keeps s (t.flipDram b pos how) := by
  unfold State.flipDram
  refine .ite h ?_
  split
  · exact .ite h.setByte h.keep
  · exact h.failBit

theorem Keeps.flipGlade {c n pos : Nat} {stuckAt : Option Bool} (h : Keeps s t) :
    Keeps s (t.flipGlade c n pos stuckAt) :=
  h.updGlade

/-! ### The JAU -/

theorem Keeps.setRecord {i : Nat} {r : Option OpenRecord} (h : Keeps s t) : Keeps s (t.setRecord i r) := h.updAsync

theorem Keeps.openRecord {i j : Nat} (h : Keeps s t) : Keeps s (t.openRecord i j) := by
  unfold State.openRecord
  split
  · exact .ite h.updTxn.setRecord h.updTxn.setRecord
  · exact h.setRecord

theorem Keeps.closeRecord {i : Nat} {b : W64} (h : Keeps s t) : Keeps s (t.closeRecord i b).1 := by
  unfold State.closeRecord
  split
  · exact h
  · exact .iteFst h.setRecord (.iteFst (.iteFst h.setRecord.updTxn (.ite h.setRecord.updTxn.updTxn
      h.setRecord.updTxn)) h.keep)

theorem Keeps.giveJau {i : Nat} {w : Option W64} (h : Keeps s t) : Keeps s (t.giveJau i w) := by
  unfold State.giveJau
  split
  · exact h.beginQpu
  · exact h.foldl fun _ _ k => k.updGlade

theorem Keeps.jauPut {i : Nat} {op : JauOp} {t' : TWord} (h : Keeps s t) : Keeps s (t.jauPut i op t') := by
  unfold State.jauPut
  extract_lets x bump close opened len u v
  have closed : ∀ u, Keeps s u → Keeps s (close u) := fun _ k => k.closeRecord.giveJau.updGlade
  have ho : Keeps s (opened ()) := .ite h.openRecord h
  have hu : Keeps s u := ho
  clear_value close u
  split
  · exact h
  · exact h.giveJau
  · exact h.setRecord.giveJau
  · exact .ite h.giveJau (closed _ h)
  · exact closed _ ho
  · have hv : Keeps s v := by
      simp only [v]
      split
      · exact hu.setRecord
      · exact hu
    clear_value v
    exact .ite (closed _ hv) hv

theorem Keeps.jauSeal {i : Nat} {t' : W64} (h : Keeps s t) : Keeps s (t.jauSeal i t') :=
  h.foldl fun _ _ k => k.updGlade

theorem Keeps.doJau {i : Nat} {op : JauOp} {t' : TWord} (h : Keeps s t) : Keeps s (t.doJau i op t') :=
  .ite h.jauSeal h.jauPut

/-! ### The TXU port -/

theorem Keeps.startTxu {i : Nat} (h : Keeps s t) : Keeps s (t.startTxu i) := h.foldl fun _ _ k => k.updGlade

theorem Keeps.receiveCommit {i : Nat} (h : Keeps s t) : Keeps s (t.receiveCommit i) := by
  unfold State.receiveCommit
  dsimp only
  split
  · exact .ite h.retireAbort (.ite h.setTxu h)
  · exact h

theorem Keeps.abortNow {l : Nat} (h : Keeps s t) : Keeps s (t.abortNow l) :=
  h.closeTxn.beginQpu.foldl fun _ _ k => k.beginQpu

theorem Keeps.doTxu {i : Nat} {op : TxuOp} {t' : W64} (h : Keeps s t) : Keeps s (t.doTxu i op t') := by
  unfold State.doTxu
  dsimp only
  split
  · exact h.setTxn
  · split
    · exact h
    · exact h.startTxu.setTxn.receiveCommit
  · exact .ite h.abortNow h
  · exact h.startTxu.setTxu
  · exact h.beginQpu

end Sys2Proof.Machine
end

section
/-! PROOF. Memory's canonical form is kept: reactions, time and power. -/

namespace Sys2Proof.Machine

variable {s t : State}

/-! ### Domains, fences, HOLDUP, SAFE and reactions -/

theorem Keeps.releaseHeld (h : Keeps s t) : Keeps s t.releaseHeld := h.keep.foldl fun _ _ k => k.tallyInc

theorem Keeps.killLoads {p : Nat → LoadFlight → Bool} {detail : Nat} (h : Keeps s t) :
    Keeps s (t.killLoads p detail) :=
  h.keep

theorem Keeps.resetRegs {lo hi : Nat} (h : Keeps s t) : Keeps s (t.resetRegs lo hi) := h.keep

theorem Keeps.clearIsland {i : Nat} (h : Keeps s t) : Keeps s (t.clearIsland i) :=
  .ite (h.foldl fun _ _ k => k.setFld.setFlag.resetRegs) (.ite h.resetRegs (.ite h.keep (.ite h.keep (.ite (h.foldl
    fun _ _ k => .ite k.resetRegs k) (.ite (h.foldl fun _ _ k => .ite k.resetRegs.wr k) (.ite h.keep (.ite h.keep
    (.ite h.keep (.ite h.resetRegs (.ite h.keep h))))))))))

theorem Keeps.resetIsland {i : Nat} (h : Keeps s t) : Keeps s (t.resetIsland i) := .ite h h.keep.killLoads.clearIsland

theorem Keeps.releaseIsland {i : Nat} (h : Keeps s t) : Keeps s (t.releaseIsland i) :=
  .ite h (.ite (.ite h.keep h.setFlag) ((Keeps.ite h.keep h.setFlag).setFlag.wrapAdd))

theorem Keeps.resetClockless (h : Keeps s t) : Keeps s t.resetClockless :=
  (h.keep.foldl fun _ _ k => k.loseEvents).foldl fun _ _ k => .ite k.setFlag k

theorem Keeps.releaseClockless (h : Keeps s t) : Keeps s t.releaseClockless :=
  h.foldl fun _ _ k => .ite k.releaseIsland k

theorem Keeps.laneLeaves {n dest : Nat} (h : Keeps s t) : Keeps s (t.laneLeaves n dest) :=
  .ite (.ite h.setFld.setFld.wrapAdd h.setFld.setFld.wrapAdd.crossInc) h.setFld.setFld

theorem Keeps.setLink {l : Nat} {x : Link} (h : Keeps s t) : Keeps s (t.setLink l x) := h.keep
theorem Keeps.updLink {l : Nat} {f : Link → Link} (h : Keeps s t) : Keeps s (t.updLink l f) := h.setLink
theorem Keeps.countLinks (h : Keeps s t) : Keeps s t.countLinks := h.setFld
theorem Keeps.freeFlits {l n : Nat} (h : Keeps s t) : Keeps s (t.freeFlits l n) := h.updLink
theorem Keeps.abandonOut {k l : Nat} (h : Keeps s t) : Keeps s (t.abandonOut k l) := h.setLink.freeFlits

theorem Keeps.giveUp {l : Nat} {c : RxPkt} (h : Keeps s t) : Keeps s (t.giveUp l c) := by
  unfold State.giveUp
  split
  · exact h.abandonOut
  · exact h.freeCells
  · exact h

theorem Keeps.linkDown {l dest : Nat} (h : Keeps s t) : Keeps s (t.linkDown l dest) := by
  unfold State.linkDown
  extract_lets a x u v w y z rootlink p src rootlink' q rootlink''
  have hv : Keeps s v := h.setFld.wrapAdd.satAdd
  clear_value v
  have hw : Keeps s w := by
    simp only [w]
    split
    · exact .ite hv.giveUp hv
    · exact hv
  clear_value w
  have hy : Keeps s y := by
    simp only [y]
    split
    · exact hw.freeFlits
    · exact hw
  clear_value y
  have hz : Keeps s z := hy.setLink
  have hp : Keeps s p := .keep hz
  clear_value p
  have hq : Keeps s q := .ite (.keep hp.setFld.setFld) hp
  clear_value q
  exact .ite h.setFld (.crossInc (.countLinks (.keep hq)))

theorem Keeps.linkFalls {l : Nat} (h : Keeps s t) : Keeps s (t.linkFalls l) :=
  .ite (h.foldl fun _ _ k => .ite k.laneLeaves k) ((h.foldl fun _ _ k => .ite k.laneLeaves k).linkDown.setFld)

theorem Keeps.dropReads {c p : Nat} (h : Keeps s t) : Keeps s (t.dropReads c p) := by
  unfold State.dropReads
  refine h.foldl fun _ _ k => k.foldl fun _ _ m => ?_
  extract_lets r
  have hr : Keeps s r.2 := by
    simp only [r]
    split
    · exact m
    · exact .iteSnd m.freeBool m
  clear_value r
  exact .ite (.ite hr.killLoads.portError hr) m

theorem Keeps.resetEndpoint (h : Keeps s t) : Keeps s t.resetEndpoint := h.resetIsland.keep

theorem Keeps.portDown {c p : Nat} (h : Keeps s t) : Keeps s (t.portDown c p) :=
  .ite h (.ite h.setFlag.setFld.setFld.wrapAdd.resetEndpoint h.setFlag.setFld.setFld.wrapAdd.dropReads)

theorem Keeps.laneDown {n dest : Nat} (h : Keeps s t) : Keeps s (t.laneDown n dest) := by
  unfold State.laneDown
  extract_lets u v port
  have hv : Keeps s v := by
    simp only [v]
    split
    · exact .ite (.ite h.laneLeaves.linkFalls h.laneLeaves) h.laneLeaves.linkDown
    · exact h.laneLeaves
  clear_value port v
  split
  · exact hv.portDown
  · exact hv

theorem Keeps.entryDown {c : Nat} (h : Keeps s t) : Keeps s (t.entryDown c) :=
  (h.foldl fun _ _ k => .ite k.laneDown k).foldl fun _ _ k => k.portDown

theorem Keeps.octetDown {o dest : Nat} (h : Keeps s t) : Keeps s (t.octetDown o dest) :=
  h.foldl fun _ _ k => k.laneDown

theorem Keeps.islandLinks {i : Nat} (h : Keeps s t) : Keeps s (t.islandLinks i) :=
  .ite (h.foldl fun _ _ k => .ite k.laneDown k) (.ite h.entryDown (.ite (h.foldl fun _ _ k => .ite k.linkFalls k) h))

theorem Keeps.followRail {r : Nat} (h : Keeps s t) : Keeps s (t.followRail r) := h.setFld
theorem Keeps.followRails (h : Keeps s t) : Keeps s t.followRails := h.foldl fun _ _ k => k.followRail
theorem Keeps.railStops {r : Nat} (h : Keeps s t) : Keeps s (t.railStops r) := .ite h.setFlag.setFld h

theorem Keeps.domainEffect {d : Nat} {on : Bool} (h : Keeps s t) : Keeps s (t.domainEffect d on) :=
  .ite h.setFlag (.ite h.setFlag (.ite h.setFlag h))

theorem Keeps.domainOff {d : Nat} (h : Keeps s t) : Keeps s (t.domainOff d) := by
  unfold State.domainOff
  extract_lets a power u v w x y
  have hu : Keeps s u := .keep h.setDomState
  have hv : Keeps s v := .ite hu.octetDown hu
  clear_value v
  have hw : Keeps s w := hv.foldl fun _ _ k => (Keeps.ite k.islandLinks k).resetIsland
  clear_value w
  have hx : Keeps s x := by
    simp only [x]
    split
    · exact hw.railStops
    · exact hw
  clear_value x
  exact .ite h (Keeps.ite hx.resetClockless hx).domainEffect

theorem Keeps.allOffBut {keep : List Nat} (h : Keeps s t) : Keeps s (t.allOffBut keep) :=
  h.foldl fun _ _ k => .ite k k.domainOff

theorem Keeps.noStopCause {c : Nat} (h : Keeps s t) : Keeps s (t.noStopCause c) := h.foldl fun _ _ k => k.updGlade

theorem Keeps.haltGlade {c : Nat} {dest : RunState} (h : Keeps s t) : Keeps s (t.haltGlade c dest) :=
  .ite h (.ite h ((Keeps.ite h h.noStopCause).halt))

theorem Keeps.fenceGlade {c : Nat} (h : Keeps s t) : Keeps s (t.fenceGlade c) :=
  .ite h ((Keeps.ite h h.noStopCause).halt)

theorem Keeps.fenceGrove {g : Nat} (h : Keeps s t) : Keeps s (t.fenceGrove g) :=
  h.setFlag.foldl fun _ _ k => k.fenceGlade

theorem Keeps.setMode {m : Nat} (h : Keeps s t) : Keeps s (t.setMode m) := h.keep.tallyInc
theorem Keeps.dropQueued {r : Nat} (h : Keeps s t) : Keeps s (t.dropQueued r) := .ite h.keep h

theorem Keeps.chargeCommits (h : Keeps s t) : Keeps s t.chargeCommits :=
  h.foldl fun _ _ k => k.foldl fun _ _ m => m.setTxn.addCost

theorem Keeps.shutDown (h : Keeps s t) : Keeps s t.shutDown :=
  (h.foldl fun _ _ k => .ite k k.haltOne).haltOne.allOffBut.keep

theorem Keeps.abandonRegrow (h : Keeps s t) : Keeps s t.abandonRegrow := by
  unfold State.abandonRegrow
  split
  · exact h
  · exact h.keep

theorem Keeps.endPinTest (h : Keeps s t) : Keeps s t.endPinTest := .ite h h.keep
theorem Keeps.leaveService (h : Keeps s t) : Keeps s t.leaveService := .ite h h.setFlag.wr.endPinTest
theorem Keeps.lanesOff {o : Nat} (h : Keeps s t) : Keeps s (t.lanesOff o) := h.foldl fun _ _ k => .ite k k.laneDown

theorem Keeps.enterHoldup (h : Keeps s t) : Keeps s t.enterHoldup := by
  unfold State.enterHoldup
  extract_lets atOnce a b power c d src power' e f rootlink g rails octets blocks fenced v w jw
  have hc : Keeps s c := .keep h.leaveService.dropQueued.abandonRegrow
  have hd : Keeps s d := hc.setMode.setFlag.tallyInc
  clear_value d
  have he : Keeps s e := .ite (.keep hd.setFlag) hd
  clear_value e
  have hf : Keeps s f := .ite he.setFlag he
  have hg : Keeps s g := .keep hf
  clear_value g
  refine .ite hg.shutDown (.keep (Keeps.chargeCommits ?_))
  have hb : Keeps s blocks := (hg.followRails.foldl fun _ _ k => .ite k.lanesOff k.domainOff).foldl fun _ _ k =>
    .ite k k.domainOff
  clear_value blocks
  exact .ite ((hb.foldl fun _ _ k => k.haltGlade).foldl fun _ _ k => .ite k k.domainOff.domainOff) hb

theorem Keeps.holdupNow {c : Nat} (h : Keeps s t) : Keeps s (t.holdupNow c) :=
  .ite h.setFld (.ite ((Keeps.ite h.setFld.allOffBut h.setFld.allOffBut.setFld).keep) (.ite (.ite ((h.setFld.foldl fun
    _ _ k => .ite k.domainOff k).keep.enterHoldup) h.keep) h.setFld.enterHoldup))

theorem Keeps.driveSafe (h : Keeps s t) : Keeps s t.driveSafe := h.keep
theorem Keeps.writeSafeRecord (h : Keeps s t) : Keeps s t.writeSafeRecord := .ite h h.keep.updateRecord

theorem Keeps.safeBody (h : Keeps s t) : Keeps s t.safeBody := by
  unfold State.safeBody
  with_reducible exact (h.abandonRegrow.driveSafe.dropQueued.setMode.setFld.foldl fun _ _ k => k.fenceGrove).keep

theorem Keeps.enterSafe {source code grove addr info : Nat} (h : Keeps s t) :
    Keeps s (t.enterSafe source code grove addr info) :=
  .ite h (.ite (.ite h.keep.keep h.keep.safeBody) h.driveSafe)

theorem Keeps.noteFault {f : Finding} {r : Nat} (h : Keeps s t) : Keeps s (t.noteFault f r) := h.setFlag.wr

theorem Keeps.applyReaction {f : Finding} {r : Nat} (h : Keeps s t) : Keeps s (t.applyReaction f r) := by
  unfold State.applyReaction
  dsimp only
  split
  · refine .ite ((Keeps.ite h ?_).haltGlade) (.ite h ?_)
    · split
      · exact h.enterSafe
      · exact h.fenceGrove
      · exact h.fenceGlade
      · exact h
    · split
      · exact h.enterSafe
      · exact h.fenceGrove
      · exact h.fenceGlade
      · exact h
  · refine .ite h ?_
    split
    · exact h.enterSafe
    · exact h.fenceGrove
    · exact h.fenceGlade
    · exact h

theorem Keeps.heartwoodFault {f : Finding} (h : Keeps s t) : Keeps s (t.heartwoodFault f) :=
  .ite (.ite h.recordError h) ((Keeps.ite ((Keeps.ite h.noStopCause.haltOne h).recordError) (.ite h.recordError
    h)).noteFault.enterSafe)

theorem Keeps.react (h : Keeps s t) : Keeps s t.react := by
  unfold State.react
  extract_lets fs u heartwood v glades w strongest
  clear_value heartwood
  have hv : Keeps s v := by
    simp only [v]
    split
    · exact .heartwoodFault (.keep h)
    · exact .keep h
  have hw : Keeps s w := hv.foldl fun _ _ k => by
    split
    · exact .ite k k.tallyInc
    · exact k
  clear_value w strongest
  refine .ite h ?_
  split
  · exact hw
  · exact (Keeps.ite hw hw.noteFault).foldl fun _ _ k => .ite k.applyReaction k

theorem Keeps.pollShutdown (h : Keeps s t) : Keeps s t.pollShutdown :=
  .ite h (.ite (.ite h.writeSafeRecord.shutDown h) (.ite (.ite (((((h.foldl fun _ _ k =>
      k.domainOff.domainOff).domainOff.domainOff.foldl fun _ _ k => .ite k k.domainOff).foldl fun _ _ k => .ite k
      k.laneDown).foldl fun _ _ k => .ite k.setDomState k).writeSafeRecord.keep) h) (.ite h.writeSafeRecord h)))

/-! ### The time base, timers and clock monitors -/

theorem Keeps.timersPass {c c' : Nat} {once : Bool} (h : Keeps s t) : Keeps s (t.timersPass c c' once) :=
  h.foldl fun _ _ k => .ite k k.crossInc

theorem Keeps.setCount {c : Nat} (h : Keeps s t) : Keeps s (t.setCount c) := h.keep
theorem Keeps.advanceTime {n : Nat} (h : Keeps s t) : Keeps s (t.advanceTime n) := h.setCount.timersPass
theorem Keeps.tick (h : Keeps s t) : Keeps s t.tick := .ite h h.keep.advanceTime

theorem Keeps.timeStep {v : W64} (h : Keeps s t) : Keeps s (t.timeStep v) :=
  .ite h (.ite h.setCount.timersPass h.setCount)

theorem Keeps.timerPeriodDone {t' : Nat} (h : Keeps s t) : Keeps s (t.timerPeriodDone t') := .ite h h.advanceTime

theorem Keeps.clockFault {i code : Nat} (h : Keeps s t) : Keeps s (t.clockFault i code) :=
  .ite h.islandLinks.resetIsland.keep.recordError.crossInc.find h.islandLinks.resetIsland.keep.recordError

theorem Keeps.monitorWindow {i : Nat} {w0 w1 : ClockWindow} {reference : Bool} (h : Keeps s t) :
    Keeps s (t.monitorWindow i w0 w1 reference) := by
  unfold State.monitorWindow
  refine .ite h (.ite (.ite h.keep.clockFault h.keep) (.ite h.keep ?_))
  dsimp only
  split
  · exact h.keep.setFld.setFld.clockFault
  · exact h.keep.setFld.setFld.foldl fun _ _ k => k.keep

theorem Keeps.relock {i : Nat} {clean : Bool} (h : Keeps s t) : Keeps s (t.relock i clean) :=
  .ite h (.ite (.ite h.setFld.releaseIsland h.setFld) h.setFlag.recordError)

theorem Keeps.sideRelease {i : Nat} (h : Keeps s t) : Keeps s (t.sideRelease i) := .ite h h.releaseIsland

/-! ### Wakes -/

theorem Keeps.wakeDomain {d : Nat} (h : Keeps s t) : Keeps s (t.wakeDomain d) := .ite h h.keep

theorem Keeps.startWake {cause target : Nat} (h : Keeps s t) : Keeps s (t.startWake cause target) :=
  h.keep.foldl fun _ _ k => .ite k.wakeDomain k

theorem Keeps.wakeNow {cause target : Nat} (h : Keeps s t) : Keeps s (t.wakeNow cause target) :=
  .ite (.ite h.keep h) (.ite h.startWake h)

theorem Keeps.emptyQueues {g : Nat} (h : Keeps s t) : Keeps s (t.emptyQueues g) := by
  unfold State.emptyQueues
  refine (h.foldl fun _ _ k => k.updDesc).keep.foldl fun _ _ k => ?_
  dsimp only
  split
  · exact .ite ((Keeps.ite k k.updAsync).setTxn) (.ite k k.updAsync)
  · exact .ite k k.updAsync

theorem Keeps.freshGlade {i : Nat} {run : RunState} (h : Keeps s t) : Keeps s (t.freshGlade i run) := h.keep
theorem Keeps.freshTxu {g : Nat} (h : Keeps s t) : Keeps s (t.freshTxu g) := h.setTxu

theorem Keeps.loseTxn {i : Nat} (h : Keeps s t) : Keeps s (t.loseTxn i) := by
  unfold State.loseTxn
  dsimp only
  split
  · exact .ite h.interruptTxn.abortTxn h.interruptTxn
  · exact h.interruptTxn

theorem Keeps.loseGlades {g : Nat} {run : RunState} (h : Keeps s t) : Keeps s (t.loseGlades g run) :=
  (h.foldl fun _ _ k => k.discardOpen.loseTxn.freshGlade).freshTxu

theorem Keeps.loseMemories {g : Nat} (h : Keeps s t) : Keeps s (t.loseMemories g) := h.clearGrove.emptyQueues
theorem Keeps.loseHeartwood (h : Keeps s t) : Keeps s t.loseHeartwood := h.bulkClear.keep

theorem Keeps.resetOctet {o : Nat} (h : Keeps s t) : Keeps s (t.resetOctet o) :=
  .ite ((h.foldl fun _ _ k => k.resetRegs.setFld).resetRegs.resetRegs) (h.foldl fun _ _ k => k.resetRegs.setFld)

theorem Keeps.resetEngine {e : Nat} (h : Keeps s t) : Keeps s (t.resetEngine e) := .ite h.keep.keep h.keep
theorem Keeps.resetGroveL {g : Nat} (h : Keeps s t) : Keeps s (t.resetGroveL g) := h.resetRegs
theorem Keeps.resetGroveM {g : Nat} (h : Keeps s t) : Keeps s (t.resetGroveM g) := h.resetRegs.wr

theorem Keeps.restart {d : Nat} (h : Keeps s t) : Keeps s (t.restart d) :=
  .ite h (.ite h.keep.loseHeartwood (.ite h.keep.resetGroveL.loseGlades (.ite h.keep.resetGroveM.loseMemories (.ite
    h.keep.clearIsland (.ite h.keep.resetOctet (.ite h.keep.clearIsland (.ite (h.keep.foldl fun _ _ k => .ite
    k.resetRegs.setFld k) (.ite h.keep.clearIsland (.ite h.keep.resetEngine (.ite h.keep.keep (.ite h.keep.clearIsland
    h.keep)))))))))))

/-! ### The Tally controller and the GPIO inputs -/

theorem Keeps.tallySub {k n : Nat} (h : Keeps s t) : Keeps s (t.tallySub k n) := .ite h h.setFld
theorem Keeps.tallyRaise {v : W64} (h : Keeps s t) : Keeps s (t.tallyRaise v) := .ite h.tallyInc h.setFlag

theorem Keeps.routeWrite {k : Nat} {v : W64} (h : Keeps s t) : Keeps s (t.routeWrite k v) := by
  unfold State.routeWrite
  refine .ite h (.ite h.setFlag ?_)
  dsimp only
  split
  · exact .ite h.wr.fixGroup h.wr
  · exact h.wr

theorem Keeps.wakeGlade {i : Nat} (h : Keeps s t) : Keeps s (t.wakeGlade i) :=
  (h.foldl fun _ _ k => k.updGlade).groveWakes

theorem Keeps.deliverTally {k : Nat} (h : Keeps s t) : Keeps s (t.deliverTally k) :=
  .ite h (.ite h (.ite h.wakeNow (.ite ((h.foldl fun _ _ k => k.wakeGlade).wakeNow) (h.foldl fun _ _ k =>
      k.wakeGlade))))

theorem Keeps.setSamples {n pend active : Nat} (h : Keeps s t) : Keeps s (t.setSamples n pend active) := h.keep
theorem Keeps.gpioStuck {n : Nat} (h : Keeps s t) : Keeps s (t.gpioStuck n) := .ite h h.keep.crossInc
theorem Keeps.gpioCounted {n : Nat} (h : Keeps s t) : Keeps s (t.gpioCounted n) := .ite h.crossInc.wakeNow h.crossInc

theorem Keeps.gpioLevel {n : Nat} {active : Bool} (h : Keeps s t) : Keeps s (t.gpioLevel n active) :=
  .ite ((Keeps.ite h.gpioStuck.setFlag h.gpioStuck.keep).gpioCounted) (.ite h.gpioStuck.setFlag h.gpioStuck.keep)

theorem Keeps.gpioRun {n : Nat} {r : PinRun} (h : Keeps s t) : Keeps s (t.gpioRun n r) :=
  .ite h (.ite h.setSamples (.ite h.setSamples h.setSamples.gpioLevel.setSamples))

theorem Keeps.gpiWrite {n : Nat} {v : W64} (h : Keeps s t) : Keeps s (t.gpiWrite n v) := h.gpioStuck.setSamples.wr

/-! ### Power modes -/

theorem Keeps.beginEntry {m : Nat} (h : Keeps s t) : Keeps s (t.beginEntry m) := .ite h.keep.setFlag h.keep

theorem Keeps.takeUp {m : Nat} (h : Keeps s t) : Keeps s (t.takeUp m) :=
  .ite h.setFld (.ite h.setFld (.ite h.keep h.beginEntry))

theorem Keeps.requestMode {m : Nat} (h : Keeps s t) : Keeps s (t.requestMode m) :=
  .ite ((Keeps.ite h.setFld.setFlag.setFld h.setFld.setFlag).setFlag.setFld) ((Keeps.ite h.keep
    h.setFld.setFlag).takeUp)

theorem Keeps.idleEntry (h : Keeps s t) : Keeps s t.idleEntry := .ite h.beginEntry h
theorem Keeps.unholdGlades (h : Keeps s t) : Keeps s t.unholdGlades := h.keep

theorem Keeps.sleep (h : Keeps s t) : Keeps s t.sleep :=
  ((Keeps.ite h.keep.stopControllers h.keep).foldl fun _ _ k => .ite k (.ite (.ite k k.domainOff) (.ite ((Keeps.ite
    k.octetDown k).setDomState) k.domainOff))).foldl fun _ _ k => .ite k.setFlag.setFld k.setFlag.setFld

theorem Keeps.selfRefresh (h : Keeps s t) : Keeps s t.selfRefresh := h.foldl fun _ _ k => .ite k.setDomState k
theorem Keeps.idleLanes (h : Keeps s t) : Keeps s t.idleLanes := h.foldl fun _ _ k => .ite k.laneDown k

theorem Keeps.policyOff {d : Nat} (h : Keeps s t) : Keeps s (t.policyOff d) := by
  unfold State.policyOff
  refine (?_ : Keeps _ _).domainOff
  split
  · exact (Keeps.ite h.fenceGrove h).keep
  · exact h.keep

theorem Keeps.dropUnwanted (h : Keeps s t) : Keeps s t.dropUnwanted := h.foldl fun _ _ k => .ite k k.policyOff

theorem Keeps.domainPolicy {lean : Bool} (h : Keeps s t) : Keeps s (t.domainPolicy lean) :=
  h.foldl fun _ _ k => .ite (.ite k.wakeDomain k) k.policyOff

theorem Keeps.entered {m : Nat} (h : Keeps s t) : Keeps s (t.entered m) := by
  unfold State.entered
  split
  · exact h.followRails.domainPolicy
  · exact h.followRails.domainPolicy
  · exact h.domainPolicy
  · exact h.followRails.selfRefresh.idleLanes
  · exact h.sleep
  · exact h.sleep.keep
  · exact h

theorem Keeps.pollIdle (h : Keeps s t) : Keeps s t.pollIdle := .ite h.setMode.domainPolicy h

theorem Keeps.woken {m slept : Nat} (h : Keeps s t) : Keeps s (t.woken m slept) := by
  unfold State.woken
  extract_lets old a b c d e f
  have hb : Keeps s b := .ite h.setMode.followRails.dropUnwanted h.setMode.followRails
  clear_value b
  have hc : Keeps s c := .ite hb.selfRefresh.idleLanes hb
  clear_value c
  have he : Keeps s e := .ite hc.unholdGlades.releaseHeld.crossInc hc.unholdGlades.releaseHeld
  clear_value e
  exact .ite hc (he.foldl fun _ _ k => k.setFlag).setCount.setFlag

theorem Keeps.enterService {auth : Bool} {slot : Nat} (h : Keeps s t) : Keeps s (t.enterService auth slot) :=
  h.dropQueued.setMode.keep.wr

theorem Keeps.takeService (h : Keeps s t) : Keeps s t.takeService := by
  unfold State.takeService
  split
  · exact h
  · exact .ite h.keep.enterService h.keep

theorem Keeps.afterTransition (h : Keeps s t) : Keeps s t.afterTransition := by
  unfold State.afterTransition
  extract_lets a power u power' v w m
  have hv : Keeps s v := by
    simp only [v]
    split
    · exact .wakeNow (.keep h.takeService)
    · exact h.takeService
  clear_value v
  exact .ite (.enterHoldup (.keep h)) (.ite (.takeService (.safeBody (.keep h))) (.ite h.takeService
    (.ite hv.pollIdle.setFlag.setFld.takeUp hv.pollIdle)))

theorem Keeps.transitionDone {slept : Nat} (h : Keeps s t) : Keeps s (t.transitionDone slept) :=
  .ite h (.ite (.ite h.woken.afterTransition h) h.setMode.setFld.entered.afterTransition)

theorem Keeps.islandUp {i : Nat} (h : Keeps s t) : Keeps s (t.islandUp i) := .ite h (.ite h.releaseIsland h.setFlag)
theorem Keeps.octetUp {o : Nat} (h : Keeps s t) : Keeps s (t.octetUp o) := h.foldl fun _ _ k => .ite k.setFld.setFld k
theorem Keeps.noteRetried {d : Nat} (h : Keeps s t) : Keeps s (t.noteRetried d) := .ite h h.recordError

theorem Keeps.domainWoken {d : Nat} (h : Keeps s t) : Keeps s (t.domainWoken d) :=
  h.setDomState.wrapAdd.noteRetried.domainEffect

theorem Keeps.octetReady {o : Nat} (h : Keeps s t) : Keeps s (t.octetReady o) :=
  .ite ((h.restart.foldl fun _ _ k => k.islandUp).octetUp) ((h.restart.foldl fun _ _ k =>
      k.islandUp).octetUp.domainWoken)

theorem Keeps.domainReady {d : Nat} (h : Keeps s t) : Keeps s (t.domainReady d) := by
  unfold State.domainReady
  extract_lets u v w x
  have hu : Keeps s u := h.restart.domainWoken
  clear_value u
  have hv : Keeps s v := by
    simp only [v]
    split
    · exact (Keeps.ite hu.setFlag hu.groveWakes).followRail
    · exact .ite hu.setFlag.followRail hu
  clear_value v
  have hw : Keeps s w := hv.foldl fun _ _ k => k.islandUp
  clear_value w
  have hx : Keeps s x := .ite hw.releaseClockless hw
  clear_value x
  exact .ite h (.ite (.ite h h.octetReady) (.ite (hx.foldl fun _ _ k => .ite k.setFld k) hx))

theorem Keeps.samplerFailed {periods : Nat} (h : Keeps s t) : Keeps s (t.samplerFailed periods) :=
  .ite h h.writeLookout.wakeNow

theorem Keeps.domainFailed {d periods : Nat} (h : Keeps s t) : Keeps s (t.domainFailed d periods) := by
  unfold State.domainFailed
  extract_lets g u info v w x y
  have k : Keeps s y := h.domainOff.setFlag.recordError.tallyInc.writeLastFault.find
  clear_value y g
  split
  · exact k.fenceGrove.setFlag
  · exact .ite k.enterSafe (.ite (k.foldl fun _ _ k => .ite k k.setFld) (.ite (k.foldl fun _ _ k => .ite k.laneDown k)
      (.ite (k.foldl fun _ _ k => k.failJournal) (.ite k.samplerFailed k))))

theorem Keeps.stepTimeout {d periods : Nat} (h : Keeps s t) : Keeps s (t.stepTimeout d periods) :=
  .ite (.ite h.wakeDomain h) (.ite ((Keeps.ite h.wakeDomain h).domainOff.keep) ((Keeps.ite h.wakeDomain
    h).domainFailed))

theorem Keeps.wakeRetry {d : Nat} (h : Keeps s t) : Keeps s (t.wakeRetry d) := .ite h h.keep.setFld.setDomState
theorem Keeps.gpioWake {n : Nat} (h : Keeps s t) : Keeps s (t.gpioWake n) := .ite h (.ite h.wakeNow h)
theorem Keeps.laneWake {n : Nat} (h : Keeps s t) : Keeps s (t.laneWake n) := .ite h.setFlag.wakeNow h
theorem Keeps.rcTimeout (h : Keeps s t) : Keeps s t.rcTimeout := .ite h.setFlag.tallyInc h

theorem Keeps.domWrite {d : Nat} {v : W64} (h : Keeps s t) : Keeps s (t.domWrite d v) :=
  .ite h.setFlag (.ite (.ite ((Keeps.ite h.setFld.setFlag h.setFld).setFlag) (.ite h.setFld.setFlag h.setFld)) (.ite
    (.ite (.ite ((Keeps.ite h.setFld.setFlag h.setFld).setFlag) (.ite h.setFld.setFlag h.setFld)) ((Keeps.ite
    ((Keeps.ite h.setFld.setFlag h.setFld).setFlag) (.ite h.setFld.setFlag h.setFld)).wakeDomain)) ((Keeps.ite
    ((Keeps.ite h.setFld.setFlag h.setFld).setFlag) (.ite h.setFld.setFlag h.setFld)).policyOff)))

theorem Keeps.railWrite {r : Nat} {v : W64} (h : Keeps s t) : Keeps s (t.railWrite r v) :=
  .ite h.setFlag (.ite h.setFld h.setFld.followRail)

theorem Keeps.leanWrite {v : W64} (h : Keeps s t) : Keeps s (t.leanWrite v) :=
  .ite h.setFlag (.ite h.setFld.setFld.followRails.domainPolicy h.setFld.setFld)

theorem Keeps.currentLimit {r mv : Nat} (h : Keeps s t) : Keeps s (t.currentLimit r mv) := .ite h h.setFlag.setFld
theorem Keeps.groveClearing {g : Nat} (h : Keeps s t) : Keeps s (t.groveClearing g) := .ite h.setFlag.setDomState h

theorem Keeps.groveBrownout {g : Nat} (h : Keeps s t) : Keeps s (t.groveBrownout g) :=
  .ite h h.setFlag.setFlag.satAdd.tallyInc.recordError.resetGroveL.resetGroveM.loseGlades.loseMemories

theorem Keeps.lookoutTaken {r : LookoutReading} (h : Keeps s t) : Keeps s (t.lookoutTaken r) :=
  .ite h.keep (.ite h.keep.writeLookout.wakeNow h.keep.writeLookout)

theorem Keeps.lookoutSample {r : LookoutReading} (h : Keeps s t) : Keeps s (t.lookoutSample r) :=
  .ite h (.ite ((Keeps.ite h.wakeDomain h).domainReady) (.ite ((Keeps.ite h.wakeDomain h).domainReady.lookoutTaken)
    ((Keeps.ite h.wakeDomain h).domainReady.lookoutTaken.domainOff)))

theorem Keeps.releaseHoldupN {code : Nat} (h : Keeps s t) : Keeps s (t.releaseHoldupN code) :=
  .ite h.keep.setFlag h.keep

theorem Keeps.vsenseSample {code : Nat} (h : Keeps s t) : Keeps s (t.vsenseSample code) :=
  .ite h (.ite h.keep.releaseHoldupN.holdupNow h.keep.releaseHoldupN)

theorem Keeps.holdupLow (h : Keeps s t) : Keeps s t.holdupLow := h.keep.holdupNow

theorem Keeps.markLasting {kind addr : Nat} (h : Keeps s t) : Keeps s (t.markLasting kind addr) := by
  unfold State.markLasting
  split
  · exact h.setFlag
  · exact h

theorem Keeps.supplyOut {k : Nat} (h : Keeps s t) : Keeps s (t.supplyOut k) :=
  .ite h (.ite h.keep.recordError h.keep.recordError.crossInc.find)

theorem Keeps.supplyReturn {k : Nat} (h : Keeps s t) : Keeps s (t.supplyReturn k) :=
  .ite h (.ite h.keep h.keep.setFlag)

theorem Keeps.supplyTimeout {k : Nat} (h : Keeps s t) : Keeps s (t.supplyTimeout k) := .ite h.markLasting h

theorem Keeps.tempSample {t' : BitVec 16} (h : Keeps s t) : Keeps s (t.tempSample t') := by
  unfold State.tempSample
  with_reducible exact .ite ((Keeps.ite h.setFld.setFld h.setFld).keep.keep) (.ite (((Keeps.ite h.setFld.setFld
      h.setFld).keep.keep.foldl fun _ _ k => k.markLasting).keep) (((Keeps.ite h.setFld.setFld
      h.setFld).keep.keep.foldl fun _ _ k => k.markLasting).keep.recordError.keep.crossInc.find))

end Sys2Proof.Machine
end

section
/-! PROOF. Memory's canonical form is kept: lanes, ports and Rootlink. -/

namespace Sys2Proof.Machine

variable {s t : State}

/-! ### Lanes, root ports and the endpoint -/

theorem Keeps.linkTrains {e : List Byte} (h : Keeps s t) : Keeps s (t.linkTrains e) :=
  .ite h.setFld.setFld h.setFld.setFld.setFld

theorem Keeps.pllLock {o : Nat} (h : Keeps s t) : Keeps s (t.pllLock o) :=
  .ite h (((Keeps.ite h.domainWoken h).foldl fun _ _ k => .ite k.setFld k).foldl fun _ _ k => k.linkTrains)

theorem Keeps.laneUp {n : Nat} {t' : Trained} (h : Keeps s t) : Keeps s (t.laneUp n t') := by
  unfold State.laneUp
  refine .ite h (.ite h.setFld.setFld.setFlag.crossInc (.ite h.setFld.setFld.setFlag.crossInc ?_))
  split
  · exact h
  · exact .ite h ((Keeps.ite h.setFld.setFld.setFlag.crossInc.setFld
      h.setFld.setFld.setFlag.crossInc).setFlag.setFld.setFld.setFlag)

theorem Keeps.endpointReset {linkLoss : Bool} (h : Keeps s t) : Keeps s (t.endpointReset linkLoss) :=
  .ite h.entryDown h.resetEndpoint

theorem Keeps.autoOff {o : Nat} (h : Keeps s t) : Keeps s (t.autoOff o) := .ite h.domainOff.keep h

theorem Keeps.laneLoss {n : Nat} (h : Keeps s t) : Keeps s (t.laneLoss n) := by
  unfold State.laneLoss
  refine .ite h ((Keeps.ite h.laneLeaves.portDown (.ite ?_ ?_)).autoOff)
  · split
    · exact h.laneLeaves.linkFalls
    · exact h.laneLeaves
  · split
    · exact h.laneLeaves.portDown
    · exact h.laneLeaves

theorem Keeps.msixSend {v : Nat} (h : Keeps s t) : Keeps s (t.msixSend v) := .ite h.keep h
theorem Keeps.inboundUr {c p : Nat} (h : Keeps s t) : Keeps s (t.inboundUr c p) := h.keep

theorem Keeps.inbound {c p : Nat} {r : InboundReq} (h : Keeps s t) : Keeps s (t.inbound c p r) := by
  cases r with
  | write a d =>
    refine .ite h (.ite h.keep (.ite ?_ h.inboundUr))
    extract_lets g
    split
    · exact h.recordRefusal
    · exact h.writeMem
  | read a n =>
    refine .ite h (.ite ?_ h.inboundUr)
    extract_lets g
    have read : Keeps s (t.readMem .jw g n).1 := h.readMem
    generalize t.engineRefuses g n = x, t.readMem .jw g n = q at read ⊢
    cases x with
    | some e => exact h.recordRefusal.keep
    | none =>
      obtain ⟨u, _ | _⟩ := q
      · exact read.keep
      · exact read.keep
  | other => exact h.inboundUr

/-! ### The low-speed ports and JTAG -/

theorem Keeps.storeFlash {ws : List (Nat × Byte)} (h : Keeps s t) : Keeps s (t.storeFlash ws) := h.keep

theorem Keeps.putData {base : Nat} {bs : List Byte} (h : Keeps s t) : Keeps s (t.putData base bs) :=
  h.foldl fun _ _ k => k.setFld

theorem Keeps.xspiCmd {v : W64} {r : FlashReply} (h : Keeps s t) : Keeps s (t.xspiCmd v r) := by
  unfold State.xspiCmd
  with_reducible exact .ite h.setFld (.ite ((Keeps.ite h.setFld.setFlag.keep.storeFlash
      h.setFld.setFlag.keep.storeFlash.putData).setFld) ((Keeps.ite h.setFld.setFlag.keep.storeFlash
      h.setFld.setFlag.keep.storeFlash.putData).setFlag.keep))

theorem Keeps.pollFlash (h : Keeps s t) : Keeps s t.pollFlash := .ite h.keep h
theorem Keeps.xspiTimeout (h : Keeps s t) : Keeps s t.xspiTimeout := .ite h.setFlag.setFld h

theorem Keeps.i2cTransfer {v : W64} {result : Nat} {bytes : List Byte} (h : Keeps s t) :
    Keeps s (t.i2cTransfer v result bytes) :=
  .ite h.wr ((Keeps.ite h.keep.putData h.keep).setFld)

theorem Keeps.uartTx {b : Byte} (h : Keeps s t) : Keeps s (t.uartTx b) := .ite h.keep h

theorem Keeps.uartSent (h : Keeps s t) : Keeps s t.uartSent := by
  unfold State.uartSent
  split
  · exact .ite h.keep h
  · exact h

theorem Keeps.uartReceive {b : Byte} {framing : Bool} (h : Keeps s t) : Keeps s (t.uartReceive b framing) :=
  .ite h (.ite h.keep h.keep)

theorem Keeps.uartRead (h : Keeps s t) : Keeps s t.uartRead := h.keep

theorem Keeps.ssoWrite {who : Option Nat} {v : W64} (h : Keeps s t) : Keeps s (t.ssoWrite who v) := by
  unfold State.ssoWrite
  dsimp only
  split
  · exact h.setFld.setFld
  · exact h.foldl fun _ _ k => .ite k.setFlag k

theorem Keeps.jtagSelect {code pins : Nat} (h : Keeps s t) : Keeps s (t.jtagSelect code pins) := h.keep

theorem Keeps.jtagPinTest {code pins : Nat} (h : Keeps s t) : Keeps s (t.jtagPinTest code pins) :=
  .ite h.jtagSelect h.jtagSelect

theorem Keeps.svcChal (h : Keeps s t) : Keeps s t.svcChal := h.freeWord.freeWord.freeWord.freeWord.keep

theorem Keeps.grantService {auth : Bool} {slot : Nat} (h : Keeps s t) : Keeps s (t.grantService auth slot) :=
  .ite h.keep h.enterService

theorem Keeps.svcEnter {r : SvcRequest} (h : Keeps s t) : Keeps s (t.svcEnter r) := by
  unfold State.svcEnter
  refine .ite h.keep (.ite h.keep (.ite h.keep.grantService ?_))
  split
  · exact .ite h.keep.grantService h.keep.setFld
  · exact h.keep.setFld

/-! ### Ethernet -/

theorem Keeps.writeWords {q n : Nat} {cells : List Nat} {ws : List W64} (h : Keeps s t) :
    Written.Kept s (t.writeWords q cells n ws) := by
  induction ws generalizing t cells n with
  | nil => exact h
  | cons w ws ih =>
    unfold State.writeWords
    split
    next e => exact ih (h.appendWord.of_eq e)
    next => exact h.freeCells
    next e => exact h.appendWord.of_eq e

theorem Keeps.qmDrop {k : Nat} (h : Keeps s t) : Keeps s (t.qmDrop k) := h.satAdd

theorem Keeps.linkIngress {q src len : Nat} {cells : List Nat} (h : Keeps s t) :
    Keeps s (t.linkIngress q src len cells) := by
  unfold State.linkIngress
  refine .ite h.freeCells.qmDrop ?_
  split
  next e => exact h.linkPacket.of_eq e
  next e => exact (h.linkPacket.of_eq e).qmDrop

theorem Keeps.enqueue {q src : Nat} {words : List W64} (h : Keeps s t) : Keeps s (t.enqueue q src words) := by
  unfold State.enqueue
  split
  next e => exact (h.writeWords.of_eq e).linkIngress
  next e => exact (h.writeWords.of_eq e).qmDrop
  next e => exact (h.writeWords.of_eq e).qmDrop

theorem Keeps.classify {n part : Nat} {key : Option Nat} (h : Keeps s t) : Keeps s (t.classify n part key).1 := by
  unfold State.classify
  dsimp only
  split
  · exact h
  · exact h
  · exact .iteFst h (.iteFst h.getDesc h.getDesc)

theorem Keeps.ingressRefused (h : Keeps s t) : Keeps s t.ingressRefused := by
  unfold State.ingressRefused
  exact h.freeWord.qmDrop.recordRefusal

theorem Keeps.macCount {l k : Nat} (h : Keeps s t) : Keeps s (t.macCount l k) := h.satAdd

theorem Keeps.frameLink {l : Nat} {f : List Byte} {time q i : Nat} (h : Keeps s t) :
    Keeps s (t.frameLink l f time q i) :=
  h.enqueue

theorem Keeps.frameIn {l : Nat} {f : List Byte} {time : Nat} (h : Keeps s t) : Keeps s (t.frameIn l f time) := by
  unfold State.frameIn
  split
  next e => exact (h.classify.of_eq e).qmDrop
  next e => exact (h.classify.of_eq e).ingressRefused
  next e => exact .ite ((h.classify.of_eq e).keep) ((h.classify.of_eq e).frameLink)

theorem Keeps.frameReceive {l : Nat} {f : List Byte} {check : Nat} {overrun : Bool} {ago : Nat} (h : Keeps s t) :
    Keeps s (t.frameReceive l f check overrun ago) := by
  unfold State.frameReceive
  refine .ite h ?_
  split
  · exact h.macCount
  · exact .ite h.qmDrop (.ite h.qmDrop h.frameIn)

theorem Keeps.packetWords {cells : List Nat} {n : Nat} (h : Keeps s t) : Keeps s (t.packetWords cells n).1 := by
  induction n with
  | zero => exact h.pair
  | succ n ih =>
    unfold State.packetWords
    dsimp only
    split
    next e => exact (ih.pktWord.of_eq e).pair
    next e => exact (ih.pktWord.of_eq e).freeWord.pair

theorem Keeps.egTake {kind : Bool} {port : Nat} (h : Keeps s t) : Keeps s (t.egTake kind port).1 := by
  unfold State.egTake
  dsimp only
  split
  · exact (Keeps.ite h h.freeWord.recordRefusal).foldl fun _ _ k => k.touchDesc
  · split
    next e1 => exact (((Keeps.ite h h.freeWord.recordRefusal).foldl fun _ _ m => m.touchDesc).keep.openHead.of_eq e1)
    next e1 => exact (((Keeps.ite h h.freeWord.recordRefusal).foldl fun _ _ m => m.touchDesc).keep.openHead.of_eq
        e1).packetWords.freeCells

theorem Keeps.txStamp {l : Nat} (h : Keeps s t) : Keeps s (t.txStamp l) := .ite h.macCount h.wr.crossInc

theorem Keeps.egressEth {l : Nat} (h : Keeps s t) : Keeps s (t.egressEth l) := by
  unfold State.egressEth
  refine .ite h ?_
  split
  next e => exact h.egTake.of_eq e
  next e => exact .ite ((h.egTake.of_eq e).qmDrop) (.ite ((h.egTake.of_eq e).keep.txStamp) ((h.egTake.of_eq e).keep))

/-! ### Rootlink -/

theorem Keeps.sendBlocks {l : Nat} {ws : List W64} (h : Keeps s t) : Keeps s (t.sendBlocks l ws) :=
  h.foldl fun _ _ k => k.keep

theorem Keeps.placeFlit {l fseq : Nat} {f : OutFlit} (h : Keeps s t) : Keeps s (t.placeFlit l fseq f) :=
  h.keep.sendBlocks

theorem Keeps.sendFlit {l fseq : Nat} {f : OutFlit} (h : Keeps s t) : Keeps s (t.sendFlit l fseq f) := by
  unfold State.sendFlit
  exact (Keeps.ite h.placeFlit.updLink h).placeFlit.updLink

theorem Keeps.pumpOne {l : Nat} (h : Keeps s t) : EverySome (Keeps s) (t.pumpOne l) := by
  unfold State.pumpOne
  dsimp only
  split
  · exact trivial
  · split
    · exact h.setLink.sendFlit
    next x _ _ _ _ =>
      split
      · split
        · refine .map (P := fun x => Keeps s x) ?_ fun x k => ?_
          · exact h.setLink.sendFlit
          · exact k.freeFlits
        · exact h.setLink.sendFlit
      · exact trivial
    · exact trivial

theorem Keeps.pumpLink {l : Nat} (h : Keeps s t) : Keeps s (t.pumpLink l) := by
  unfold State.pumpLink
  refine h.iter fun _ k => ?_
  split
  next e => exact (k.pumpOne.of_eq e)
  · exact k

theorem Keeps.queueCtrl {l : Nat} {f : OutFlit} (h : Keeps s t) : Keeps s (t.queueCtrl l f) :=
  .ite h.updLink.pumpLink h

theorem Keeps.sendNak {l : Nat} (h : Keeps s t) : Keeps s (t.sendNak l) := h.sendFlit

theorem Keeps.lastingFailure {l : Nat} (h : Keeps s t) : Keeps s (t.lastingFailure l) :=
  (Keeps.ite h.satAdd.recordError.crossInc.find h.satAdd.recordError).linkFalls

theorem Keeps.flitFail {l : Nat} (h : Keeps s t) : Keeps s (t.flitFail l) := .ite h.lastingFailure h.updLink.sendNak
theorem Keeps.nakRepeat {l : Nat} (h : Keeps s t) : Keeps s (t.nakRepeat l) := .ite h.sendNak h
theorem Keeps.nakTimeout {l : Nat} (h : Keeps s t) : Keeps s (t.nakTimeout l) := .ite h.lastingFailure h

theorem Keeps.flitTaken {l : Nat} {f : Flit} {ty sub : Nat} (h : Keeps s t) : Keeps s (t.flitTaken l f ty sub).1 :=
  .iteFst h (.iteFst h.flitFail (.iteFst h (.iteFst h ((Keeps.ite h.satAdd h).setLink))))

theorem Keeps.flitIn {l : Nat} {f : Flit} {ty sub : Nat} (h : Keeps s t) : Keeps s (t.flitIn l f ty sub).1 := by
  unfold State.flitIn
  split
  next e => exact (h.flitTaken.of_eq e).pumpLink.pair
  · exact h.flitTaken

theorem Keeps.rtlIdle {l : Nat} {f : Flit} (h : Keeps s t) : Keeps s (t.rtlIdle l f) := h.flitIn

theorem Keeps.rtlNak {l : Nat} {f : Flit} (h : Keeps s t) : Keeps s (t.rtlNak l f) := by
  unfold State.rtlNak
  split
  next e => exact h.flitTaken.of_eq e
  next e => exact ((h.flitTaken.of_eq e).foldl fun _ _ k => k.sendFlit).pumpLink

theorem Keeps.sendTrain {l : Nat} {e : List Byte} (h : Keeps s t) : Keeps s (t.sendTrain l e) := by
  unfold State.sendTrain
  refine (?_ : Keeps _ _).foldl fun _ _ k => k.keep
  split
  · exact h.freeWord
  · exact h.freeWord.freeWord

theorem Keeps.sendTrains (h : Keeps s t) : Keeps s t.sendTrains := h.foldl fun _ _ k => .ite k.updLink.sendTrain k

theorem Keeps.train {l : Nat} {f : TrainFlit} (h : Keeps s t) : Keeps s (t.train l f) := by
  unfold State.train
  split
  · exact h
  · exact .ite h (.ite h.setFld (.ite h.updLink (.ite h.updLink.sendTrain
      ((h.updLink.setFld.setFld.setFld.setFld.setFld.foldl fun _ _ k =>
      k.setFld.setFld.setFlag).updLink.countLinks.crossInc))))

theorem Keeps.trainAgain {l : Nat} (h : Keeps s t) : Keeps s (t.trainAgain l) := by
  unfold State.trainAgain
  exact h.setFld.setFld.updLink

theorem Keeps.linkTrainTimeout {l : Nat} (h : Keeps s t) : Keeps s (t.linkTrainTimeout l) := .ite h.trainAgain h
theorem Keeps.linkMismatchRetry {l : Nat} (h : Keeps s t) : Keeps s (t.linkMismatchRetry l) := .ite h.trainAgain h
theorem Keeps.bootLinkAlternate (h : Keeps s t) : Keeps s t.bootLinkAlternate := .ite h h.setFld.setFld.setFld.updLink
theorem Keeps.ownData {l q : Nat} {ws : List W64} (h : Keeps s t) : Keeps s (t.ownData l q ws) := h.updLink.pumpLink

theorem Keeps.forwardFlit {k l : Nat} {f : RxFlit} (h : Keeps s t) : Keeps s (t.forwardFlit k l f) :=
  h.updLink.pumpLink

theorem Keeps.dropPacket {l : Nat} (h : Keeps s t) : Keeps s (t.dropPacket l) := h.satAdd

theorem Keeps.openIngress {l : Nat} {h' : W64} (h : Keeps s t) : Keeps s (t.openIngress l h').1 := by
  unfold State.openIngress
  dsimp only
  split
  next e => exact h.classify.of_eq e
  next e => exact h.classify.of_eq e
  next e => exact h.classify.of_eq e

theorem Keeps.putIngress {l n : Nat} {ws : List W64} {d : RxDest} (h : Keeps s t) :
    EverySome (fun x => Keeps s x.1) (t.putIngress l n ws d) := by
  unfold State.putIngress
  split
  · dsimp only
    split
    · exact trivial
    · split
      next e => exact (h.writeWords.of_eq e).pair
      next e =>
        split
        · exact (h.writeWords.of_eq e).qmDrop.pair
        · exact trivial
      next e => exact (h.writeWords.of_eq e).qmDrop.pair
  · exact h.pair

theorem Keeps.endIngress {l len : Nat} {d : RxDest} (h : Keeps s t) : Keeps s (t.endIngress l len d) := by
  unfold State.endIngress
  split
  · exact h.linkIngress
  · exact h.qmDrop
  · exact h.ingressRefused
  · exact h

theorem Keeps.setCur {l : Nat} {c : Option RxPkt} (h : Keeps s t) : Keeps s (t.setCur l c) := h.updLink
theorem Keeps.freeSlotOf {l : Nat} {f : RxFlit} (h : Keeps s t) : Keeps s (t.freeSlotOf l f) := .ite h.freeFlits h
theorem Keeps.dropFlit {l : Nat} {f : RxFlit} (h : Keeps s t) : Keeps s (t.dropFlit l f) := h.setCur.freeSlotOf

theorem Keeps.passFlit {l : Nat} {f : RxFlit} {c : RxPkt} (h : Keeps s t) :
    EverySome (Keeps s) (t.passFlit l f c) := by
  unfold State.passFlit
  dsimp only
  split
  · exact h.dropFlit
  · split
    · exact h.giveUp.dropPacket.dropFlit
    · split
      · exact trivial
      · exact h.putIngress.map fun _ k => .ite k.endIngress.setCur.freeSlotOf k.setCur.freeSlotOf
  · split
    · exact h.abandonOut.dropPacket.dropFlit
    · split
      · exact h.dropFlit
      · split
        · exact trivial
        · exact h.setCur.forwardFlit

theorem Keeps.passAnew {l : Nat} {f : RxFlit} {c : RxPkt} (h : Keeps s t) :
    EverySome (Keeps s) (t.passAnew l f c) := by
  unfold State.passAnew
  split
  · exact h.dropPacket.dropFlit
  · exact h.passFlit

theorem Keeps.cutShort {l : Nat} (h : Keeps s t) : Keeps s (t.cutShort l) := by
  unfold State.cutShort
  split
  · exact h
  · exact h.setCur
  · exact h.giveUp.dropPacket.setCur

theorem Keeps.beginPacket {l : Nat} {f : RxFlit} (h : Keeps s t) : Keeps s (t.beginPacket l f) := by
  unfold State.beginPacket
  dsimp only
  split
  · exact .ite ((Keeps.ite h.cutShort h).openIngress.setCur) (.ite h.cutShort h)
  · exact .ite h.cutShort h

theorem Keeps.passOne {l : Nat} (h : Keeps s t) : EverySome (Keeps s) (t.passOne l) := by
  unfold State.passOne
  split
  · exact trivial
  next x _ _ _ =>
    refine .map (P := fun x => Keeps s x) ?_ fun x k => ?_
    · split
      · exact h.passFlit
      · exact h.passAnew
    · exact k.updLink

theorem Keeps.passNext {l : Nat} (h : Keeps s t) : Keeps s (t.passNext l) := by
  unfold State.passNext
  split
  · exact h
  · exact h.beginPacket.passOne.getD h.beginPacket

theorem Keeps.passWaiting {l : Nat} (h : Keeps s t) : Keeps s (t.passWaiting l) := h.iter fun _ k => k.passNext

theorem Keeps.rtlData {l : Nat} {f : Flit} (h : Keeps s t) : Keeps s (t.rtlData l f) := by
  unfold State.rtlData
  split
  next e => exact h.flitIn.of_eq e
  next e => exact .ite ((h.flitIn.of_eq e).freeFlits) ((h.flitIn.of_eq e).updLink.passWaiting)

theorem Keeps.egressLink {l : Nat} (h : Keeps s t) : Keeps s (t.egressLink l) := by
  unfold State.egressLink
  split
  · exact h
  · refine .ite h ?_
    split
    next e1 => exact (h.egTake.of_eq e1)
    next e1 => exact .ite ((h.egTake.of_eq e1).qmDrop) ((h.egTake.of_eq e1).ownData)

theorem Keeps.mailPush {sub l : Nat} {words : List W64} (h : Keeps s t) : Keeps s (t.mailPush sub l words) :=
  .ite h.setFlag h.keep

theorem Keeps.mboxPop {v : W64} (h : Keeps s t) : Keeps s (t.mboxPop v) := .ite h.keep h

theorem Keeps.ctrlIn {l : Nat} {f : Flit} {sub : Nat} (h : Keeps s t) : Keeps s (t.ctrlIn l f sub).1 := by
  unfold State.ctrlIn
  split
  next e => exact h.flitIn.of_eq e
  next e =>
    refine .iteFst (.ite ((h.flitIn.of_eq e).freeFlits.setFld.setFlag) ((h.flitIn.of_eq e).freeFlits)) ?_
    split
    · exact .ite ((h.flitIn.of_eq e).freeFlits.setFld.setFlag) ((h.flitIn.of_eq e).freeFlits)
    · exact .ite (.ite ((h.flitIn.of_eq e).freeFlits.setFld.setFlag) ((h.flitIn.of_eq e).freeFlits)) ((Keeps.ite
        ((h.flitIn.of_eq e).freeFlits.setFld.setFlag) ((h.flitIn.of_eq e).freeFlits)).queueCtrl)
    · exact .ite ((h.flitIn.of_eq e).freeFlits.setFld.setFlag) ((h.flitIn.of_eq e).freeFlits)

theorem Keeps.rtlJoin {l : Nat} {f : Flit} (h : Keeps s t) : Keeps s (t.rtlJoin l f) := by
  unfold State.rtlJoin
  split
  next e => exact h.ctrlIn.of_eq e
  next e =>
    refine .ite (h.ctrlIn.of_eq e) (.ite ((h.ctrlIn.of_eq e).mailPush) ?_)
    split
    · exact (h.ctrlIn.of_eq e).queueCtrl
    · exact h.ctrlIn.of_eq e

theorem Keeps.setRoute {x l : Nat} (h : Keeps s t) : Keeps s (t.setRoute x l) := h.setFld.setFlag

theorem Keeps.isolate (h : Keeps s t) : Keeps s t.isolate := by
  unfold State.isolate
  refine .keep (.foldl (h.setFlag.crossInc.foldl fun _ _ k => k.freeFlits) fun _ _ k => ?_)
  split
  · exact k.giveUp
  · exact k

theorem Keeps.sendOffer (h : Keeps s t) : Keeps s t.sendOffer := by
  unfold State.sendOffer
  dsimp only
  split
  · exact .ite (.ite h.keep h) (.ite h h.keep.queueCtrl)
  · exact h

theorem Keeps.takeId {id len : Nat} (h : Keeps s t) : Keeps s (t.takeId id len) :=
  .ite (h.setFld.setFld.setFlag.foldl fun _ _ k => k.linkDown.linkFalls) h.setFld.setFld.setFlag

theorem Keeps.rtlAssign {l : Nat} {f : Flit} (h : Keeps s t) : Keeps s (t.rtlAssign l f) := by
  unfold State.rtlAssign
  split
  next e => exact h.ctrlIn.of_eq e
  next e =>
    refine .ite (h.ctrlIn.of_eq e) ?_
    split
    · exact .ite (h.ctrlIn.of_eq e) ((h.ctrlIn.of_eq e).takeId)
    · exact .ite ((h.ctrlIn.of_eq e).setRoute.queueCtrl) (.ite ((h.ctrlIn.of_eq e).isolate) (h.ctrlIn.of_eq e))

theorem Keeps.rtlMsg {l : Nat} {f : Flit} (h : Keeps s t) : Keeps s (t.rtlMsg l f) := by
  unfold State.rtlMsg
  refine .ite h ?_
  split
  next e => exact h.ctrlIn.of_eq e
  next e => exact .ite ((h.ctrlIn.of_eq e).mailPush) (h.ctrlIn.of_eq e)

theorem Keeps.toMailbox {l : Nat} {f : Flit} {sub : Nat} {ok : State → Bool} (h : Keeps s t) :
    Keeps s (t.toMailbox l f sub ok) := by
  unfold State.toMailbox
  split
  next e => exact h.ctrlIn.of_eq e
  next e => exact .ite ((h.ctrlIn.of_eq e).mailPush) (h.ctrlIn.of_eq e)

theorem Keeps.rtlBootData {l : Nat} {f : Flit} (h : Keeps s t) : Keeps s (t.rtlBootData l f) := by
  unfold State.rtlBootData
  split
  next e => exact h.ctrlIn.of_eq e
  next e => exact .ite (h.ctrlIn.of_eq e) (.ite ((h.ctrlIn.of_eq e).engineWrite) (.ite ((h.ctrlIn.of_eq
      e).engineWrite) (h.ctrlIn.of_eq e)))

theorem Keeps.joinSend (h : Keeps s t) : Keeps s t.joinSend := by
  unfold State.joinSend
  split
  · exact .ite h.queueCtrl h
  · exact h

theorem Keeps.bootReqSend (h : Keeps s t) : Keeps s t.bootReqSend := .ite h.queueCtrl h
theorem Keeps.timeSyncSend {l : Nat} (h : Keeps s t) : Keeps s (t.timeSyncSend l) := .ite h.sendFlit h

theorem Keeps.timeSync {l : Nat} {f : Flit} (h : Keeps s t) : Keeps s (t.timeSync l f) := by
  unfold State.timeSync
  split
  next e => exact h.flitIn.of_eq e
  next e => exact .ite (h.flitIn.of_eq e) ((h.flitIn.of_eq e).updLink.sendFlit)

theorem Keeps.timeReq {l : Nat} {f : Flit} (h : Keeps s t) : Keeps s (t.timeReq l f) := by
  unfold State.timeReq
  split
  next e => exact h.flitIn.of_eq e
  next e => exact .ite ((h.flitIn.of_eq e).sendFlit) (h.flitIn.of_eq e)

theorem Keeps.timeResp {l : Nat} {f : Flit} (h : Keeps s t) : Keeps s (t.timeResp l f) := by
  unfold State.timeResp
  split
  next e => exact h.flitIn.of_eq e
  next e =>
    split
    · exact .ite (h.flitIn.of_eq e) ((h.flitIn.of_eq e).wr.wr.wr.wr.wr.updLink)
    · exact h.flitIn.of_eq e

theorem Keeps.startCut {id : Nat} {links : List Nat} (h : Keeps s t) : Keeps s (t.startCut id links) := h.keep

theorem Keeps.pollBlaze (h : Keeps s t) : Keeps s t.pollBlaze := by
  unfold State.pollBlaze
  refine h.keep.foldl fun _ _ k => .ite k.setFld.setFld ?_
  split
  · exact k.queueCtrl
  · exact k

theorem Keeps.updRun {id : Nat} {f : BlazeRun → BlazeRun} (h : Keeps s t) : Keeps s (t.updRun id f) := h.keep

theorem Keeps.blazeFlit {l id : Nat} (h : Keeps s t) : Keeps s (t.blazeFlit l id) := by
  unfold State.blazeFlit
  refine .ite h.updRun ?_
  split
  · exact .ite h.keep (.ite h h.keep)
  · exact .ite h (.ite h.startCut h.setFlag)

theorem Keeps.rtlBlaze {l : Nat} {f : Flit} (h : Keeps s t) : Keeps s (t.rtlBlaze l f) := by
  unfold State.rtlBlaze
  split
  next e => exact h.flitIn.of_eq e
  next e => exact .ite ((h.flitIn.of_eq e).freeFlits) ((h.flitIn.of_eq e).freeFlits.blazeFlit)

theorem Keeps.releaseRootlink (h : Keeps s t) : Keeps s t.releaseRootlink := by
  unfold State.releaseRootlink
  dsimp only
  split
  · refine (?_ : Keeps _ _).foldl fun _ _ k => k.passWaiting.pumpLink
    split
    · with_reducible exact h
    · with_reducible exact h.keep.foldl fun _ _ k => k.frameLink
  · refine (?_ : Keeps _ _).foldl fun _ _ k => k.blazeFlit
    split
    · with_reducible exact (h.foldl fun _ _ k => k.passWaiting.pumpLink).keep
    · with_reducible exact ((h.keep.foldl fun _ _ k => k.frameLink).foldl fun _ _ k => k.passWaiting.pumpLink).keep

theorem Keeps.placeBlaze {id : Nat} (h : Keeps s t) : Keeps s (t.placeBlaze id).1 := by
  unfold State.placeBlaze
  refine h.foldlFst fun _ _ k => .iteFst ?_ ?_
  · exact k
  · split
    next e => exact .iteFst (k.append.of_eq e) ((k.append.of_eq e).issueFlush)
    next e => exact (k.append.of_eq e)

theorem Keeps.cutPoint (h : Keeps s t) : Keeps s t.cutPoint := by
  unfold State.cutPoint
  split
  · exact h
  · exact (Keeps.ite h.satAdd.placeBlaze.keep (h.satAdd.placeBlaze.keep.foldl fun _ _ k =>
      k.updLink.pumpLink)).releaseRootlink

theorem Keeps.blazeComplete (h : Keeps s t) : Keeps s t.blazeComplete := by
  unfold State.blazeComplete
  split
  · exact h
  · exact h.keep.tallyInc.updRun.pollBlaze

theorem Keeps.rtlBlazeDone {l : Nat} {f : Flit} (h : Keeps s t) : Keeps s (t.rtlBlazeDone l f) := by
  unfold State.rtlBlazeDone
  split
  next e => exact h.ctrlIn.of_eq e
  next e => exact (h.ctrlIn.of_eq e).updRun.pollBlaze

theorem Keeps.blazeTimeout (h : Keeps s t) : Keeps s t.blazeTimeout := by
  unfold State.blazeTimeout
  split
  · exact h
  · exact h.updRun.pollBlaze

theorem Keeps.blazeTrigger (h : Keeps s t) : Keeps s t.blazeTrigger := .ite h.setFlag h

theorem Keeps.blazeAsk (h : Keeps s t) : Keeps s t.blazeAsk := by
  unfold State.blazeAsk
  split
  · exact .ite h h.queueCtrl
  · exact h

theorem Keeps.rtlBlazeReq {l : Nat} {f : Flit} (h : Keeps s t) : Keeps s (t.rtlBlazeReq l f) := by
  unfold State.rtlBlazeReq
  split
  next e => exact h.ctrlIn.of_eq e
  next e => exact .ite ((h.ctrlIn.of_eq e).blazeTrigger) (.ite ((h.ctrlIn.of_eq e).blazeAsk) (h.ctrlIn.of_eq e))

theorem Keeps.blazePeriod (h : Keeps s t) : Keeps s t.blazePeriod := .ite h h.blazeTrigger

theorem Keeps.blazeEdge (h : Keeps s t) : Keeps s t.blazeEdge :=
  .ite h.keep (.ite h.keep.blazeTrigger (.ite h.keep h.keep.blazeAsk))

theorem Keeps.blazeInitiate (h : Keeps s t) : Keeps s t.blazeInitiate := .ite h (.ite h.keep.setFlag h.keep.startCut)

theorem Keeps.endCommand (h : Keeps s t) : Keeps s t.endCommand := by
  unfold State.endCommand
  split
  · exact h
  · exact .ite h.keep h

theorem Keeps.rtlCmd {v : W64} {op : Nat} {k : State → State × Nat × Option Nat} (h : Keeps s t)
    (hk : ∀ u, Keeps s u → Keeps s (k u).1) :
    Keeps s (t.rtlCmd v op k) := by
  unfold State.rtlCmd
  refine .ite h.wr ?_
  dsimp only
  split
  · exact .ite (hk _ h.wr).setFld (.keep (hk _ h.wr).setFld.setFld)
  · exact (hk _ h.wr).setFld

theorem Keeps.rtlSend {v : W64} {sub : Nat} {words : List W64} (h : Keeps s t) :
    Keeps s (t.rtlSend v sub words).1 := by
  unfold State.rtlSend
  refine .iteFst (.iteFst h.queueCtrl h) ?_
  split
  · exact h
  · exact h
  · exact .iteFst h.queueCtrl h

theorem Keeps.rtlAssignCmd {v : W64} (h : Keeps s t) : Keeps s (t.rtlAssignCmd v) := by
  unfold State.rtlAssignCmd
  with_reducible exact h.rtlCmd (fun _ k => .iteFst k.pair (.iteFst k.pair (.iteFst k.pair (.iteFst k.pair
      k.setRoute.queueCtrl.pair))))

theorem Keeps.blazeStartCmd {v : W64} (h : Keeps s t) : Keeps s (t.blazeStartCmd v) := by
  unfold State.blazeStartCmd
  with_reducible exact h.rtlCmd (fun _ k => .iteFst k.blazeTrigger.pair k.pair)

theorem Keeps.blazeRequestCmd {v : W64} (h : Keeps s t) : Keeps s (t.blazeRequestCmd v) := by
  unfold State.blazeRequestCmd
  refine h.rtlCmd (fun _ k => .iteFst k.pair ?_)
  dsimp only
  split
  · with_reducible exact .iteFst ((Keeps.ite k.keep k).blazeAsk.pair) ((Keeps.ite k.keep k).pair)
  · with_reducible exact (Keeps.ite k.keep k).pair

theorem Keeps.bootImage {a n : Nat} (h : Keeps s t) : Keeps s (t.bootImage a n).1 := by
  unfold State.bootImage
  split
  · exact h.recordRefusal.pair
  · exact .iteFst h.pair h.readMem

theorem Keeps.bootSendCmd {v : W64} (h : Keeps s t) : Keeps s (t.bootSendCmd v) := by
  unfold State.bootSendCmd
  refine h.rtlCmd (fun _ k => .iteFst k.pair (.iteFst k.pair (.iteFst k.pair ?_)))
  split
  next e => with_reducible exact (k.bootImage.of_eq e).pair
  next e => with_reducible exact (k.bootImage.of_eq e).updLink.pumpLink.pair

theorem Keeps.bootEndCmd {v : W64} (h : Keeps s t) : Keeps s (t.bootEndCmd v) := by
  unfold State.bootEndCmd
  with_reducible exact h.rtlCmd (fun _ k => .iteFst k.queueCtrl.pair k.pair)

theorem Keeps.negSetCmd {v : W64} (h : Keeps s t) : Keeps s (t.negSetCmd v) := by
  unfold State.negSetCmd
  with_reducible exact h.rtlCmd (fun _ k => .iteFst k.pair k.rtlSend)

theorem Keeps.msgCmd {v : W64} (h : Keeps s t) : Keeps s (t.msgCmd v) := by
  unfold State.msgCmd
  with_reducible exact h.rtlCmd (fun _ k => k.rtlSend)

theorem Keeps.rtlBadOp {v : W64} (h : Keeps s t) : Keeps s (t.rtlBadOp v) := by
  unfold State.rtlBadOp
  with_reducible exact .ite h (h.rtlCmd (fun _ k => k.pair))

end Sys2Proof.Machine
end

section
/-! PROOF. Memory's canonical form is kept: boot and the control registers. -/

namespace Sys2Proof.Machine

variable {s t : State}

/-! ### Starting, stopping and viewing Glades -/

theorem Keeps.pairBegins {i : Nat} (h : Keeps s t) : Keeps s (t.pairBegins i) := by
  unfold State.pairBegins
  split
  · exact h.keep
  · exact h

theorem Keeps.gladeStart {i : Nat} (h : Keeps s t) : Keeps s (t.gladeStart i) :=
  .ite h ((h.foldl fun _ _ k => k.updGlade).pairBegins)

theorem Keeps.gctlStop {i : Nat} (h : Keeps s t) : Keeps s (t.gctlStop i) :=
  .ite h.setFlag h.setFlag.haltGlade.recordError.tallyInc.find

theorem Keeps.gctlStart {i : Nat} (h : Keeps s t) : Keeps s (t.gctlStart i) :=
  .ite h ((h.setFlag.foldl fun _ _ k => k.updGlade).pairBegins)

theorem Keeps.viewWrite {i r : Nat} {v : W64} (h : Keeps s t) : Keeps s (t.viewWrite i r v) := .ite h.updGlade h

theorem Keeps.gviewAccess {r : Requester} {i n : Nat} {w : Option W64} (h : Keeps s t) :
    Keeps s (t.gviewAccess r i n w) := by
  unfold State.gviewAccess
  refine .ite h.recordRefusal.keep ?_
  split
  · exact h.viewWrite
  · exact h.keep

theorem Keeps.reachTime {t' : Nat} (h : Keeps s t) : Keeps s (t.reachTime t') := .ite h.advanceTime h

theorem Keeps.gladeWatchdog {i : Nat} (h : Keeps s t) : Keeps s (t.gladeWatchdog i) := by
  unfold State.gladeWatchdog
  extract_lets j g x a b now u second v info w asleep y
  have k : Keeps s u := h.reachTime.wrapAdd.tallyInc.updGlade
  clear_value u
  exact .ite h (.ite (.ite k.stopFor.find k.stopFor) (.ite k.recordError.find
    (.ite k.updGlade.wakeGlade.wakeNow k.updGlade.wakeGlade)))

theorem Keeps.hwWatchdog (h : Keeps s t) : Keeps s t.hwWatchdog :=
  .ite h (.ite h.reachTime.wrapAdd.updGlade.stopFor (.ite h.reachTime.wrapAdd.updGlade.noStopCause.haltOne.find
    h.reachTime.wrapAdd.updGlade.recordError.updGlade))

theorem Keeps.faultAck {v : W64} (h : Keeps s t) : Keeps s (t.faultAck v) := .ite h.setFlag h
theorem Keeps.safCtl {v : W64} (h : Keeps s t) : Keeps s (t.safCtl v) := .ite h.codesWrite.enterSafe h.codesWrite

/-! ### The ROM sequence, keys, REGROW and resets -/

theorem Keeps.finishLine (h : Keeps s t) : Keeps s t.finishLine := by
  unfold State.finishLine
  split
  · exact h
  · exact h.setBytes

theorem Keeps.afterReset (h : Keeps s t) : Keeps s t.afterReset := ⟨fun k => t.afterReset_wf (h.mem k), h.pending⟩
theorem Keeps.porstAssert (h : Keeps s t) : Keeps s t.porstAssert := h.finishLine.afterReset

theorem Keeps.tornWords {n : Nat} {old new : List Byte} (h : Keeps s t) :
    Keeps s (Machine.tornWords n t old new).1 := by
  induction n generalizing t old new with
  | zero => exact h.pair
  | succ n ih => exact (ih h.freeBool).pair

theorem Keeps.landZeroes {c : JCfg} (h : Keeps s t) : Keeps s (t.landZeroes c) := by
  unfold State.landZeroes
  extract_lets lo b r
  generalize hr : r = q
  refine Keeps.foldlEq hr h.pair fun q x r e k => ?_
  split at e
  · exact e ▸ k
  · extract_lets f at e
    have hf : Keeps s f.2 := by
      simp only [f]
      split
      · exact .iteSnd k k.freeBool
      · exact k.freeBool
    subst e
    exact (Keeps.ite hf.putMedia hf).pair

theorem Keeps.landQueued (h : Keeps s t) : Keeps s t.landQueued := by
  unfold State.landQueued
  refine h.foldl fun _ _ k => k.foldl fun _ _ m => ?_
  split
  · exact m.mediaWrite
  · exact m.landZeroes
  · exact m

theorem Keeps.dropUnflushed (h : Keeps s t) : Keeps s t.dropUnflushed := by
  unfold State.dropUnflushed
  refine .keep (.foldlFst h.landQueued.pair fun _ _ k => ?_)
  exact .iteFst k (.iteFst k.freeBool.pair k.freeBool.putMedia.pair)

theorem Keeps.lossOfSupply (h : Keeps s t) : Keeps s t.lossOfSupply := by
  unfold State.lossOfSupply
  dsimp only
  split
  · exact h.dropUnflushed.afterReset.freeBool.keep
  · exact h.tornWords.setBytes.dropUnflushed.afterReset.freeBool.keep

theorem Keeps.noteFail {code grove : Nat} (h : Keeps s t) : Keeps s (t.noteFail code grove) := h.setFld.setFld

theorem Keeps.bootFail {code grove : Nat} (h : Keeps s t) : Keeps s (t.bootFail code grove) :=
  h.noteFail.writeLastFault

theorem Keeps.setStage {n : Nat} (h : Keeps s t) : Keeps s (t.setStage n) := h.setFld

theorem Keeps.bootDomainFails {d grove : Nat} (h : Keeps s t) : Keeps s (t.bootDomainFails d grove) :=
  h.setFld.domainFailed.noteFail

theorem Keeps.bootWake {d : Nat} (h : Keeps s t) : Keeps s (t.bootWake d) := .ite h h.setDomState.domainReady

theorem Keeps.afterRestart (h : Keeps s t) : Keeps s t.afterRestart :=
  .ite h.finishLine.afterReset.keep.setFld.setFlag.setFld.setFlag h.finishLine.afterReset.keep.setFld.setFlag

theorem Keeps.latch {w : BootWorld} {cause : Nat} (h : Keeps s t) : Keeps s (t.latch w cause) :=
  (Keeps.ite h.endPinTest.keep.setFld.setFld h.endPinTest.keep.setFld.setFld).setFld

theorem Keeps.armBoot (h : Keeps s t) : Keeps s t.armBoot := h.foldl fun _ _ k => k.wr

theorem Keeps.trainDram {dram : List DramFound} (h : Keeps s t) : Keeps s (t.trainDram dram) :=
  h.foldl fun _ _ k => .ite k k.wr.wr.bootWake

theorem Keeps.noteMapError {e : MapError} (h : Keeps s t) : Keeps s (t.noteMapError e) := h.wr
theorem Keeps.mapFails {e : MapError} (h : Keeps s t) : Keeps s (t.mapFails e) := h.noteMapError.setFld

theorem Keeps.readSlot {base reads : Nat} (h : Keeps s t) : Keeps s (t.readSlot base reads).1 := by
  unfold State.readSlot
  refine .iteFst (.ite h.recordError (.ite h.recordError h)) ?_
  dsimp only
  split
  · exact .ite h.recordError (.ite h.recordError h)
  · split
    · exact (Keeps.ite h.recordError (.ite h.recordError h)).mapFails
    · exact .ite h.recordError (.ite h.recordError h)

theorem Keeps.slotOffsets (h : Keeps s t) : Keeps s t.slotOffsets.1 := by
  unfold State.slotOffsets
  dsimp only
  split
  · exact .iteFst h.resolveReported h.resolveReported
  · exact h.resolveReported

theorem Keeps.stageMap {r : Requester} {o : Nat} {data : List Byte} (h : Keeps s t) : Keeps s (t.stageMap r o data) :=
  h.engineWrite.foldl fun _ _ k => k.engineWrite

theorem Keeps.stageFw {r : Requester} {o : Nat} {data : List Byte} (h : Keeps s t) : Keeps s (t.stageFw r o data) :=
  h.stageMap

theorem Keeps.stagedMap {r : Requester} {off n : Nat} (h : Keeps s t) : Keeps s (t.stagedMap r off n).1 := by
  unfold State.stagedMap
  refine h.foldlFst fun _ _ k => ?_
  dsimp only
  split
  · exact k
  · refine .iteFst ?_ ?_
    · exact k
    · split
      next e1 => exact (k.engineRead.of_eq e1)
      next e1 => exact (k.engineRead.of_eq e1)

theorem Keeps.stagedFw {r : Requester} {off n : Nat} (h : Keeps s t) : Keeps s (t.stagedFw r off n).1 :=
  .iteFst h h.engineRead

theorem Keeps.clearStaging (h : Keeps s t) : Keeps s t.clearStaging := h.foldl fun _ _ k => k.bulkClear

theorem Keeps.applyTally (h : Keeps s t) : Keeps s t.applyTally := by
  unfold State.applyTally
  refine h.foldl fun _ _ k => .ite k ?_
  dsimp only
  split
  · exact .ite k.wr.fixGroup k.wr
  · exact k.wr

theorem Keeps.applyDomains {fails : GroveFails} (h : Keeps s t) : Keeps s (t.applyDomains fails) :=
  h.foldl fun _ _ k => .ite k.setFld.domainOff (.ite k.setFld (.ite k.setFld.domainFailed (.ite k.setFld.domainFailed
    k.setFld.bootWake)))

theorem Keeps.applyMap {ss : List MapSection} {fails : GroveFails} (h : Keeps s t) : Keeps s (t.applyMap ss fails) :=
  ((((h.keep.foldl fun _ _ k => k.wr).foldl fun _ _ k => k.setFld).applyDomains.foldl fun _ _ k => .ite (k.foldl fun _
      _ m => m.bulkClear.bulkClear) k.clearGrove).foldl fun _ _ k => k.wr.freshTxu).applyTally.foldl fun _ _ k =>
      k.setFld

theorem Keeps.lockNeg {party : Nat} (h : Keeps s t) : Keeps s (t.lockNeg party) :=
  .ite h ((h.setFld.setFlag.foldl fun _ _ k => .ite k (.ite (.ite k.octetUp k) k.wakeDomain)).finishRecovery)

theorem Keeps.acceptAll (h : Keeps s t) : Keeps s t.acceptAll := h.wr.wr.lockNeg

theorem Keeps.negLockWrite {byHost : Bool} (h : Keeps s t) : Keeps s (t.negLockWrite byHost) :=
  .ite h (.ite h.lockNeg (.ite h.lockNeg h))

theorem Keeps.negTimeout (h : Keeps s t) : Keeps s t.negTimeout := .ite h.lockNeg h
theorem Keeps.negAccept {n : Nat} {v : W64} (h : Keeps s t) : Keeps s (t.negAccept n v) := .ite h h.wr

theorem Keeps.rtlNegSet {l : Nat} {f : Flit} (h : Keeps s t) : Keeps s (t.rtlNegSet l f) := by
  unfold State.rtlNegSet
  split
  next e => exact h.ctrlIn.of_eq e
  next e => exact .ite ((h.ctrlIn.of_eq e).negAccept.negAccept.lockNeg) (h.ctrlIn.of_eq e)

theorem Keeps.enterRun {entry : Nat} (h : Keeps s t) : Keeps s (t.enterRun entry) := by
  unfold State.enterRun
  exact .ite (((Keeps.ite h.clearStaging.keep.portDown
      h.clearStaging.keep).setFlag.setMode.followRails.setStage.setGlade.foldl fun _ _ k => .ite k.wakeDomain
      k).wr.acceptAll) (((Keeps.ite h.clearStaging.keep.portDown
      h.clearStaging.keep).setFlag.setMode.followRails.setStage.setGlade.foldl fun _ _ k => .ite k.wakeDomain k).wr)

theorem Keeps.copyFw {fw : List Byte} (h : Keeps s t) : Keeps s (t.copyFw fw) := h.writeMem

theorem Keeps.applyImages {fw img : List Byte} {ss : List MapSection} {source : Nat} {fails : GroveFails}
    (h : Keeps s t) :
    Keeps s (t.applyImages fw img ss source fails) := by
  unfold State.applyImages
  exact (Keeps.ite (.ite ((h.setStage.setFld.applyMap.foldl fun _ _ k => k.wr).wr.wr.setFld)
      ((h.setStage.setFld.applyMap.foldl fun _ _ k => k.wr).wr.wr)) ((Keeps.ite ((h.setStage.setFld.applyMap.foldl fun
      _ _ k => k.wr).wr.wr.setFld) ((h.setStage.setFld.applyMap.foldl fun _ _ k => k.wr).wr.wr)).setFlag)).enterRun

theorem Keeps.awaitPush (h : Keeps s t) : Keeps s t.awaitPush := .ite h.keep.bootWake.setStage h.keep.bootWake
theorem Keeps.awaitManager (h : Keeps s t) : Keeps s t.awaitManager := h.setStage.setFld.bootWake.bootWake

theorem Keeps.noSlot {code : Nat} (h : Keeps s t) : Keeps s (t.noSlot code) :=
  .ite h.bootFail.clearStaging.awaitPush h.bootFail.setStage

theorem Keeps.bootSlot {x : List Byte × List Byte × Nat} {source : Nat} {fails : GroveFails} (h : Keeps s t) :
    Keeps s (t.bootSlot x source fails) := by
  unfold State.bootSlot
  extract_lets a b
  have hb : Keeps s b := h.stageFw.stageMap.setStage.setFld
  clear_value b
  split
  next e => exact (hb.stagedFw.of_eq e).setFld.noSlot
  next u fw e =>
    extract_lets v
    have hv : Keeps s v := (hb.stagedFw.of_eq e).copyFw
    clear_value v
    split
    next e1 => exact (hv.stagedMap.of_eq e1).mapFails.noSlot
    next e1 =>
      split
      · exact (hv.stagedMap.of_eq e1).mapFails.noSlot
      · exact (hv.stagedMap.of_eq e1).applyImages

theorem Keeps.bootFlash {w : BootWorld} (h : Keeps s t) : Keeps s (t.bootFlash w) := by
  unfold State.bootFlash
  extract_lets a p q r u info
  have k : Keeps s u := h.setStage.slotOffsets.readSlot.readSlot.setFlag.setFlag
  clear_value u
  refine .ite h.setStage.noSlot ?_
  split
  · exact k.noSlot
  · exact k.bootSlot
  · exact k.bootSlot
  · exact .ite k.bootSlot (.ite k.bootSlot (.ite k.bootSlot k.recordError.noSlot))

theorem Keeps.rom {w : BootWorld} (h : Keeps s t) : Keeps s (t.rom w) := by
  unfold State.rom
  extract_lets a b c d e f i j k l m
  have hf : Keeps s f := ((h.setFlag.armBoot.setFlag.foldl fun _ _ k => k.bootWake).foldl fun _ _ k =>
    k.islandUp).setFlag.foldl fun _ _ k => k.setFld
  clear_value f
  split
  · exact hf.bootWake.bootDomainFails.setStage
  · have hk : Keeps s k := hf.bootWake.bootWake.bulkClear.clearStaging.foldl fun _ _ k => .ite k.bootDomainFails k.bootWake
    clear_value k
    split
    · exact hk.setStage
    · have hm : Keeps s m := hk.trainDram.setFld
      clear_value m
      split
      · exact hm.awaitPush
      · exact hm.awaitManager
      · exact hm.bootFlash

theorem Keeps.porstRelease {w : BootWorld} (h : Keeps s t) : Keeps s (t.porstRelease w) :=
  .ite h h.finishLine.afterReset.latch.rom

theorem Keeps.restartDevice {w : BootWorld} {cause : Nat} {fault : Option (List Byte)} (h : Keeps s t) :
    Keeps s (t.restartDevice w cause fault) := by
  unfold State.restartDevice
  refine (?_ : Keeps _ _).rom
  split
  · exact h.afterRestart.latch.updateRecord
  · exact h.afterRestart.latch

theorem Keeps.holdupReturn {w : BootWorld} (h : Keeps s t) : Keeps s (t.holdupReturn w) := .ite h.restartDevice h

theorem Keeps.holdupRise {w : BootWorld} (h : Keeps s t) : Keeps s (t.holdupRise w) :=
  .ite h.afterRestart.keep.setFld.rom h

theorem Keeps.brownout {r : Nat} {w : BootWorld} (h : Keeps s t) : Keeps s (t.brownout r w) :=
  .ite h.groveBrownout (.ite h h.recordError.restartDevice)

theorem Keeps.countAttempt (h : Keeps s t) : Keeps s t.countAttempt := h.satAdd

theorem Keeps.judgeStaged {fwLen mapLen : Nat} (h : Keeps s t) :
    EveryCase (Keeps s) (fun x => Keeps s x.1) (t.judgeStaged fwLen mapLen) := by
  unfold State.judgeStaged
  dsimp only
  have fw := h.countAttempt.setStage (n := 4) |>.setFld (a := Reg.SM_STATUS) (hi := 2) (lo := 0) (v := 1)
    |>.stagedFw (r := .heartwood) (off := 0) (n := min fwLen 245760)
  split
  next e => exact (fw.of_eq e).setFld.bootFail
  next e =>
    split
    · exact (fw.of_eq e).setFld.bootFail
    · split
      next e1 => exact ((fw.of_eq e).stagedMap.of_eq e1).mapFails.bootFail
      next e1 =>
        split
        · exact ((fw.of_eq e).stagedMap.of_eq e1).mapFails.bootFail
        · exact (fw.of_eq e).stagedMap.of_eq e1

theorem Keeps.checkStaged {fwLen mapLen source : Nat} {fails : GroveFails} (h : Keeps s t) :
    EveryCase (Keeps s) (Keeps s) (t.checkStaged fwLen mapLen source fails) := by
  unfold State.checkStaged
  split
  next e => exact h.judgeStaged.of_eq e
  next e => exact (h.judgeStaged.of_eq e).copyFw.applyImages

theorem Keeps.pushGo {v : W64} {fails : GroveFails} (h : Keeps s t) : Keeps s (t.pushGo v fails) := by
  unfold State.pushGo
  refine .ite h (.ite h.setFld.setFld ?_)
  split
  next e => exact h.setFld.setFld.checkStaged.of_eq e
  next e => exact Keeps.setStage (.clearStaging (h.setFld.setFld.checkStaged.of_eq e))

theorem Keeps.bar0Write {off : Nat} {data : List Byte} (h : Keeps s t) : Keeps s (t.bar0Write off data) :=
  .ite h (.ite h.hostWriteUr (.ite h.stageMap (.ite h.stageFw h.hostWriteUr)))

theorem Keeps.hostBytes {p : State × Except Nat (List Byte)} (h : Keeps s p.1) : Keeps s (Machine.hostBytes p) := by
  unfold Machine.hostBytes
  split
  · exact h.keep
  · exact h.keep

theorem Keeps.bar0Read {off n : Nat} (h : Keeps s t) : Keeps s (t.bar0Read off n) :=
  .ite h (.ite h.keep (.ite (.hostBytes h.stagedMap) (.ite (.hostBytes h.stagedFw) h.keep)))

theorem Keeps.rtlBootEnd {l : Nat} {f : Flit} {fails : GroveFails} (h : Keeps s t) :
    Keeps s (t.rtlBootEnd l f fails) := by
  unfold State.rtlBootEnd
  split
  next e => exact h.ctrlIn.of_eq e
  next e =>
    refine .ite (h.ctrlIn.of_eq e) ?_
    dsimp only
    split
    next e1 =>
      have k : Keeps s _ := (h.ctrlIn.of_eq e).judgeStaged.of_eq e1
      exact k.clearStaging.setStage.queueCtrl
    next e1 =>
      have k : Keeps s _ := (h.ctrlIn.of_eq e).judgeStaged.of_eq e1
      exact (Keeps.ite k.queueCtrl k.queueCtrl.linkFalls).copyFw.applyImages

theorem Keeps.keyprogWord {n w : Nat} (h : Keeps s t) : Keeps s (t.keyprogWord n w) := .ite h h.keep
theorem Keeps.keyprogRevoke {n : Nat} (h : Keeps s t) : Keeps s (t.keyprogRevoke n) := .ite h h.keep

theorem Keeps.endRegrow {st : Nat} (h : Keeps s t) : Keeps s (t.endRegrow st) := by
  unfold State.endRegrow
  dsimp only
  split
  · exact h.setFld.setFlag.setFlag
  · exact h.keep

theorem Keeps.regrowTaken {g off : Nat} (h : Keeps s t) : Keeps s (t.regrowTaken g off) :=
  h.setFld.setFld.setFlag.wr.setFlag

theorem Keeps.fragment {g off : Nat} (h : Keeps s t) : Keeps s (t.fragment g off).1 := by
  unfold State.fragment
  refine .iteFst h ?_
  split
  next e => exact h.readMem.of_eq e
  next e =>
    dsimp only
    split
    next e1 => exact ((h.readMem.of_eq e).readMem.of_eq e1)
    next e1 => exact ((h.readMem.of_eq e).readMem.of_eq e1)

theorem Keeps.regrowStart {g off : Nat} (h : Keeps s t) : Keeps s (t.regrowStart g off) := by
  unfold State.regrowStart
  refine .ite h.fieldsWrite ?_
  split
  next e1 => exact (h.regrowTaken.fragment.of_eq e1).noteMapError.setFld.setFld.endRegrow
  next e => exact (h.regrowTaken.fragment.of_eq e).setFld.setMode.keep

theorem Keeps.regrowTimeout (h : Keeps s t) : Keeps s t.regrowTimeout := by
  unfold State.regrowTimeout
  split
  · exact h
  · exact .ite h h.endRegrow.setMode.domainPolicy

theorem Keeps.liftFences {g : Nat} (h : Keeps s t) : Keeps s (t.liftFences g) := h.foldl fun _ _ k => k.updGlade

theorem Keeps.regrowApply (h : Keeps s t) : Keeps s t.regrowApply := by
  unfold State.regrowApply
  split
  · exact h
  · exact .ite h (.ite ((h.setFld.foldl fun _ _ k =>
      k.discardOpen.interruptTxn).loseMemories.withFragment.liftFences.loseGlades.wr.setFlag.endRegrow.setMode.domainPolicy)
      ((h.setFld.foldl fun _ _ k =>
      k.discardOpen.interruptTxn).loseMemories.withFragment.liftFences.loseGlades.wr.setFlag.endRegrow))

theorem Keeps.sbUpdate {record : Nat} {v : W64} (h : Keeps s t) : Keeps s (t.sbUpdate record v) := by
  unfold State.sbUpdate
  refine .ite h.fieldsWrite (.ite h.setFld.setFld.setFld ?_)
  split
  next e => exact (h.setFld.setFld.engineRead.of_eq e).setFld
  next e => exact .ite ((h.setFld.setFld.engineRead.of_eq e).setFld) ((h.setFld.setFld.engineRead.of_eq
      e).keep.queueJob.pump)

/-! ### The control registers -/

theorem Keeps.pinLevels {a : Nat} {v : W64} (h : Keeps s t) : Keeps s (t.pinLevels a v).1 :=
  .iteFst h.freeWord (.iteFst h.freeWord h)

theorem Keeps.regRead {r : Requester} {a : Nat} (h : Keeps s t) : Keeps s (t.regRead r a).1 := by
  unfold State.regRead
  dsimp only
  split
  · exact h.touch
  · exact .iteFst h.touch.pinLevels.uartRead (.iteFst h.touch.pinLevels h.touch.pinLevels.wr)

theorem Keeps.jwCommand {v : W64} {rep : BoardReply} (h : Keeps s t) : Keeps s (t.jwCommand v rep) := by
  unfold State.jwCommand
  refine .ite h.codesWrite (h.jwIfIdle (fun _ k => ?_))
  split
  · with_reducible exact k.jwOpen
  · with_reducible exact k.jwSeal
  · with_reducible exact k.jwFormat
  · with_reducible exact k.jwPersist
  · with_reducible exact k.jwReopen
  · with_reducible exact k.jwAtOnce

theorem Keeps.rtlCommand {v : W64} (h : Keeps s t) : Keeps s (t.rtlCommand v) := by
  unfold State.rtlCommand
  refine .ite h.codesWrite ?_
  split
  · exact h.rtlAssignCmd
  · exact h.blazeStartCmd
  · exact h.blazeRequestCmd
  · exact h.bootSendCmd
  · exact h.bootEndCmd
  · exact h.negSetCmd
  · exact h.msgCmd
  · exact h.rtlBadOp

theorem Keeps.gctlWrite {i : Nat} {v : W64} (h : Keeps s t) : Keeps s (t.gctlWrite i v) :=
  .ite ((Keeps.ite h.fieldsWrite.gctlStop h.fieldsWrite).gctlStart) (.ite h.fieldsWrite.gctlStop h.fieldsWrite)

theorem Keeps.keyprogWrite {r : Requester} {v : W64} (h : Keeps s t) : Keeps s (t.keyprogWrite r v) :=
  .ite h (.ite h.keyprogRevoke h.keyprogWord)

theorem Keeps.sbCommand {v : W64} (h : Keeps s t) : Keeps s (t.sbCommand v) := .ite h.sbUpdate h.codesWrite
theorem Keeps.eqWrite {a : Nat} {v : W64} (h : Keeps s t) : Keeps s (t.eqWrite a v) := .ite h h.codesWrite

theorem Keeps.infoWrite {r : RecSet} {n : Nat} {v : W64} (h : Keeps s t) : Keeps s (t.infoWrite r n v) :=
  .ite h.errRecordFree h

theorem Keeps.regWrite {r : Requester} {a : Nat} {v : W64} {rep : BoardReply} (h : Keeps s t) :
    Keeps s (t.regWrite r a v rep) := by
  unfold State.regWrite
  extract_lets u g o
  have k : Keeps s u := h.touch
  clear_value u
  refine .ite (.ite k.infoWrite (.ite k.injectWrite (.ite k.retireWrite k.codesWrite))) (.ite k.pushGo (.ite k.sbCommand
    (.ite (.ite k.negLockWrite k) (.ite k.negAccept (.ite k.negAccept (.ite k.keyprogWrite (.ite k.wr
    (.ite (.ite k.regrowStart k.codesWrite) (.ite k.faultAck (.ite k.safCtl (.ite (.ite k.qmCommand k.codesWrite)
    (.ite k.jwCommand (.ite k.tallyRaise (.ite k.timeStep (.ite k.ssoWrite (.ite k.xspiCmd (.ite k.i2cTransfer
    (.ite k.uartTx (.ite (.ite k.requestMode k.codesWrite) (.ite k.leanWrite (.ite k.rtlCommand (.ite k.mboxPop
    (.ite (.ite k k.wr) ?_)))))))))))))))))))))))
  generalize Reg.DDR_CH_CFG 0 = lo
  refine EverySome.getD (EverySome.findSome ?_) k.codesWrite
  simp only [List.forall_mem_cons, List.not_mem_nil, false_implies, implies_true, and_true]
  refine ⟨.bind_of fun n => ?_, .map_of fun _ => k.infoWrite, .map_of fun _ => k.gctlWrite, .map_of fun _ => k.viewWrite,
    .map_of fun _ => k.poolWrite, .map_of fun _ => k.poolWrite, .map_of fun _ => k.poolWrite,
    .map_of fun _ => k.egqWrite, .map_of fun _ => k.jrelWrite, .map_of fun _ => k.tallySub,
    .map_of fun _ => k.routeWrite, .map_of fun _ => k.gpiWrite, .map_of fun _ => k.domWrite,
    .map_of fun _ => k.railWrite, .map_of fun _ => k.eqWrite⟩
  split
  · exact k.infoWrite
  · trivial

theorem Keeps.devRead {r : Requester} {a n : Nat} {rep : BoardReply} (h : Keeps s t) :
    Keeps s (t.devRead r a n rep).1 := by
  unfold State.devRead
  split
  · exact h.regRead
  · exact h
  · exact h.windowRead
  · exact h.readMem

theorem Keeps.devWrite {r : Requester} {a : Nat} {data : List Byte} {rep : BoardReply} (h : Keeps s t) :
    Keeps s (t.devWrite r a data rep) := by
  unfold State.devWrite
  split
  · exact h.regWrite
  · exact h.postPcie
  · exact h.writeMem

theorem Keeps.registerWrite {a : Nat} {v : W64} (h : Keeps s t) : Keeps s (t.registerWrite a v) := by
  unfold State.registerWrite
  split
  · exact h.recordRefusal
  · exact .ite h (.ite h.regWrite (.ite h.touch.codesWrite h))

theorem Keeps.registerRead {a : Nat} (h : Keeps s t) : Keeps s (t.registerRead a) := by
  unfold State.registerRead
  split
  · with_reducible exact h.recordRefusal.keep
  · with_reducible exact .ite h h.regRead.keep

theorem Keeps.msixWrite {o : Nat} {data : List Byte} (h : Keeps s t) : Keeps s (t.msixWrite o data) := h.keep

theorem Keeps.hostReadPart {bar4 : Bool} {off n : Nat} {rep : BoardReply} (h : Keeps s t) :
    Keeps s (t.hostReadPart bar4 off n rep).1 := by
  unfold State.hostReadPart
  refine .iteFst h.pair (.iteFst h.pair ?_)
  split
  · exact h.pair
  · split
    · exact h.recordRefusal.pair
    · split
      next e2 => exact (h.devRead.of_eq e2).pair
      next e2 => exact (h.devRead.of_eq e2).pair

theorem Keeps.hostWritePart {bar4 : Bool} {off : Nat} {data : List Byte} {rep : BoardReply} (h : Keeps s t) :
    Keeps s (t.hostWritePart bar4 off data rep) := by
  unfold State.hostWritePart
  refine .ite h.msixWrite ?_
  split
  · exact h
  · split
    · exact h.recordRefusal
    · exact h.devWrite

theorem Keeps.hostWords {bar4 : Bool} {off : Nat} {req : HostReq} {rep : BoardReply} (h : Keeps s t) :
    Keeps s (t.hostWords bar4 off req rep) := by
  unfold State.hostWords
  extract_lets n waits
  clear_value waits
  refine .ite h (.ite h.hostUr (.ite h ?_))
  cases req with
  | write d => exact h.foldl fun _ _ k => k.hostWritePart
  | read m =>
    dsimp only
    generalize hp : List.foldl _ _ _ = p
    have kp : Keeps s p.1 := .foldlEq hp h.pair fun acc q r e k => by
      split at e
      · exact e ▸ k
      · split at e
        next e1 => exact e ▸ (k.hostReadPart.of_eq e1).pair
        next e1 => exact e ▸ (k.hostReadPart.of_eq e1).pair
    split
    · exact kp.keep
    · exact kp.keep

theorem Keeps.hostAccess {bar : HostBar} {off : Nat} {req : HostReq} {rep : BoardReply} (h : Keeps s t) :
    Keeps s (t.hostAccess bar off req rep) := by
  unfold State.hostAccess
  split
  · exact h.hostConfig
  · exact h.bar0Write
  · exact h.bar0Read
  · exact h.hostWords
  · exact h.hostWords

theorem Keeps.svcAnswer {status : Nat} {v : W64} (h : Keeps s t) : Keeps s (t.svcAnswer status v) := h.keep

theorem Keeps.svcMake {op a : Nat} {v : W64} {rep : BoardReply} (h : Keeps s t) : Keeps s (t.svcMake op a v rep) := by
  unfold State.svcMake
  split
  · exact h.recordRefusal.svcAnswer
  · refine .ite h.keep (.ite h.devWrite.svcAnswer ?_)
    split
    next e1 => exact (h.devRead.of_eq e1).svcAnswer
    next e1 => exact (h.devRead.of_eq e1).svcAnswer

theorem Keeps.svcAccess {op a : Nat} {v : W64} {rep : BoardReply} (h : Keeps s t) :
    Keeps s (t.svcAccess op a v rep) :=
  .ite h.svcAnswer (.ite h.svcAnswer (.ite h.svcAnswer (.ite h.svcAnswer h.svcMake)))

theorem Keeps.pollSvc (h : Keeps s t) : Keeps s t.pollSvc := by
  unfold State.pollSvc
  split
  · exact h
  · exact .ite h.keep (.ite h h.keep.svcMake)

end Sys2Proof.Machine
end

section
/-! PROOF. Memory's canonical form is kept: bundles and byte code. -/

namespace Sys2Proof.Machine

variable {s t : State}

/-! ### Loads, stores and block reads after their bundle -/

theorem Keeps.setPair {l : Nat} {p : Pair} (h : Keeps s t) : Keeps s (t.setPair l p) := h.keep
theorem Keeps.feed {c : Nat} {f : Fed} (h : Keeps s t) : Keeps s (t.feed c f) := .ite h.setPair h

theorem Keeps.takeFeed {c : Nat} {p : Nat × Fed → Bool} (h : Keeps s t) :
    EverySome (fun x => Keeps s x.1) (t.takeFeed c p) := by
  unfold State.takeFeed
  dsimp only
  split
  · exact h.setPair
  · exact trivial

theorem Keeps.performStore {c : Nat} {e : StoreEntry} {ans : PortAnswer} {rep : BoardReply} (h : Keeps s t) :
    Keeps s (t.performStore c e ans rep) := by
  unfold State.performStore
  dsimp only
  split
  · exact .ite h.recordRefusal h.regWrite
  · exact h.postPcie
  · exact .ite h.recordRefusal (h.onPorts (fun _ k => k.storeToMemory))

theorem Keeps.storeDrain {c n : Nat} {ans : PortAnswer} {rep : BoardReply} (h : Keeps s t) :
    Keeps s (t.storeDrain c n ans rep) := by
  unfold State.storeDrain
  refine .ite h ?_
  split
  · exact h
  · exact h.updLate.performStore

theorem Keeps.drainStores {c n : Nat} (h : Keeps s t) : Keeps s (t.drainStores c n) := by
  induction n generalizing t with
  | zero => exact h
  | succ n ih =>
    unfold State.drainStores
    split
    · exact ih h.storeDrain
    · exact h

theorem Keeps.flushStores {g : Nat} (h : Keeps s t) : Keeps s (t.flushStores g) :=
  h.foldl fun _ _ k => k.foldl fun _ _ m => m.updAsync.performStore

theorem Keeps.regrowFinish (h : Keeps s t) : Keeps s t.regrowFinish := by
  unfold State.regrowFinish
  split
  · exact .ite h.flushStores.regrowApply h
  · exact h

theorem Keeps.loadTarget {c : Nat} {l : LoadFlight} {ps : List PortAnswer} (h : Keeps s t) :
    EverySome (fun x => Keeps s x.1) (t.loadTarget c l ps) := by
  unfold State.loadTarget
  split
  · exact trivial
  · exact h
  · split
    · exact trivial
    · split
      · exact h.regRead
      · exact h
      · dsimp only
        split
        · exact h.bridgeRead
        · exact trivial
      · exact h.loadMemory

theorem Keeps.loadDone {c : Nat} {l : LoadFlight} {r : Except Nat (List Byte)} (h : Keeps s t) :
    Keeps s (t.loadDone c l r) := by
  unfold State.loadDone
  dsimp only
  split
  · exact .ite h.answerWith h.answerWith.feed.foldFor
  · exact .ite h.failLoad h.failLoad.setPair.feed

theorem Keeps.loadAnswer {c : Nat} {ps : List PortAnswer} (h : Keeps s t) : Keeps s (t.loadAnswer c ps) := by
  unfold State.loadAnswer
  split
  · exact h
  · refine .ite ?_ (.ite h ?_)
    · split
      next e1 => exact (h.takeFeed.of_eq e1).answerWith.foldFor
      next e1 => exact (h.takeFeed.of_eq e1).failLoad
      · exact h
    · split
      · exact (Keeps.ite h.recordRefusal h).loadDone
      · split
        next e2 => exact (h.loadTarget.of_eq e2).loadDone
        · exact h

theorem Keeps.endDead {c : Nat} (h : Keeps s t) : Keeps s (t.endDead c) := by
  unfold State.endDead
  refine .ite ?_ h
  split
  · exact .ite h.loadAnswer h
  · exact h

theorem Keeps.pcieAnswer {c : Nat} {r : Except PcieMiss W64} (h : Keeps s t) : Keeps s (t.pcieAnswer c r) := by
  unfold State.pcieAnswer
  split
  · exact h
  · split
    · refine .ite h ?_
      split
      · exact h.loadDone
      · exact (Keeps.ite h h.pcieError).loadDone
    · exact h

theorem Keeps.blockWord {c : Nat} {o : LongOp} {w : Nat} (h : Keeps s t) : Keeps s (t.blockWord c o w).1 := by
  unfold State.blockWord
  dsimp only
  split
  · exact .ite h.updTxn h
  · exact .iteFst h.txnLoadWord h.readWord

theorem Keeps.blockPart {c : Nat} {o : LongOp} {pcie : PcieReply} {a k : Nat} (h : Keeps s t) :
    Keeps s (t.blockPart c o pcie a k).1 := by
  unfold State.blockPart
  dsimp only
  split
  · with_reducible exact h.regRead.pair
  · with_reducible exact h.pair
  · with_reducible exact h.windowRead
  · with_reducible exact .iteFst (h.gather (fun _ _ k => k.blockWord)) h.readMem
  · with_reducible exact h.readMem

theorem Keeps.blockRead {c : Nat} {o : LongOp} {pcie : PcieReply} {a fuel n : Nat} {acc : List Byte} (h : Keeps s t) :
    Keeps s (t.blockRead c o pcie a fuel n acc).1 := by
  induction fuel generalizing t a n acc with
  | zero => exact h.pair
  | succ fuel ih =>
    unfold State.blockRead
    refine .iteFst h.pair ?_
    dsimp only
    split
    · exact h.recordRefusal.pair
    · split
      · exact ih h.blockPart
      · exact h.blockPart.pair

theorem Keeps.blockRetire {c : Nat} {pcie : PcieReply} {ps : List PortAnswer} (h : Keeps s t) :
    Keeps s (t.blockRetire c pcie ps) := by
  unfold State.blockRetire
  split
  · exact h
  · extract_lets own p f q end_
    have hp : Keeps s p.1 := h.onPorts fun _ k => k.blockRead
    clear_value p
    have hq : Keeps s q.1 := by
      simp only [q]
      split
      · exact hp
      · exact .iteFst hp.freeWord hp
    clear_value q
    exact .ite h (.ite hq.updAsync (hq.foldl fun _ _ k => k.updAsync))

/-! ### Triggers -/

theorem Keeps.doTimeNow {c : Nat} (h : Keeps s t) : Keeps s (t.doTimeNow c) := by
  unfold State.doTimeNow
  refine .ite ?_ h.updGlade.feed
  split
  next e => exact (h.takeFeed.of_eq e).updGlade
  · exact h

theorem Keeps.trigDo {c : Nat} {tr : Trig} {t' : TWord} {k : TrigSite} (h : Keeps s t) :
    Keeps s (t.trigDo c tr t' k).1 := by
  unfold State.trigDo
  dsimp only
  split
  · dsimp only
    exact h.updGlade
  · dsimp only
    exact h.updGlade
  · dsimp only
    exact h.updGlade
  · dsimp only
    exact h.updGlade
  · dsimp only
    exact h.updGlade
  · dsimp only
    exact h.updGlade
  · dsimp only
    exact h.updGlade
  · exact h.doLsu
  · dsimp only
    exact h.updGlade
  · dsimp only
    exact h.updGlade
  · exact h.doTimeNow
  · exact h
  · dsimp only
    exact h.updGlade
  · exact h.doQpu
  · exact h.doJau
  · exact h.doTxu
  · dsimp only
    exact h.updGlade

theorem Keeps.eret {c : Nat} (h : Keeps s t) : Keeps s (t.eret c) := (Keeps.ite h.syncCode h).updGlade

theorem Keeps.refuseTrig {c : Nat} {x : Glade} {tr : Trig} {detail addr : Nat} (h : Keeps s t) :
    Keeps s (t.refuseTrig c x tr detail addr) :=
  .ite h.recordRefusal.updTxn h.recordRefusal

theorem Keeps.logCause {c : Nat} {tr : Trig} {e : Cause} (h : Keeps s t) : Keeps s (t.logCause c tr e) :=
  .ite h.refuseTrig h

theorem Keeps.takeCause {c : Nat} {tr : Trig} {e : Cause} (h : Keeps s t) : Keeps s (t.takeCause c tr e) :=
  h.logCause.updGlade.raise

/-! ### Byte code -/

theorem Keeps.readPaged {r : Requester} {a n : Nat} (h : Keeps s t) : Keeps s (t.readPaged r a n).1 :=
  .iteFst h.recordRefusal.pair h.readMem

theorem Keeps.olderByte {b : Byte} {os : List OldCode} (h : Keeps s t) : Keeps s (t.olderByte b os).1 := by
  induction os generalizing t with
  | nil => exact h.pair
  | cons o os ih => exact .iteFst (.iteFst (ih h.freeBool) h.freeBool.pair) h.pair

theorem Keeps.fetchFinding (h : Keeps s t) : Keeps s t.fetchFinding := h.keep

theorem Keeps.fetchCode {c off n : Nat} (h : Keeps s t) : Keeps s (t.fetchCode c off n).1 := by
  unfold State.fetchCode
  dsimp only
  split
  · exact h.readPaged.fetchFinding.pair
  · exact (h.readPaged.pair.foldlFst fun _ _ k => k.olderByte.pair).updGlade.pair

theorem Keeps.spill {c a : Nat} {v : BitVec 32} (h : Keeps s t) : Keeps s (t.spill c a v) := h.updGlade.storeToMemory

theorem Keeps.m3Push {c : Nat} {v : BitVec 32} (h : Keeps s t) : Keeps s (t.m3Push c v).1 := by
  unfold State.m3Push
  dsimp only
  exact (Keeps.ite h.spill.updGlade h).updGlade

theorem Keeps.m3Pop {c : Nat} (h : Keeps s t) : Keeps s (t.m3Pop c).1 := by
  unfold State.m3Pop
  refine .iteFst ?_ h.updGlade.pair
  split
  next e => exact (h.readPaged.of_eq e).updGlade.pair
  next e => exact (h.readPaged.of_eq e).pair

theorem Keeps.m3Pops {c n : Nat} (h : Keeps s t) : Keeps s (t.m3Pops c n).1 := by
  induction n generalizing t with
  | zero => exact h.pair
  | succ n ih =>
    unfold State.m3Pops
    split
    next e =>
      split
      next e1 => exact ((ih (h.m3Pop.of_eq e)).of_eq e1).pair
      next e1 => exact ((ih (h.m3Pop.of_eq e)).of_eq e1).pair
    next e => exact (h.m3Pop.of_eq e).pair

theorem Keeps.m3Spill {c : Nat} (h : Keeps s t) : Keeps s (t.m3Spill c).1 := by
  unfold State.m3Spill
  dsimp only
  exact (h.foldl fun _ _ k => k.spill).updGlade

theorem Keeps.m3Raise {c : Nat} {x : Glade} {e : Cause} (h : Keeps s t) : M3Out.Kept s (t.m3Raise c x e) :=
  h.setGlade.raise

theorem Keeps.m3Load {c : Nat} {l : LoadFlight} {ps : List PortAnswer} {rep : BoardReply} (h : Keeps s t) :
    EverySome (fun x => Keeps s x.1) (t.m3Load c l ps rep) := by
  unfold State.m3Load
  split
  · split
    next e => exact (h.takeFeed.of_eq e).foldFor
    next e => exact h.takeFeed.of_eq e
    · trivial
  · extract_lets got
    have hg : EverySome (fun x => Keeps s x.1) got := by
      simp only [got]
      split
      · split
        next e => exact h.devRead.of_eq e
        next e => exact h.devRead.of_eq e
      · exact h.loadTarget
    clear_value got
    split
    · trivial
    next u bs =>
      have k : Keeps s u := hg
      change Keeps s (if _ then _ else _)
      exact .ite k k.feed.foldFor
    next u d =>
      have k : Keeps s u := hg
      change Keeps s (if _ then _ else _)
      exact .ite k k.feed

/-- The three ways of an instruction: a jump out of the code, a transfer to native code, and the rest. -/
theorem M3Out.Kept.byJump {j : Option Int} {o : M3Op} {f : Int → M3Out} {g : BitVec 16 → M3Out} {e d : M3Out}
    (hf : ∀ a, (f a).Kept s) (hg : ∀ a, (g a).Kept s) (he : e.Kept s) (hd : d.Kept s) :
    M3Out.Kept s (match j, o with | some a, _ => f a | none, .ncall a => g a | none, .exit => e | none, _ => d) := by
  cases j with
  | some a => exact hf a
  | none =>
    cases o with
    | ncall a => exact hg a
    | exit => exact he
    | _ => exact hd

/-- A load, a store, and the rest. -/
theorem M3Out.Kept.byMemory {o : M3Op} {f g : Bool → M3Out} {d : M3Out} (hf : ∀ b, (f b).Kept s)
    (hg : ∀ b, (g b).Kept s) (hd : d.Kept s) :
    M3Out.Kept s (match o with | .ld b => f b | .st b => g b | _ => d) := by
  cases o with
  | ld b => exact hf b
  | st b => exact hg b
  | _ => exact hd

theorem Keeps.m3Exec {c : Nat} {o : M3Op} {len : Nat} {ps : List PortAnswer} {rep : BoardReply} (h : Keeps s t) :
    M3Out.Kept s (t.m3Exec c o len ps rep) := by
  unfold State.m3Exec
  split
  · exact h
  extract_lets u x p next fetch sp refuse
  have k : Keeps s u := h.drainStores
  have fetched : ∀ d a, M3Out.Kept s (fetch d a) := fun _ _ => k.m3Raise
  have refused : ∀ v w d a, Keeps s v → M3Out.Kept s (refuse v w d a) := fun _ _ _ _ k => k.refuseTrig.m3Raise
  clear_value fetch refuse u
  split
  · exact k.updGlade
  split
  · exact fetched _ _
  split
  · exact k.m3Raise
  refine .byJump (fun _ => fetched _ _) (fun _ => ?_) ?_ ?_
  · split
    · exact fetched _ _
    · split
      · exact fetched _ _
      · split
        · exact refused _ _ _ _ k
        · exact k.m3Spill.updGlade
  · split
    · exact refused _ _ _ _ k
    · exact k.m3Spill.updGlade
  split
  · exact k.m3Raise
  split
  next e => exact (k.m3Pops.of_eq e).m3Raise
  next e =>
    have kp := k.m3Pops.of_eq e
    extract_lets taken dest a finish bus
    have finished : ∀ v push, Keeps s v → M3Out.Kept s (.done (finish v push)) := fun _ _ k =>
      (k.pair.foldlFst fun _ _ k => k.m3Push.pair).updGlade
    clear_value finish
    split
    · exact fetched _ _
    refine .byMemory (fun _ => ?_) (fun _ => ?_) ?_
    · extract_lets n
      split
      · exact refused _ _ _ _ kp
      · split
        · exact k.updGlade
        next e1 => exact (kp.m3Load.of_eq e1).m3Raise
        next e1 => exact finished _ _ (kp.m3Load.of_eq e1)
    · extract_lets op v
      split
      · exact refused _ _ _ _ kp
      · split
        · exact k.updGlade
        · exact (finished _ _ kp).state.updGlade.doLsu.updGlade
    · split
      · exact refused _ _ _ _ kp
      · exact finished _ _ kp

theorem Keeps.m3Fetch {c : Nat} (h : Keeps s t) : Keeps s (t.m3Fetch c).1 := by
  unfold State.m3Fetch
  refine .iteFst h ?_
  split
  next e => exact h.fetchCode.of_eq e
  next e =>
    refine .iteFst (h.fetchCode.of_eq e) (.iteFst (h.fetchCode.of_eq e) ?_)
    split
    next e1 => exact ((h.fetchCode.of_eq e).fetchCode.of_eq e1)
    next e1 => exact ((h.fetchCode.of_eq e).fetchCode.of_eq e1)

theorem Keeps.m3Step {c : Nat} {ps : List PortAnswer} {rep : BoardReply} (h : Keeps s t) :
    M3Out.Kept s (t.m3Step c ps rep) := by
  unfold State.m3Step
  split
  · exact h.updGlade
  · split
    next e => exact (h.m3Fetch.of_eq e).m3Exec
    next e => exact (h.m3Fetch.of_eq e).raise

/-! ### Bundles -/

theorem Keeps.ready {c : Nat} (h : Keeps s t) : Keeps s (t.ready c).1 := by
  unfold State.ready
  dsimp only
  split
  · exact h
  · refine .iteFst h (.iteFst h ?_)
    split
    · exact h
    · split
      · exact h
      · refine .iteFst h ?_
        split
        next e3 => exact (h.fetchCode.of_eq e3)
        next e3 => exact (h.fetchCode.of_eq e3).updGlade

theorem Keeps.wrongUpdate {c : Nat} (h : Keeps s t) : Keeps s (t.wrongUpdate c) := by
  unfold State.wrongUpdate
  exact h.freeBool.freeBool.freeBool.freeBool.freeWord.freeWord.freeWord.updGlade

theorem Keeps.wrongStack {c : Nat} (h : Keeps s t) : Keeps s (t.wrongStack c) := by
  unfold State.wrongStack
  exact (h.pair.foldlFst fun _ _ k => .iteFst k.freeBool.freeWord.pair k.pair).updGlade

theorem Keeps.arrive {c : Nat} (h : Keeps s t) : Keeps s (t.arrive c) := by
  unfold State.arrive
  dsimp only
  split
  · exact h
  · exact .ite h.setGlade (.ite (h.setGlade.freeWord.updGlade.foldl fun _ _ k => k.wrongUpdate)
      h.setGlade.freeWord.updGlade.wrongStack)

theorem Keeps.passAnnulled {c : Nat} (h : Keeps s t) : Keeps s (t.passAnnulled c) := by
  unfold State.passAnnulled
  exact h.arrive.updGlade

theorem Keeps.issueFront {c : Nat} {p : Plan} (h : Keeps s t) : Keeps s (t.issueFront c p) :=
  .ite h.arrive.keep h.arrive.setGlade

theorem Keeps.trimSnaps {c : Nat} {p : Plan} (h : Keeps s t) : Keeps s (t.trimSnaps c p) := .ite h (.ite h h.keep)

theorem Keeps.loadNow {c : Nat} {o : LsuOp} {f : LsuForm} {t' : W64} {bus : Nat} {ps : List PortAnswer}
    {rep : BoardReply} (h : Keeps s t) :
    EverySome (fun x => Keeps s x.1) (t.loadNow c o f t' bus ps rep) := by
  unfold State.loadNow
  dsimp only
  split
  · exact trivial
  next e => exact (h.m3Load.of_eq e).pair
  next e => exact (h.m3Load.of_eq e).updGlade.pair

theorem Keeps.shoot {c : Nat} {site : Shot → TrigSite} {now : Bool} {ps : List PortAnswer} {rep : BoardReply}
    {hs : List Shot} (h : Keeps s t) :
    EverySome (fun x => Keeps s x.1) (t.shoot c site now ps rep hs) := by
  induction hs generalizing t with
  | nil => exact h
  | cons x xs ih =>
    unfold State.shoot
    extract_lets r
    have hr : EverySome (fun x => Keeps s x.1) r := by
      simp only [r]
      split
      · split
        · exact h.loadNow
        · exact h.trigDo
      · exact h.trigDo
    clear_value r
    split
    · trivial
    · exact ih hr
    · exact hr

theorem Keeps.shotError {c : Nat} {h' : Shot} {ps : List PortAnswer} {rep : BoardReply} (h : Keeps s t) :
    EverySome (fun x => Keeps s x.1) (t.shotError c h' ps rep) := by
  unfold State.shotError
  split
  · exact h.loadNow
  · split
    · exact trivial
    · split
      next e => exact h.deq.of_eq e
      next e => exact h.deq.of_eq e

theorem Keeps.firstError {c : Nat} {ps : List PortAnswer} {rep : BoardReply} {hs : List Shot} (h : Keeps s t) :
    EverySome (EverySome (fun x => Keeps s x.1)) (t.firstError c ps rep hs) := by
  induction hs with
  | nil => trivial
  | cons x xs ih =>
    unfold State.firstError
    split
    · trivial
    next e => exact h.shotError.of_eq e
    · exact ih

theorem Keeps.undoIssue {c : Nat} {p : Plan} (h : Keeps s t) : Keeps s (t.undoIssue c p) := h.keep

theorem Keeps.issueEnd {c : Nat} {p : Plan} (h : Keeps s t) : Keeps s (t.issueEnd c p) :=
  .ite h.eret (.ite h h.updGlade)

theorem Keeps.issuePlan {c : Nat} {p : Plan} {mirror : Bool} {ps : List PortAnswer} {rep : BoardReply} (h : Keeps s t)
    :
    Keeps s (t.issuePlan c p mirror ps rep) := by
  unfold State.issuePlan
  extract_lets u now shots waits first
  have hu : Keeps s u := h.issueFront
  have hw : Keeps s waits := h.updGlade
  have hf : EverySome (EverySome (fun x => Keeps s x.1)) first := by
    simp only [first]
    split
    · split
      · trivial
      · exact hu.firstError
    · trivial
  clear_value first waits
  split
  · exact hw
  · exact Keeps.raise (.undoIssue hf)
  · split
    · exact hw
    next e => exact (hu.shoot.of_eq e).trimSnaps.issueEnd
    next e => exact (hu.shoot.of_eq e).undoIssue.raise

theorem Keeps.noteWait {c : Nat} (h : Keeps s t) : Keeps s (t.noteWait c) := h.updGlade
theorem Keeps.noteCell {c : Nat} (h : Keeps s t) : Keeps s (t.noteCell c) := h.updGlade

theorem Keeps.causeHere {c : Nat} {r : Ready} {ps : List PortAnswer} {rep : BoardReply} (h : Keeps s t) :
    CauseAns.Kept s (t.causeHere c r ps rep) := by
  unfold State.causeHere
  split
  · split
    · exact trivial
    · exact h.takeCause
  · split
    · exact trivial
    · split
      · exact trivial
      · exact h.takeCause
      next e1 => exact (h.issueFront.firstError.of_eq e1).undoIssue.raise
  · exact trivial

theorem Keeps.enterWatchdog {c : Nat} (h : Keeps s t) : Keeps s (t.enterWatchdog c) := h.updGlade.raise

theorem Keeps.position {c : Nat} {r : Ready} {ps : List PortAnswer} {rep : BoardReply} (h : Keeps s t) :
    Keeps s (t.position c r ps rep) := by
  unfold State.position
  split
  next e => exact h.causeHere.of_eq e
  · exact h.noteWait
  · split
    · exact h.enterImprecise
    · refine .ite h.enterWatchdog (.ite h.enterEvent ?_)
      split
      · exact h.passAnnulled
      · exact h.issuePlan
      · exact h.noteCell
      · exact h.noteWait

theorem Keeps.issueNative {c : Nat} {ps : List PortAnswer} {rep : BoardReply} (h : Keeps s t) :
    Keeps s (t.issueNative c ps rep) := by
  unfold State.issueNative
  split
  · exact h.ready.position
  · exact h.position
  · exact .ite h.position h.position.updGlade

theorem Keeps.issueByteCode {c : Nat} {ps : List PortAnswer} {rep : BoardReply} (h : Keeps s t) :
    Keeps s (t.issueByteCode c ps rep) := by
  have out : M3Out.Kept s (if t.holdOf c == .go then t.m3Step c ps rep else .wait (t.noteWait c)) := by
    split
    · exact h.m3Step
    · exact h.noteWait
  unfold State.issueByteCode
  extract_lets hold
  split
  next e => exact out.of_eq e
  · split
    · exact h.enterImprecise
    · exact .ite h.enterWatchdog (.ite h.enterEvent (.ite out.state.updGlade out.state))

theorem Keeps.issueOne {c : Nat} {ps : List PortAnswer} {rep : BoardReply} (h : Keeps s t) :
    Keeps s (t.issueOne c ps rep) :=
  .ite h (.ite h.issueByteCode h.issueNative)

/-! ### Token lockstep -/

theorem Keeps.standAt {ps : List PortAnswer} {rep : BoardReply} {c : Nat} (h : Keeps s t) :
    Keeps s (State.standAt ps rep t c).1 :=
  .iteFst h.pair h.ready.pair

theorem Keeps.standAt_what {ps : List PortAnswer} {rep : BoardReply} {c : Nat} (h : Keeps s t) :
    PairSpot.Kept s (State.standAt ps rep t c).2.what := by
  unfold State.standAt
  split
  · exact h.m3Step
  · trivial

theorem Keeps.checkpoint {l t' : Nat} (h : Keeps s t) : Keeps s (t.checkpoint l t') :=
  .ite h h.updGlade.updGlade.setPair

theorem Keeps.sealDone {l t' : Nat} (h : Keeps s t) : Keeps s (t.sealDone l t') := h.setPair.checkpoint

theorem Keeps.raiseTrail {l t' : Nat} {enters : Bool} {e : Cause} (h : Keeps s t) :
    Keeps s (t.raiseTrail l t' enters e) :=
  .ite h.raise h.updGlade

theorem Keeps.raiseBoth {l t' : Nat} {tr : Trig} {e : Cause} (h : Keeps s t) : Keeps s (t.raiseBoth l t' tr e) :=
  h.logCause.updGlade.updGlade.raise.raiseTrail

theorem Keeps.entryBoth {l t' : Nat} (h : Keeps s t) : EverySome (Keeps s) (t.entryBoth l t') := by
  unfold State.entryBoth
  split
  · refine (?_ : Keeps _ _).sealDone
    split
    · exact h.enterImprecise.enterImprecise
    · exact h.enterImprecise
  · split
    · exact h.updGlade.updGlade.raiseBoth.sealDone
    · split
      · exact h.setPair.feed.enterEvent
      · exact trivial

theorem Keeps.issueTwo {l t' : Nat} {a b : Plan} {ps : List PortAnswer} {rep : BoardReply} (h : Keeps s t) :
    Keeps s (t.issueTwo l t' a b ps rep) := by
  unfold State.issueTwo
  extract_lets front ext fail first
  have hfront : Keeps s front := h.issueFront.issueFront
  have hfail : ∀ u e, Keeps s u → Keeps s (fail u e) := fun _ _ k => k.undoIssue.setGlade.keep.raiseBoth.sealDone
  have hfirst : EverySome (EverySome (fun x => Keeps s x.1)) first := by
    simp only [first]
    split
    · exact hfront.firstError
    · trivial
  clear_value first fail
  split
  · exact h.noteWait
  · exact h.noteWait
  · exact hfail _ _ hfirst
  next e => exact hfail _ _ (hfront.shoot.of_eq e)
  next e =>
    have k := (hfront.shoot.of_eq e).trimSnaps (c := l) (p := a) |>.issueEnd (c := l) (p := a)
    dsimp only
    split
    next e1 => exact (k.shoot.of_eq e1).trimSnaps.issueEnd.sealDone
    · exact k.sealDone

theorem Keeps.issueBoth {l t' : Nat} {look : State → Nat → State × Stand} {ps : List PortAnswer} {rep : BoardReply}
    (h : Keeps s t) (hl : ∀ u c, Keeps s u → Keeps s (look u c).1 ∧ PairSpot.Kept s (look u c).2.what) :
    Keeps s (t.issueBoth l t' look ps rep) := by
  unfold State.issueBoth
  extract_lets p q src
  obtain ⟨hp, hw⟩ : Keeps s p.1 ∧ PairSpot.Kept s p.2.what := hl t l h
  clear_value p
  split
  next e =>
    have k : Keeps s _ := hw.of_eq e
    exact k.raiseTrail.setPair.sealDone
  · exact hp.raiseBoth.sealDone
  · split
    · exact hp.noteWait
    · exact hp.raiseBoth.sealDone
    next e =>
      have k := (hp.issueFront.firstError.of_eq e).of_eq rfl
      exact (Keeps.undoIssue k).raiseBoth.sealDone
  · split
    next e => exact hp.entryBoth.of_eq e
    · split
      · have hq : Keeps s q.1 := (hl _ _ hp).1
        clear_value q
        split
        · exact hq.issueTwo
        · exact hq.noteWait
      · exact hp.setPair.passAnnulled
      · exact hp.noteCell
      next e =>
        have k : Keeps s _ := hw.of_eq e
        split
        next e1 => exact Keeps.sealDone ((hl _ _ k).2.of_eq e1)
        · exact hp.noteWait
      · exact hp.noteWait

theorem Keeps.goAlone {c : Nat} {d : Stand} {mirror : Bool} {ps : List PortAnswer} {rep : BoardReply} (h : Keeps s t)
    (hd : PairSpot.Kept s d.what) :
    Keeps s (t.goAlone c d mirror ps rep) := by
  unfold State.goAlone
  split
  next e => exact M3Out.Kept.state (hd.of_eq e)
  · split
    · split
      · exact h.passAnnulled
      · exact h.issuePlan
      · exact h.noteWait
    · exact h.position

theorem Keeps.issueLead {l t' : Nat} {ps : List PortAnswer} {rep : BoardReply} (h : Keeps s t) :
    Keeps s (t.issueLead l t' ps rep) := by
  unfold State.issueLead
  refine .ite h.noteWait ?_
  extract_lets d u v
  have hd : PairSpot.Kept s d.2.what := h.standAt_what
  have hv : Keeps s v := .ite (Keeps.abortTxn h.standAt) h.standAt
  clear_value v
  exact .ite (hv.issueBoth fun _ _ k => ⟨k.standAt, k.standAt_what⟩)
    (.ite hv.noteWait (.ite hv.feed.enterEvent (hv.goAlone hd)))

theorem Keeps.issueTrail {t' : Nat} {ps : List PortAnswer} {rep : BoardReply} (h : Keeps s t) :
    Keeps s (t.issueTrail t' ps rep) := by
  unfold State.issueTrail
  dsimp only
  split
  next e => exact (h.takeFeed.of_eq e).enterEvent
  · exact .ite h.noteWait (.ite h.standAt.noteWait (h.standAt.goAlone h.standAt_what))

theorem Keeps.clearPair {l t' : Nat} (h : Keeps s t) : Keeps s (t.clearPair l t') := h.updGlade.updGlade

theorem Keeps.issuePair {c l t' : Nat} {ps : List PortAnswer} {rep : BoardReply} (h : Keeps s t) :
    Keeps s (t.issuePair c l t' ps rep) := by
  unfold State.issuePair
  refine .ite ?_ ?_
  · split
    · exact h.issueLead
    · exact h.noteWait
    · exact .ite h.clearPair h.noteWait
  · split
    · exact .ite h.issueTrail h.noteWait
    · exact h.issueTrail

theorem Keeps.bundleIssue {c : Nat} {ps : List PortAnswer} {rep : BoardReply} (h : Keeps s t) :
    Keeps s (t.bundleIssue c ps rep) := by
  unfold State.bundleIssue
  split
  · exact .ite h.issuePair h
  · exact h.issueOne

theorem Keeps.atBoundary {c : Nat} (h : Keeps s t) : Keeps s (t.atBoundary c).1 := by
  unfold State.atBoundary
  refine .iteFst h.pair (.iteFst ?_ h.ready.pair)
  split
  · exact h.pair
  · exact h.pair

theorem Keeps.atBoundary_answer {c : Nat} (h : Keeps s t) : CauseAns.Kept s (t.atBoundary c).2 := by
  unfold State.atBoundary
  split
  · trivial
  · split
    · split
      next e => exact h.m3Step.of_eq e
      · trivial
    · exact h.ready.causeHere

theorem Keeps.exceptionEntry {c : Nat} (h : Keeps s t) : Keeps s (t.exceptionEntry c) := by
  unfold State.exceptionEntry
  refine .ite h ?_
  split
  next e => exact h.atBoundary_answer.of_eq e
  · exact h

theorem Keeps.impreciseEntry {c : Nat} (h : Keeps s t) : Keeps s (t.impreciseEntry c) := by
  unfold State.impreciseEntry
  refine .ite h ?_
  split
  next e1 => exact (h.atBoundary.of_eq e1).enterImprecise
  · exact h

theorem Keeps.eventEntry {c : Nat} (h : Keeps s t) : Keeps s (t.eventEntry c) := by
  unfold State.eventEntry
  refine .ite h ?_
  split
  next e => exact (h.atBoundary.of_eq e).enterEvent
  · exact h

theorem Keeps.sealMatch {l t' : Nat} {sl st : W64} (h : Keeps s t) : Keeps s (t.sealMatch l t' sl st) :=
  .ite h.updGlade.updGlade.checkpoint.setPair.recordError.tallyInc.satAdd h.updGlade.updGlade.checkpoint.setPair

theorem Keeps.unwind {c : Nat} (h : Keeps s t) : Keeps s (t.unwind c) := h.foldl fun _ _ k => k.setCode

theorem Keeps.dropTxn {i : Nat} (h : Keeps s t) : Keeps s (t.dropTxn i) := by
  unfold State.dropTxn
  split
  · exact .ite ((h.foldl fun _ _ k => k.freeCells).setTxn.countAbort) h
  · exact h

theorem Keeps.sealMismatch {l t' : Nat} (h : Keeps s t) : Keeps s (t.sealMismatch l t') := by
  unfold State.sealMismatch
  extract_lets g p pos u v w x y
  have k : Keeps s x := (Keeps.keep (t := v) h.unwind.unwind.dropTxn.updGlade.updGlade).setPair
  clear_value x
  exact .ite k.recordError.tallyInc.satAdd.find k

theorem Keeps.sealView {l t' : Nat} {look : State → Nat → State × Stand} (h : Keeps s t)
    (hl : ∀ u c, Keeps s u → Keeps s (look u c).1) :
    Keeps s (t.sealView l t' look).1 :=
  (hl _ _ (hl t l h).setPair).setPair.pair

theorem Keeps.sealCompare {l t' : Nat} {look : State → Nat → State × Stand} (h : Keeps s t)
    (hl : ∀ u c, Keeps s u → Keeps s (look u c).1) :
    Keeps s (t.sealCompare l t' look) := by
  have k := h.sealView (l := l) (t' := t') hl
  exact .ite h (.ite (.ite k (.ite k.sealMatch k.sealMismatch)) (.ite k.sealMismatch k))

theorem Keeps.lockstepSeal {i : Nat} (h : Keeps s t) : Keeps s (t.lockstepSeal i) := by
  unfold State.lockstepSeal
  split
  · exact h
  · exact h.sealCompare fun _ _ k => k.standAt

theorem Keeps.sealTimer {i : Nat} (h : Keeps s t) : Keeps s (t.sealTimer i) := by
  unfold State.sealTimer
  split
  · exact h
  · exact .ite h.setPair h

theorem Keeps.readyWith {c : Nat} {tr : Trig} {t' : TWord} {flags : BranchFlags} (h : Keeps s t) :
    Keeps s (t.readyWith c tr t' flags).1 := by
  unfold State.readyWith
  dsimp only
  split
  · exact h
  · refine .iteFst h (.iteFst h ?_)
    split
    · exact h
    · exact .iteFst h h.updGlade

theorem Keeps.sealRow {c : Nat} {look : State → Nat → State × Stand} {byteCode : Bool} (h : Keeps s t)
    (hl : ∀ u c, Keeps s u → Keeps s (look u c).1 ∧ PairSpot.Kept s (look u c).2.what) :
    Keeps s (t.sealRow c look byteCode) := by
  unfold State.sealRow
  split
  · exact h
  · extract_lets u v src w
    have hu : Keeps s u := h.noteWait
    have hv : Keeps s v := .ite hu.abortTxn hu
    have hw : Keeps s w := hv.setPair.sealCompare fun _ _ k => (hl _ _ k).1
    clear_value w v u
    exact .ite hu (.ite hv (.ite (hw.issueBoth hl) hw))

theorem Keeps.trigger {c : Nat} {tr : Trig} {v : TWord} {flags : BranchFlags} (h : Keeps s t) :
    Keeps s (t.trigger c tr v flags) := by
  unfold State.trigger
  extract_lets look r
  have hr : Keeps s r.1 := h.readyWith
  have hl : ∀ u c, Keeps s u → Keeps s (look u c).1 ∧ PairSpot.Kept s (look u c).2.what :=
    fun _ _ k => ⟨k.readyWith.pair, trivial⟩
  clear_value look r
  refine .ite h (.ite (.ite h (h.sealRow hl)) ?_)
  split
  next e => exact hr.causeHere.of_eq e
  · exact hr.noteWait
  · refine .ite h ?_
    split
    · exact hr.passAnnulled
    · exact hr.issuePlan
    · exact hr.noteCell
    · exact hr.noteWait

theorem Keeps.triggerWord {c : Nat} {tr : Trig} {t' : W64} (h : Keeps s t) : Keeps s (t.triggerWord c tr t') :=
  h.trigger

theorem Keeps.m3Row {c : Nat} {o : M3Op} {len : Nat} {ps : List PortAnswer} {rep : BoardReply} (h : Keeps s t) :
    Keeps s (t.m3Row c o len ps rep) := by
  unfold State.m3Row
  extract_lets look out
  have ho : M3Out.Kept s out := h.m3Exec
  have hl : ∀ u c, Keeps s u → Keeps s (look u c).1 ∧ PairSpot.Kept s (look u c).2.what :=
    fun _ _ k => ⟨k.pair, k.m3Exec⟩
  clear_value look out
  refine .ite h (.ite (.ite h (h.sealRow hl)) ?_)
  split
  · exact ho
  · exact .ite h ho.state

theorem Keeps.m3Unsupported {c : Nat} {op : Byte} (h : Keeps s t) : Keeps s (t.m3Unsupported c op) := .ite h.m3Row h

end Sys2Proof.Machine
end

section
/-! PROOF. Memory's canonical form is kept: what follows of itself, the commands and the step. -/

namespace Sys2Proof.Machine

variable {s t : State}

/-! ### What follows of itself -/

theorem Keeps.pollGlades (h : Keeps s t) : Keeps s t.pollGlades :=
  h.foldl fun _ _ k => k.pendSteps.endDead.askPcie.receiveCommit

theorem Keeps.pollPasses (h : Keeps s t) : Keeps s t.pollPasses := h.foldl fun _ _ k => k.settlePasses
theorem Keeps.pollCommits (h : Keeps s t) : Keeps s t.pollCommits := h.foldl fun _ _ k => .ite k k.advance

theorem Keeps.settled (h : Keeps s t) : Keeps s t.settled :=
  have h := h.pollGlades.pollQm.pollRecovery.pollJw.pollCommits.pollPasses.finishRecovery.react.sealItems
  have h := h.releaseRootlink.pollBlaze.pollShutdown.pump.react.pollIdle.sendNvme.pollFlash.pollSvc
  h.sendOffer.sendTrains.endCommand

/-! ### Operations of the commands alone -/

theorem Keeps.qmBadCommand {v : W64} (h : Keeps s t) : Keeps s (t.qmBadCommand v) := .ite h h.qmCommand

theorem Keeps.jwBadCommand {op j : Nat} (h : Keeps s t) : Keeps s (t.jwBadCommand op j) := by
  unfold State.jwBadCommand
  with_reducible exact .ite h (h.jwIfIdle (fun _ k => k.jwAtOnce))

theorem Keeps.sbBadCommand {v : W64} (h : Keeps s t) : Keeps s (t.sbBadCommand v) := h.sbUpdate

theorem Keeps.applyNow {i : Nat} {refused : Bool} {ps : List PortAnswer} (h : Keeps s t) :
    Keeps s (t.applyNow i refused ps) :=
  .ite (h.onPorts (fun _ k => k.applyTxn)) h

theorem Keeps.markerNow {g : Nat} (h : Keeps s t) : Keeps s (t.markerNow g) := .ite h.startMarker h
theorem Keeps.slotRetire {line : Nat} (h : Keeps s t) : Keeps s (t.slotRetire line) := .ite h.setSlot h

theorem Keeps.flipBit {x1 : Flip} (h : Keeps s t) : Keeps s (t.flipBit x1) := by
  unfold State.flipBit
  split
  · exact h.flipSram
  · exact h.flipDram
  · exact h.flipGlade

theorem Keeps.checkedWrite {r : Requester} {a : Nat} {v : W64} {f : State → State} (h : Keeps s t)
    (hf : ∀ u, Keeps s u → Keeps s (f u)) :
    Keeps s (t.checkedWrite r a v f) := by
  unfold State.checkedWrite
  split
  · exact h.recordRefusal
  · exact hf _ h

theorem Keeps.checkedRead {r : Requester} {a : Nat} {f : State → State} (h : Keeps s t)
    (hf : ∀ u, Keeps s u → Keeps s (f u)) :
    Keeps s (t.checkedRead r a f) := by
  unfold State.checkedRead
  split
  · exact h.recordRefusal.keep
  · exact hf _ h

theorem Keeps.subBy {c k n : Nat} (h : Keeps s t) : Keeps s (t.subBy c k n) := by
  unfold State.subBy
  with_reducible exact h.checkedWrite (fun _ k => k.tallySub)

theorem Keeps.raiseBy {who : Nat} {v : W64} (h : Keeps s t) : Keeps s (t.raiseBy who v) := by
  unfold State.raiseBy
  with_reducible exact h.checkedWrite (fun _ k => k.tallyRaise)

theorem Keeps.routeBy {who k : Nat} {v : W64} (h : Keeps s t) : Keeps s (t.routeBy who k v) := by
  unfold State.routeBy
  with_reducible exact h.checkedWrite (fun _ k => k.routeWrite)

theorem Keeps.requestIllegal {m : Nat} (h : Keeps s t) : Keeps s (t.requestIllegal m) := .ite h h.requestMode

theorem Keeps.wakeEvent {x1 : WakeSource} (h : Keeps s t) : Keeps s (t.wakeEvent x1) := by
  unfold State.wakeEvent
  split
  · exact h.gpioWake
  · exact h.laneWake

theorem Keeps.uartTake (h : Keeps s t) : Keeps s t.uartTake := h.keep
theorem Keeps.jtagIdcode (h : Keeps s t) : Keeps s t.jtagIdcode := h.keep
theorem Keeps.jtagSample {pins : List Bool} (h : Keeps s t) : Keeps s (t.jtagSample pins) := h.keep
theorem Keeps.jtagExtest {pins : List Bool} (h : Keeps s t) : Keeps s (t.jtagExtest pins) := .ite h.keep h.jtagPinTest

theorem Keeps.storeRow {c : Nat} {o : LsuOp} {form : StoreForm} {t' : W64} (h : Keeps s t) :
    Keeps s (t.storeRow c o form t') :=
  h.onPorts (fun _ k => k.triggerWord)

/-! ### The commands and the step -/

/-- `P` holds of the state that an outcome leads to, if it leads to one. -/
def EveryNext (P : State → Prop) : Host.Outcome State Fault Refusal → Prop
  | .next t => P t
  | _ => True

theorem EveryNext.of_eq {P : State → Prop} {o : Host.Outcome State Fault Refusal} {t : State} (h : EveryNext P o)
    (e : o = .next t) : P t := by
  subst e; exact h

theorem Keeps.exec {i : Instr} (h : Keeps s t) : EveryNext (Keeps s) (Machine.exec i t) := by
  cases i with
  | porstNRelease => exact h.porstRelease.settled
  | pushGo => exact h.pushGo.settled
  | bar0StagingWrite => exact h.bar0Write.settled
  | bootLinkAlternate => exact h.bootLinkAlternate.settled
  | holdupNRiseInStructure => exact h.holdupRise.settled
  | negLockWrite => exact h.negLockWrite.settled
  | negLockTimeout => exact h.negTimeout.settled
  | gladeStart => exact h.gladeStart.settled
  | keyprogWord => exact h.keyprogWord.settled
  | keyprogRevoke => exact h.keyprogRevoke.settled
  | regrowStart => exact h.regrowStart.settled
  | regrowQuiesceTimeout => exact h.regrowTimeout.settled
  | regrowApply => exact h.regrowFinish.settled
  | bundleIssue => exact Keeps.settled (h.onPorts fun _ h => h.bundleIssue)
  | exceptionEntry => exact h.exceptionEntry.settled
  | impreciseEntry => exact h.impreciseEntry.settled
  | eventEntry => exact h.eventEntry.settled
  | aluAdd | aluSub | aluAddc | aluSubc | aluNeg | aluPass | aluAnd | aluOr | aluXor | aluAndn | aluEq | aluNe |
  aluLts | aluLtu | aluLes | aluLeu | aluMins | aluMinu | aluMaxs | aluMaxu | aluSel | aluAbs | mulMulu | mulMuls |
  mulMulsu | divDivu | divDivs | divRemu | divRems | shfSll | shfSrl | shfSra | shfRol | shfRor | shfBfextu |
  shfBfexts | shfBfins | shfBrev | shfBswap | shfClz | shfCtz | shfPopc | ckuC32c | ckuC64 | ckuC16 | ckuPar | ckuParb
  | ckuBrev8 | ckuBrev16 | ckuBrev32 | ckuBlk32c | ckuBlk64 | ckuBlk16 | immSet | timeNow | sysBar | sysIfence |
  sysRep | sysWait | sysEret | sysPflush | sysPbar | sysFeat | sysSettag | sysRdevec | sysWrevec | sysRdcnt | sysWdog
  | lsuLd | lsuLw | lsuLws | lsuLh | lsuLhs | lsuLb | lsuLbs | stkEnter => exact h.triggerWord.react
  | divRetire => exact h.updAsync
  | ckuBlockRetire => exact h.blockRetire.react
  | sysGettag | bruEq | bruNe | bruLts | bruGes | bruLtu | bruGeu | bruJmp | bruCall | bruRet => exact h.trigger.react
  | lsuSt | lsuSw | lsuSh | lsuSb => exact h.storeRow.react
  | loadAnswer => exact h.loadAnswer.settled
  | storeDrain => exact h.storeDrain.settled
  | m3Nop | m3Drop | m3Dup | m3Swap | m3Over | m3Lit8 | m3Lit16 | m3Lit32 | m3Add | m3Sub | m3And | m3Or | m3Xor |
  m3Neg | m3Mul | m3Div | m3Rem | m3Shl | m3Shr | m3Sar | m3Ld | m3Ldb | m3Jmp | m3Jz | m3Jnz | m3Call | m3Ret |
  m3Ncall | m3Exit => exact h.m3Row.settled
  | m3St | m3Stb => exact Keeps.settled (h.onPorts fun _ h => h.m3Row)
  | m3Unsupported => exact h.m3Unsupported.settled
  | qpuDeq | qpuSkip | qpuPut | qpuPutl | qpuPutt | qpuAbandon | qpuDepth | qpuFlush | jauPut | jauPutl | jauPutt |
  jauClose | jauAbandon | jauSeal => exact h.trigger.settled
  | qpuRetire => exact h.qpuRetire.settled
  | qpuStreamWord => exact h.streamWord.settled
  | jauSealRetire => exact h.sealRetire.settled
  | recordAccept => exact h.recordAccept.settled
  | txuBegin | txuCommit | txuAbort | txuPass | txuProbe => exact h.triggerWord.settled
  | freeDecide => exact h.freeDecide.settled
  | ticketDecide => exact h.ticketDecide.settled
  | txuApply => exact h.applyNow.settled
  | markerWriteStart => exact h.markerNow.settled
  | lineWriteDone => exact h.lineDone.settled
  | markerSlotRetire => exact h.slotRetire.settled
  | scrubWord => exact h.scrubWord.settled
  | patrolBurst => exact h.patrolBurst.settled
  | zeroFill => exact h.zeroFill.settled
  | retireWrite => exact h.groveWakes.retireWrite.settled
  | injectWrite => exact h.groveWakes.injectWrite.settled
  | errRecordFree => exact ((Keeps.ite h.groveWakes h).errRecordFree).settled
  | qmConfig | qmFlush | qmReset | qmPin | qmUnpin | qmRead => exact h.qmCommand.settled
  | qmBadOp => exact h.qmBadCommand.settled
  | qmPoolWrite => exact h.poolWrite.settled
  | ethFrameReceive => exact h.frameReceive.settled
  | egressTake => exact Keeps.settled (.ite h.egressLink h.egressEth)
  | jwOpen => exact Keeps.settled (h.jwIfIdle fun _ h => h.jwOpen)
  | jwSeal => exact Keeps.settled (h.jwIfIdle fun _ h => h.jwSeal)
  | jwFormat => exact Keeps.settled (h.jwIfIdle fun _ h => h.jwFormat)
  | jwPersist => exact Keeps.settled (h.jwIfIdle fun _ h => h.jwPersist)
  | jwReopen => exact Keeps.settled (h.jwIfIdle fun _ h => h.jwReopen)
  | jwBadOp => exact h.jwBadCommand.settled
  | captureTrigger => exact h.captureTrigger.settled
  | captureEnd => exact h.finishCapture.settled
  | jrelWrite => exact h.jrelWrite.settled
  | nvmeCompletion => exact h.nvmeCompletion.settled
  | nvmeTimeout => exact h.nvmeTimeout.settled
  | nvmeControllerFatal => exact h.nvmeFatal.settled
  | sbUpdateDirectory | sbUpdatePointers | sbUpdateLastFault => exact h.sbUpdate.settled
  | sbBadRecord => exact h.sbBadCommand.settled
  | tlySub => exact h.subBy.settled
  | tlyRaise => exact h.raiseBy.settled
  | tlyRouteWrite => exact h.routeBy.settled
  | tallyDelivery => exact h.deliverTally.settled
  | timerPeriod => exact h.timerPeriodDone.settled
  | gpioEdge => exact h.gpioRun.settled
  | gpioStuck => exact h.gpioStuck.settled
  | gpiCfgWrite => exact Keeps.settled (h.checkedWrite fun _ h => h.gpiWrite)
  | modeReqRun | modeReqLean | modeReqIdle | modeReqDoze | modeReqRetain | modeReqLookout
  => exact h.requestMode.settled
  | idleEntry => exact h.idleEntry.settled
  | modeTransitionDone => exact h.transitionDone.settled
  | wakeEvent => exact h.wakeEvent.settled
  | domainReady => exact h.domainReady.settled
  | wakeStepTimeout => exact h.stepTimeout.settled
  | wakeRetry => exact h.wakeRetry.settled
  | rcOscTimeout => exact h.rcTimeout.settled
  | lookoutSample => exact h.lookoutSample.settled
  | groveClearingEnter => exact h.groveClearing.settled
  | brownout => exact h.brownout.settled
  | pwrDomWrite => exact h.domWrite.settled
  | pwrRailWrite => exact h.railWrite.settled
  | vsenseSample => exact h.vsenseSample.settled
  | holdupNLow => exact h.holdupLow.settled
  | holdupReturn => exact h.holdupReturn.settled
  | clockMonitorWindow => exact h.monitorWindow.settled
  | islandRelock => exact h.relock.settled
  | sideResetRelease => exact h.sideRelease.settled
  | timeStepWrite => exact Keeps.settled (h.checkedWrite fun _ h => h.timeStep)
  | pllLock => exact h.pllLock.settled
  | laneUp => exact h.laneUp.settled
  | laneLinkLoss => exact h.laneLoss.settled
  | pcieCompletionTimeout | pcieCompletion => exact h.pcieAnswer.settled
  | pcieInboundRequest => exact h.inbound.settled
  | hostBarAccess => exact Keeps.settled (h.onPorts fun _ h => h.hostAccess)
  | endpointReset => exact h.endpointReset.settled
  | msixSend => exact h.msixSend.settled
  | xspiCmd => exact Keeps.settled (h.checkedWrite fun _ h => h.xspiCmd)
  | xspiReadyTimeout => exact h.xspiTimeout.settled
  | i2cTransfer => exact Keeps.settled (h.checkedWrite fun _ h => h.i2cTransfer)
  | uartTx => exact Keeps.settled (h.checkedWrite fun _ h => h.uartTx)
  | uartRxRead => exact Keeps.settled (h.checkedRead fun _ h => h.uartTake)
  | uartReceive => exact h.uartReceive.settled
  | ssoWrite => exact Keeps.settled (h.checkedWrite fun _ h => h.ssoWrite)
  | idcode => exact h.jtagIdcode
  | samplePreload => exact h.jtagSample
  | extest => exact h.jtagExtest
  | clamp | highz => exact h.jtagPinTest
  | svcChal => exact h.svcChal
  | svcEnter => exact h.svcEnter.settled
  | svcAccess => exact Keeps.settled (h.onPorts fun _ h => h.svcAccess)
  | bypass => exact h.jtagSelect
  | linkTrainTimeout => exact h.linkTrainTimeout.settled
  | linkMismatchRetry => exact h.linkMismatchRetry.settled
  | train => exact h.train.settled
  | idle => exact h.rtlIdle.settled
  | data => exact h.rtlData.settled
  | blaze => exact h.rtlBlaze.settled
  | timeSync => exact h.timeSync.settled
  | timeReq => exact h.timeReq.settled
  | timeResp => exact h.timeResp.settled
  | nak => exact h.rtlNak.settled
  | nakRepeat => exact h.nakRepeat.settled
  | nakTimeout => exact h.nakTimeout.settled
  | join => exact h.rtlJoin.settled
  | assign => exact h.rtlAssign.settled
  | bootReq | bootResult | negOffer => exact h.toMailbox.settled
  | bootData => exact h.rtlBootData.settled
  | bootEnd => exact h.rtlBootEnd.settled
  | negSet => exact h.rtlNegSet.settled
  | blazeReq => exact h.rtlBlazeReq.settled
  | blazeDone => exact h.rtlBlazeDone.settled
  | msg => exact h.rtlMsg.settled
  | joinSend => exact h.joinSend.settled
  | bootReqSend => exact h.bootReqSend.settled
  | timeSyncSend => exact h.timeSyncSend.settled
  | rtlAssignCmd => exact h.rtlAssignCmd.settled
  | blazeStart => exact h.blazeStartCmd.settled
  | blazeRequest => exact h.blazeRequestCmd.settled
  | bootSend => exact h.bootSendCmd.settled
  | rtlBootEndCmd => exact h.bootEndCmd.settled
  | rtlNegSetCmd => exact h.negSetCmd.settled
  | rtlMsgCmd => exact h.msgCmd.settled
  | mboxPop => exact h.mboxPop.settled
  | blazePeriod => exact h.blazePeriod.settled
  | blazeSyncEdge => exact h.blazeEdge.settled
  | blazeInitiate => exact h.blazeInitiate.settled
  | cutPoint => exact h.cutPoint.settled
  | blazeComplete => exact h.blazeComplete.settled
  | blazeDoneTimeout => exact h.blazeTimeout.settled
  | gctlStop => exact h.gctlStop.settled
  | gctlStart => exact h.gctlStart.settled
  | gviewAccess => exact h.gviewAccess.settled
  | faultAck => exact h.faultAck.settled
  | safeReq => exact h.safCtl.settled
  | lockstepSeal => exact h.lockstepSeal.settled
  | sealTimer => exact h.sealTimer.settled
  | gladeWatchdogExpiry => exact h.gladeWatchdog.settled
  | heartwoodWatchdogExpiry => exact h.hwWatchdog.settled
  | supplyOutOfWindow => exact h.supplyOut.settled
  | tempSample => exact h.tempSample.settled
  | registerWrite => exact h.registerWrite.settled
  | porstNAssert => exact h.porstAssert
  | lossOfSupply => exact h.lossOfSupply
  | modeReqIllegal => exact h.requestIllegal.settled
  | rtlCmdBadOp => exact h.rtlBadOp.settled
  | registerReadClear => exact h.registerRead.settled
  | uartByteSent => exact h.uartSent.settled
  | ivrCurrentLimit => exact h.currentLimit.settled
  | supplyReturn => exact h.supplyReturn.settled
  | supplyReturnTimeout => exact h.supplyTimeout.settled
  | flippedBit => exact h.flipBit.settled

/-- What a step of a state with commands waiting keeps, of the state without the first of them. -/
theorem mem_of_step (h : step s = .next t) (k : Memory.wf s.mem = true) : Memory.wf t.mem = true := by
  unfold step at h
  split at h
  next i rest _ => exact ((Keeps.refl { s with pending := rest }).exec.of_eq h).mem k
  · cases h
    exact (Keeps.refl s).tick.mem k

/-- Settles O4: every operation writes memory through `State.setByte`, `State.setBytes` or removals alone, which keep its
canonical form. -/
theorem stepKeepsMemory : Obligations.StepKeepsMemory := by
  unfold Obligations.StepKeepsMemory
  exact fun s t k h => mem_of_step h k

end Sys2Proof.Machine
end

section
/-! PROOF. The low-speed ports (R448 to R451): flash, I2C, UART and the safe-state outputs. -/

namespace Sys2Proof.Machine

variable {s t u : State}

/-! ### Control registers alone -/

theorem CtlOnly.refl (s : State) : CtlOnly s s := rfl

theorem CtlOnly.trans (h : CtlOnly s t) (k : CtlOnly t u) : CtlOnly s u := by
  unfold CtlOnly at *
  rw [k, h]

theorem CtlOnly.mem (h : CtlOnly s u) : u.mem = s.mem := h ▸ rfl

theorem CtlOnly.glades (h : CtlOnly s u) : u.glades = s.glades := h ▸ rfl

theorem CtlOnly.out (h : CtlOnly s u) : u.out = s.out := h ▸ rfl

theorem State.setFld_ctlOnly (s : State) (a hi lo v : Nat) : CtlOnly s (s.setFld a hi lo v) := rfl

theorem State.setFlag_ctlOnly (s : State) (a i : Nat) (b : Bool) : CtlOnly s (s.setFlag a i b) := rfl

/-- A write of one flag leaves the fields beside it. -/
theorem State.fld_setFlag_ne (s : State) (a : Nat) {i hi lo : Nat} (b : Bool) (h : i < 64) (hd : hi < i ∨ i < lo) :
    (s.setFlag a i b).fld a hi lo = s.fld a hi lo := s.fld_setFld_ne a _ (Nat.le_refl i) h hd

/-- A write of one field leaves the flags beside it. -/
theorem State.flag_setFld_ne (s : State) (a v : Nat) {hi lo i : Nat} (h : lo ≤ hi) (hh : hi < 64)
    (hd : i < lo ∨ hi < i) : (s.setFld a hi lo v).flag a i = s.flag a i := by
  simp [State.flag, bit_setField_ne _ v h hh hd]

/-! ### Checked commands -/

theorem State.checkedWrite_refused {r : Requester} {a d : Nat} {v : W64} (f : State → State)
    (h : s.accessCheck r true a 8 v = some d) : s.checkedWrite r a v f = s.recordRefusal r a d := by
  unfold State.checkedWrite
  rw [h]

theorem State.checkedWrite_passed {r : Requester} {a : Nat} {v : W64} (f : State → State)
    (h : s.accessCheck r true a 8 v = none) : s.checkedWrite r a v f = f s := by
  unfold State.checkedWrite
  rw [h]

theorem State.checkedRead_passed {r : Requester} {a : Nat} (f : State → State)
    (h : s.accessCheck r false a 8 0#64 = none) : s.checkedRead r a f = f s := by
  unfold State.checkedRead
  rw [h]

/-- A checked write that passes settles in what it does. -/
theorem settles_passed {i : Instr} {r : Requester} {a : Nat} {v : W64} {f : State → State} {P : State → Prop}
    (hx : exec i s = .next (s.checkedWrite r a v f).settled) (h : s.accessCheck r true a 8 v = none) (hp : P (f s)) :
    Settles i s P := ⟨f s, State.checkedWrite_passed f h ▸ hx, hp⟩

/-- A checked write that is refused settles in its record. -/
theorem settles_refused {i : Instr} {r : Requester} {a d : Nat} {v : W64} {f : State → State}
    (hx : exec i s = .next (s.checkedWrite r a v f).settled) (h : s.accessCheck r true a 8 v = some d) :
    Settles i s (fun u => u = s.recordRefusal r a d) := ⟨_, hx, State.checkedWrite_refused f h⟩

/-! ### Data words -/

/-- A byte of a word is its eight-bit field. -/
theorem byteOf_toNat (w : W64) (i : Nat) : byteOf w.toNat i = BitVec.ofNat 8 (field w (8 * i + 7) (8 * i)) := by
  refine BitVec.eq_of_toNat_eq ?_
  simp only [byteOf, field, BitVec.toNat_ofNat, show 8 * i + 7 + 1 - 8 * i = 8 by omega, Nat.mod_mod]

/-- The byte that a word's field was set to. -/
theorem byteOf_setField (w : W64) (b : Byte) {i : Nat} (hi : i < 8) :
    byteOf (setField w (8 * i + 7) (8 * i) b.toNat).toNat i = b := by
  rw [byteOf_toNat, field_setField _ _ (by omega) (by omega), show 8 * i + 7 + 1 - 8 * i = 8 by omega,
    Nat.mod_eq_of_lt b.isLt, BitVec.ofNat_toNat, BitVec.setWidth_eq]

/-- The other bytes stay as they were. -/
theorem byteOf_setField_ne (w : W64) (v : Nat) {i j : Nat} (hi : i < 8) (h : j ≠ i) :
    byteOf (setField w (8 * i + 7) (8 * i) v).toNat j = byteOf w.toNat j := by
  rw [byteOf_toNat, byteOf_toNat, field_setField_ne _ v (by omega) (by omega) (by omega)]

/-- One byte more is one field more. -/
theorem State.putData_concat (s : State) (base : Nat) (bs : List Byte) (b : Byte) :
    s.putData base (bs ++ [b]) = (s.putData base bs).setFld (base + 8 * (bs.length / 8))
      (8 * (bs.length % 8) + 7) (8 * (bs.length % 8)) b.toNat := by
  unfold State.putData
  rw [List.length_append, List.length_singleton, List.range_succ,
    List.zip_append (by rw [List.length_range]), List.foldl_append]
  rfl

theorem State.putData_ctlOnly (s : State) (base : Nat) (bs : List Byte) : CtlOnly s (s.putData base bs) := by
  induction bs using List.reverseRecOn with
  | nil => exact CtlOnly.refl s
  | append_singleton bs b ih => exact s.putData_concat base bs b ▸ ih.trans (State.setFld_ctlOnly ..)

/-- Bytes placed from `base` leave the registers below it. -/
theorem State.rd_putData (s : State) {base a : Nat} (bs : List Byte) (h : a < base) :
    (s.putData base bs).rd a = s.rd a := by
  induction bs using List.reverseRecOn with
  | nil => rfl
  | append_singleton bs b ih => rw [State.putData_concat, State.rd_setFld, if_neg (by omega), ih]

/-- Data words hold the same where one register below them differs alone. -/
theorem State.dataBytes_congr {c base : Nat} (n : Nat) (hc : c < base) (h : ∀ a, a ≠ c → t.rd a = s.rd a) :
    t.dataBytes base n = s.dataBytes base n :=
  List.map_congr_left fun i _ => by rw [h _ (by omega)]

/-- The bytes placed in data words are those held there. -/
theorem State.dataBytes_putData (s : State) (base : Nat) (bs : List Byte) :
    (s.putData base bs).dataBytes base bs.length = bs := by
  induction bs using List.reverseRecOn with
  | nil => rfl
  | append_singleton bs b ih =>
    rw [State.putData_concat, List.length_append, List.length_singleton]
    unfold State.dataBytes
    rw [List.range_succ, List.map_append, List.map_singleton]
    refine congrArg₂ (· ++ ·) (Eq.trans (List.map_congr_left fun i hi => ?_) ih) ?_
    · have hlt := List.mem_range.1 hi
      rw [State.rd_setFld]
      split
      next hw =>
        have hd : i / 8 = bs.length / 8 := by omega
        rw [byteOf_setField_ne _ _ (Nat.mod_lt _ (by decide)) (by omega), hd]
      · rfl
    · rw [State.rd_setFld, if_pos rfl, byteOf_setField _ _ (Nat.mod_lt _ (by decide))]

/-! ### xSPI flash (R448) -/

theorem XSPI_CMD_lt_DATA : Reg.UST_XSPI_CMD < Reg.UST_XSPI_DATA 0 := by decide

/-- Without GO, or while BUSY, the fields are written and nothing else happens. -/
theorem State.xspiCmd_ignored {v : W64} (h : s.flag Reg.UST_XSPI_CMD 62 = true ∨ bit v 63 = false) (r : FlashReply) :
    s.xspiCmd v r = s.setFld Reg.UST_XSPI_CMD 24 0 (field v 24 0) := by
  unfold State.xspiCmd
  refine if_pos ?_
  rw [State.flag_setFld_ne _ _ _ (by decide) (by decide) (by decide)]
  rcases h with h | h
  · rw [h, Bool.or_true]
  · rw [h, Bool.not_false, Bool.true_or]

/-- What a command sends to the flash. -/
def State.flashRequest (s : State) (v : W64) : Out :=
  .flash (field v 7 0) (if bit v 8 then some (s.fld Reg.UST_XSPI_ADDR 31 0) else none)
    (if bit v 9 then s.dataBytes (Reg.UST_XSPI_DATA 0) (min 256 (field v 18 10)) else [])

/-- The command register with the fields of a command and GO. -/
def State.flashGo (s : State) (v : W64) : State :=
  (s.setFld Reg.UST_XSPI_CMD 24 0 (field v 24 0)).setFlag Reg.UST_XSPI_CMD 63 true

/-- The state in which a command has been sent to the flash: what was sent among the outputs, the bytes read in the data
words. -/
def State.flashSent (s : State) (v : W64) (r : FlashReply) : State :=
  let u := s.flashGo v
  let w := State.storeFlash { u with out := u.flashRequest v :: u.out } r.stored
  if bit v 9 then w else w.putData (Reg.UST_XSPI_DATA 0) (r.data.take (min 256 (field v 18 10)))

/-- A command that is sent ends, or leaves the flash polled. -/
theorem State.xspiCmd_sent {v : W64} (hb : s.flag Reg.UST_XSPI_CMD 62 = false) (hg : bit v 63 = true) (r : FlashReply) :
    ∃ b, s.xspiCmd v r = if bit v 24 = false ∨ r.ready = some 0
      then (s.flashSent v r).setFld Reg.UST_XSPI_CMD 61 60 0
      else { (s.flashSent v r).setFlag Reg.UST_XSPI_CMD 62 true with board := b } := by
  have hf : (s.setFld Reg.UST_XSPI_CMD 24 0 (field v 24 0)).flag Reg.UST_XSPI_CMD 62 = false :=
    (State.flag_setFld_ne s _ _ (by decide) (by decide) (by decide)).trans hb
  refine ⟨?_, ?_⟩
  rotate_left
  · unfold State.xspiCmd
    dsimp only
    rw [hf, hg, if_neg (by decide)]
    rfl

theorem State.rd_flashGo (s : State) (v : W64) {a : Nat} (h : a ≠ Reg.UST_XSPI_CMD) : (s.flashGo v).rd a = s.rd a := by
  simp [State.flashGo, h]

theorem State.flashRequest_flashGo (s : State) (v : W64) : (s.flashGo v).flashRequest v = s.flashRequest v := by
  have hdata := State.dataBytes_congr (min 256 (field v 18 10)) XSPI_CMD_lt_DATA fun _ => s.rd_flashGo v
  simp only [State.flashRequest, State.fld, hdata, s.rd_flashGo v (show Reg.UST_XSPI_ADDR ≠ Reg.UST_XSPI_CMD by decide)]

/-- What the sending leaves: memory and Glades as they were, the request among the outputs, BUSY as it was, and in the
data words the bytes read. -/
theorem State.flashSent_spec (s : State) (v : W64) (r : FlashReply) :
    (s.flashSent v r).mem = s.mem ∧ (s.flashSent v r).glades = s.glades
      ∧ (s.flashSent v r).out = s.flashRequest v :: s.out
      ∧ (s.flashSent v r).flag Reg.UST_XSPI_CMD 62 = s.flag Reg.UST_XSPI_CMD 62
      ∧ (bit v 9 = false → r.data.length = min 256 (field v 18 10) →
        (s.flashSent v r).dataBytes (Reg.UST_XSPI_DATA 0) (min 256 (field v 18 10)) = r.data) := by
  have hgo : (s.flashGo v).flag Reg.UST_XSPI_CMD 62 = s.flag Reg.UST_XSPI_CMD 62 := by
    unfold State.flashGo State.setFlag
    rw [State.flag_setFld_ne _ _ _ (by decide) (by decide) (by decide),
      State.flag_setFld_ne _ _ _ (by decide) (by decide) (by decide)]
  unfold State.flashSent
  extract_lets u w
  have hout : w.out = s.flashRequest v :: s.out := congrArg (· :: s.out) (s.flashRequest_flashGo v)
  have hw := w.putData_ctlOnly (Reg.UST_XSPI_DATA 0) (r.data.take (min 256 (field v 18 10)))
  split
  next h => exact ⟨rfl, rfl, hout, hgo, fun k => absurd (h.symm.trans k) (by decide)⟩
  · refine ⟨hw.mem, hw.glades, hw.out.trans hout, ?_, fun _ hl => ?_⟩
    · rw [State.flag, State.rd_putData _ _ XSPI_CMD_lt_DATA]
      exact hgo
    · rw [← hl, List.take_length]
      exact State.dataBytes_putData ..

/-- A command that is sent: the request among the outputs, BUSY where the flash is polled and not ready, RESULT 0 where
it is not, and the bytes read in the data words. -/
theorem State.xspiCmd_spec {v : W64} {r : FlashReply} (hb : s.flag Reg.UST_XSPI_CMD 62 = false) (hg : bit v 63 = true)
    (hl : r.data.length = min 256 (field v 18 10)) :
    (s.xspiCmd v r).out = s.flashRequest v :: s.out
      ∧ (s.xspiCmd v r).flag Reg.UST_XSPI_CMD 62 = (bit v 24 && r.ready != some 0)
      ∧ ((s.xspiCmd v r).flag Reg.UST_XSPI_CMD 62 = false → (s.xspiCmd v r).fld Reg.UST_XSPI_CMD 61 60 = 0)
      ∧ (bit v 9 = false → (s.xspiCmd v r).dataBytes (Reg.UST_XSPI_DATA 0) (min 256 (field v 18 10)) = r.data)
      ∧ (s.xspiCmd v r).mem = s.mem ∧ (s.xspiCmd v r).glades = s.glades := by
  obtain ⟨hmem, hglades, hout, hbusy, hdata⟩ := s.flashSent_spec v r
  obtain ⟨b, hx⟩ := State.xspiCmd_sent hb hg r
  have data : ∀ u : State, (∀ a, a ≠ Reg.UST_XSPI_CMD → u.rd a = (s.flashSent v r).rd a) → bit v 9 = false →
      u.dataBytes (Reg.UST_XSPI_DATA 0) (min 256 (field v 18 10)) = r.data := fun u hu h9 =>
    (State.dataBytes_congr _ XSPI_CMD_lt_DATA hu).trans (hdata h9 hl)
  rw [hx]
  split
  next hend =>
    have hready : (bit v 24 && r.ready != some 0) = false := by
      rcases hend with h | h
      · rw [h, Bool.false_and]
      · rw [h, bne_self_eq_false, Bool.and_false]
    refine ⟨hout, ?_, fun _ => State.fld_setFld _ _ _ (by decide) (by decide), data _ fun a ha => ?_, hmem, hglades⟩
    · rw [State.flag_setFld_ne _ _ _ (by decide) (by decide) (by decide), hbusy, hb, hready]
    · rw [State.rd_setFld, if_neg ha]
  next hend =>
    obtain ⟨h24, hr⟩ := not_or.1 hend
    have hset := (s.flashSent v r).flag_setFlag Reg.UST_XSPI_CMD true (show 62 < 64 by decide)
    refine ⟨hout, hset.trans ?_, fun h => absurd (hset.symm.trans h) (by decide), data _ fun a ha => ?_, hmem, hglades⟩
    · rw [Bool.of_not_eq_false h24, Bool.true_and]
      exact (bne_iff_ne.2 hr).symm
    · exact ((s.flashSent v r).rd_setFlag ..).trans (if_neg ha)

/-- The poll of the flash runs out: BUSY falls, with RESULT 1. -/
theorem State.xspiTimeout_spec (h : s.flag Reg.UST_XSPI_CMD 62 = true) (hr : s.board.flashReady = 0) :
    s.xspiTimeout.flag Reg.UST_XSPI_CMD 62 = false ∧ s.xspiTimeout.fld Reg.UST_XSPI_CMD 61 60 = 1
      ∧ CtlOnly s s.xspiTimeout ∧ ∀ c, c ≠ Reg.UST_XSPI_CMD → s.xspiTimeout.rd c = s.rd c := by
  have hx : s.xspiTimeout = (s.setFlag Reg.UST_XSPI_CMD 62 false).setFld Reg.UST_XSPI_CMD 61 60 1 := if_pos ⟨h, hr⟩
  rw [hx]
  refine ⟨?_, State.fld_setFld _ _ _ (by decide) (by decide), rfl, fun c hc => by simp [hc]⟩
  rw [State.flag_setFld_ne _ _ _ (by decide) (by decide) (by decide), State.flag_setFlag _ _ _ (by decide)]

/-! ### I2C (R449) -/

theorem I2C_CMD_lt_DATA : Reg.UST_I2C_CMD < Reg.UST_I2C_DATA 0 := by decide

/-- The fields of a transfer are written; without GO that is all. -/
def State.i2cFields (s : State) (v : W64) : State :=
  s.wr Reg.UST_I2C_CMD ((s.rd Reg.UST_I2C_CMD &&& ~~~0x7FFFFFF#64) ||| (v &&& 0x73F3F7F#64))

theorem State.i2cTransfer_ignored {v : W64} (h : bit v 63 = false) (result : Nat) (bs : List Byte) :
    s.i2cTransfer v result bs = s.i2cFields v := by
  unfold State.i2cTransfer
  exact if_pos (by rw [h]; rfl)

/-- What a transfer puts on the bus: the address, the bytes written and the number read. -/
def State.i2cRequest (s : State) (v : W64) : Out :=
  .i2c (field v 6 0) (s.dataBytes (Reg.UST_I2C_DATA 0) (min 32 (field v 13 8))) (min 32 (field v 21 16))

/-- The state in which a transfer has been made, before its RESULT. -/
def State.i2cSent (s : State) (v : W64) (result : Nat) (bs : List Byte) : State :=
  let u := (s.i2cFields v).setFlag Reg.UST_I2C_CMD 63 true
  let w : State := { u with out := u.i2cRequest v :: u.out }
  if result = 0 then w.putData (Reg.UST_I2C_DATA 0) (bs.take (min 32 (field v 21 16))) else w

theorem State.i2cTransfer_sent {v : W64} (h : bit v 63 = true) (result : Nat) (bs : List Byte) :
    s.i2cTransfer v result bs = (s.i2cSent v result bs).setFld Reg.UST_I2C_CMD 30 28 result := by
  unfold State.i2cTransfer
  exact if_neg (by rw [h]; decide)

/-- What a transfer leaves: memory as it was, the request among the outputs, in the data words the bytes read, and those
as they were where it failed. -/
theorem State.i2cSent_spec (s : State) (v : W64) (result : Nat) (bs : List Byte) :
    (s.i2cSent v result bs).mem = s.mem ∧ (s.i2cSent v result bs).out = s.i2cRequest v :: s.out
      ∧ (result = 0 → bs.length = min 32 (field v 21 16) →
        (s.i2cSent v result bs).dataBytes (Reg.UST_I2C_DATA 0) (min 32 (field v 21 16)) = bs)
      ∧ (result ≠ 0 → ∀ c, c ≠ Reg.UST_I2C_CMD → (s.i2cSent v result bs).rd c = s.rd c) := by
  unfold State.i2cSent
  extract_lets u w
  have hrd : ∀ c, c ≠ Reg.UST_I2C_CMD → u.rd c = s.rd c := fun c hc => by simp [u, State.i2cFields, hc]
  have hout : w.out = s.i2cRequest v :: s.out := by
    have := State.dataBytes_congr (min 32 (field v 13 8)) I2C_CMD_lt_DATA hrd
    exact congrArg (· :: s.out) (by simp only [State.i2cRequest, this])
  have hw := w.putData_ctlOnly (Reg.UST_I2C_DATA 0) (bs.take (min 32 (field v 21 16)))
  split
  next h =>
    refine ⟨hw.mem, hw.out.trans hout, fun _ hl => ?_, fun k => absurd h k⟩
    rw [← hl, List.take_length]
    exact State.dataBytes_putData ..
  next h => exact ⟨rfl, hout, fun k => absurd k h, fun _ c hc => hrd c hc⟩

/-- A transfer: its RESULT, and what it left before. -/
theorem State.i2cTransfer_spec {v : W64} (h : bit v 63 = true) (r : Fin 6) (bs : List Byte) :
    (s.i2cTransfer v r bs).fld Reg.UST_I2C_CMD 30 28 = r
      ∧ (s.i2cTransfer v r bs).out = s.i2cRequest v :: s.out
      ∧ (r.val = 0 → bs.length = min 32 (field v 21 16) →
        (s.i2cTransfer v r bs).dataBytes (Reg.UST_I2C_DATA 0) (min 32 (field v 21 16)) = bs)
      ∧ (r.val ≠ 0 → ∀ c, c ≠ Reg.UST_I2C_CMD → (s.i2cTransfer v r bs).rd c = s.rd c)
      ∧ (s.i2cTransfer v r bs).mem = s.mem := by
  obtain ⟨hmem, hout, hdata, hfail⟩ := s.i2cSent_spec v r bs
  have hrd : ∀ c, c ≠ Reg.UST_I2C_CMD →
      ((s.i2cSent v r bs).setFld Reg.UST_I2C_CMD 30 28 r).rd c = (s.i2cSent v r bs).rd c := fun c hc => by
    rw [State.rd_setFld, if_neg hc]
  rw [State.i2cTransfer_sent h]
  refine ⟨?_, hout, fun h0 hl => ?_, fun h0 c hc => (hrd c hc).trans (hfail h0 c hc), hmem⟩
  · rw [State.fld_setFld _ _ _ (by decide) (by decide)]
    exact Nat.mod_eq_of_lt (Nat.lt_of_lt_of_le r.isLt (by decide))
  · exact (State.dataBytes_congr _ I2C_CMD_lt_DATA hrd).trans (hdata h0 hl)

/-! ### UART (R450) -/

theorem State.uartTx_on (h : s.uartOn = true) (b : Byte) :
    s.uartTx b = { s with uart := if s.uart.tx.length < 64 then { s.uart with tx := s.uart.tx ++ [b] } else s.uart } := by
  unfold State.uartTx
  rw [h, Bool.true_and]
  by_cases hl : s.uart.tx.length < 64
  · rw [if_pos hl, if_pos (decide_eq_true hl)]
  · rw [if_neg hl, if_neg (by rw [decide_eq_false hl]; decide)]

theorem State.uartReceive_on (h : s.uartOn = true) (b : Byte) (framing : Bool) :
    s.uartReceive b framing = { s with uart := if s.uart.rx.length < 64
      then { s.uart with rx := s.uart.rx ++ [(b, framing)] } else { s.uart with overrun := true } } := by
  unfold State.uartReceive
  rw [h, if_neg (by decide)]
  split
  · rfl
  · rfl

theorem State.uartSent_on (h : s.uartOn = true) {b : Byte} {rest : List Byte} (hb : s.uart.tx = b :: rest) :
    s.uartSent = { s with uart := { s.uart with tx := rest }, out := .uart b :: s.out } := by
  unfold State.uartSent
  rw [hb]
  exact if_pos h

/-- A byte with flags above it. -/
theorem bit_byte_flags (b : Byte) (flags i : Nat) (hi : 8 + i < 64) :
    bit (w64 (2 ^ 8 * flags + b.toNat)) (8 + i) = flags.testBit i := by
  rw [bit_w64 _ hi, Nat.testBit_two_pow_mul_add _ b.isLt, if_neg (by omega), Nat.add_sub_cancel_left]

/-- The word of a FIFO's oldest byte: its flags above the byte. -/
theorem Uart.rxWord_flags (u : Uart) : bit u.rxWord 8 = !u.rx.isEmpty ∧ bit u.rxWord 9 = u.overrun
    ∧ ∀ p rest, u.rx = p :: rest → field u.rxWord 7 0 = p.1.toNat ∧ bit u.rxWord 10 = p.2 := by
  unfold Uart.rxWord
  cases u.rx with
  | nil =>
    refine ⟨?_, ?_, fun _ _ h => nomatch h⟩
    · cases u.overrun <;> rfl
    · cases u.overrun <;> rfl
  | cons p ps =>
    have hw : p.1.toNat + 2 ^ 8 + b2n u.overrun * 2 ^ 9 + b2n p.2 * 2 ^ 10
        = 2 ^ 8 * (1 + 2 * b2n u.overrun + 4 * b2n p.2) + p.1.toNat := by omega
    simp only [hw]
    refine ⟨(bit_byte_flags p.1 _ 0 (by decide)).trans ?_, (bit_byte_flags p.1 _ 1 (by decide)).trans ?_, ?_⟩
    · cases u.overrun <;> cases p.2 <;> rfl
    · cases u.overrun <;> cases p.2 <;> rfl
    · rintro _ _ ⟨⟩
      refine ⟨?_, (bit_byte_flags p.1 _ 2 (by decide)).trans ?_⟩
      · have := p.1.isLt
        simp only [field, w64, BitVec.toNat_ofNat, Nat.shiftRight_zero]
        omega
      · cases u.overrun <;> cases p.2 <;> rfl

/-! ### The safe-state outputs (R451) -/

/-- A Glade's write of the first `n` outputs reaches those of its partition. -/
theorem State.ssoWrite_outputs (s : State) (i : Nat) (v : W64) (n : Nat) (hn : n ≤ 8) :
    let u := (List.range n).foldl (fun s n =>
      if s.fld Reg.UST_SSO (2 * n + 17) (2 * n + 16) = s.groveGetPart (i / 16)
      then s.setFlag Reg.UST_SSO n (bit v n) else s) s
    CtlOnly s u ∧ (∀ a, a ≠ Reg.UST_SSO → u.rd a = s.rd a)
      ∧ (∀ hi lo, 8 ≤ lo → u.fld Reg.UST_SSO hi lo = s.fld Reg.UST_SSO hi lo)
      ∧ ∀ k, k < 8 → u.flag Reg.UST_SSO k = if k < n
          ∧ s.fld Reg.UST_SSO (2 * k + 17) (2 * k + 16) = s.groveGetPart (i / 16) then bit v k
        else s.flag Reg.UST_SSO k := by
  induction n with
  | zero => exact ⟨CtlOnly.refl s, fun _ _ => rfl, fun _ _ _ => rfl, fun _ _ => rfl⟩
  | succ n ih =>
    rw [List.range_succ, List.foldl_append]
    obtain ⟨hctl, hrd, hfld, hflag⟩ := ih (by omega)
    generalize List.foldl _ s (List.range n) = u at *
    have hcond : u.fld Reg.UST_SSO (2 * n + 17) (2 * n + 16) = u.groveGetPart (i / 16)
        ↔ s.fld Reg.UST_SSO (2 * n + 17) (2 * n + 16) = s.groveGetPart (i / 16) := by
      rw [hfld _ _ (by omega), show u.groveGetPart (i / 16) = s.groveGetPart (i / 16) by rw [hctl]; rfl]
    have hlast : ∀ k, k ≠ n → (k < n + 1 ↔ k < n) := fun k hk => by omega
    simp only [List.foldl_cons, List.foldl_nil, hcond]
    split
    next hp =>
      refine ⟨hctl.trans (State.setFlag_ctlOnly ..), fun a ha => ?_, fun hi lo hlo => ?_, fun k hk => ?_⟩
      · rw [State.rd_setFlag, if_neg ha, hrd a ha]
      · rw [State.fld_setFlag_ne _ _ _ (by omega) (by omega), hfld hi lo hlo]
      · by_cases hkn : k = n
        · subst hkn
          rw [State.flag_setFlag _ _ _ (by omega), if_pos ⟨Nat.lt_succ_self k, hp⟩]
        · rw [State.setFlag, State.flag_setFld_ne _ _ _ (Nat.le_refl n) (by omega) (by omega), hflag k hk]
          simp only [hlast k hkn]
    next hp =>
      refine ⟨hctl, hrd, hfld, fun k hk => ?_⟩
      rw [hflag k hk]
      by_cases hkn : k = n
      · subst hkn
        rw [if_neg fun h => Nat.lt_irrefl k h.1, if_neg fun h => hp h.2]
      · simp only [hlast k hkn]

/-- A write by the Heartwood sets the outputs and their partitions. -/
theorem State.ssoWrite_heartwood (s : State) (v : W64) :
    CtlOnly s (s.ssoWrite none v) ∧ (∀ a, a ≠ Reg.UST_SSO → (s.ssoWrite none v).rd a = s.rd a)
      ∧ (∀ n, n < 8 → (s.ssoWrite none v).flag Reg.UST_SSO n = bit v n)
      ∧ (s.ssoWrite none v).fld Reg.UST_SSO 31 16 = field v 31 16 := by
  unfold State.ssoWrite
  refine ⟨rfl, fun a ha => ?_, fun n hn => ?_, ?_⟩
  · rw [State.rd_setFld, if_neg ha, State.rd_setFld, if_neg ha]
  · rw [State.flag_setFld_ne _ _ _ (by decide) (by decide) (by omega), State.flag, State.rd_setFld, if_pos rfl, bit,
      getLsbD_setField _ _ _ (by decide) (by decide), if_pos ⟨Nat.zero_le n, by omega⟩, testBit_field]
    simp [bit, show n < 8 from hn]
  · rw [State.fld_setFld _ _ _ (by decide) (by decide)]
    exact Nat.mod_eq_of_lt (field_lt v 31 16)

/-! ### The statement -/

/-- A write by a Glade or the Heartwood, of the outputs it reaches. -/
theorem State.ssoWrite_spec (s : State) (who : Fin 257) (v : W64) :
    let u := s.ssoWrite (if who.val = 256 then none else some who.val) v
    CtlOnly s u ∧ (∀ a, a ≠ Reg.UST_SSO → u.rd a = s.rd a)
      ∧ (∀ n, n < 8 → u.flag Reg.UST_SSO n = if who.val = 256
          ∨ s.fld Reg.UST_SSO (2 * n + 17) (2 * n + 16) = s.groveGetPart (who / 16) then bit v n else s.flag Reg.UST_SSO n)
      ∧ u.fld Reg.UST_SSO 31 16 = (if who.val = 256 then field v 31 16 else s.fld Reg.UST_SSO 31 16) := by
  by_cases hw : who.val = 256
  · obtain ⟨hctl, hrd, hflag, hfld⟩ := s.ssoWrite_heartwood v
    simp only [if_pos hw]
    refine ⟨hctl, hrd, fun n hn => ?_, hfld⟩
    rw [hflag n hn, if_pos (.inl hw)]
  · obtain ⟨hctl, hrd, hfld, hflag⟩ := s.ssoWrite_outputs who v 8 (Nat.le_refl 8)
    simp only [if_neg hw]
    refine ⟨hctl, hrd, fun n hn => ?_, hfld 31 16 (by decide)⟩
    exact (hflag n hn).trans (if_congr (by simp [hn, hw]) rfl rfl)

/-- Settles O53, an operation at a time: each command's clauses are what its operation was shown to do above. -/
theorem lowSpeedPorts : Obligations.LowSpeedPorts := by
  unfold Obligations.LowSpeedPorts
  refine ⟨fun s v => ⟨fun d => ⟨fun h r => ?_, fun h r bs => ?_⟩, fun r h => ⟨fun hi => ?_, fun hb hg hl => ?_⟩,
    fun hb hr => ?_, fun r bs h hb => ⟨fun hg => ?_, fun hg => ?_⟩⟩,
    fun s b hon => ⟨fun h => ?_, fun framing => ?_, fun rest hrest => ?_, fun h => ?_⟩,
    fun s who v => ⟨fun d h => ?_, fun h => ?_⟩⟩
  · exact settles_refused rfl h
  · exact settles_refused rfl h
  · refine settles_passed rfl h ?_
    rw [State.xspiCmd_ignored hi]
    exact ⟨rfl, fun a => State.rd_setFld ..⟩
  · obtain ⟨hout, hrest⟩ := State.xspiCmd_spec hb hg hl
    exact settles_passed rfl h ⟨⟨_, hout, rfl⟩, hrest⟩
  · exact ⟨_, rfl, State.xspiTimeout_spec hb hr⟩
  · refine settles_passed rfl h ?_
    rw [State.i2cTransfer_ignored hg]
    exact ⟨rfl, fun c hc => (State.rd_wr ..).trans (if_neg hc)⟩
  · exact settles_passed rfl h (State.i2cTransfer_spec hg r bs)
  · exact settles_passed rfl h (State.uartTx_on hon b)
  · exact ⟨_, rfl, State.uartReceive_on hon b framing⟩
  · exact ⟨_, rfl, State.uartSent_on hon hrest⟩
  · obtain ⟨hv, ho, hb⟩ := s.uart.rxWord_flags
    have hx : s.checkedRead .heartwood Reg.UST_UART_RX State.uartTake = s.uartTake := State.checkedRead_passed _ h
    exact ⟨s.uartTake, hx ▸ rfl, s.uart.rxWord, rfl, rfl, rfl, rfl, hv, ho, hb⟩
  · exact settles_refused rfl h
  · exact settles_passed rfl h (s.ssoWrite_spec who v)

end Sys2Proof.Machine
end

section
/-! PROOF. The endpoint's lanes after the loss of its link (R433, R443). -/

namespace Sys2Proof.Machine

/-- The ROM waits for a push (STAGE 0x3, R86). Lane 17 of the endpoint is UP and the endpoint's link is not, as it is
where lanes 16 and 17 have come up and lane 16 has been lost. -/
def laneUpLinkDown : State := { (State.reset.setFld Reg.HW_BOOT 7 4 3).setFld (Reg.LANE_STATE 17) 2 0 3 with
  board := { Board.reset with pushing := true } }

theorem laneUpLinkDown_link : laneUpLinkDown.flag (Reg.LANE_PCIE_STAT 2 0) 0 = false := by decide +kernel

/-- Left to itself the lane stays UP. -/
theorem laneUpLinkDown_settled : laneUpLinkDown.settled.rd (Reg.LANE_STATE 17) = 3#64 := by decide +kernel

/-- A link loss takes it from UP to DOWN and counts that. -/
theorem laneUpLinkDown_reset :
    (laneUpLinkDown.endpointReset true).settled.rd (Reg.LANE_STATE 17) = 0x10004#64 := by decide +kernel

/-- Refutes O47, in its clause that a reset by link loss does nothing while the link is down: lanes of the endpoint that
are still UP leave UP all the same. -/
theorem not_endpointAccess : ¬ Obligations.EndpointAccess := by
  unfold Obligations.EndpointAccess
  rintro ⟨-, host⟩
  obtain ⟨-, -, -, -, -, linkDown, -⟩ := host laneUpLinkDown 0#48 noReply
  obtain ⟨u, hexec, rfl⟩ := linkDown laneUpLinkDown_link
  have hsettled : (laneUpLinkDown.endpointReset true).settled = laneUpLinkDown.settled := Host.Outcome.next.inj hexec
  have hlane := congrArg (·.rd (Reg.LANE_STATE 17)) hsettled
  exact absurd (laneUpLinkDown_reset.symm.trans (hlane.trans laneUpLinkDown_settled)) (by decide)

end Sys2Proof.Machine
end
section
/-! SUPPORT. What an access to memory leaves of a REGROW and of the mode (R72, R393): the registers in which they show,
the applied Stand Map, what no access gives a Glade or a TXU; and of everything else that is stored where the access does
not reach. -/

namespace Sys2Proof.Machine

/-! ### The registers -/

/-- The registers in which the mode and a REGROW show. -/
def regrowReg (a : Nat) : Prop := a = Reg.PWR_MODE ∨ a = Reg.SM_STATUS ∨ a = Reg.SM_REGROW_STATUS

theorem not_regrowReg {a : Nat} (h : a ≠ Reg.PWR_MODE ∧ a ≠ Reg.SM_STATUS ∧ a ≠ Reg.SM_REGROW_STATUS) :
    ¬ regrowReg a := by
  rintro (e | e | e)
  · exact h.1 e
  · exact h.2.1 e
  · exact h.2.2 e

/-- A register of a block that holds none of them. -/
theorem not_regrowReg_of_block {a : Nat}
    (h : a < 0x405000000 ∨ (0x405000000 < a ∧ a < 0x40B000000) ∨ 0x40B000308 < a) : ¬ regrowReg a :=
  not_regrowReg (by simp only [Reg.PWR_MODE, Reg.SM_STATUS, Reg.SM_REGROW_STATUS]; omega)

theorem RecSet.not_regrowReg (r : RecSet) {n : Nat} (hn : n < 8) :
    ¬ regrowReg r.status ∧ ¬ regrowReg (r.info n) ∧ ¬ regrowReg (r.addr n) := by
  cases r with
  | grove g =>
    refine ⟨?_, ?_, ?_⟩ <;> refine Machine.not_regrowReg ?_ <;>
      simp only [RecSet.status, RecSet.info, RecSet.addr, Reg.GRV_ERR_STATUS, Reg.GRV_ERR_INFO, Reg.GRV_ERR_ADDR,
        Reg.PWR_MODE, Reg.SM_STATUS, Reg.SM_REGROW_STATUS] <;> omega
  | heartwood =>
    refine ⟨?_, ?_, ?_⟩ <;> refine not_regrowReg_of_block ?_ <;>
      simp only [RecSet.status, RecSet.info, RecSet.addr, Reg.SAF_ERR_STATUS, Reg.SAF_ERR_INFO, Reg.SAF_ERR_ADDR] <;>
      omega
  | ddr c =>
    refine ⟨?_, ?_, ?_⟩ <;> refine Machine.not_regrowReg ?_ <;>
      simp only [RecSet.status, RecSet.info, RecSet.addr, Reg.DDR_ERR_STATUS, Reg.DDR_ERR_INFO, Reg.DDR_ERR_ADDR,
        Reg.PWR_MODE, Reg.SM_STATUS, Reg.SM_REGROW_STATUS] <;> omega

theorem TLY_CNT_not_regrowReg {k : Nat} (h : k < 4352) : ¬ regrowReg (Reg.TLY_CNT k) :=
  not_regrowReg_of_block (by simp only [Reg.TLY_CNT]; omega)

theorem UST_ISL_not_regrowReg {i : Nat} (h : i < 1024) : ¬ regrowReg (Reg.UST_ISL i) :=
  not_regrowReg_of_block (by simp only [Reg.UST_ISL]; omega)

theorem PWR_DOM_not_regrowReg {d : Nat} (h : d < 1024) : ¬ regrowReg (Reg.PWR_DOM d) :=
  not_regrowReg_of_block (by simp only [Reg.PWR_DOM]; omega)

theorem PWR_RAIL_not_regrowReg {r : Nat} (h : r < 1024) : ¬ regrowReg (Reg.PWR_RAIL r) :=
  not_regrowReg_of_block (by simp only [Reg.PWR_RAIL]; omega)

theorem GRV_BUSY_not_regrowReg (g : Nat) : ¬ regrowReg (Reg.GRV_BUSY g) :=
  not_regrowReg (by simp only [Reg.GRV_BUSY, Reg.PWR_MODE, Reg.SM_STATUS, Reg.SM_REGROW_STATUS]; omega)

theorem GRV_INJECT_not_regrowReg (g : Nat) : ¬ regrowReg (Reg.GRV_INJECT g) :=
  not_regrowReg (by simp only [Reg.GRV_INJECT, Reg.PWR_MODE, Reg.SM_STATUS, Reg.SM_REGROW_STATUS]; omega)

theorem DDR_CH_WMARK_not_regrowReg (n : Nat) : ¬ regrowReg (Reg.DDR_CH_WMARK n) :=
  not_regrowReg (by simp only [Reg.DDR_CH_WMARK, Reg.PWR_MODE, Reg.SM_STATUS, Reg.SM_REGROW_STATUS]; omega)

/-! ### Places -/

/-- A fold of steps each of which leaves a part leaves it. -/
theorem foldl_leaves {α β γ : Type} (p : α → γ) {f : α → β → α} (hf : ∀ x y, p (f x y) = p x) (l : List β) (x : α) :
    p (l.foldl f x) = p x := by
  induction l generalizing x with
  | nil => rfl
  | cons y l ih => rw [List.foldl_cons, ih, hf]

/-- What a filter keeps of a key reads as before. -/
theorem smGet_filter_of_forall {α : Type} {d : α} {keep : Nat × α → Bool} {j : Nat} (h : ∀ v, keep (j, v) = true)
    (m : SMap α) : smGet d (m.filter keep) j = smGet d m j := by
  induction m with
  | nil => rfl
  | cons p m ih =>
    obtain ⟨k, v⟩ := p
    rw [List.filter_cons]
    by_cases hj : j = k
    · subst hj
      rw [if_pos (h v), smGet, smGet, if_pos rfl, if_pos rfl]
    · rw [smGet, if_neg hj, ← ih]
      split
      · rw [smGet, if_neg hj]
      · rfl

/-- DRAM has four channels. -/
theorem State.dramChannel_lt (s : State) (o : Nat) : (s.dramChannel o).1 < 4 := by
  have hpop : ∀ c ∈ (List.range 4).filter (fun n => s.flag (Reg.DDR_CH_CFG n) 0), c < 4 := fun c hc =>
    List.mem_range.1 (List.mem_filter.1 hc).1
  unfold State.dramChannel
  generalize (List.range 4).filter (fun n => s.flag (Reg.DDR_CH_CFG n) 0) = pop at hpop
  dsimp only
  split
  · rw [List.getD_eq_getElem?_getD]
    cases e : pop[o / 4096 % pop.length]? with
    | none => exact Nat.zero_lt_succ 3
    | some c => exact hpop c (List.mem_of_getElem? e)
  · refine List.foldlRecOn pop _ (motive := fun acc : Nat × Option (Nat × Nat) => (acc.2.getD (0, 0)).1 < 4)
      (Nat.zero_lt_succ 3) fun acc hacc c hc => ?_
    split
    next x e => rw [e] at hacc; exact hacc
    next =>
      split
      · exact hpop c hc
      · exact Nat.zero_lt_succ 3

/-- The words of an access lie from its first byte on. -/
theorem le_of_mem_splitWords {a : Nat} {data : List Byte} {p : Nat × List Byte} (h : p ∈ splitWords a data) :
    a ≤ p.1 := by
  unfold splitWords at h
  dsimp only at h
  split at h
  · rw [List.mem_singleton.1 h]
  · rcases List.mem_cons.1 h with rfl | h
    · exact Nat.le_refl _
    · obtain ⟨k, -, rfl⟩ := List.mem_map.1 h
      dsimp only
      omega

/-! ### What a REGROW rests on -/

/-- From `s` to `t` what a REGROW rests on is kept: its registers, the applied Stand Map, the REGROW in progress; no TXU
begins to quiesce and no transaction opens; a Glade's registers stay, or are those after reset. -/
structure RegrowKept (s t : State) : Prop where
  sections : t.sections = s.sections
  regrow : t.regrow = s.regrow
  rd : ∀ a, regrowReg a → t.rd a = s.rd a
  resumed : ∀ g, (s.txu g).quiescing = false → (t.txu g).quiescing = false
  noTxn : ∀ i, s.txn i = none → t.txn i = none
  grf : ∀ i, (t.glade i).grf = (s.glade i).grf ∨ (t.glade i).grf = Glade.reset.grf

/-- The same, and memory below `lo`, the pools, the cursors of every Glade and the Rootlink links stay, and so do the
cached descriptors of queues outside `Q`, unless they leave the cache: what an access to memory from `lo` on leaves, where
the descriptors lie from `lo` on too. -/
structure Untouched (lo : Nat) (Q : Nat → Prop) (s t : State) : Prop extends RegrowKept s t where
  floor : lo % 64 = 0 ∧ lo ≤ dramBase ∧ lo ≤ s.descBase
  byteAt : ∀ a, a < lo → t.byteAt a = s.byteAt a
  pools : t.qm.pools = s.qm.pools
  cache : ∀ e ∈ t.qm.cache, e ∈ s.qm.cache ∨ Q e.queue
  links : t.rootlink.links = s.rootlink.links
  reads : ∀ i, (t.glade i).reads = (s.glade i).reads
  writes : ∀ i, (t.glade i).writes = (s.glade i).writes

theorem RegrowKept.refl (s : State) : RegrowKept s s :=
  ⟨rfl, rfl, fun _ _ => rfl, fun _ => id, fun _ => id, fun _ => .inl rfl⟩

theorem RegrowKept.trans {s t u : State} (h : RegrowKept s t) (k : RegrowKept t u) : RegrowKept s u where
  sections := k.sections.trans h.sections
  regrow := k.regrow.trans h.regrow
  rd a ha := (k.rd a ha).trans (h.rd a ha)
  resumed g hg := k.resumed g (h.resumed g hg)
  noTxn i hi := k.noTxn i (h.noTxn i hi)
  grf i := (k.grf i).elim (fun e => (h.grf i).imp e.trans e.trans) .inr

theorem RegrowKept.sec {s t : State} (h : RegrowKept s t) (ty : Nat) : t.sec ty = s.sec ty :=
  congrArg (smGet [] · ty) h.sections

/-- Where the descriptors lie rests on the Stand Map's queue section alone. -/
theorem State.descBase_of_sec {s t : State} (h : t.sec 0x30 = s.sec 0x30) : t.descBase = s.descBase := by
  unfold State.descBase State.secLE
  rw [h]

theorem State.queueInfo_of_sec {s t : State} (h : t.sec 0x30 = s.sec 0x30) (q : Nat) :
    t.queueInfo q = s.queueInfo q := by
  unfold State.queueInfo State.secLE
  rw [h]

/-- The floor that leaves no memory below it. -/
theorem Untouched.refl_zero (Q : Nat → Prop) (s : State) : Untouched 0 Q s s :=
  ⟨.refl s, ⟨rfl, Nat.zero_le _, Nat.zero_le _⟩, fun _ _ => rfl, rfl, fun _ => .inl, rfl, fun _ => rfl,
    fun _ => rfl⟩

/-- The floor under DRAM. -/
theorem Untouched.refl_dram {s : State} (Q : Nat → Prop) (h : dramBase ≤ s.descBase) : Untouched dramBase Q s s :=
  ⟨.refl s, ⟨by decide, Nat.le_refl _, h⟩, fun _ _ => rfl, rfl, fun _ => .inl, rfl, fun _ => rfl,
    fun _ => rfl⟩

namespace Untouched

variable {lo : Nat} {Q : Nat → Prop} {s t u : State}

theorem descBase (h : Untouched lo Q s t) : t.descBase = s.descBase := State.descBase_of_sec (h.sec _)

/-! ### How changes, branches and folds are passed -/

theorem ite {p : Prop} {_ : Decidable p} (ht : Untouched lo Q s t) (hu : Untouched lo Q s u) :
    Untouched lo Q s (if p then t else u) := by
  split
  · exact ht
  · exact hu

theorem iteFst {α : Type} {p : Prop} {_ : Decidable p} {x y : State × α} (hx : Untouched lo Q s x.1)
    (hy : Untouched lo Q s y.1) : Untouched lo Q s (if p then x else y).1 := by
  split
  · exact hx
  · exact hy

theorem of_eq {α : Type} {p : State × α} {x : α} (h : Untouched lo Q s p.1) (e : p = (t, x)) : Untouched lo Q s t := by
  subst e; exact h

theorem foldl {α : Type} {f : State → α → State} {l : List α} (h : Untouched lo Q s t)
    (hf : ∀ u, ∀ x ∈ l, Untouched lo Q s u → Untouched lo Q s (f u x)) : Untouched lo Q s (l.foldl f t) := by
  induction l generalizing t with
  | nil => exact h
  | cons x l ih =>
    exact ih (hf t x List.mem_cons_self h) fun u y hy => hf u y (List.mem_cons_of_mem x hy)

/-- Whatever else changes, where registers, memory, the Stand Map, Glades, the queue manager, TXUs and Rootlink do not. -/
theorem keep {ecc : SMap (BitVec 9)} {dramCheck : SMap (BitVec 128)} {stuck : List Stuck}
    {readErrs : List ReadErr} {ports : Ports} {spoiled : List (Nat × Nat)} {scrub : Scrub}
    {snaps : List (Nat × Nat × Bool × Glade)} {jw : Jw} {drives : SMap (Option Controller)} {media : Media}
    {unflushed : List OldBlock} {keeper : Keeper} {est : Estimator} {time : TimeBase} {board : Board}
    {sampler : Sampler} {power : Power} {monitors : Monitors} {pairs : SMap Pair} {uart : Uart} {jtag : Jtag}
    {out : List Out} {msix : Msix} {bridges : SMap Bridge} {findings : List Finding} {free : Nat} {pending : List Instr}
    (h : Untouched lo Q s t) : Untouched lo Q s ⟨t.ctl, t.mem, ecc, dramCheck, stuck, readErrs, ports, spoiled, scrub,
    t.glades, snaps, t.qm, t.txus, jw, drives, media, unflushed, keeper, est, time, board, sampler, power, monitors,
    pairs, uart, jtag, t.rootlink, t.regrow, out, msix, bridges, t.sections, findings, free, pending⟩ :=
  ⟨⟨h.sections, h.regrow, h.rd, h.resumed, h.noTxn, h.grf⟩, h.floor, h.byteAt, h.pools, h.cache, h.links, h.reads,
    h.writes⟩

/-- A change of control registers, none of which shows the mode or a REGROW. -/
theorem ctl {m : SMap W64} (h : Untouched lo Q s t) (hm : ∀ a, regrowReg a → ({ t with ctl := m } : State).rd a = t.rd a) :
    Untouched lo Q s { t with ctl := m } :=
  ⟨⟨h.sections, h.regrow, fun a ha => (hm a ha).trans (h.rd a ha), h.resumed, h.noTxn, h.grf⟩, h.floor, h.byteAt,
    h.pools, h.cache, h.links, h.reads, h.writes⟩

theorem wr {a : Nat} {v : W64} (h : Untouched lo Q s t) (ha : ¬ regrowReg a) : Untouched lo Q s (t.wr a v) :=
  h.ctl fun b hb => (State.rd_wr ..).trans (if_neg fun e : b = a => ha (e ▸ hb))

theorem setFld {a hi lo' v : Nat} (h : Untouched lo Q s t) (ha : ¬ regrowReg a) : Untouched lo Q s (t.setFld a hi lo' v) :=
  h.wr ha

theorem setFlag {a i : Nat} {b : Bool} (h : Untouched lo Q s t) (ha : ¬ regrowReg a) : Untouched lo Q s (t.setFlag a i b) :=
  h.wr ha

theorem satAdd {a hi lo' n : Nat} (h : Untouched lo Q s t) (ha : ¬ regrowReg a) : Untouched lo Q s (t.satAdd a hi lo' n) :=
  h.wr ha

theorem wrapAdd {a hi lo' n : Nat} (h : Untouched lo Q s t) (ha : ¬ regrowReg a) : Untouched lo Q s (t.wrapAdd a hi lo' n) :=
  h.wr ha

/-- A change of one Glade, neither of its registers nor of its cursors. -/
theorem updGlade {c : Nat} {f : Glade → Glade} (h : Untouched lo Q s t)
    (hf : ∀ x, (f x).grf = x.grf ∧ (f x).reads = x.reads ∧ (f x).writes = x.writes := by exact fun _ => ⟨rfl, rfl, rfl⟩) :
    Untouched lo Q s (t.updGlade c f) := by
  have hg : ∀ {α : Type} (p : Glade → α), (∀ x, p (f x) = p x) → ∀ i, p ((t.updGlade c f).glade i) = p (t.glade i) := by
    intro α p hp i
    rw [State.glade_updGlade]
    split
    next e => rw [hp, e]
    next => rfl
  exact ⟨⟨h.sections, h.regrow, h.rd, h.resumed, h.noTxn, fun i => by
      rw [hg Glade.grf fun x => (hf x).1]; exact h.grf i⟩, h.floor, h.byteAt, h.pools, h.cache, h.links,
    fun i => (hg Glade.reads (fun x => (hf x).2.1) i).trans (h.reads i),
    fun i => (hg Glade.writes (fun x => (hf x).2.2) i).trans (h.writes i)⟩

theorem updAsync {c : Nat} {f : Glade → Glade} (h : Untouched lo Q s t)
    (hf : ∀ x, (f x).grf = x.grf ∧ (f x).reads = x.reads ∧ (f x).writes = x.writes := by exact fun _ => ⟨rfl, rfl, rfl⟩) :
    Untouched lo Q s (t.updAsync c f) :=
  (h.updGlade hf).keep

/-- A TXU changed that does not begin to quiesce, and whose transactions stay or end. -/
theorem setTxu {g : Nat} {x : Txu} (h : Untouched lo Q s t)
    (hq : (t.txu g).quiescing = false → x.quiescing = false := by exact id)
    (hx : ∀ k, smGet none (t.txu g).txns k = none → smGet none x.txns k = none := by exact fun _ => id) :
    Untouched lo Q s (t.setTxu g x) := by
  refine ⟨⟨h.sections, h.regrow, h.rd, fun k hk => ?_, fun i hi => ?_, h.grf⟩, h.floor, h.byteAt, h.pools, h.cache, h.links,
    h.reads, h.writes⟩
  · rw [State.txu_setTxu]
    split
    next e => exact hq (e ▸ h.resumed k hk)
    next => exact h.resumed k hk
  · unfold State.txn
    rw [State.txu_setTxu]
    split
    next e => exact hx _ (e ▸ h.noTxn i hi)
    next => exact h.noTxn i hi

theorem setTxn {i : Nat} {x : Option Txn} (h : Untouched lo Q s t) (hx : t.txn i = none → x = none) :
    Untouched lo Q s (t.setTxn i x) := by
  refine h.setTxu id fun k hk => ?_
  rw [smGet_smSet]
  split
  next e => exact hx (show smGet none (t.txu (i / 16)).txns (i % 16) = none from e ▸ hk)
  next => exact hk

/-! ### Counters, findings and records -/

theorem find {f : Finding} (h : Untouched lo Q s t) : Untouched lo Q s (t.find f) := h.keep

theorem noteMsix {k : Nat} (h : Untouched lo Q s t) : Untouched lo Q s (t.noteMsix k) := h.keep

theorem noteTriggers {k : Nat} (h : Untouched lo Q s t) : Untouched lo Q s (t.noteTriggers k) := .ite h h.keep

theorem tallyInc {k n : Nat} (h : Untouched lo Q s t) : Untouched lo Q s (t.tallyInc k n) := by
  unfold State.tallyInc
  split
  · exact h
  next hk =>
    have ha : ¬ regrowReg (Reg.TLY_CNT k) := TLY_CNT_not_regrowReg (by omega)
    exact (((h.setFlag ha).ite h).setFld ha).noteMsix.noteTriggers

theorem loseEvents {i n : Nat} (h : Untouched lo Q s t) (hi : i < 1024) : Untouched lo Q s (t.loseEvents i n) :=
  .ite h (h.satAdd (UST_ISL_not_regrowReg hi)).tallyInc

theorem crossInc {i k n : Nat} (h : Untouched lo Q s t) (hi : i < 1024) : Untouched lo Q s (t.crossInc i k n) :=
  .ite h.tallyInc (.ite (h.loseEvents hi) (h.keep.loseEvents hi))

theorem recordError {r : RecSet} {e : ErrInfo} (h : Untouched lo Q s t) : Untouched lo Q s (t.recordError r e) := by
  unfold State.recordError
  dsimp only
  split
  next n hn =>
    obtain ⟨-, hi, -⟩ := r.not_regrowReg (List.mem_range.1 (List.mem_of_find?_eq_some hn))
    exact .ite ((h.satAdd hi).setFlag hi) (h.satAdd hi)
  next =>
    split
    next n hn =>
      obtain ⟨hs, hi, ha⟩ := r.not_regrowReg (List.mem_range.1 (List.mem_of_find?_eq_some hn))
      exact (((h.wr hi).wr ha).setFlag hs).wrapAdd hs
    next => exact h.satAdd (r.not_regrowReg (n := 0) (by decide)).1

theorem recordRefusal {r : Requester} {a d : Nat} (h : Untouched lo Q s t) : Untouched lo Q s (t.recordRefusal r a d) :=
  .ite h.recordError.tallyInc.find h.recordError.tallyInc

/-! ### Regulators and ports -/

theorem groveWakes {g : Nat} (h : Untouched lo Q s t) (hg : g < 16) : Untouched lo Q s (t.groveWakes g) :=
  .ite ((h.setFlag (PWR_RAIL_not_regrowReg (by omega))).setFld (PWR_DOM_not_regrowReg (by omega))) h

theorem touch {a : Nat} (h : Untouched lo Q s t) : Untouched lo Q s (t.touch a) := by
  obtain ⟨hg, hi, hd⟩ := t.regionOf_inPart a
  unfold State.touch
  split
  next e => exact h.groveWakes (hg _ e)
  next e => exact h.groveWakes (Nat.div_lt_of_lt_mul (hi _ e))
  next e => exact h.groveWakes (Nat.div_lt_of_lt_mul (hd _ e))
  next =>
    split
    · exact h.groveWakes (by omega)
    · exact h
  next => exact h

theorem noteBusy {r : Requester} {g n : Nat} (h : Untouched lo Q s t) : Untouched lo Q s (t.noteBusy r g n) := by
  have ha := GRV_BUSY_not_regrowReg g
  unfold State.noteBusy
  refine .ite h ?_
  dsimp only
  split
  · exact ((h.wrapAdd ha).ite (h.wrapAdd ha)).updAsync
  · exact ((h.wrapAdd ha).ite (h.wrapAdd ha)).updAsync
  · exact (h.wrapAdd ha).ite (h.wrapAdd ha)

theorem portAnswer {r : Requester} {write : Bool} {w : Nat} (h : Untouched lo Q s t) :
    Untouched lo Q s (t.portAnswer r write w).1 := by
  unfold State.portAnswer
  split
  · refine .iteFst ?_ h.keep.noteBusy
    split
    · exact h.keep.noteBusy
    · exact h
  · exact h

/-! ### Words -/

theorem setByte {a : Nat} {b : Byte} (h : Untouched lo Q s t) (ha : lo ≤ a) : Untouched lo Q s (t.setByte a b) :=
  ⟨⟨h.sections, h.regrow, h.rd, h.resumed, h.noTxn, h.grf⟩, h.floor, fun x hx => by
    rw [State.byteAt_setByte, if_neg (by omega), h.byteAt x hx], h.pools, h.cache, h.links, h.reads, h.writes⟩

theorem setBytes {a : Nat} {bs : List Byte} (h : Untouched lo Q s t) (ha : lo ≤ a) : Untouched lo Q s (t.setBytes a bs) := by
  induction bs generalizing t a with
  | nil => exact h
  | cons b bs ih => exact ih (h.setByte ha) (Nat.le_succ_of_le ha)

theorem setCode {w : Nat} {c : CodeWord} (h : Untouched lo Q s t) (hw : lo ≤ w) : Untouched lo Q s (t.setCode w c) :=
  (h.setBytes hw).keep

theorem setBurst {b : Nat} {bs : List Byte} {k : BitVec 128} (h : Untouched lo Q s t) (hb : lo ≤ b) :
    Untouched lo Q s (t.setBurst b bs k) :=
  (h.setBytes hb).keep

theorem readOnce {a : Nat} (h : Untouched lo Q s t) : Untouched lo Q s (t.readOnce a) := h.keep

theorem storeCode {w : Nat} {c : CodeWord} (h : Untouched lo Q s t) (hw : lo ≤ w) : Untouched lo Q s (t.storeCode w c) :=
  .ite ((h.setCode hw).setFlag (GRV_INJECT_not_regrowReg _)) (h.setCode hw)

theorem memFinding {m kind w : Nat} {src : Option Nat} (h : Untouched lo Q s t) :
    Untouched lo Q s (t.memFinding m kind w src) :=
  h.find

theorem heartwoodMemFault {r : Requester} {w : Nat} (h : Untouched lo Q s t) :
    Untouched lo Q s (t.heartwoodMemFault r w) :=
  .ite h.find h

theorem noteCorrected {r : Requester} {w pos : Nat} (h : Untouched lo Q s t) :
    Untouched lo Q s (t.noteCorrected r w pos) :=
  .ite h.recordError.keep h.recordError.readOnce

theorem sramFind {r : Requester} {w : Nat} (h : Untouched lo Q s t) (hw : lo ≤ w) :
    Untouched lo Q s (t.sramFind r w).1 := by
  unfold State.sramFind
  dsimp only
  split
  · exact h.readOnce
  · exact h.noteCorrected
  · exact h.readOnce
  · split
    · exact h.readOnce.recordError.readOnce
    · exact h.readOnce.recordError.readOnce.setCode hw
    · exact h.readOnce.readOnce
    · exact h.readOnce.readOnce

theorem sramRead {r : Requester} {w : Nat} (h : Untouched lo Q s t) (hw : lo ≤ w) :
    Untouched lo Q s (t.sramRead r w).1 := by
  unfold State.sramRead
  dsimp only
  split
  next e => exact (h.sramFind hw).of_eq e
  next e => exact ((h.sramFind hw).of_eq e).recordError.heartwoodMemFault.memFinding
  next e => exact (((h.sramFind hw).of_eq e).recordError.tallyInc.setCode hw).heartwoodMemFault.memFinding

theorem noteCode {a n : Nat} {how : CodeWriter} (h : Untouched lo Q s t) : Untouched lo Q s (t.noteCode a n how) := by
  unfold State.noteCode
  split
  · exact h
  · refine .ite h (h.updAsync fun x => ⟨?_, ?_, ?_⟩)
    · exact foldl_leaves Glade.grf (fun x j => by dsimp only; split <;> rfl) _ x
    · exact foldl_leaves Glade.reads (fun x j => by dsimp only; split <;> rfl) _ x
    · exact foldl_leaves Glade.writes (fun x j => by dsimp only; split <;> rfl) _ x

theorem sramWrite {r : Requester} {how : CodeWriter} {a : Nat} {data : List Byte} (h : Untouched lo Q s t) (ha : lo ≤ a) :
    Untouched lo Q s (t.sramWrite r how a data) := by
  have hw : lo ≤ a / 8 * 8 := by have := h.floor.1; omega
  unfold State.sramWrite
  refine .ite (h.noteCode.storeCode hw) ?_
  dsimp only
  split
  next e => exact ((h.noteCode.sramFind hw).of_eq e).storeCode hw
  next e => exact (((h.noteCode.sramFind hw).of_eq e).storeCode hw).recordError.tallyInc.memFinding
  next e => exact (((h.noteCode.sramFind hw).of_eq e).storeCode hw).recordError.tallyInc.memFinding

/-! ### Bursts -/

theorem fillChannel {n upto : Nat} (h : Untouched lo Q s t) : Untouched lo Q s (t.fillChannel n upto) := by
  have ha := DDR_CH_WMARK_not_regrowReg n
  unfold State.fillChannel
  dsimp only
  refine .ite h (Untouched.setFlag (Untouched.setFld ?_ ha) ha)
  refine ⟨⟨h.sections, h.regrow, h.rd, h.resumed, h.noTxn, h.grf⟩, h.floor, fun x hx => ?_, h.pools, h.cache, h.links, h.reads,
    h.writes⟩
  have hlow : ¬ dramBase ≤ x := by have := h.floor.2.1; omega
  exact (smGet_filter_of_forall (fun v => by simp [hlow]) t.mem).trans (h.byteAt x hx)

theorem fillPast {b : Nat} (h : Untouched lo Q s t) : Untouched lo Q s (t.fillPast b) := .ite h h.fillChannel

theorem classifyBurst {ch b : Nat} {e : ErrInfo} {bs : List Byte} {k : BitVec 128} {d : Nat} (h : Untouched lo Q s t)
    (hb : lo ≤ b) (hch : ch < 4) : Untouched lo Q s (t.classifyBurst ch b e bs k d) :=
  .ite ((h.setBurst hb).readOnce.recordError.crossInc (by omega)) (h.setBurst hb).readOnce.recordError

theorem dramFind {r : Requester} {b : Nat} (h : Untouched lo Q s t) (hb : lo ≤ b) :
    Untouched lo Q s (t.dramFind r b).1 := by
  unfold State.dramFind
  dsimp only
  split
  · exact h.readOnce
  · exact h.readOnce.classifyBurst hb (State.dramChannel_lt _ _)
  · exact h.readOnce
  · split
    · exact h.readOnce.recordError.readOnce
    · exact h.readOnce.recordError.readOnce.setBurst hb
    · exact h.readOnce.readOnce
    · exact h.readOnce.readOnce

theorem dramRead {r : Requester} {a n w : Nat} (h : Untouched lo Q s t) (hw : lo ≤ w) :
    Untouched lo Q s (t.dramRead r a n w).1 := by
  have hb : lo ≤ w / 64 * 64 := by have := h.floor.1; omega
  have hch := t.dramChannel_lt (w / 64 * 64 - dramBase)
  unfold State.dramRead
  refine .iteFst h ?_
  dsimp only
  split
  next e => exact (h.dramFind hb).of_eq e
  next e => exact .iteFst ((h.dramFind hb).of_eq e).recordError.find ((h.dramFind hb).of_eq e)
  next e => exact ((((h.dramFind hb).of_eq e).recordError.crossInc (by omega)).setBurst hb).find

theorem dramWrite {r : Requester} {a : Nat} {data : List Byte} (h : Untouched lo Q s t) (ha : lo ≤ a) :
    Untouched lo Q s (t.dramWrite r a data) := by
  have hb : lo ≤ a / 64 * 64 := by have := h.floor.1; omega
  have hch := (t.fillPast (a / 64 * 64)).dramChannel_lt (a / 64 * 64 - dramBase)
  unfold State.dramWrite
  dsimp only
  split
  next e => exact ((h.fillPast.dramFind hb).of_eq e).setBurst hb
  next e => exact ((h.fillPast.dramFind hb).of_eq e).setBurst hb
  next e => exact ((((h.fillPast.dramFind hb).of_eq e).setBurst hb).recordError.crossInc (by omega)).find

/-! ### Whole accesses -/

theorem doomGranule {w code : Nat} {except : Option Nat} (h : Untouched lo Q s t) :
    Untouched lo Q s (t.doomGranule w code except) := by
  unfold State.doomGranule
  split
  · dsimp only
    refine (h.ite h.setTxu).foldl fun u k _ hu => .ite hu ?_
    split
    next e => exact .ite (hu.setTxn fun k => by rw [k] at e; cases e) hu
    next => exact hu
  · exact h

theorem writeWord {r : Requester} {how : CodeWriter} {except : Option Nat} {a : Nat} {data : List Byte}
    (h : Untouched lo Q s t) (ha : lo ≤ a) : Untouched lo Q s (t.writeWord r how except a data) := by
  unfold State.writeWord
  dsimp only
  split
  · exact h.touch.dramWrite ha
  · exact .ite h.touch.portAnswer (h.touch.portAnswer.sramWrite ha).doomGranule
  · exact h.touch
  · exact h.touch
  · exact h.touch
  · exact h.touch
  · exact h.touch
  · exact h.touch.sramWrite ha

theorem unspoil {a n : Nat} (h : Untouched lo Q s t) : Untouched lo Q s (t.unspoil a n) := h.keep

theorem undefine {rs : List (Nat × Nat)} (h : Untouched lo Q s t) : Untouched lo Q s (t.undefine rs) :=
  (h.foldl fun _ _ _ k => k.unspoil).keep

theorem spoil {r : Requester} {a n : Nat} (h : Untouched lo Q s t) : Untouched lo Q s (t.spoil r a n) := by
  unfold State.spoil
  split
  · exact h.unspoil
  · exact h.unspoil
  · exact h.unspoil.undefine

theorem writeMem {r : Requester} {how : CodeWriter} {except : Option Nat} {a : Nat} {data : List Byte}
    (h : Untouched lo Q s t) (ha : lo ≤ a) : Untouched lo Q s (t.writeMem r how except a data) :=
  (h.foldl fun _ _ hp k => k.writeWord (ha.trans (le_of_mem_splitWords hp))).spoil

theorem writeW64 {r : Requester} {a : Nat} {v : W64} (h : Untouched lo Q s t) (ha : lo ≤ a) :
    Untouched lo Q s (t.writeW64 r a v) :=
  h.writeMem ha

theorem readSeedbank {w : Nat} (h : Untouched lo Q s t) : Untouched lo Q s (t.readSeedbank w).1 := by
  unfold State.readSeedbank
  split
  · exact .iteFst h.keep h
  · exact h

theorem readStored {r : Requester} {a n w : Nat} (h : Untouched lo Q s t) (hw : lo ≤ w) :
    Untouched lo Q s (t.readStored r a n w).1 := by
  unfold State.readStored
  split
  · exact h.dramRead hw
  · exact h.readSeedbank
  · exact h
  · exact h
  · exact h
  · exact h
  · exact h.sramRead hw

theorem readWordOf {r : Requester} {a n w : Nat} (h : Untouched lo Q s t) (hw : lo ≤ w) :
    Untouched lo Q s (t.readWordOf r a n w).1 := by
  unfold State.readWordOf
  refine .iteFst h.touch.portAnswer.keep ?_
  dsimp only
  split
  · exact .iteFst (h.touch.portAnswer.readStored hw).keep (h.touch.portAnswer.readStored hw)
  · exact h.touch.portAnswer.readStored hw

end Untouched

end Sys2Proof.Machine
end
section
/-! SUPPORT. What queues, aborts and stops leave of a REGROW (R72): descriptors are found and written from the descriptor
table on, and nothing that ends a Glade's run changes the mode, the Stand Map or a Glade's registers. -/

namespace Sys2Proof.Machine

namespace Untouched

variable {lo : Nat} {Q : Nat → Prop} {s t : State}

/-! ### Descriptors -/

/-- A change of the queue manager that leaves its pools, and brings into the cache only descriptors of `Q`. -/
theorem qm {m : Qm} (h : Untouched lo Q s t) (hm : m.pools = t.qm.pools)
    (hc : ∀ e ∈ m.cache, e ∈ t.qm.cache ∨ Q e.queue) : Untouched lo Q s { t with qm := m } :=
  ⟨⟨h.sections, h.regrow, h.rd, h.resumed, h.noTxn, h.grf⟩, h.floor, h.byteAt, hm.trans h.pools,
    fun e he => (hc e he).elim (h.cache e) .inr, h.links, h.reads, h.writes⟩

theorem le_descAddr (h : Untouched lo Q s t) (q : Nat) : lo ≤ t.descAddr q :=
  (h.floor.2.2.trans_eq h.descBase.symm).trans (Nat.le_add_right _ _)

theorem qmError (h : Untouched lo Q s t) : Untouched lo Q s t.qmError := h.tallyInc

theorem qmRead {a : Nat} (h : Untouched lo Q s t) (ha : lo ≤ a) : Untouched lo Q s (t.qmRead a).1 := by
  unfold State.qmRead
  split
  · exact h.recordRefusal.qmError
  · split
    next e => exact (h.readWordOf ha).of_eq e
    next e => exact ((h.readWordOf ha).of_eq e).qmError

theorem qmWrite {a : Nat} {v : W64} (h : Untouched lo Q s t) (ha : lo ≤ a) : Untouched lo Q s (t.qmWrite a v).1 := by
  unfold State.qmWrite
  split
  · exact h.recordRefusal.qmError
  · dsimp only
    exact h.writeW64 ha

theorem evict {q : Nat} (h : Untouched lo Q s t) : Untouched lo Q s (t.evict q) := by
  unfold State.evict
  refine .ite h ?_
  split
  · dsimp only
    split
    · exact (h.recordRefusal.qmError.setFlag (not_regrowReg_of_block (by decide))).qm rfl
        fun _ he => .inl (List.mem_of_mem_filter he)
    · exact (h.foldl fun u k _ hu => hu.qmWrite ((hu.le_descAddr _).trans (Nat.le_add_right _ _))).qm rfl
        fun _ he => .inl (List.mem_of_mem_filter he)
  · exact h

theorem setDesc {q : Nat} {d : Desc} (h : Untouched lo Q s t) (hq : Q q := by exact trivial) :
    Untouched lo Q s (t.setDesc q d) := by
  refine evict (h.qm rfl fun e he => ?_)
  rcases List.mem_cons.1 he with rfl | he
  · exact .inr hq
  · exact .inl (List.mem_of_mem_filter he)

theorem qmWords {n a : Nat} (h : Untouched lo Q s t) (ha : lo ≤ a) : Untouched lo Q s (t.qmWords n a).1 := by
  induction n generalizing t a with
  | zero => exact h
  | succ n ih =>
    unfold State.qmWords
    split
    next e => exact ih ((h.qmRead ha).of_eq e) (Nat.le_add_right_of_le ha)
    next e => exact (h.qmRead ha).of_eq e

theorem getDesc {q : Nat} (h : Untouched lo Q s t) (hq : Q q := by exact trivial) : Untouched lo Q s (t.getDesc q).1 := by
  have hw := h.qmWords (n := 4) (h.le_descAddr q)
  unfold State.getDesc
  split
  · exact h.setDesc hq
  · refine .iteFst (setDesc (h.qm rfl fun _ => .inl) hq) ?_
    dsimp only
    split
    · exact hw.setDesc hq
    · exact (hw.setFlag (not_regrowReg_of_block (by decide))).setDesc hq

theorem updDesc {q : Nat} {f : Desc → Desc} (h : Untouched lo Q s t) (hq : Q q := by exact trivial) :
    Untouched lo Q s (t.updDesc q f) :=
  (h.getDesc hq).setDesc hq

end Untouched

/-! ### Pools, cursors and packets -/

namespace RegrowKept

variable {s t u : State}

/-- What an access leaves is more than what a REGROW rests on. -/
theorem through (h : RegrowKept s t) (k : Untouched 0 (fun _ => True) t t → Untouched 0 (fun _ => True) t u) :
    RegrowKept s u :=
  h.trans (k (.refl_zero _ t)).toRegrowKept

theorem ite {p : Prop} {_ : Decidable p} (ht : RegrowKept s t) (hu : RegrowKept s u) :
    RegrowKept s (if p then t else u) := by
  split
  · exact ht
  · exact hu

theorem iteFst {α : Type} {p : Prop} {_ : Decidable p} {x y : State × α} (hx : RegrowKept s x.1)
    (hy : RegrowKept s y.1) : RegrowKept s (if p then x else y).1 := by
  split
  · exact hx
  · exact hy

theorem of_eq {α : Type} {p : State × α} {x : α} (h : RegrowKept s p.1) (e : p = (t, x)) : RegrowKept s t := by
  subst e; exact h

theorem foldl {α : Type} {f : State → α → State} {l : List α} (h : RegrowKept s t)
    (hf : ∀ u x, RegrowKept s u → RegrowKept s (f u x)) : RegrowKept s (l.foldl f t) := by
  induction l generalizing t with
  | nil => exact h
  | cons x l ih => exact ih (hf t x h)

/-- Any change of the queue manager, of memory and of Rootlink. -/
theorem engines {m : List Host.Cell} {e : SMap (BitVec 9)} {q : Qm} {r : Rootlink} (h : RegrowKept s t) :
    RegrowKept s { t with mem := m, ecc := e, qm := q, rootlink := r } :=
  ⟨h.sections, h.regrow, h.rd, h.resumed, h.noTxn, h.grf⟩

/-- A change of one Glade that leaves its registers, or clears them. -/
theorem setGlade {c : Nat} {x : Glade} (h : RegrowKept s t) (hx : x.grf = (t.glade c).grf ∨ x.grf = Glade.reset.grf) :
    RegrowKept s (t.setGlade c x) := by
  refine ⟨h.sections, h.regrow, h.rd, h.resumed, h.noTxn, fun i => ?_⟩
  rw [State.glade_setGlade]
  split
  next e => exact hx.elim (fun hx => (h.grf i).imp (hx.trans <| e ▸ ·) (hx.trans <| e ▸ ·)) .inr
  next => exact h.grf i

theorem updGlade {c : Nat} {f : Glade → Glade} (h : RegrowKept s t) (hf : ∀ x, (f x).grf = x.grf := by exact fun _ => rfl) :
    RegrowKept s (t.updGlade c f) :=
  h.setGlade (.inl (hf _))

theorem updAsync {c : Nat} {f : Glade → Glade} (h : RegrowKept s t) (hf : ∀ x, (f x).grf = x.grf := by exact fun _ => rfl) :
    RegrowKept s (t.updAsync c f) :=
  (h.updGlade hf).through fun k => k.keep

theorem setTxn {i : Nat} {x : Option Txn} (h : RegrowKept s t) (hx : t.txn i = none → x = none) :
    RegrowKept s (t.setTxn i x) :=
  h.through fun k => k.setTxn hx

theorem poolFree {p a : Nat} (h : RegrowKept s t) : RegrowKept s (t.poolFree p a) :=
  h.engines.through fun k => k.unspoil

theorem freeCells {q : Nat} {cells : List Nat} (h : RegrowKept s t) : RegrowKept s (t.freeCells q cells) := by
  have hf : RegrowKept s (cells.foldl (fun s a => s.poolFree (t.queueInfo q).pool a) t) := h.foldl fun _ _ k => k.poolFree
  exact .ite hf (hf.through fun k => k.updDesc)

theorem closeRead {i k : Nat} (h : RegrowKept s t) : RegrowKept s (t.closeRead i k) := by
  unfold State.closeRead
  split
  · exact h.freeCells.updGlade
  · exact h

theorem closeWrite {i k : Nat} (h : RegrowKept s t) : RegrowKept s (t.closeWrite i k) := by
  unfold State.closeWrite
  split
  · exact h.freeCells.updGlade
  · exact h

theorem discardBut {i : Nat} {keep : Nat → Bool} (h : RegrowKept s t) : RegrowKept s (t.discardBut i keep) := by
  unfold State.discardBut
  exact (h.foldl fun _ _ k => (RegrowKept.ite k k.closeRead).closeWrite).updGlade

theorem poolTake {p : Nat} (h : RegrowKept s t) : EverySome (fun x => RegrowKept s x.1) (t.poolTake p) := by
  unfold State.poolTake
  dsimp only
  split
  · exact trivial
  · split
    · exact h.engines
    · split
      · exact h.engines
      · split
        · exact h.engines
        · exact trivial

theorem linkPacket {q : Nat} {cells : List Nat} {len : Nat} {aborted ingress : Bool} {src code : Nat}
    (h : RegrowKept s t) : RegrowKept s (t.linkPacket q cells len aborted ingress src code).1 := by
  unfold State.linkPacket
  dsimp only
  have hd := h.through (u := ((t.getDesc q).1.qmWrite (cells.getD 0 0 + 8)
    (headerWord len aborted ingress src code (t.getDesc q).2.seq)).1) fun k => k.getDesc.qmWrite (Nat.zero_le _)
  generalize (t.getDesc q).1.qmWrite _ _ = x at hd
  have hl : RegrowKept s (if (t.getDesc q).2.tail = 0 ∨ x.2 = false then x
      else x.1.writeLink (t.getDesc q).2.tail (cells.getD 0 0)).1 := by
    split
    · exact hd
    · exact hd.through fun k => k.qmWrite (Nat.zero_le _)
  exact .iteFst (hl.through fun k => k.updDesc).freeCells (hl.through fun k => k.setDesc.tallyInc)

/-! ### Aborts and stops -/

theorem linkStub {i code : Nat} {w : WritePkt} (h : RegrowKept s t) : RegrowKept s (t.linkStub i code w) := by
  have hd := h.through (u := t.touchDesc w.queue) fun k => k.getDesc
  unfold State.linkStub
  refine .ite hd ?_
  split
  · exact hd.through fun k => k.satAdd (not_regrowReg_of_block (by decide))
  next u a e =>
    exact ((hd.poolTake.of_eq e).through fun k => (k.updDesc.qmWrite (Nat.zero_le _)).qmWrite (Nat.zero_le _)).linkPacket

theorem countAbort {g code : Nat} (h : RegrowKept s t) (hc : code < 16) : RegrowKept s (t.countAbort g code) :=
  h.through fun k => k.satAdd (not_regrowReg (by
    simp only [Reg.GRV_TXU_ABORT, Reg.PWR_MODE, Reg.SM_STATUS, Reg.SM_REGROW_STATUS]; omega))

theorem closeTxn {i : Nat} (h : RegrowKept s t) : RegrowKept s (t.closeTxn i) :=
  (h.updGlade).through fun k => k.setTxu.setTxn fun _ => rfl

theorem abortTxn {i code : Nat} (h : RegrowKept s t) (hc : code < 16) : RegrowKept s (t.abortTxn i code) :=
  (RegrowKept.ite h ((h.foldl fun _ _ k => k.freeCells).closeTxn.countAbort hc)).foldl fun _ _ k => k.linkStub

theorem interruptTxn {i : Nat} (h : RegrowKept s t) : RegrowKept s (t.interruptTxn i) := by
  have hr : ∀ {u : State}, RegrowKept s u → RegrowKept s
      (let x := u.txu (i / 16)
       let v := u.setTxu (i / 16) { x with kept := x.kept.filter (fun e => e.1 != i % 16) }
       let x := v.txu (i / 16)
       if x.members.getLsbD (i % 16) then v.setTxu (i / 16) { x with leaving := x.leaving ||| (1#16 <<< (i % 16)) }
       else v) := fun k =>
    have kv := k.through fun k => k.setTxu
    .ite (kv.through fun k => k.setTxu) kv
  unfold State.interruptTxn
  refine hr ?_
  split
  next x e =>
    split
    · exact h
    · exact h.setTxn fun k => by rw [k] at e; cases e
    · exact h.abortTxn (by decide)
  next => exact h

theorem haltOne {c : Nat} {dest : RunState} (h : RegrowKept s t) : RegrowKept s (t.haltOne c dest) :=
  ((h.discardBut.interruptTxn.ite h).updGlade).through fun k => k.keep

theorem halt {c : Nat} {dest : RunState} (h : RegrowKept s t) : RegrowKept s (t.halt c dest) := by
  unfold State.halt
  split
  · exact h.haltOne.haltOne
  · exact h.haltOne

end RegrowKept

end Sys2Proof.Machine
end
section
/-! SUPPORT. A Grove emptied for a REGROW (R72, R292) stays empty: its pool has every cell, no cursor and no link holds a
cell of it, its cached queues hold no packet, its memories are zero, and no transaction is open that could write there. -/

namespace Sys2Proof.Machine

/-! ### The Grove -/

/-- Address `a` lies in Grove `g`'s memory or in the IMEM or DMEM of one of its Glades (R233). -/
def inGrove (g a : Nat) : Prop :=
  (groveMemBase g ≤ a ∧ a < groveMemBase g + 0x200000) ∨ ∃ k, k < 16 ∧
    ((gladeBase (16 * g + k) ≤ a ∧ a < gladeBase (16 * g + k) + 0x8000)
      ∨ (gladeBase (16 * g + k) + 0x10000 ≤ a ∧ a < gladeBase (16 * g + k) + 0x10000 + 0x10000))

theorem inGrove.lt_dramBase {g a : Nat} (h : inGrove g a) (hg : g < 16) : a < dramBase := by
  obtain h | ⟨k, hk, h⟩ := h
  · simp only [groveMemBase, dramBase] at *
    omega
  · simp only [gladeBase, dramBase] at *
    omega

/-- No cursor of Glade `x` holds a cell of pool `g`, `home` being each queue's pool. -/
def Glade.holdsNone (x : Glade) (g : Nat) (home : Nat → Nat) : Prop :=
  (∀ k r, smGet none x.reads k = some r → home r.queue = g → r.cells = [])
    ∧ ∀ k w, smGet none x.writes k = some w → home w.queue = g → w.cells = []

/-- The packet that link `x` receives holds no cell of pool `g`. -/
def Link.holdsNone (x : Link) (g : Nat) (home : Nat → Nat) : Prop :=
  ∀ ws n q i cells, x.cur = some (.own ws n (.queue q i cells)) → home q = g → cells = []

/-- Grove `g` is empty, `home` being each queue's pool, no transaction is open, and its
memories are zero where the descriptors lie in DRAM. -/
structure Emptied (g : Nat) (home : Nat → Nat) (s : State) : Prop where
  grove : g < 16
  homes : ∀ q, (s.queueInfo q).pool = home q
  txn : ∀ i, i < 256 → s.txn i = none
  pool : s.pool g = Pool.reset
  cache : ∀ e ∈ s.qm.cache, home e.queue = g → e.desc.packets = 0
  zero : dramBase ≤ s.descBase → ∀ a, inGrove g a → s.byteAt a = 0#8
  glade : ∀ i, i < 256 → (s.glade i).holdsNone g home
  link : ∀ l, (s.link l).holdsNone g home

namespace Emptied

variable {g : Nat} {home : Nat → Nat} {s t : State}

/-- An access to memory from the descriptors on, or from DRAM on where they lie in DRAM, leaves the Grove empty. -/
theorem through (h : Emptied g home s)
    (k : ∀ {lo}, Untouched lo (home · ≠ g) s s → Untouched lo (home · ≠ g) s t) : Emptied g home t :=
  have k₀ := k (.refl_zero _ s)
  { grove := h.grove
    homes := fun q => by rw [State.queueInfo_of_sec (k₀.sec _), h.homes]
    txn := fun i hi => k₀.noTxn i (h.txn i hi)
    pool := by rw [State.pool, k₀.pools]; exact h.pool
    cache := fun e he hg => (k₀.cache e he).elim (h.cache e · hg) (absurd hg)
    zero := fun hb a ha =>
      have hb := hb.trans_eq k₀.descBase
      ((k (.refl_dram _ hb)).byteAt a (ha.lt_dramBase h.grove)).trans (h.zero hb a ha)
    glade := fun i hi => by
      unfold Glade.holdsNone
      rw [k₀.reads, k₀.writes]
      exact h.glade i hi
    link := fun l => by rw [State.link, k₀.links]; exact h.link l }

theorem foldl {α : Type} {f : State → α → State} {l : List α} (h : Emptied g home s)
    (hf : ∀ u, ∀ x ∈ l, Emptied g home u → Emptied g home (f u x)) : Emptied g home (l.foldl f s) := by
  induction l generalizing s with
  | nil => exact h
  | cons x l ih =>
    exact ih (hf s x List.mem_cons_self h) fun u y hy => hf u y (List.mem_cons_of_mem x hy)

theorem ite {p : Prop} {_ : Decidable p} (hs : Emptied g home s) (ht : Emptied g home t) :
    Emptied g home (if p then s else t) := by
  split
  · exact hs
  · exact ht

/-- A Glade changed that still holds no cell. -/
theorem updGlade {i : Nat} {f : Glade → Glade} (h : Emptied g home s)
    (hf : (s.glade i).holdsNone g home → (f (s.glade i)).holdsNone g home) : Emptied g home (s.updGlade i f) :=
  { h with
    glade := fun j hj => by
      rw [State.glade_updGlade]
      split
      next e => exact hf (h.glade i (e ▸ hj))
      next => exact h.glade j hj }

/-- A link changed that holds no cell. -/
theorem setLink {l : Nat} {x : Link} (h : Emptied g home s) (hx : x.holdsNone g home) : Emptied g home (s.setLink l x) :=
  { h with
    link := fun k => by
      rw [State.link_setLink]
      split
      · exact hx
      · exact h.link k }

/-! ### Cells and cursors -/

theorem poolFree {p a : Nat} (h : Emptied g home s) (hp : p ≠ g) : Emptied g home (s.poolFree p a) := by
  refine through (s := s.setPool p { s.pool p with freed := a :: (s.pool p).freed, used := (s.pool p).used - 1 }) ?_
    fun k => k.unspoil
  exact { h with pool := (smGet_smSet ..).trans ((if_neg fun e : g = p => hp e.symm).trans h.pool) }

theorem freeCells {q : Nat} {cells : List Nat} (h : Emptied g home s) (hc : home q = g → cells = []) :
    Emptied g home (s.freeCells q cells) := by
  by_cases hq : home q = g
  · rw [hc hq]
    exact h
  · have hf : Emptied g home (cells.foldl (fun u a => u.poolFree (s.queueInfo q).pool a) s) :=
      h.foldl fun _ _ _ k => k.poolFree (by rw [h.homes]; exact hq)
    exact .ite hf (hf.through fun k => k.updDesc hq)

theorem closeRead {i k : Nat} (h : Emptied g home s) (hi : i < 256) : Emptied g home (s.closeRead i k) := by
  unfold State.closeRead
  split
  next r e =>
    refine (h.freeCells ((h.glade i hi).1 k r e)).updGlade fun hx => ⟨fun j r' hj => ?_, hx.2⟩
    rw [smGet_smSet] at hj
    split at hj
    · cases hj
    · exact hx.1 j r' hj
  next => exact h

theorem closeWrite {i k : Nat} (h : Emptied g home s) (hi : i < 256) : Emptied g home (s.closeWrite i k) := by
  unfold State.closeWrite
  split
  next w e =>
    refine (h.freeCells ((h.glade i hi).2 k w e)).updGlade fun hx => ⟨hx.1, fun j w' hj => ?_⟩
    rw [smGet_smSet] at hj
    split at hj
    · cases hj
    · exact hx.2 j w' hj
  next => exact h

theorem discardBut {i : Nat} {keep : Nat → Bool} (h : Emptied g home s) (hi : i < 256) :
    Emptied g home (s.discardBut i keep) := by
  unfold State.discardBut
  exact updGlade (h.foldl fun _ _ _ k => (Emptied.ite k (k.closeRead hi)).closeWrite hi) id

/-! ### Stops -/

theorem interruptTxn {i : Nat} (h : Emptied g home s) (hi : i < 256) : Emptied g home (s.interruptTxn i) := by
  unfold State.interruptTxn
  rw [h.txn i hi]
  exact h.through fun k => .ite k.setTxu.setTxu k.setTxu

theorem haltOne {c : Nat} {dest : RunState} (h : Emptied g home s) : Emptied g home (s.haltOne c dest) := by
  unfold State.haltOne
  dsimp only
  split
  next hc => exact ((h.discardBut hc).interruptTxn hc).through fun k => k.updGlade.keep
  next => exact h.through fun k => k.updGlade.keep

theorem halt {c : Nat} {dest : RunState} (h : Emptied g home s) : Emptied g home (s.halt c dest) := by
  unfold State.halt
  split
  · exact h.haltOne.haltOne
  · exact h.haltOne

/-! ### Rootlink -/

theorem updLink {l : Nat} {f : Link → Link} (h : Emptied g home s) (hf : (f (s.link l)).cur = (s.link l).cur) :
    Emptied g home (s.updLink l f) :=
  h.setLink (by unfold Link.holdsNone; rw [hf]; exact h.link l)

theorem freeFlits {l n : Nat} (h : Emptied g home s) : Emptied g home (s.freeFlits l n) := h.updLink rfl

theorem abandonOut {k l : Nat} (h : Emptied g home s) : Emptied g home (s.abandonOut k l) :=
  freeFlits (h.setLink (h.link k))

theorem giveUp {l : Nat} {x : Link} {c : RxPkt} (h : Emptied g home s) (hx : x.holdsNone g home) (hc : x.cur = some c) :
    Emptied g home (s.giveUp l c) := by
  unfold State.giveUp
  split
  · exact h.abandonOut
  · exact h.freeCells (hx _ _ _ _ _ hc)
  · exact h

end Emptied

end Sys2Proof.Machine
end

section
/-! SUPPORT. What the end of a REGROW's mode leaves of it (R72, R397): the policy of the domains switches domains off and
on, fences the Groves that lose theirs (R401) and resets islands, lanes, ports and links, and none of it touches the
structure, the mode, or a Grove that has been emptied. -/

namespace Sys2Proof.Machine

/-! ### Places -/

/-- A part of a map's entries that a change of every entry leaves. -/
theorem smGet_map_leaves {α β : Type} {d : α} {f : Nat → α → α} (p : α → β) (hf : ∀ i x, p (f i x) = p x) (m : SMap α)
    (j : Nat) : p (smGet d (m.map fun e => (e.1, f e.1 e.2)) j) = p (smGet d m j) := by
  induction m with
  | nil => rfl
  | cons e m ih =>
    rw [List.map_cons, smGet, smGet]
    split
    · exact hf ..
    · exact ih

theorem byteN_lt (b : List Byte) (o : Nat) : byteN b o < 256 := (b.getD o 0#8).isLt

theorem State.linkEngine_lt (s : State) (l : Nat) : s.linkEngine l < 256 := by
  unfold State.linkEngine
  cases s.linkEntry l with
  | none => exact Nat.zero_lt_succ _
  | some e => exact byteN_lt e 1

theorem State.lt_of_mem_linkLanes {s : State} {l n : Nat} (h : n ∈ s.linkLanes l) : n < 512 := by
  unfold State.linkLanes at h
  split at h
  next e _ =>
    obtain ⟨k, hk, rfl⟩ := List.mem_map.1 h
    have h2 := byteN_lt e 2
    have h3 := byteN_lt e 3
    have := List.mem_range.1 hk
    omega
  next => cases h

theorem State.lt_of_linkOfLane {s : State} {n l : Nat} (h : s.linkOfLane n = some l) : l < 256 := by
  unfold State.linkOfLane at h
  obtain ⟨e, -, rfl⟩ := Option.map_eq_some_iff.1 h
  exact byteN_lt e 0

theorem State.lt_of_portOfLane {s : State} {n c p : Nat} (h : s.portOfLane n = some (c, p)) : c < 2 ∧ p < 16 := by
  unfold State.portOfLane at h
  dsimp only at h
  split at h
  next hn =>
    obtain ⟨rfl, rfl⟩ : _ = c ∧ _ = p := by simpa using h
    refine ⟨by split <;> omega, (Nat.div_le_self ..).trans_lt ?_⟩
    split <;> omega
  next => cases h

theorem State.wantOn_two (s : State) (lean : Bool) : s.wantOn 2 lean = true := by
  unfold State.wantOn
  exact if_pos (.inl (by decide))

theorem mem_domainIslands_lt {d i : Nat} (h : i ∈ domainIslands d) : i < 32 := by
  unfold domainIslands at h
  split_ifs at h <;> simp at h <;> omega

theorem LANE_STATE_not_regrowReg {n : Nat} (h : n < 1024) : ¬ regrowReg (Reg.LANE_STATE n) :=
  not_regrowReg_of_block (by simp only [Reg.LANE_STATE]; omega)

theorem LANE_PCIE_STAT_not_regrowReg {c p : Nat} (hc : c < 16) (hp : p < 16) : ¬ regrowReg (Reg.LANE_PCIE_STAT c p) :=
  not_regrowReg_of_block (by simp only [Reg.LANE_PCIE_STAT]; omega)

theorem RTL_LINK_STATE_not_regrowReg {l : Nat} (h : l < 256) : ¬ regrowReg (Reg.RTL_LINK_STATE l) :=
  not_regrowReg_of_block (by simp only [Reg.RTL_LINK_STATE]; omega)

theorem RTL_LINK_ERR_not_regrowReg {l : Nat} (h : l < 256) : ¬ regrowReg (Reg.RTL_LINK_ERR l) :=
  not_regrowReg_of_block (by simp only [Reg.RTL_LINK_ERR]; omega)

namespace Untouched

variable {lo : Nat} {Q : Nat → Prop} {s t : State}

/-! ### Islands -/

theorem rootlink {r : Rootlink} (h : Untouched lo Q s t) (hr : r.links = t.rootlink.links) :
    Untouched lo Q s { t with rootlink := r } :=
  ⟨⟨h.sections, h.regrow, h.rd, h.resumed, h.noTxn, h.grf⟩, h.floor, h.byteAt, h.pools, h.cache, hr.trans h.links,
    h.reads, h.writes⟩

/-- The registers of a block that holds none of a REGROW's, cleared. -/
theorem resetRegs {a b : Nat} (h : Untouched lo Q s t) (hab : 0x405000000 < a ∧ b ≤ 0x40B000000) :
    Untouched lo Q s (t.resetRegs a b) :=
  h.ctl fun c hc => (smGet_filter (fun k => !decide (a ≤ k ∧ k < b)) t.ctl c).trans (if_pos (by
    simp only [regrowReg, Reg.PWR_MODE, Reg.SM_STATUS, Reg.SM_REGROW_STATUS] at hc
    simp only [Bool.not_eq_true', decide_eq_false_iff_not]
    omega))

theorem killLoads {p : Nat → LoadFlight → Bool} {d : Nat} (h : Untouched lo Q s t) :
    Untouched lo Q s (t.killLoads p d) := by
  have hg : ∀ {α : Type} (part : Glade → α), (∀ x ls, part { x with loads := ls } = part x) →
      ∀ i, part ((t.killLoads p d).glade i) = part (t.glade i) := fun part hp i =>
    smGet_map_leaves (d := Glade.reset) (f := fun k (x : Glade) => { x with
      loads := x.loads.map fun l => if p k l && l.dead.isNone then { l with dead := some d } else l })
      part (fun _ _ => hp _ _) t.glades i
  exact ⟨⟨h.sections, h.regrow, h.rd, h.resumed, h.noTxn, fun i => by
      rw [hg Glade.grf fun _ _ => rfl]; exact h.grf i⟩, h.floor, h.byteAt, h.pools, h.cache, h.links,
    fun i => (hg Glade.reads (fun _ _ => rfl) i).trans (h.reads i),
    fun i => (hg Glade.writes (fun _ _ => rfl) i).trans (h.writes i)⟩

theorem clearIsland {i : Nat} (h : Untouched lo Q s t) : Untouched lo Q s (t.clearIsland i) := by
  unfold State.clearIsland
  refine if hi : i < 12 then ?_ else ?_
  · rw [if_pos hi]
    refine h.foldl fun u k hk hu => ?_
    have hn : 8 * i + k < 1024 := by have := List.mem_range.1 hk; omega
    exact ((hu.setFld (LANE_STATE_not_regrowReg hn)).setFlag (LANE_STATE_not_regrowReg hn)).resetRegs
      (by simp only [Reg.LANE_EQ, Reg.LANE_ETH_CFG]; omega)
  rw [if_neg hi]
  refine if hi : i < 16 then ?_ else ?_
  · rw [if_pos hi]
    exact h.resetRegs (by simp only [Reg.DDR_CH_WMARK, Reg.DDR_ERR_STATUS]; omega)
  rw [if_neg hi]
  refine if hi : i < 18 then ?_ else ?_
  · rw [if_pos hi]
    exact (h.resetRegs (a := Reg.LANE_PCIE_CFG (i - 16)) (b := Reg.LANE_PCIE_CFG (i - 15))
      (by simp only [Reg.LANE_PCIE_CFG]; omega)).keep
  rw [if_neg hi]
  refine .ite h.keep (.ite (h.foldl fun u n hn hu => .ite (hu.resetRegs ?_) hu) (.ite (h.foldl fun u l hl hu => ?_)
    (.ite ?_ (.ite ?_ (.ite ?_ (.ite (h.resetRegs (by decide)) (.ite ?_ h)))))))
  · have := List.mem_range.1 hn
    simp only [Reg.LANE_ETH_CFG, Reg.LANE_STATE]
    omega
  · obtain ⟨e, -, rfl⟩ := List.mem_map.1 hl
    have hb := byteN_lt e 0
    exact .ite ((hu.resetRegs (by simp only [Reg.RTL_LINK_STATE]; omega)).wr (RTL_LINK_STATE_not_regrowReg hb)) hu
  · have ha : ¬ regrowReg Reg.UST_TIME_CTL := not_regrowReg_of_block (by decide)
    exact (((h.setFlag ha).setFlag ha).resetRegs (a := Reg.UST_TIME_STEP) (b := Reg.UST_TIME_RATE + 8) (by decide)).keep
  · exact (h.resetRegs (a := Reg.UST_GPI_CFG 0) (b := Reg.UST_SSO + 8) (by decide)).keep
  · exact (h.resetRegs (a := Reg.UST_XSPI_CMD) (b := Reg.UST_I2C_CMD) (by decide)).keep
  · exact (h.resetRegs (a := Reg.UST_UART_CFG) (b := Reg.UST_UART_RX + 8) (by decide)).keep

theorem resetIsland {i : Nat} (h : Untouched lo Q s t) (hi : i < 1024) : Untouched lo Q s (t.resetIsland i) := by
  have ha := UST_ISL_not_regrowReg hi
  exact .ite h ((h.setFlag ha).setFlag ha).keep.killLoads.clearIsland

/-! ### Ports and lanes -/

theorem portError {c p : Nat} {aer : BitVec 32} (h : Untouched lo Q s t) (hc : c < 16) (hp : p < 16) :
    Untouched lo Q s (t.portError c p aer) :=
  (h.satAdd (LANE_PCIE_STAT_not_regrowReg hc hp)).keep

theorem freeBool (h : Untouched lo Q s t) : Untouched lo Q s t.freeBool.2 := h.keep

theorem dropReads {c p : Nat} (h : Untouched lo Q s t) (hc : c < 16) (hp : p < 16) :
    Untouched lo Q s (t.dropReads c p) := by
  unfold State.dropReads
  refine h.foldl fun u x _ hu => hu.foldl fun u l _ hu => .ite ?_ hu
  dsimp only
  split
  · exact .ite (hu.killLoads.portError hc hp) hu
  · split
    · exact .ite (hu.freeBool.killLoads.portError hc hp) hu.freeBool
    · exact .ite (hu.killLoads.portError hc hp) hu

theorem resetEndpoint (h : Untouched lo Q s t) : Untouched lo Q s t.resetEndpoint := (h.resetIsland (by decide)).keep

theorem portDown {c p : Nat} (h : Untouched lo Q s t) (hc : c < 16) (hp : p < 16) :
    Untouched lo Q s (t.portDown c p) := by
  have ha := LANE_PCIE_STAT_not_regrowReg hc hp
  have hu := (((h.setFlag (i := 0) (b := false) ha).setFld (hi := 5) (lo' := 1) (v := 0) ha).setFld
    (hi := 8) (lo' := 6) (v := 0) ha).wrapAdd (hi := 31) (lo' := 16) (n := 1) ha
  exact .ite h (.ite hu.resetEndpoint (hu.dropReads hc hp))

theorem laneLeaves {n dest : Nat} (h : Untouched lo Q s t) (hn : n < 1024) : Untouched lo Q s (t.laneLeaves n dest) := by
  have ha := LANE_STATE_not_regrowReg hn
  have hu := (h.setFld (hi := 2) (lo' := 0) (v := dest) ha).setFld (hi := 11) (lo' := 8) (v := 0) ha
  exact .ite (.ite (hu.wrapAdd ha) ((hu.wrapAdd ha).crossInc (by omega))) hu

theorem countLinks (h : Untouched lo Q s t) : Untouched lo Q s t.countLinks :=
  h.setFld (not_regrowReg_of_block (by decide))

/-! ### Domains -/

theorem setDomState {d st : Nat} (h : Untouched lo Q s t) (hd : d < 64) : Untouched lo Q s (t.setDomState d st) :=
  h.setFld (PWR_DOM_not_regrowReg (by omega))

theorem railStops {r : Nat} (h : Untouched lo Q s t) (hr : r < 64) : Untouched lo Q s (t.railStops r) := by
  have ha := PWR_RAIL_not_regrowReg (r := r) (by omega)
  exact .ite ((h.setFlag ha).setFld ha) h

theorem domainEffect {d : Nat} {on : Bool} (h : Untouched lo Q s t) : Untouched lo Q s (t.domainEffect d on) :=
  .ite (h.setFlag (not_regrowReg_of_block (by decide))) (.ite (h.setFlag (not_regrowReg_of_block (by decide)))
    (.ite (h.setFlag (not_regrowReg_of_block (by decide))) h))

theorem wakeDomain {d : Nat} (h : Untouched lo Q s t) (hd : d < 64) : Untouched lo Q s (t.wakeDomain d) :=
  .ite h ((h.setFld (PWR_DOM_not_regrowReg (by omega))).setDomState hd).keep

theorem noStopCause {c : Nat} (h : Untouched lo Q s t) : Untouched lo Q s (t.noStopCause c) :=
  h.foldl fun _ _ _ hu => hu.updGlade

end Untouched

/-! ### What a REGROW rests on, and an emptied Grove, together -/

/-- From `s` to `t` what a REGROW rests on is kept, and Grove `g`, where it was empty, is empty still. -/
structure RegrowStep (g : Nat) (home : Nat → Nat) (s t : State) : Prop where
  kept : RegrowKept s t
  emptied : Emptied g home s → Emptied g home t

namespace RegrowStep

variable {g : Nat} {home : Nat → Nat} {s t u : State}

theorem refl (g : Nat) (home : Nat → Nat) (s : State) : RegrowStep g home s s := ⟨.refl s, id⟩

theorem through (h : RegrowStep g home s t) (k : ∀ {lo Q}, Untouched lo Q t t → Untouched lo Q t u) :
    RegrowStep g home s u :=
  ⟨h.kept.through k, fun e => (h.emptied e).through k⟩

theorem ite {p : Prop} {_ : Decidable p} (ht : RegrowStep g home s t) (hu : RegrowStep g home s u) :
    RegrowStep g home s (if p then t else u) := by
  split
  · exact ht
  · exact hu

theorem foldl {α : Type} {f : State → α → State} {l : List α} (h : RegrowStep g home s t)
    (hf : ∀ u, ∀ x ∈ l, RegrowStep g home s u → RegrowStep g home s (f u x)) : RegrowStep g home s (l.foldl f t) := by
  induction l generalizing t with
  | nil => exact h
  | cons x l ih =>
    exact ih (hf t x List.mem_cons_self h) fun u y hy => hf u y (List.mem_cons_of_mem x hy)

/-! ### Links -/

theorem freeFlits {l n : Nat} (h : RegrowStep g home s t) : RegrowStep g home s (t.freeFlits l n) :=
  ⟨h.kept.engines, fun e => (h.emptied e).freeFlits⟩

theorem giveUp {l : Nat} {x : Link} {c : RxPkt} (h : RegrowStep g home s t)
    (hx : Emptied g home s → x.holdsNone g home) (hc : x.cur = some c) : RegrowStep g home s (t.giveUp l c) := by
  refine ⟨?_, fun e => (h.emptied e).giveUp (hx e) hc⟩
  unfold State.giveUp
  split
  · exact h.kept.engines
  · exact h.kept.freeCells
  · exact h.kept

theorem setLink {l : Nat} {x : Link} (h : RegrowStep g home s t) (hx : Emptied g home s → x.holdsNone g home) :
    RegrowStep g home s (t.setLink l x) :=
  ⟨h.kept.engines, fun e => (h.emptied e).setLink (hx e)⟩

/-- A change of every link that leaves the packets received. -/
theorem mapLinks {f : Link → Link} (h : RegrowStep g home s t) (hf : ∀ x, (f x).cur = x.cur) :
    RegrowStep g home s { t with rootlink := { t.rootlink with links := t.rootlink.links.map fun p => (p.1, f p.2) } } :=
  ⟨h.kept.engines, fun e => { h.emptied e with
    link := fun l => by
      have hl := smGet_map_leaves (d := Link.reset) (f := fun _ x => f x) Link.cur (fun _ => hf) t.rootlink.links l
      unfold Link.holdsNone State.link
      rw [hl]
      exact (h.emptied e).link l }⟩

theorem afterDown_holdsNone {x : Link} (h : x.holdsNone g home) : x.afterDown.holdsNone g home := by
  intro ws n q i cells hc
  unfold Link.afterDown at hc
  dsimp only at hc
  split at hc
  · cases hc
  · exact h ws n q i cells hc

theorem linkDown {l dest : Nat} (h : RegrowStep g home s t) (hl : l < 256) : RegrowStep g home s (t.linkDown l dest) := by
  have ha := RTL_LINK_STATE_not_regrowReg hl
  have hx : Emptied g home s → (t.link l).holdsNone g home := fun e => (h.emptied e).link l
  unfold State.linkDown
  extract_lets a x s₁ s₂ s₃ s₄ s₅ _ s₆ _ _ s₇ _ s₈
  have h₂ : RegrowStep g home s s₂ := h.through fun k => ((k.setFld ha).wrapAdd ha).satAdd (RTL_LINK_ERR_not_regrowReg hl)
  have h₃ : RegrowStep g home s s₃ := by
    unfold s₃
    split
    next c hc => exact .ite (h₂.giveUp hx hc) h₂
    next => exact h₂
  have h₄ : RegrowStep g home s s₄ := by
    unfold s₄
    split
    · exact h₃.freeFlits
    · exact h₃
  have h₅ : RegrowStep g home s s₅ := h₄.setLink fun e => afterDown_holdsNone (hx e)
  have h₆ : RegrowStep g home s s₆ := h₅.mapLinks
    (f := fun x => { x with data := x.data.map (·.slotless l), fwd := x.fwd.map (·.slotless l) }) fun _ => rfl
  have h₇ : RegrowStep g home s s₇ := .ite (h₆.through fun k =>
    ((k.setFld (not_regrowReg_of_block (by decide))).setFld (not_regrowReg_of_block (by decide))).rootlink rfl) h₆
  have h₈ : RegrowStep g home s s₈ := h₇.through fun k => k.rootlink rfl
  have hn := s₈.linkEngine_lt l
  exact .ite (h.through fun k => k.setFld ha) (h₈.through fun k => k.countLinks.crossInc (by omega))

theorem linkFalls {l : Nat} (h : RegrowStep g home s t) (hl : l < 256) : RegrowStep g home s (t.linkFalls l) := by
  have hf : RegrowStep g home s ((t.linkLanes l).foldl
      (fun s n => if s.fld (Reg.LANE_STATE n) 2 0 = 3 then s.laneLeaves n 4 else s) t) :=
    h.foldl fun u n hn hu => .ite (hu.through fun k => k.laneLeaves ((State.lt_of_mem_linkLanes hn).trans (by decide))) hu
  exact .ite hf ((hf.linkDown hl).through fun k => k.setFld (RTL_LINK_STATE_not_regrowReg hl))

/-! ### Lanes and islands -/

theorem laneDown {n dest : Nat} (h : RegrowStep g home s t) (hn : n < 96) : RegrowStep g home s (t.laneDown n dest) := by
  have h₁ := h.through fun k => k.laneLeaves (n := n) (dest := dest) (by omega)
  unfold State.laneDown
  extract_lets u v port
  have hv : RegrowStep g home s v := by
    unfold v
    split
    next l hl =>
      have hl := State.lt_of_linkOfLane hl
      exact .ite (.ite (h₁.linkFalls hl) h₁) (h₁.linkDown hl)
    next => exact h₁
  match hp : port with
  | some (c, p) =>
    refine hv.through fun k => ?_
    by_cases hr : v.quadRole (n / 4) = 2
    · obtain ⟨rfl, rfl⟩ : 2 = c ∧ 0 = p := by
        simpa only [port, if_pos hr, Option.some.injEq, Prod.mk.injEq] using hp
      exact k.portDown (by decide) (by decide)
    · have hp : v.portOfLane n = some (c, p) := (if_neg hr).symm.trans hp
      have hcp := State.lt_of_portOfLane hp
      exact k.portDown (hcp.1.trans (by decide)) hcp.2
  | none => exact hv

theorem entryDown {c : Nat} (h : RegrowStep g home s t) (hc : c < 16) : RegrowStep g home s (t.entryDown c) :=
  (h.foldl fun _ _ hn hu => .ite (hu.laneDown (List.mem_range.1 hn)) hu).foldl fun _ _ hp hu =>
    hu.through fun k => k.portDown hc (List.mem_range.1 hp)

theorem octetDown {o dest : Nat} (h : RegrowStep g home s t) (ho : o < 12) : RegrowStep g home s (t.octetDown o dest) :=
  h.foldl fun _ _ hk hu => hu.laneDown (by have := List.mem_range.1 hk; omega)

theorem islandLinks {i : Nat} (h : RegrowStep g home s t) : RegrowStep g home s (t.islandLinks i) := by
  unfold State.islandLinks
  split
  next hi => exact h.foldl fun _ _ hk hu => .ite (hu.laneDown (by have := List.mem_range.1 hk; omega)) hu
  next =>
    split
    next hi => exact h.entryDown (by omega)
    next =>
      refine .ite (h.foldl fun _ l hl hu => ?_) h
      obtain ⟨e, -, rfl⟩ := List.mem_map.1 hl
      exact .ite (hu.linkFalls (byteN_lt e 0)) hu

/-! ### Domains -/

theorem domainOff {d : Nat} (h : RegrowStep g home s t) (hd : d < 64) (hd2 : d ≠ 2) :
    RegrowStep g home s (t.domainOff d) := by
  unfold State.domainOff
  extract_lets s₁ _ s₂ s₃ s₄ s₅ s₆
  have h₂ : RegrowStep g home s s₂ := h.through fun k => (k.setDomState hd).keep
  have h₃ : RegrowStep g home s s₃ := by
    unfold s₃
    split
    next ho => exact h₂.octetDown (by omega)
    next => exact h₂
  have h₄ : RegrowStep g home s s₄ := h₃.foldl fun u i hi hu =>
    (RegrowStep.ite hu.islandLinks hu).through fun k => k.resetIsland ((mem_domainIslands_lt hi).trans (by decide))
  have h₅ : RegrowStep g home s s₅ := by
    unfold s₅
    split
    next r hr =>
      refine h₄.through fun k => k.railStops ?_
      unfold domainRail at hr
      split_ifs at hr <;> cases hr <;> omega
    next => exact h₄
  have h₆ : s₆ = s₅ := if_neg hd2
  rw [h₆]
  exact .ite h (h₅.through fun k => k.domainEffect)

theorem fenceGlade {c : Nat} (h : RegrowStep g home s t) : RegrowStep g home s (t.fenceGlade c) := by
  have hc : RegrowStep g home s (if (t.glade c).run = .stopped then t else t.noStopCause c) :=
    .ite h (h.through fun k => k.noStopCause)
  exact .ite h ⟨hc.kept.halt, fun e => (hc.emptied e).halt⟩

theorem fenceGrove {k : Nat} (h : RegrowStep g home s t) : RegrowStep g home s (t.fenceGrove k) :=
  (h.through fun k => k.setFlag (not_regrowReg_of_block (by decide))).foldl fun _ _ _ hu => hu.fenceGlade

theorem policyOff {d : Nat} (h : RegrowStep g home s t) (hd : d < 64) (hd2 : d ≠ 2) :
    RegrowStep g home s (t.policyOff d) := by
  unfold State.policyOff
  extract_lets s₁ _ s₂
  have h₁ : RegrowStep g home s s₁ := by
    unfold s₁
    split
    · exact .ite h.fenceGrove h
    · exact h
  exact RegrowStep.domainOff (t := s₂) (h₁.through fun k => k.keep) hd hd2

/-- The policy leaves the Understory's domain on. -/
theorem domainPolicy {lean : Bool} (h : RegrowStep g home s t) : RegrowStep g home s (t.domainPolicy lean) := by
  refine h.foldl fun u d hd hu => ?_
  have hd := List.mem_range.1 hd
  split
  · exact .ite (hu.through fun k => k.wakeDomain hd) hu
  next hw => exact hu.policyOff hd fun e => hw (e ▸ u.wantOn_two lean)

end RegrowStep

end Sys2Proof.Machine
end

section
/-! SUPPORT. What empties a Grove for a REGROW (R72, R292): its memories are cleared, the descriptors of its queues, their
cells, and what held those cells, are emptied, and its Glades and TXU are made anew. -/

namespace Sys2Proof.Machine

/-! ### Maps and folds -/

theorem mem_of_smGet {α : Type} {m : SMap (Option α)} {k : Nat} {v : α} (h : smGet none m k = some v) :
    (k, some v) ∈ m := by
  induction m with
  | nil => cases h
  | cons p m ih =>
    rw [smGet] at h
    split at h
    next e => exact List.mem_cons.2 (.inl (Prod.ext e h.symm))
    next => exact List.mem_cons_of_mem p (ih h)

/-- What holds of the default, and of every entry as changed, holds of what the changed map reads. -/
theorem smGet_map_of_forall {α : Type} {d : α} {f : α → α} {P : α → Prop} (hd : P d) (hf : ∀ x, P (f x)) (m : SMap α)
    (j : Nat) : P (smGet d (m.map fun e => (e.1, f e.2)) j) := by
  induction m with
  | nil => exact hd
  | cons e m ih =>
    rw [List.map_cons, smGet]
    split
    · exact hf e.2
    · exact ih

/-- What each step of a fold brings about for its own item, and keeps for the others, holds for all of them at its end. -/
theorem foldl_brings {α β : Type} {f : β → α → β} {P : α → β → Prop} (hx : ∀ u x, P x (f u x))
    (hy : ∀ u x y, P y u → P y (f u x)) (l : List α) (s : β) : ∀ x ∈ l, P x (l.foldl f s) := by
  have hk : ∀ (l : List α) (s : β) (y : α), P y s → P y (l.foldl f s) := fun l => by
    induction l with
    | nil => exact fun _ _ => id
    | cons x l ih => exact fun s y h => ih _ y (hy s x y h)
  induction l generalizing s with
  | nil => exact fun _ hx => absurd hx List.not_mem_nil
  | cons x l ih =>
    intro y hm
    rcases List.mem_cons.1 hm with rfl | hm
    · exact hk l _ y (hx s y)
    · exact ih _ y hm

/-! ### Memories -/

/-- The bytes from `b` on, `n` of them, are zero. -/
def State.zeroAt (s : State) (b n : Nat) : Prop := ∀ a, b ≤ a → a < b + n → s.byteAt a = 0#8

theorem State.zeroAt_bulkClear (s : State) (b n : Nat) : (s.bulkClear b n).zeroAt b n := fun a h h' => by
  rw [State.byteAt_bulkClear, if_pos ⟨h, h'⟩]

theorem State.zeroAt.bulkClear {s : State} {b n : Nat} (h : s.zeroAt b n) (c m : Nat) : (s.bulkClear c m).zeroAt b n :=
  fun a ha ha' => by
    rw [State.byteAt_bulkClear, h a ha ha', ite_self]

/-- A Grove's memories after they have been cleared (R254). -/
theorem State.byteAt_clearGrove (s : State) {g a : Nat} (ha : inGrove g a) : (s.clearGrove g).byteAt a = 0#8 := by
  unfold State.clearGrove
  extract_lets s₁ _ s₂ s₃
  have hm : s₃.zeroAt (groveMemBase g) 0x200000 := State.zeroAt_bulkClear _ _ _
  obtain ha | ⟨k, hk, ha⟩ := ha
  · exact (List.foldlRecOn (motive := fun u : State => u.zeroAt (groveMemBase g) 0x200000) _ _ hm
      fun u hu k _ => (hu.bulkClear _ _).bulkClear _ _) a ha.1 ha.2
  · have hz := foldl_brings (f := fun (s : State) k => (s.bulkClear (gladeBase (16 * g + k)) 0x8000).bulkClear
        (gladeBase (16 * g + k) + 0x10000) 0x10000)
      (P := fun k u => u.zeroAt (gladeBase (16 * g + k)) 0x8000 ∧ u.zeroAt (gladeBase (16 * g + k) + 0x10000) 0x10000)
      (fun _ _ => ⟨(State.zeroAt_bulkClear _ _ _).bulkClear _ _, State.zeroAt_bulkClear _ _ _⟩)
      (fun _ _ _ h => ⟨(h.1.bulkClear _ _).bulkClear _ _, (h.2.bulkClear _ _).bulkClear _ _⟩)
      (List.range 16) s₃ k (List.mem_range.2 hk)
    obtain ⟨hi, hd⟩ := hz
    obtain ha | ha := ha
    · exact hi a ha.1 ha.2
    · exact hd a ha.1 ha.2

/-! ### Queues -/

/-- A cached descriptor after one has been set (R274). -/
theorem State.mem_cache_setDesc {s : State} {q : Nat} {d : Desc} {e : CachedDesc} (h : e ∈ (s.setDesc q d).qm.cache) :
    (e.queue = q ∧ e.desc = d) ∨ (e.queue ≠ q ∧ e ∈ s.qm.cache) := by
  have he := ((Untouched.refl_zero (fun _ => False) _).evict.cache e h).resolve_right id
  rcases List.mem_cons.1 he with rfl | he
  · exact .inl ⟨rfl, rfl⟩
  · obtain ⟨he, hq⟩ := List.mem_filter.1 he
    exact .inr ⟨by simpa using hq, he⟩

theorem State.mem_cache_updDesc {s : State} {q : Nat} {f : Desc → Desc} {e : CachedDesc}
    (h : e ∈ (s.updDesc q f).qm.cache) : (e.queue = q ∧ e.desc = f (s.getDesc q).2) ∨ (e.queue ≠ q ∧ e ∈ s.qm.cache) :=
  (State.mem_cache_setDesc h).imp_right fun ⟨hq, he⟩ =>
    ⟨hq, ((Untouched.refl_zero (· = q) s).getDesc rfl |>.cache e he).resolve_right hq⟩

/-- Every cached queue of `P` is empty once the descriptors of all of them have been emptied. -/
theorem State.packets_foldl_updDesc {f : Desc → Desc} (hf : ∀ d, (f d).packets = 0) {P : Nat → Prop} (l : List Nat)
    {s : State} (h : ∀ e ∈ s.qm.cache, P e.queue → e.desc.packets = 0 ∨ e.queue ∈ l) :
    ∀ e ∈ (l.foldl (fun s q => s.updDesc q f) s).qm.cache, P e.queue → e.desc.packets = 0 := by
  induction l generalizing s with
  | nil => exact fun e he hp => (h e he hp).resolve_right List.not_mem_nil
  | cons q l ih =>
    refine ih fun e he hp => ?_
    obtain ⟨-, hd⟩ | ⟨hq, he⟩ := State.mem_cache_updDesc he
    · exact .inl (hd ▸ hf _)
    · exact (h e he hp).imp_right fun hm => (List.mem_cons.1 hm).resolve_left hq

/-- A queue is stored in Grove `g` where its pool is the Grove's. -/
theorem State.pool_eq_iff (s : State) {g : Nat} (hg : g < 16) (q : Nat) :
    (s.queueInfo q).pool = g ↔ (!(s.queueInfo q).dram && (s.queueInfo q).grove == g) = true := by
  unfold QInfo.pool
  cases (s.queueInfo q).dram with
  | true => simp; omega
  | false => simp

theorem State.mem_groveQueues {s : State} {g : Nat} (hg : g < 16) {e : CachedDesc} (he : e ∈ s.qm.cache)
    (hq : (s.queueInfo e.queue).pool = g) : e.queue ∈ s.groveQueues g :=
  List.mem_filter.2 ⟨List.mem_eraseDups.2 (List.mem_append_left _ (List.mem_map_of_mem he)), (s.pool_eq_iff hg _).1 hq⟩

end Sys2Proof.Machine
end

section
/-! SUPPORT. The Grove that a REGROW empties (R72, R292): `Emptied` holds of it from there on, and what a REGROW rests on is
kept. -/

namespace Sys2Proof.Machine

/-! ### The emptying, in its two parts -/

/-- Queue `q` is stored in Grove `g`. -/
def State.storedIn (s : State) (g q : Nat) : Bool := !(s.queueInfo q).dram && (s.queueInfo q).grove == g

/-- The descriptor of an empty queue. -/
def Desc.emptied (d : Desc) : Desc := { d with head := 0, tail := 0, packets := 0, cells := 0 }

/-- A link where the queues of `here` are emptied. -/
def Link.without (here : Nat → Bool) (x : Link) : Link :=
  { x with cur := x.cur.map (fun c => match c with
    | .own ws n (.queue q i cells) => if here q && !cells.isEmpty then .own ws n .gone else .own ws n (.queue q i cells)
    | c => c) }

/-- A Glade where the queues of `here` are emptied. -/
def Glade.without (here : Nat → Bool) (x : Glade) : Glade :=
  { x with
    qpuPend := x.qpuPend.map (fun d => { d with kind := d.kind.without here })
    reads := x.reads.map (fun p => (p.1, p.2.map (fun k =>
      if here k.queue then { k with lost := true, cells := [], buf := [] } else k)))
    writes := x.writes.map (fun p => (p.1, p.2.map (fun k =>
      if here k.queue then { k with cells := [], status := if k.status = 0 then 3 else k.status } else k))) }

/-- The descriptors of a Grove that is emptied. -/
def State.emptyDescs (s : State) (g : Nat) : State := (s.groveQueues g).foldl (fun s q => s.updDesc q Desc.emptied) s

/-- Its pool, and the links, after them. -/
def State.emptyPool (s : State) (g : Nat) : State :=
  let t := (s.emptyDescs g).setPool g Pool.reset
  { t with rootlink := { t.rootlink with links := t.rootlink.links.map (fun p => (p.1, p.2.without (s.storedIn g))) } }

/-- Glade `i` and its transaction where the queues of `here` are emptied. -/
def State.emptyGlade (here : Nat → Bool) (s : State) (i : Nat) : State :=
  let x := s.glade i
  let r := x.reads.filter (fun p => match p.2 with | some k => here k.queue | none => false)
  let w := x.writes.filter (fun p => match p.2 with | some k => here k.queue | none => false)
  let s := if r.isEmpty && w.isEmpty && x.qpuPend.isEmpty then s else s.updAsync i (Glade.without here)
  match s.txn i with
  | some t =>
    if t.packets.any (fun k => here k.queue) then
      s.setTxn i (some { t with packets := t.packets.filter (fun k => !here k.queue), queueFail := true })
    else s
  | none => s

theorem State.emptyQueues_eq (s : State) (g : Nat) :
    s.emptyQueues g = (List.range 256).foldl (State.emptyGlade (s.storedIn g)) (s.emptyPool g) := rfl

theorem State.glade_updAsync (s : State) (c d : Nat) (f : Glade → Glade) :
    (s.updAsync c f).glade d = if d = c then f (s.glade c) else s.glade d := s.glade_updGlade c d f

/-! ### What a REGROW rests on -/

namespace RegrowKept

variable {s t : State}

theorem bulkClear {b n : Nat} (h : RegrowKept s t) : RegrowKept s (t.bulkClear b n) :=
  RegrowKept.foldl (RegrowKept.engines (t := t.unspoil b n) (h.through fun k => k.unspoil)) fun _ _ k =>
    .ite (k.through fun k => k.setFlag (GRV_INJECT_not_regrowReg _)) k

theorem clearGrove {g : Nat} (h : RegrowKept s t) : RegrowKept s (t.clearGrove g) := by
  have ha : ¬ regrowReg (Reg.GRV_SCRUB_STATUS g) :=
    not_regrowReg (by simp only [Reg.GRV_SCRUB_STATUS, Reg.PWR_MODE, Reg.SM_STATUS, Reg.SM_REGROW_STATUS]; omega)
  unfold State.clearGrove
  extract_lets s₁ _ s₂ s₃
  have h₂ : RegrowKept s s₂ := h.through fun k => (k.setFld ha).keep
  exact h₂.bulkClear.foldl fun _ _ k => k.bulkClear.bulkClear

theorem emptyDescs {g : Nat} (h : RegrowKept s t) : RegrowKept s (t.emptyDescs g) :=
  h.foldl fun _ _ k => k.through fun k => k.updDesc

theorem emptyPool {g : Nat} (h : RegrowKept s t) : RegrowKept s (t.emptyPool g) := h.emptyDescs.engines

theorem emptyGlade {here : Nat → Bool} {i : Nat} (h : RegrowKept s t) : RegrowKept s (t.emptyGlade here i) := by
  unfold State.emptyGlade
  extract_lets x r w u
  have hu : RegrowKept s u := .ite h h.updAsync
  split
  next e => exact .ite (hu.setTxn fun n => by rw [n] at e; cases e) hu
  next => exact hu

theorem emptyQueues {g : Nat} (h : RegrowKept s t) : RegrowKept s (t.emptyQueues g) := by
  rw [State.emptyQueues_eq]
  exact h.emptyPool.foldl fun _ _ k => k.emptyGlade

end RegrowKept

section

variable {g : Nat} {home : Nat → Nat} {s : State}

/-! ### Glades -/

/-- Cursors with no cell of a queue of `here`. -/
theorem Glade.without_holdsNone {here : Nat → Bool} (hh : ∀ q, home q = g → here q = true) (x : Glade) :
    (x.without here).holdsNone g home := by
  refine ⟨fun j => smGet_map_of_forall (d := none) (f := fun o : Option ReadPkt => o.map _)
    (P := fun o => ∀ r, o = some r → home r.queue = g → r.cells = []) (fun _ h => nomatch h) (fun o r h hq => ?_) _ j,
    fun j => smGet_map_of_forall (d := none) (f := fun o : Option WritePkt => o.map _)
    (P := fun o => ∀ r, o = some r → home r.queue = g → r.cells = []) (fun _ h => nomatch h) (fun o r h hq => ?_) _ j⟩
  all_goals
    obtain ⟨k, -, rfl⟩ := Option.map_eq_some_iff.1 h
    cases hk : here k.queue with
    | true => rw [if_pos rfl]
    | false =>
      rw [hk, if_neg Bool.false_ne_true] at hq
      rw [hh _ hq] at hk
      cases hk

/-- A Glade with no cursor of a queue of `here`. -/
theorem Glade.holdsNone_of_none {x : Glade} {here : Nat → Bool} (hh : ∀ q, home q = g → here q = true)
    (hr : ∀ p ∈ x.reads, ∀ k, p.2 = some k → here k.queue = false)
    (hw : ∀ p ∈ x.writes, ∀ k, p.2 = some k → here k.queue = false) : x.holdsNone g home := by
  refine ⟨fun k r h hq => ?_, fun k w h hq => ?_⟩
  · cases (hh _ hq).symm.trans (hr _ (mem_of_smGet h) r rfl)
  · cases (hh _ hq).symm.trans (hw _ (mem_of_smGet h) w rfl)

theorem State.holdsNone_emptyGlade {here : Nat → Bool} (hh : ∀ q, home q = g → here q = true) (i : Nat) :
    ((s.emptyGlade here i).glade i).holdsNone g home := by
  unfold State.emptyGlade
  extract_lets x r w u
  have hu : (u.glade i).holdsNone g home := by
    unfold u
    split
    next he =>
      simp only [r, w, Bool.and_eq_true, List.isEmpty_iff, List.filter_eq_nil_iff] at he
      obtain ⟨⟨hr, hw⟩, -⟩ := he
      exact Glade.holdsNone_of_none hh (fun p hp k e => by simpa [e] using hr p hp) fun p hp k e => by
        simpa [e] using hw p hp
    next =>
      rw [State.glade_updAsync, if_pos rfl]
      exact Glade.without_holdsNone hh _
  split
  · split
    · exact hu
    · exact hu
  · exact hu

/-- Another Glade, memory, the queue manager and Rootlink are left. -/
theorem State.emptyGlade_leaves (here : Nat → Bool) (i : Nat) : (∀ j, j ≠ i → (s.emptyGlade here i).glade j = s.glade j)
    ∧ (s.emptyGlade here i).mem = s.mem ∧ (s.emptyGlade here i).qm = s.qm
    ∧ (s.emptyGlade here i).rootlink = s.rootlink := by
  unfold State.emptyGlade
  extract_lets x r w u
  have hu : (∀ j, j ≠ i → u.glade j = s.glade j) ∧ u.mem = s.mem ∧ u.qm = s.qm ∧ u.rootlink = s.rootlink := by
    unfold u
    split
    · exact ⟨fun _ _ => rfl, rfl, rfl, rfl⟩
    · exact ⟨fun j hj => (State.glade_updAsync ..).trans (if_neg hj), rfl, rfl, rfl⟩
  split
  · split
    · exact hu
    · exact hu
  · exact hu

/-! ### Links -/

theorem Link.holdsNone_reset : Link.reset.holdsNone g home := by
  intro ws n q i cells h
  cases h

/-- A packet received, none whose cells were of a queue of `here`. -/
theorem Link.without_holdsNone {here : Nat → Bool} (hh : ∀ q, home q = g → here q = true) (x : Link) :
    (x.without here).holdsNone g home := by
  intro ws n q i cells h hq
  obtain ⟨c, -, hc⟩ := Option.map_eq_some_iff.1 h
  split at hc
  next q' i' cells' =>
    split at hc
    · cases hc
    next hn =>
      cases hc
      simpa [hh _ hq] using hn
  next hne => exact absurd hc (hne ws n q i cells)

/-! ### The Grove -/

theorem State.byteAt_emptyPool (hb : dramBase ≤ s.descBase) {a : Nat} (ha : a < dramBase) :
    (s.emptyPool g).byteAt a = s.byteAt a :=
  ((Untouched.refl_dram (fun _ => True) hb).foldl fun _ _ _ k => k.updDesc).byteAt a ha

section

variable (hg : g < 16) (hh : ∀ q, (s.queueInfo q).pool = home q)

include hg hh

theorem State.storedIn_of_home (q : Nat) (hq : home q = g) : s.storedIn g q = true :=
  (s.pool_eq_iff hg q).1 ((hh q).trans hq)

theorem State.packets_emptyPool : ∀ e ∈ (s.emptyPool g).qm.cache, home e.queue = g → e.desc.packets = 0 :=
  State.packets_foldl_updDesc (P := (home · = g)) (fun _ => rfl) (s.groveQueues g) fun _ he hq =>
    .inr (State.mem_groveQueues hg he ((hh _).trans hq))

theorem State.holdsNone_emptyPool (l : Nat) : ((s.emptyPool g).link l).holdsNone g home :=
  smGet_map_of_forall (P := fun x : Link => x.holdsNone g home) (d := Link.reset) (f := Link.without (s.storedIn g))
    Link.holdsNone_reset (Link.without_holdsNone (State.storedIn_of_home hg hh))
    (s.emptyDescs g).rootlink.links l

theorem State.holdsNone_emptyQueues (i : Nat) (hi : i < 256) : ((s.emptyQueues g).glade i).holdsNone g home := by
  have hhere := State.storedIn_of_home hg hh
  rw [State.emptyQueues_eq]
  refine foldl_brings (P := fun i (u : State) => (u.glade i).holdsNone g home)
    (fun u i => State.holdsNone_emptyGlade hhere i) (fun u i j hj => ?_) _ _ i (List.mem_range.2 hi)
  by_cases e : j = i
  · rw [e]
    exact State.holdsNone_emptyGlade hhere i
  · rw [(u.emptyGlade_leaves _ i).1 j e]
    exact hj

/-- A Grove whose memories have been cleared is empty once its queues have been emptied, no transaction being open. -/
theorem Emptied.of_emptyQueues (ht : ∀ i, i < 256 → s.txn i = none)
    (hz : ∀ a, inGrove g a → s.byteAt a = 0#8) : Emptied g home (s.emptyQueues g) := by
  have hkept := (RegrowKept.refl s).emptyQueues (g := g)
  have hleaves := foldl_leaves (f := State.emptyGlade (s.storedIn g)) (fun u : State => (u.mem, u.qm, u.rootlink))
    (fun u i => by obtain ⟨-, hm, hq, hr⟩ := u.emptyGlade_leaves (s.storedIn g) i; rw [hm, hq, hr]) (List.range 256)
    (s.emptyPool g)
  obtain ⟨hmem, hqm, hlinks⟩ : (s.emptyQueues g).mem = (s.emptyPool g).mem ∧ (s.emptyQueues g).qm = (s.emptyPool g).qm
      ∧ (s.emptyQueues g).rootlink = (s.emptyPool g).rootlink := by
    rw [State.emptyQueues_eq]
    simpa only [Prod.mk.injEq] using hleaves
  exact
    { grove := hg
      homes := fun q => (congrArg QInfo.pool (State.queueInfo_of_sec (hkept.sec _) q)).trans (hh q)
      txn := fun i hi => hkept.noTxn i (ht i hi)
      pool := by
        unfold State.pool
        rw [hqm]
        exact (smGet_smSet Pool.reset (s.emptyDescs g).qm.pools g g Pool.reset).trans (if_pos rfl)
      cache := by
        rw [hqm]
        exact State.packets_emptyPool hg hh
      zero := fun hb a ha => by
        unfold State.byteAt
        rw [hmem]
        exact (State.byteAt_emptyPool (hb.trans_eq (State.descBase_of_sec (hkept.sec _))) (ha.lt_dramBase hg)).trans (hz a ha)
      glade := State.holdsNone_emptyQueues hg hh
      link := fun l => by
        unfold State.link
        rw [hlinks]
        exact State.holdsNone_emptyPool hg hh l }

end

end

end Sys2Proof.Machine
end

section
/-! SUPPORT. REGROW in its stages (R72): how it ends, how its mode is left, and what the Grove that takes its new structure
finds at each. -/

namespace Sys2Proof.Machine

/-! ### Registers -/

theorem State.fld_of_rd {s t : State} {a : Nat} (h : t.rd a = s.rd a) (hi lo : Nat) : t.fld a hi lo = s.fld a hi lo :=
  congrArg (field · hi lo) h

theorem State.flag_of_rd {s t : State} {a : Nat} (h : t.rd a = s.rd a) (i : Nat) : t.flag a i = s.flag a i :=
  congrArg (bit · i) h

theorem State.rd_setFld_ne (s : State) {a b : Nat} (h : b ≠ a) (hi lo v : Nat) :
    (s.setFld a hi lo v).rd b = s.rd b := (State.rd_setFld ..).trans (if_neg h)

/-! ### The mode -/

/-- The registers of a mode are written first; what follows keeps what a REGROW rests on. -/
theorem State.setMode_kept (s : State) (m : Nat) : RegrowKept ((((s.setFld Reg.PWR_MODE 27 24 s.mode).setFld
    Reg.PWR_MODE 3 0 m).setFld Reg.PWR_MODE 7 4 0).setFlag Reg.PWR_MODE 8 false) (s.setMode m) :=
  (RegrowKept.refl _).through fun k => k.keep.tallyInc

theorem State.mode_setMode (s : State) {m : Nat} (hm : m < 16) : (s.setMode m).mode = m := by
  have h := (s.setMode_kept m).rd Reg.PWR_MODE (.inl rfl)
  unfold State.mode State.fld
  rw [h]
  refine (State.fld_setFlag_ne _ _ _ (by decide) (by decide)).trans ?_
  rw [State.fld_setFld_ne _ _ _ (by decide) (by decide) (by decide), State.fld_setFld _ _ _ (by decide) (by decide)]
  exact Nat.mod_eq_of_lt hm

theorem State.rd_setMode (s : State) (m : Nat) {a : Nat} (ha : a = Reg.SM_STATUS ∨ a = Reg.SM_REGROW_STATUS) :
    (s.setMode m).rd a = s.rd a := by
  have hp : a ≠ Reg.PWR_MODE := by rcases ha with rfl | rfl <;> decide
  refine ((s.setMode_kept m).rd a (.inr ha)).trans ?_
  simp [hp]

theorem RegrowKept.mode {s t : State} (h : RegrowKept s t) : t.mode = s.mode :=
  State.fld_of_rd (h.rd Reg.PWR_MODE (.inl rfl)) 3 0

/-! ### The end of a REGROW -/

/-- No REGROW is in progress: its STATE is `st`, the applied Stand Map is `ss`, Grove `g` does not quiesce. -/
structure RegrowEnded (st : Nat) (ss : SMap (List Byte)) (g : Nat) (s : State) : Prop where
  state : s.fld Reg.SM_REGROW_STATUS 2 0 = st
  regrow : s.regrow = none
  active : s.flag Reg.SM_STATUS 4 = false
  sections : s.sections = ss
  resumed : (s.txu g).quiescing = false

theorem RegrowEnded.kept {st g : Nat} {ss : SMap (List Byte)} {s t : State} (h : RegrowEnded st ss g s)
    (k : RegrowKept s t) : RegrowEnded st ss g t where
  state := (State.fld_of_rd (k.rd _ (.inr (.inr rfl))) 2 0).trans h.state
  regrow := k.regrow.trans h.regrow
  active := (State.flag_of_rd (k.rd _ (.inr (.inl rfl))) 4).trans h.active
  sections := k.sections.trans h.sections
  resumed := k.resumed g h.resumed

theorem RegrowEnded.setMode {st g : Nat} {ss : SMap (List Byte)} {s : State} (h : RegrowEnded st ss g s) (m : Nat) :
    RegrowEnded st ss g (s.setMode m) where
  state := (State.fld_of_rd (s.rd_setMode m (.inr rfl)) 2 0).trans h.state
  regrow := (s.setMode_kept m).regrow.trans h.regrow
  active := (State.flag_of_rd (s.rd_setMode m (.inl rfl)) 4).trans h.active
  sections := (s.setMode_kept m).sections.trans h.sections
  resumed := (s.setMode_kept m).resumed g h.resumed

/-- The registers of `endRegrow`. -/
def State.regrowRegs (s : State) (st : Nat) : State :=
  ((s.setFld Reg.SM_REGROW_STATUS 2 0 st).setFlag Reg.SM_REGROW 32 false).setFlag Reg.SM_STATUS 4 false

theorem State.fld_regrowRegs (s : State) {st : Nat} (hst : st < 8) :
    (s.regrowRegs st).fld Reg.SM_REGROW_STATUS 2 0 = st := by
  refine Eq.trans ?_ ((s.fld_setFld Reg.SM_REGROW_STATUS st (hi := 2) (lo := 0) (by decide) (by decide)).trans
    (Nat.mod_eq_of_lt hst))
  simp [State.regrowRegs, State.fld, Reg.SM_REGROW_STATUS, Reg.SM_REGROW, Reg.SM_STATUS]

theorem State.fld_regrowRegs_ne (s : State) (st : Nat) {hi lo : Nat} (h : 2 < lo) :
    (s.regrowRegs st).fld Reg.SM_REGROW_STATUS hi lo = s.fld Reg.SM_REGROW_STATUS hi lo := by
  refine Eq.trans ?_ (s.fld_setFld_ne Reg.SM_REGROW_STATUS st (hi := 2) (lo := 0) (by decide) (by decide) (.inr h))
  simp [State.regrowRegs, State.fld, Reg.SM_REGROW_STATUS, Reg.SM_REGROW, Reg.SM_STATUS]

theorem State.mode_regrowRegs (s : State) (st : Nat) : (s.regrowRegs st).mode = s.mode := by
  simp [State.regrowRegs, State.mode, State.fld, Reg.PWR_MODE, Reg.SM_REGROW_STATUS, Reg.SM_REGROW, Reg.SM_STATUS]

theorem State.flag_regrowRegs (s : State) (st : Nat) : (s.regrowRegs st).flag Reg.SM_STATUS 4 = false :=
  State.flag_setFlag _ _ _ (by decide)

theorem State.regrow_regrowRegs (s : State) (st : Nat) : (s.regrowRegs st).regrow = s.regrow := by
  unfold State.regrowRegs
  rw [State.setFlag_regrow, State.setFlag_regrow, State.setFld_regrow]

theorem State.sections_regrowRegs (s : State) (st : Nat) : (s.regrowRegs st).sections = s.sections := by
  unfold State.regrowRegs
  rw [State.setFlag_sections, State.setFlag_sections, State.setFld_sections]

theorem State.glade_regrowRegs (s : State) (st i : Nat) : (s.regrowRegs st).glade i = s.glade i := by
  unfold State.regrowRegs
  rw [State.setFlag_glade, State.setFlag_glade, State.setFld_glade]

theorem State.endRegrow_of_none {s : State} (h : s.regrow = none) (st : Nat) : s.endRegrow st = s.regrowRegs st := by
  have hr := (s.regrow_regrowRegs st).trans h
  unfold State.endRegrow
  rw [← State.regrowRegs]
  simp only [hr]

theorem State.endRegrow_of_some {s : State} {r : Regrow} (h : s.regrow = some r) (st : Nat) :
    s.endRegrow st = { (s.regrowRegs st).setTxu r.grove { s.txu r.grove with quiescing := false } with regrow := none } := by
  have hr := (s.regrow_regrowRegs st).trans h
  unfold State.endRegrow
  rw [← State.regrowRegs]
  simp only [hr]
  rfl

theorem State.endRegrow_ended {s : State} {r : Regrow} {st : Nat} (h : s.regrow = some r) (hst : st < 8) :
    RegrowEnded st s.sections r.grove (s.endRegrow st) := by
  rw [State.endRegrow_of_some h]
  exact ⟨s.fld_regrowRegs hst, rfl, s.flag_regrowRegs st, rfl, by
    refine (congrArg Txu.quiescing ((s.regrowRegs st).txu_setTxu ..)).trans ?_
    rw [if_pos rfl]⟩

theorem State.mode_endRegrow (s : State) (st : Nat) : (s.endRegrow st).mode = s.mode := by
  cases h : s.regrow with
  | none => rw [State.endRegrow_of_none h, State.mode_regrowRegs]
  | some r =>
    rw [State.endRegrow_of_some h]
    exact s.mode_regrowRegs st

theorem State.glade_endRegrow (s : State) (st i : Nat) : (s.endRegrow st).glade i = s.glade i := by
  cases h : s.regrow with
  | none => rw [State.endRegrow_of_none h, State.glade_regrowRegs]
  | some r =>
    rw [State.endRegrow_of_some h]
    exact s.glade_regrowRegs st i

end Sys2Proof.Machine
end

section
/-! SUPPORT. The fragment of a REGROW is read from the Heartwood's memory (R72), and reading it leaves the REGROW as it was
taken. -/

namespace Sys2Proof.Machine

variable {s t : State}

theorem RegrowKept.readWordOf {r : Requester} {a n w : Nat} (h : RegrowKept s t) :
    RegrowKept s (t.readWordOf r a n w).1 :=
  h.through fun k => k.readWordOf (Nat.zero_le _)

theorem RegrowKept.readMem {r : Requester} {a n : Nat} (h : RegrowKept s t) : RegrowKept s (t.readMem r a n).1 := by
  have step : ∀ (acc : State × Except Nat (List Byte)) (w : Nat), RegrowKept s acc.1 →
      RegrowKept s (match acc.2 with
        | .error e => (acc.1, .error e)
        | .ok bs => match acc.1.readWordOf r a n w with
          | (u, .ok v) => (u, .ok (bs ++ bytesLE 8 v.toNat))
          | (u, .err d) => (u, .error d) : State × Except Nat (List Byte)).1 := fun acc w k => by
    split
    · exact k
    · split
      next e => exact k.readWordOf.of_eq e
      next e => exact k.readWordOf.of_eq e
  unfold State.readMem State.gather
  extract_lets w₀ words p
  have hp : RegrowKept s p.1 := List.foldlRecOn (motive := fun acc => RegrowKept s acc.1) _ _ h fun acc k i _ =>
    step acc (w₀ + 8 * i) k
  split
  · exact hp
  · exact hp

theorem RegrowKept.fragment {g off : Nat} (h : RegrowKept s t) : RegrowKept s (t.fragment g off).1 := by
  unfold State.fragment
  split
  · exact h
  · split
    next e => exact h.readMem.of_eq e
    next e =>
      dsimp only
      split
      next e' => exact (h.readMem.of_eq e).readMem.of_eq e'
      next e' => exact (h.readMem.of_eq e).readMem.of_eq e'

end Sys2Proof.Machine
end

section
/-! SUPPORT. The application of a fragment to a Grove that has quiesced (R72), stage by stage: the Grove is emptied, takes
its new structure, its Glades and its TXU are made anew, the REGROW ends, and the device is in RUN again. -/

namespace Sys2Proof.Machine

/-! ### The stages -/

/-- What Grove `g`'s Glades had open is discarded. -/
def State.regrowDiscarded (f : State) (g : Nat) : State :=
  (List.range 16).foldl (fun s k => (s.discardOpen (16 * g + k)).interruptTxn (16 * g + k))
    (f.setFld Reg.SM_REGROW_STATUS 2 0 3)

/-- Its memories and queues are emptied. -/
def State.regrowEmptied (f : State) (g : Nat) : State := ((f.regrowDiscarded g).clearGrove g).emptyQueues g

/-- The Grove with its new structure, and its Glades and TXU made anew. -/
def State.regrowRenewed (s : State) (g : Nat) (ss : List MapSection) : State :=
  let s := ((s.withFragment ss g).liftFences g).loseGlades g .clearing
  let s := s.wr (Reg.GRV_SCRUB_RATE g) (w64 (s.secLE 0x11 (32 * g + 4) 4))
  s.setFlag Reg.SAF_STATUS (32 + g) false

/-- RUN after REGROW. -/
def State.regrowLeft (s : State) : State := if s.mode = 12 then (s.setMode 3).domainPolicy false else s

/-- The sections of the fragment, as they are applied. -/
def Regrow.fragment (r : Regrow) : List MapSection := r.sections.map (fun p => ⟨p.1, 0, 0, p.2, []⟩)

theorem State.regrowApply_eq {f : State} {r : Regrow} (hr : f.regrow = some r) (hq : f.quiesced r.grove = true) :
    f.regrowApply = (((f.regrowEmptied r.grove).regrowRenewed r.grove r.fragment).endRegrow 4).regrowLeft := by
  unfold State.regrowApply
  simp only [hr, hq]
  rfl

/-! ### The Grove emptied -/

theorem RegrowKept.discardOpen {s t : State} {i : Nat} (h : RegrowKept s t) : RegrowKept s (t.discardOpen i) :=
  h.discardBut

theorem State.regrowDiscarded_kept (f : State) (g : Nat) :
    RegrowKept (f.setFld Reg.SM_REGROW_STATUS 2 0 3) (f.regrowDiscarded g) :=
  (RegrowKept.refl _).foldl fun _ _ k => k.discardOpen.interruptTxn

theorem State.regrowEmptied_kept (f : State) (g : Nat) :
    RegrowKept (f.setFld Reg.SM_REGROW_STATUS 2 0 3) (f.regrowEmptied g) :=
  (f.regrowDiscarded_kept g).clearGrove.emptyQueues

/-- The marks that the application is being made (STATE 3). -/
theorem State.regrowEmptied_leaves (f : State) (g : Nat) : (f.regrowEmptied g).regrow = f.regrow
    ∧ (f.regrowEmptied g).sections = f.sections ∧ (f.regrowEmptied g).mode = f.mode := by
  have hk := f.regrowEmptied_kept g
  exact ⟨hk.regrow.trans (f.setFld_regrow ..), hk.sections.trans (f.setFld_sections ..),
    hk.mode.trans (State.fld_of_rd (f.rd_setFld_ne (by decide) ..) 3 0)⟩

theorem State.regrowEmptied_emptied {f : State} {g : Nat} (hg : g < 16) (ht : ∀ i, i < 256 → f.txn i = none) :
    Emptied g (fun q => (f.queueInfo q).pool) (f.regrowEmptied g) := by
  have hk := (f.regrowDiscarded_kept g).clearGrove (g := g)
  exact Emptied.of_emptyQueues hg (fun q => congrArg QInfo.pool (State.queueInfo_of_sec (hk.sec _) q))
    (fun i hi => hk.noTxn i (ht i hi)) fun _ => State.byteAt_clearGrove _

/-! ### The Grove renewed -/

theorem State.sec_withFragment (s : State) (ss : List MapSection) (g : Nat) {ty : Nat}
    (h : ty ≠ 0x10 ∧ ty ≠ 0x11 ∧ ty ≠ 0x70) : (s.withFragment ss g).sec ty = s.sec ty := by
  unfold State.sec State.withFragment
  dsimp only
  split
  · rw [smGet_smSet, if_neg h.2.1, smGet_smSet, if_neg h.1]
  · rw [smGet_smSet, if_neg h.2.2, smGet_smSet, if_neg h.2.1, smGet_smSet, if_neg h.1]

theorem State.regrow_withFragment (s : State) (ss : List MapSection) (g : Nat) :
    (s.withFragment ss g).regrow = s.regrow := rfl

theorem State.mode_withFragment (s : State) (ss : List MapSection) (g : Nat) :
    (s.withFragment ss g).mode = s.mode := rfl

theorem State.sections_withFragment {s t : State} (h : t.sections = s.sections) (ss : List MapSection) (g : Nat) :
    (t.withFragment ss g).sections = (s.withFragment ss g).sections := by
  unfold State.withFragment State.sec
  rw [h]

theorem Emptied.withFragment {g k : Nat} {home : Nat → Nat} {s : State} (h : Emptied g home s) (ss : List MapSection) :
    Emptied g home (s.withFragment ss k) :=
  have hs : (s.withFragment ss k).sec 0x30 = s.sec 0x30 := s.sec_withFragment ss k (by decide)
  { h with
    homes := fun q => (congrArg QInfo.pool (State.queueInfo_of_sec hs q)).trans (h.homes q)
    zero := fun hb => h.zero (hb.trans_eq (State.descBase_of_sec hs)) }

/-! ### Glades and the TXU -/

theorem Glade.holdsNone_fresh (g : Nat) (home : Nat → Nat) (run : RunState) :
    ({ Glade.reset with run := run } : Glade).holdsNone g home := by
  refine ⟨fun k r h _ => ?_, fun k w h _ => ?_⟩
  · cases h
  · cases h

namespace RegrowKept

variable {s t : State}

theorem loseTxn {i : Nat} (h : RegrowKept s t) : RegrowKept s (t.loseTxn i) := by
  unfold State.loseTxn
  extract_lets u
  split
  · exact .ite (h.interruptTxn.abortTxn (by decide)) h.interruptTxn
  · exact h.interruptTxn

theorem freshGlade {i : Nat} {run : RunState} (h : RegrowKept s t) : RegrowKept s (t.freshGlade i run) := by
  unfold State.freshGlade
  extract_lets dest _
  exact through (h.setGlade (x := { Glade.reset with run := dest }) (.inr rfl)) fun k => k.keep

theorem freshTxu {g : Nat} (h : RegrowKept s t) : RegrowKept s (t.freshTxu g) :=
  h.through fun k => k.setTxu (fun _ => rfl) fun _ _ => rfl

theorem loseGlades {g : Nat} {run : RunState} (h : RegrowKept s t) : RegrowKept s (t.loseGlades g run) :=
  freshTxu (h.foldl fun _ _ k => k.discardOpen.loseTxn.freshGlade)

theorem liftFences {g : Nat} (h : RegrowKept s t) : RegrowKept s (t.liftFences g) := h.foldl fun _ _ k => k.updGlade

/-- A Glade whose registers are those after reset keeps them. -/
theorem fresh {i : Nat} (h : RegrowKept s t) (hs : (s.glade i).grf = Glade.reset.grf) :
    (t.glade i).grf = Glade.reset.grf :=
  (h.grf i).elim (·.trans hs) id

end RegrowKept

/-- Every Glade of a Grove made anew has the registers after reset. -/
theorem State.grf_loseGlades (s : State) (g : Nat) (run : RunState) {k : Nat} (hk : k < 16) :
    ((s.loseGlades g run).glade (16 * g + k)).grf = Glade.reset.grf := by
  have hf := foldl_brings (P := fun k (u : State) => (u.glade (16 * g + k)).grf = Glade.reset.grf)
    (f := fun s k => ((s.discardOpen (16 * g + k)).loseTxn (16 * g + k)).freshGlade (16 * g + k) run)
    (fun u k => ?_) (fun u j k hu => ?_) (List.range 16) s k (List.mem_range.2 hk)
  · exact (RegrowKept.refl _).freshTxu.fresh hf
  · refine (congrArg Glade.grf (State.glade_setGlade ..)).trans ?_
    rw [if_pos rfl]
  · exact (RegrowKept.refl u).discardOpen.loseTxn.freshGlade.fresh hu

namespace Emptied

variable {g : Nat} {home : Nat → Nat} {s : State}

theorem loseTxn {i : Nat} (h : Emptied g home s) (hi : i < 256) : Emptied g home (s.loseTxn i) := by
  have hu := h.interruptTxn hi
  unfold State.loseTxn
  dsimp only
  rw [hu.txn i hi]
  exact hu

theorem freshGlade {i : Nat} {run : RunState} (h : Emptied g home s) : Emptied g home (s.freshGlade i run) :=
  through (s := s.setGlade i _) (h.updGlade (f := fun _ => { Glade.reset with run := _ }) fun _ =>
    Glade.holdsNone_fresh g home _) fun k => k.keep

theorem loseGlades {run : RunState} (h : Emptied g home s) : Emptied g home (s.loseGlades g run) := by
  have hf := h.foldl (l := List.range 16)
    (f := fun s k => ((s.discardOpen (16 * g + k)).loseTxn (16 * g + k)).freshGlade (16 * g + k) run) fun u k hk hu => by
      have hi : 16 * g + k < 256 := by have := List.mem_range.1 hk; have := h.grove; omega
      exact ((hu.discardBut hi).loseTxn hi).freshGlade
  exact hf.through fun k => k.setTxu (fun _ => rfl) fun _ _ => rfl

theorem liftFences {k : Nat} (h : Emptied g home s) : Emptied g home (s.liftFences k) :=
  h.through fun k => k.foldl fun _ _ _ hu => hu.updGlade

/-- Control registers say nothing of it. -/
theorem wr {a : Nat} {v : W64} (h : Emptied g home s) : Emptied g home (s.wr a v) := { h with }

theorem setMode {m : Nat} (h : Emptied g home s) : Emptied g home (s.setMode m) :=
  through (s := (((s.setFld Reg.PWR_MODE 27 24 s.mode).setFld Reg.PWR_MODE 3 0 m).setFld Reg.PWR_MODE 7 4 0).setFlag
    Reg.PWR_MODE 8 false) h.wr.wr.wr.wr fun k => k.keep.tallyInc

theorem endRegrow {st : Nat} (h : Emptied g home s) : Emptied g home (s.endRegrow st) := by
  have hr : Emptied g home (s.regrowRegs st) := h.wr.wr.wr
  cases e : s.regrow with
  | none => exact State.endRegrow_of_none e st ▸ hr
  | some r =>
    rw [State.endRegrow_of_some e]
    have ht := hr.through (t := (s.regrowRegs st).setTxu r.grove { s.txu r.grove with quiescing := false }) fun k =>
      k.setTxu (fun _ => rfl)
    exact { ht with }

theorem regrowLeft (h : Emptied g home s) : Emptied g home s.regrowLeft := by
  unfold State.regrowLeft
  split
  · exact ((RegrowStep.refl g home _).domainPolicy).emptied h.setMode
  · exact h

theorem regrowRenewed {ss : List MapSection} (h : Emptied g home s) : Emptied g home (s.regrowRenewed g ss) :=
  (h.withFragment ss).liftFences.loseGlades.wr.wr

end Emptied

/-! ### The Grove renewed, and RUN again -/

theorem GRV_SCRUB_RATE_not_regrowReg (g : Nat) : ¬ regrowReg (Reg.GRV_SCRUB_RATE g) :=
  not_regrowReg (by simp only [Reg.GRV_SCRUB_RATE, Reg.PWR_MODE, Reg.SM_STATUS, Reg.SM_REGROW_STATUS]; omega)

theorem State.regrowRenewed_kept (s : State) (g : Nat) (ss : List MapSection) :
    RegrowKept (s.withFragment ss g) (s.regrowRenewed g ss) :=
  ((RegrowKept.refl _).liftFences.loseGlades).through fun k =>
    (k.wr (GRV_SCRUB_RATE_not_regrowReg g)).setFlag (not_regrowReg_of_block (by decide))

theorem State.regrowRenewed_leaves (s : State) (g : Nat) (ss : List MapSection) :
    (s.regrowRenewed g ss).regrow = s.regrow ∧ (s.regrowRenewed g ss).sections = (s.withFragment ss g).sections
      ∧ (s.regrowRenewed g ss).mode = s.mode := by
  have hk := s.regrowRenewed_kept g ss
  exact ⟨hk.regrow.trans (s.regrow_withFragment ss g), hk.sections, hk.mode.trans (s.mode_withFragment ss g)⟩

theorem State.grf_regrowRenewed (s : State) (g : Nat) (ss : List MapSection) {k : Nat} (hk : k < 16) :
    ((s.regrowRenewed g ss).glade (16 * g + k)).grf = Glade.reset.grf :=
  State.grf_loseGlades _ g .clearing hk

/-- Out of the mode REGROW, everything the end of a REGROW says stays. -/
theorem RegrowEnded.regrowLeft {st g : Nat} {ss : SMap (List Byte)} {s : State} (h : RegrowEnded st ss g s) :
    RegrowEnded st ss g s.regrowLeft := by
  unfold State.regrowLeft
  split
  · exact (h.setMode 3).kept (RegrowStep.refl 0 (fun _ => 0) _).domainPolicy.kept
  · exact h

theorem State.mode_regrowLeft {s : State} (h : s.mode = 12) : s.regrowLeft.mode = 3 := by
  unfold State.regrowLeft
  rw [if_pos h, (RegrowStep.refl 0 (fun _ => 0) _).domainPolicy.kept.mode]
  exact s.mode_setMode (by decide)

theorem State.grf_regrowLeft {s : State} {i : Nat} (h : (s.glade i).grf = Glade.reset.grf) :
    (s.regrowLeft.glade i).grf = Glade.reset.grf := by
  unfold State.regrowLeft
  split
  · exact (RegrowStep.refl 0 (fun _ => 0) _).domainPolicy.kept.fresh ((s.setMode_kept 3).fresh h)
  · exact h

end Sys2Proof.Machine
end

section
/-! REGROW (R72): its start, its timeout and its application. -/

namespace Sys2Proof.Machine

/-! ### The start -/

/-- The registers of a fragment that failed a check. -/
def State.regrowFault (t : State) (e : MapError) : State :=
  ((t.noteMapError e).setFld Reg.SM_REGROW_STATUS 23 16 e.code).setFld Reg.SM_REGROW_STATUS 31 24 e.check

/-- The device waiting for Grove `g` to quiesce, with the sections of its fragment. -/
def State.regrowWaiting (u : State) (g : Nat) (ss : List MapSection) : State :=
  { u.setTxu g { u.txu g with quiescing := true } with regrow := some ⟨g, ss.map (fun x => (x.ty, x.body))⟩ }

theorem State.rd_regrowWaiting (u : State) (g : Nat) (ss : List MapSection) (a : Nat) :
    (u.regrowWaiting g ss).rd a = u.rd a := rfl

theorem State.quiescing_regrowWaiting (u : State) (g : Nat) (ss : List MapSection) :
    ((u.regrowWaiting g ss).txu g).quiescing = true := by
  refine (congrArg Txu.quiescing (u.txu_setTxu ..)).trans ?_
  rw [if_pos rfl]

section

variable {s : State} {g off : Nat} {t : State}
  (hfree : s.flag Reg.SM_STATUS 4 = false) (hacc : s.accepted 10 = true) (hmode : s.mode = 3)
  (hbusy : s.flag Reg.PWR_MODE 8 = false)

include hfree hacc hmode hbusy

theorem State.regrowStart_of_error {e : MapError}
    (hf : (s.regrowTaken g (off / 8 * 8)).fragment g (off / 8 * 8) = (t, .error e)) :
    s.regrowStart g off = (t.regrowFault e).endRegrow 5 := by
  unfold State.regrowStart State.regrowFault
  simp [hfree, hacc, hmode, hbusy, hf]

theorem State.regrowStart_of_ok {ss : List MapSection}
    (hf : (s.regrowTaken g (off / 8 * 8)).fragment g (off / 8 * 8) = (t, .ok ss)) :
    s.regrowStart g off = ((t.setFld Reg.SM_REGROW_STATUS 2 0 2).setMode 12).regrowWaiting g ss := by
  unfold State.regrowStart State.regrowWaiting
  simp [hfree, hacc, hmode, hbusy, hf]

end

/-- What is read of a REGROW taken and its fragment. -/
theorem State.fragment_taken {s t : State} {g off : Nat} {x : Except MapError (List MapSection)}
    (h : (s.regrowTaken g off).fragment g off = (t, x)) : RegrowKept (s.regrowTaken g off) t :=
  (RegrowKept.refl _).fragment.of_eq h

theorem State.mode_regrowTaken (s : State) (g off : Nat) : (s.regrowTaken g off).mode = s.mode := by
  simp [State.regrowTaken, State.mode, State.fld, Reg.PWR_MODE, Reg.SM_REGROW, Reg.SM_REGROW_STATUS, Reg.SM_STATUS]

theorem State.flag_regrowTaken (s : State) (g off : Nat) : (s.regrowTaken g off).flag Reg.SM_STATUS 4 = true :=
  State.flag_setFlag _ _ _ (by decide)

theorem State.code_regrowFault (t : State) (e : MapError) :
    (t.regrowFault e).fld Reg.SM_REGROW_STATUS 23 16 = e.code % 256 :=
  (State.fld_setFld_ne _ _ _ (by decide) (by decide) (by decide)).trans (State.fld_setFld _ _ _ (by decide) (by decide))

theorem State.check_regrowFault (t : State) (e : MapError) :
    (t.regrowFault e).fld Reg.SM_REGROW_STATUS 31 24 = e.check % 256 :=
  State.fld_setFld _ _ _ (by decide) (by decide)

theorem State.mode_regrowFault (t : State) (e : MapError) : (t.regrowFault e).mode = t.mode := by
  simp [State.regrowFault, State.noteMapError, State.mode, State.fld, Reg.PWR_MODE, Reg.SM_REGROW_STATUS, Reg.SM_ERROR]

theorem State.regrow_regrowFault (t : State) (e : MapError) : (t.regrowFault e).regrow = t.regrow := by
  unfold State.regrowFault State.noteMapError
  rw [State.setFld_regrow, State.setFld_regrow, State.wr_regrow]

theorem State.sections_regrowFault (t : State) (e : MapError) : (t.regrowFault e).sections = t.sections := by
  unfold State.regrowFault State.noteMapError
  rw [State.setFld_sections, State.setFld_sections, State.wr_sections]

theorem State.regrow_regrowTaken (s : State) (g off : Nat) : (s.regrowTaken g off).regrow = s.regrow := by
  unfold State.regrowTaken
  dsimp only
  rw [State.setFlag_regrow, State.wr_regrow, State.setFlag_regrow, State.setFld_regrow, State.setFld_regrow]

theorem State.sections_regrowTaken (s : State) (g off : Nat) : (s.regrowTaken g off).sections = s.sections := by
  unfold State.regrowTaken
  dsimp only
  rw [State.setFlag_sections, State.wr_sections, State.setFlag_sections, State.setFld_sections, State.setFld_sections]

/-! ### The three commands -/

/-- A fragment that fails a check is rejected, its code and check reported (R72). -/
theorem State.regrowStart_rejects {s t : State} {g off : Nat} {e : MapError} (hfree : s.flag Reg.SM_STATUS 4 = false)
    (hacc : s.accepted 10 = true) (hmode : s.mode = 3) (hbusy : s.flag Reg.PWR_MODE 8 = false) (hnone : s.regrow = none)
    (hf : (s.regrowTaken g (off / 8 * 8)).fragment g (off / 8 * 8) = (t, .error e)) :
    let u := s.regrowStart g off
    u.fld Reg.SM_REGROW_STATUS 2 0 = 5 ∧ u.fld Reg.SM_REGROW_STATUS 23 16 = e.code % 256
      ∧ u.fld Reg.SM_REGROW_STATUS 31 24 = e.check % 256 ∧ u.regrow = none ∧ u.flag Reg.SM_STATUS 4 = false
      ∧ u.mode = 3 ∧ u.sections = s.sections := by
  have hk := State.fragment_taken hf
  have hr : (t.regrowFault e).regrow = none :=
    (t.regrow_regrowFault e).trans (hk.regrow.trans ((s.regrow_regrowTaken ..).trans hnone))
  have hs : (t.regrowFault e).sections = s.sections :=
    (t.sections_regrowFault e).trans (hk.sections.trans (s.sections_regrowTaken ..))
  have hm : t.mode = 3 := hk.mode.trans ((s.mode_regrowTaken ..).trans hmode)
  have hu : s.regrowStart g off = (t.regrowFault e).regrowRegs 5 :=
    (State.regrowStart_of_error hfree hacc hmode hbusy hf).trans (State.endRegrow_of_none hr 5)
  rw [hu]
  exact ⟨State.fld_regrowRegs _ (by decide), (State.fld_regrowRegs_ne _ _ (by decide)).trans (t.code_regrowFault e),
    (State.fld_regrowRegs_ne _ _ (by decide)).trans (t.check_regrowFault e), (State.regrow_regrowRegs _ _).trans hr, State.flag_regrowRegs _ _,
    (State.mode_regrowRegs _ _).trans ((t.mode_regrowFault e).trans hm), (State.sections_regrowRegs _ _).trans hs⟩

/-- A fragment that passes makes the device wait, in mode REGROW, for the Grove to quiesce (R72). -/
theorem State.regrowStart_waits {s t : State} {g off : Nat} {ss : List MapSection}
    (hfree : s.flag Reg.SM_STATUS 4 = false) (hacc : s.accepted 10 = true) (hmode : s.mode = 3)
    (hbusy : s.flag Reg.PWR_MODE 8 = false)
    (hf : (s.regrowTaken g (off / 8 * 8)).fragment g (off / 8 * 8) = (t, .ok ss)) :
    let u := s.regrowStart g off
    u.fld Reg.SM_REGROW_STATUS 2 0 = 2 ∧ u.mode = 12 ∧ u.flag Reg.SM_STATUS 4 = true
      ∧ (u.txu g).quiescing = true ∧ u.regrow.map (fun r => r.grove) = some g := by
  have hk := State.fragment_taken hf
  have hstate : (t.setFld Reg.SM_REGROW_STATUS 2 0 2).fld Reg.SM_REGROW_STATUS 2 0 = 2 :=
    t.fld_setFld _ _ (by decide) (by decide)
  have hactive : (t.setFld Reg.SM_REGROW_STATUS 2 0 2).flag Reg.SM_STATUS 4 = true :=
    (State.flag_of_rd ((t.rd_setFld_ne (by decide) ..).trans (hk.rd _ (.inr (.inl rfl)))) 4).trans (s.flag_regrowTaken ..)
  rw [State.regrowStart_of_ok hfree hacc hmode hbusy hf]
  exact ⟨(State.fld_of_rd ((State.rd_regrowWaiting ..).trans (State.rd_setMode _ 12 (.inr rfl))) 2 0).trans hstate,
    (State.fld_of_rd (State.rd_regrowWaiting ..) 3 0).trans (State.mode_setMode _ (by decide)),
    (State.flag_of_rd ((State.rd_regrowWaiting ..).trans (State.rd_setMode _ 12 (.inl rfl))) 4).trans hactive,
    State.quiescing_regrowWaiting .., rfl⟩

/-- A quiesce that takes too long ends the REGROW in RUN, the Grove as it was (R72). -/
theorem State.regrowTimeout_ends {s : State} {r : Regrow} (hr : s.regrow = some r) (hq : s.quiesced r.grove = false) :
    RegrowEnded 6 s.sections r.grove s.regrowTimeout ∧ s.regrowTimeout.mode = 3 := by
  have ht : s.regrowTimeout = ((s.endRegrow 6).setMode 3).domainPolicy false := by
    unfold State.regrowTimeout
    simp only [hr, hq]
    rfl
  have hp := (RegrowStep.refl 0 (fun _ => 0) ((s.endRegrow 6).setMode 3)).domainPolicy (lean := false) |>.kept
  rw [ht]
  exact ⟨((State.endRegrow_ended hr (by decide)).setMode 3).kept hp, hp.mode.trans (State.mode_setMode _ (by decide))⟩

section

variable {f : State} {r : Regrow} (hr : f.regrow = some r) (hq : f.quiesced r.grove = true)

include hr hq

/-- The Grove takes its new structure, and the REGROW ends (R72). -/
theorem State.regrowApply_ends : RegrowEnded 4 (f.withFragment r.fragment r.grove).sections r.grove f.regrowApply := by
  obtain ⟨hk, hs, -⟩ := f.regrowEmptied_leaves r.grove
  obtain ⟨hn, hns, -⟩ := (f.regrowEmptied r.grove).regrowRenewed_leaves r.grove r.fragment
  have he := State.endRegrow_ended (st := 4) (hn.trans (hk.trans hr)) (by decide)
  rw [hns, State.sections_withFragment hs] at he
  rw [State.regrowApply_eq hr hq]
  exact he.regrowLeft

theorem State.mode_regrowApply (hm : f.mode = 12) : f.regrowApply.mode = 3 := by
  obtain ⟨-, -, hk⟩ := f.regrowEmptied_leaves r.grove
  obtain ⟨-, -, hn⟩ := (f.regrowEmptied r.grove).regrowRenewed_leaves r.grove r.fragment
  rw [State.regrowApply_eq hr hq]
  exact State.mode_regrowLeft ((State.mode_endRegrow _ _).trans (hn.trans (hk.trans hm)))

theorem State.grf_regrowApply {k : Nat} (hk : k < 16) :
    (f.regrowApply.glade (16 * r.grove + k)).grf = Glade.reset.grf := by
  rw [State.regrowApply_eq hr hq]
  refine State.grf_regrowLeft ?_
  rw [State.glade_endRegrow]
  exact State.grf_regrowRenewed _ _ _ hk

theorem State.regrowApply_emptied (hg : r.grove < 16) (ht : ∀ i, i < 256 → f.txn i = none) :
    Emptied r.grove (fun q => (f.queueInfo q).pool) f.regrowApply := by
  rw [State.regrowApply_eq hr hq]
  exact (State.regrowEmptied_emptied hg ht).regrowRenewed.endRegrow.regrowLeft

end

/-- Settles O38: each command's next state is named, and what the statement says of it is carried through the stages of
the command; `Emptied` is what holds of the Grove from the emptying on. -/
theorem regrowStates : Obligations.RegrowStates := by
  refine ⟨fun s g off hfree hacc hmode hbusy hnone => ⟨fun t e hf => ?_, fun t ss hf => ?_⟩, fun s r hr => ⟨fun hq => ?_,
    fun hq => ?_⟩, fun s r hr hq => ?_⟩
  · exact ⟨_, rfl, State.regrowStart_rejects hfree hacc hmode hbusy hnone hf⟩
  · exact ⟨_, rfl, State.regrowStart_waits hfree hacc hmode hbusy hf⟩
  · exact ⟨_, rfl, by simp [State.regrowTimeout, hr, hq]⟩
  · obtain ⟨hend, hmode⟩ := State.regrowTimeout_ends hr hq
    exact ⟨_, rfl, hend.state, hmode, hend.regrow, hend.active, hend.sections, hend.resumed⟩
  · intro f hrf hqf
    have hfin : s.regrowFinish = f.regrowApply := by simp [State.regrowFinish, hr, hq, f]
    have hend := State.regrowApply_ends hrf hqf
    refine ⟨s.regrowFinish, rfl, ?_⟩
    rw [hfin]
    refine ⟨hend.state, hend.regrow, hend.active, State.mode_regrowApply hrf hqf, hend.resumed, hend.sections,
      fun hg => ⟨fun k => State.grf_regrowApply hrf hqf, fun ht => ?_⟩⟩
    have hemp := State.regrowApply_emptied hrf hqf hg ht
    have hbase : f.regrowApply.descBase = f.descBase := State.descBase_of_sec (by
      unfold State.sec
      rw [hend.sections]
      exact f.sec_withFragment _ _ (by decide))
    refine ⟨hemp.pool, fun hb => ?_, fun _ e he _ hd hgr => hemp.cache e he ?_⟩
    · have hz := hemp.zero (hb.trans_eq hbase.symm)
      exact ⟨fun a h h' => hz a (.inl ⟨h, h'⟩), fun k hk => ⟨fun a h h' => hz a (.inr ⟨k, hk, .inl ⟨h, h'⟩⟩),
        fun a h h' => hz a (.inr ⟨k, hk, .inr ⟨h, h'⟩⟩)⟩⟩
    · exact (State.pool_eq_iff _ hg _).2 (by simp [hd, hgr])

end Sys2Proof.Machine
end

section
/-! SUPPORT. Memory changes by bytes that are set and addresses that are cleared, and by nothing else (R233): the relation
`Rewrites`, how the branches, folds and answers of a definition are passed, and what no such change can bring about. The
sections after this one state it for each operation of which what follows of itself is composed, as those of `Keeps` state
the canonical form. `Keeps` says nothing of a memory that has not that form; of such a memory it is needed here that a
listed default value is never made. -/

namespace Sys2Proof.Machine

/-- The entries `n` are reached from `m` by bytes set and addresses cleared. -/
inductive Rewritten : List Host.Cell → List Host.Cell → Prop
  | refl (m : List Host.Cell) : Rewritten m m
  | set {m n : List Host.Cell} (a : Nat) (b : Byte) (h : Rewritten m n) : Rewritten m (smSet 0#8 n a b)
  | clear {m n : List Host.Cell} {keep : Host.Cell → Bool} (hk : ∀ a v w, keep (a, v) = keep (a, w))
    (h : Rewritten m n) : Rewritten m (n.filter keep)

/-- From `s` to `t` memory is rewritten byte by byte. -/
structure Rewrites (s t : State) : Prop where
  mem : Rewritten s.mem t.mem

/-! ### A listed default value -/

/-- No write lists the default value: where a write leaves it listed, the address is another. -/
theorem of_default_mem_smSet {m : List Host.Cell} {a b : Nat} {v : Byte} (h : (b, 0#8) ∈ smSet 0#8 m a v) :
    b ≠ a ∧ (b, 0#8) ∈ m := by
  have key : ∀ {p : Host.Cell}, p ∈ smErase m a → p.1 ≠ a ∧ p ∈ m := fun hp => ⟨smErase_ne hp, List.mem_of_mem_filter hp⟩
  unfold smSet at h
  split at h
  next => exact key h
  next hv =>
    rcases mem_smIns h with e | h
    · exact absurd (Prod.mk.inj e).2.symm hv
    · exact key h

/-- Where the default value is listed, it has been so all the time, and nothing has been stored there. -/
theorem Rewritten.byte {m n : List Host.Cell} (h : Rewritten m n) {b : Nat} (hb : (b, 0#8) ∈ n) :
    smGet 0#8 m b = smGet 0#8 n b := by
  induction h with
  | refl => rfl
  | set a v _ ih =>
    obtain ⟨hne, hb⟩ := of_default_mem_smSet hb
    rw [smGet_smSet, if_neg hne]
    exact ih hb
  | clear hk _ ih =>
    obtain ⟨hb, hkeep⟩ := List.mem_filter.1 hb
    rw [smGet_filter_of_forall fun v => (hk b v 0#8).trans hkeep]
    exact ih hb

theorem Rewrites.byteAt {s t : State} (h : Rewrites s t) {b : Nat} (hb : (b, 0#8) ∈ t.mem) : s.byteAt b = t.byteAt b :=
  h.mem.byte hb

/-! ### How a definition is passed -/

namespace Rewrites

variable {s t u : State}

theorem refl (s : State) : Rewrites s s := ⟨.refl s.mem⟩

/-- Whatever else changes, where memory does not. The fields stand one by one, so that the record which is updated is read
off its `mem`. -/
theorem keep {ctl : SMap W64} {ecc : SMap (BitVec 9)} {dramCheck : SMap (BitVec 128)} {stuck : List Stuck}
    {readErrs : List ReadErr} {ports : Ports} {spoiled : List (Nat × Nat)} {scrub : Scrub} {glades : SMap Glade}
    {snaps : List (Nat × Nat × Bool × Glade)} {qm : Qm} {txus : SMap Txu} {jw : Jw} {drives : SMap (Option
    Controller)} {media : Media} {unflushed : List OldBlock} {keeper : Keeper} {est : Estimator} {time : TimeBase}
    {board : Board} {sampler : Sampler} {power : Power} {monitors : Monitors} {pairs : SMap Pair} {uart : Uart}
    {jtag : Jtag} {rootlink : Rootlink} {regrow : Option Regrow} {out : List Out} {msix : Msix} {bridges : SMap
    Bridge} {sections : SMap (List Byte)} {findings : List Finding} {free : Nat} {pending : List Instr}
    (h : Rewrites s t) : Rewrites s ⟨ctl, t.mem, ecc, dramCheck, stuck, readErrs, ports, spoiled, scrub, glades, snaps,
    qm, txus, jw, drives, media, unflushed, keeper, est, time, board, sampler, power, monitors, pairs, uart, jtag,
    rootlink, regrow, out, msix, bridges, sections, findings, free, pending⟩ := ⟨h.mem⟩

theorem ite {p : Prop} {_ : Decidable p} (ht : Rewrites s t) (hu : Rewrites s u) : Rewrites s (if p then t else u) := by
  split
  · exact ht
  · exact hu

theorem iteFst {α : Type} {p : Prop} {_ : Decidable p} {x y : State × α} (hx : Rewrites s x.1) (hy : Rewrites s y.1) :
    Rewrites s (if p then x else y).1 := by
  split
  · exact hx
  · exact hy

theorem iteSnd {α : Type} {p : Prop} {_ : Decidable p} {x y : α × State} (hx : Rewrites s x.2) (hy : Rewrites s y.2) :
    Rewrites s (if p then x else y).2 := by
  split
  · exact hx
  · exact hy

theorem pair {α : Type} {x : α} (h : Rewrites s t) : Rewrites s (t, x).1 := h

/-- The state of a pair that is named by its parts. -/
theorem of_eq {α : Type} {p : State × α} {x : α} (h : Rewrites s p.1) (e : p = (t, x)) : Rewrites s t := by
  subst e; exact h

theorem foldl {α : Type} {f : State → α → State} {l : List α} (h : Rewrites s t)
    (hf : ∀ u x, Rewrites s u → Rewrites s (f u x)) : Rewrites s (l.foldl f t) := by
  induction l generalizing t with
  | nil => exact h
  | cons x l ih => exact ih (hf t x h)

theorem foldlFst {α β : Type} {f : State × β → α → State × β} {l : List α} {p : State × β} (h : Rewrites s p.1)
    (hf : ∀ q x, Rewrites s q.1 → Rewrites s (f q x).1) : Rewrites s (l.foldl f p).1 := by
  induction l generalizing p with
  | nil => exact h
  | cons x l ih => exact ih (hf p x h)

theorem iter {f : State → State} {n : Nat} (h : Rewrites s t) (hf : ∀ u, Rewrites s u → Rewrites s (f u)) :
    Rewrites s (Machine.iter n f t) := by
  induction n generalizing t with
  | zero => exact h
  | succ n ih => exact ih (hf t h)

end Rewrites

/-- `P` holds of an answer, or of what stands in for it. -/
theorem EverySome.getD_of {α : Type} {P : α → Prop} {o : Option α} {x : α} (h : EverySome P o) (k : P x) :
    P (o.getD x) := by
  cases o with
  | none => exact k
  | some u => exact h

/-! ### The answers that have a type of their own. -/

def Appended.Reached (s : State) : Appended → Prop
  | .ok t _ => Rewrites s t
  | .noCell _ => True
  | .broken t => Rewrites s t

theorem Appended.Reached.of_eq {s : State} {x y : Appended} (h : x.Reached s) (e : x = y) : y.Reached s := e ▸ h

def Written.Reached (s : State) : Written → Prop
  | .ok t _ => Rewrites s t
  | .noCell t => Rewrites s t
  | .broken t => Rewrites s t

theorem Written.Reached.of_eq {s : State} {x y : Written} (h : x.Reached s) (e : x = y) : y.Reached s := e ▸ h

end Sys2Proof.Machine
end

section
/-! SUPPORT. Memory is rewritten byte by byte: memory, queues and control. -/

namespace Sys2Proof.Machine

variable {s t : State}

/-! ### Registers, Glades, error records and Tally counters -/

theorem Rewrites.wr {a : Nat} {v : W64} (h : Rewrites s t) : Rewrites s (t.wr a v) := h.keep
theorem Rewrites.setFld {a hi lo v : Nat} (h : Rewrites s t) : Rewrites s (t.setFld a hi lo v) := h.wr
theorem Rewrites.setFlag {a i : Nat} {b : Bool} (h : Rewrites s t) : Rewrites s (t.setFlag a i b) := h.setFld
theorem Rewrites.satAdd {a hi lo n : Nat} (h : Rewrites s t) : Rewrites s (t.satAdd a hi lo n) := h.setFld
theorem Rewrites.wrapAdd {a hi lo n : Nat} (h : Rewrites s t) : Rewrites s (t.wrapAdd a hi lo n) := h.setFld

theorem Rewrites.codesWrite {a : Nat} {v : W64} (h : Rewrites s t) : Rewrites s (t.codesWrite a v) := by
  unfold State.codesWrite
  split
  · exact h
  · exact h.wr

theorem Rewrites.fieldsWrite {a : Nat} {v : W64} (h : Rewrites s t) : Rewrites s (t.fieldsWrite a v) := by
  unfold State.fieldsWrite
  split
  · exact h
  · exact h.wr

theorem Rewrites.freeWord (h : Rewrites s t) : Rewrites s t.freeWord.2 := h.keep
theorem Rewrites.freeBool (h : Rewrites s t) : Rewrites s t.freeBool.2 := h.keep
theorem Rewrites.setGlade {c : Nat} {x : Glade} (h : Rewrites s t) : Rewrites s (t.setGlade c x) := h.keep
theorem Rewrites.updGlade {c : Nat} {f : Glade → Glade} (h : Rewrites s t) : Rewrites s (t.updGlade c f) := h.setGlade
theorem Rewrites.updAsync {c : Nat} {f : Glade → Glade} (h : Rewrites s t) : Rewrites s (t.updAsync c f) := h.keep
theorem Rewrites.noteMsix {k : Nat} (h : Rewrites s t) : Rewrites s (t.noteMsix k) := h.keep
theorem Rewrites.noteTriggers {k : Nat} (h : Rewrites s t) : Rewrites s (t.noteTriggers k) := .ite h h.keep

theorem Rewrites.tallyInc {k n : Nat} (h : Rewrites s t) : Rewrites s (t.tallyInc k n) :=
  .ite h ((Rewrites.ite h.setFlag h).setFld.noteMsix.noteTriggers)

theorem Rewrites.loseEvents {i n : Nat} (h : Rewrites s t) : Rewrites s (t.loseEvents i n) := .ite h h.satAdd.tallyInc

theorem Rewrites.crossInc {i k n : Nat} (h : Rewrites s t) : Rewrites s (t.crossInc i k n) :=
  .ite h.tallyInc (.ite h.loseEvents h.keep.loseEvents)

theorem Rewrites.recordError {r : RecSet} {e : ErrInfo} (h : Rewrites s t) : Rewrites s (t.recordError r e) := by
  unfold State.recordError
  dsimp only
  split
  · exact .ite h.satAdd.setFlag h.satAdd
  · split
    · exact h.wr.wr.setFlag.wrapAdd
    · exact h.satAdd

theorem Rewrites.find {f : Finding} (h : Rewrites s t) : Rewrites s (t.find f) := h.keep

/-! ### The memories -/

theorem Rewrites.setDomState {d st : Nat} (h : Rewrites s t) : Rewrites s (t.setDomState d st) := h.setFld
theorem Rewrites.groveWakes {g : Nat} (h : Rewrites s t) : Rewrites s (t.groveWakes g) := .ite h.setFlag.setDomState h

theorem Rewrites.touch {a : Nat} (h : Rewrites s t) : Rewrites s (t.touch a) := by
  unfold State.touch
  split
  · exact h.groveWakes
  · exact h.groveWakes
  · exact h.groveWakes
  · exact .ite h.groveWakes h
  · exact h

theorem Rewrites.recordRefusal {r : Requester} {addr detail : Nat} (h : Rewrites s t) :
    Rewrites s (t.recordRefusal r addr detail) :=
  .ite h.recordError.tallyInc.find h.recordError.tallyInc

theorem Rewrites.setByte {a : Nat} {b : Byte} (h : Rewrites s t) : Rewrites s (t.setByte a b) :=
  ⟨.set a b h.mem⟩

theorem Rewrites.setBytes {a : Nat} {bs : List Byte} (h : Rewrites s t) : Rewrites s (t.setBytes a bs) := by
  induction bs generalizing t a with
  | nil => exact h
  | cons b bs ih => exact ih h.setByte

theorem Rewrites.readOnce {a : Nat} (h : Rewrites s t) : Rewrites s (t.readOnce a) := h.keep
theorem Rewrites.setCode {w : Nat} {c : CodeWord} (h : Rewrites s t) : Rewrites s (t.setCode w c) := h.setBytes.keep

theorem Rewrites.memFinding {m kind w : Nat} {src : Option Nat} (h : Rewrites s t) : Rewrites s (t.memFinding m kind w src) :=
  h.find

theorem Rewrites.heartwoodMemFault {r : Requester} {w : Nat} (h : Rewrites s t) : Rewrites s (t.heartwoodMemFault r w) :=
  .ite h.find h

theorem Rewrites.noteCode {a n : Nat} {how : CodeWriter} (h : Rewrites s t) : Rewrites s (t.noteCode a n how) := by
  unfold State.noteCode
  split
  · exact h
  · exact .ite h h.updAsync

theorem Rewrites.setTxu {g : Nat} {x : Txu} (h : Rewrites s t) : Rewrites s (t.setTxu g x) := h.keep
theorem Rewrites.setTxn {i : Nat} {t' : Option Txn} (h : Rewrites s t) : Rewrites s (t.setTxn i t') := h.setTxu

theorem Rewrites.doomGranule {w code : Nat} {except : Option Nat} (h : Rewrites s t) :
    Rewrites s (t.doomGranule w code except) := by
  unfold State.doomGranule
  split
  · refine (Rewrites.ite h h.setTxu).foldl fun _ _ k => .ite k ?_
    split
    · exact .ite k.setTxn k
    · exact k
  · exact h

theorem Rewrites.storeCode {w : Nat} {c : CodeWord} (h : Rewrites s t) : Rewrites s (t.storeCode w c) :=
  .ite h.setCode.setFlag h.setCode

theorem Rewrites.noteCorrected {r : Requester} {w pos : Nat} (h : Rewrites s t) : Rewrites s (t.noteCorrected r w pos) :=
  .ite h.recordError.keep h.recordError.readOnce

theorem Rewrites.sramFind {r : Requester} {w : Nat} (h : Rewrites s t) : Rewrites s (t.sramFind r w).1 := by
  unfold State.sramFind
  dsimp only
  split
  · exact h.readOnce
  · exact h.noteCorrected
  · exact h.readOnce
  · split
    · exact h.readOnce.recordError.readOnce
    · exact h.readOnce.recordError.readOnce.setCode
    · exact h.readOnce.readOnce
    · exact h.readOnce.readOnce

theorem Rewrites.sramWrite {r : Requester} {how : CodeWriter} {a : Nat} {data : List Byte} (h : Rewrites s t) :
    Rewrites s (t.sramWrite r how a data) := by
  unfold State.sramWrite
  refine .ite h.noteCode.storeCode ?_
  dsimp only
  split
  next e => exact (h.noteCode.sramFind.of_eq e).storeCode
  next e => exact (h.noteCode.sramFind.of_eq e).storeCode.recordError.tallyInc.memFinding
  next e => exact (h.noteCode.sramFind.of_eq e).storeCode.recordError.tallyInc.memFinding

theorem Rewrites.fillChannel {n upto : Nat} (h : Rewrites s t) : Rewrites s (t.fillChannel n upto) := by
  unfold State.fillChannel
  exact .ite h (setFlag (setFld ⟨.clear (fun _ _ _ => rfl) h.mem⟩))

theorem Rewrites.fillPast {b : Nat} (h : Rewrites s t) : Rewrites s (t.fillPast b) := .ite h h.fillChannel

theorem Rewrites.setBurst {b : Nat} {bs : List Byte} {chk : BitVec 128} (h : Rewrites s t) :
    Rewrites s (t.setBurst b bs chk) :=
  h.setBytes.keep

theorem Rewrites.classifyBurst {ch b : Nat} {e : ErrInfo} {bs : List Byte} {chk : BitVec 128} {d : Nat} (h : Rewrites s t) :
    Rewrites s (t.classifyBurst ch b e bs chk d) :=
  .ite h.setBurst.readOnce.recordError.crossInc h.setBurst.readOnce.recordError

theorem Rewrites.dramFind {r : Requester} {b : Nat} (h : Rewrites s t) : Rewrites s (t.dramFind r b).1 := by
  unfold State.dramFind
  dsimp only
  split
  · exact h.readOnce
  · exact h.readOnce.classifyBurst
  · exact h.readOnce
  · split
    · exact h.readOnce.recordError.readOnce
    · exact h.readOnce.recordError.readOnce.setBurst
    · exact h.readOnce.readOnce
    · exact h.readOnce.readOnce

theorem Rewrites.dramWrite {r : Requester} {a : Nat} {data : List Byte} (h : Rewrites s t) :
    Rewrites s (t.dramWrite r a data) := by
  unfold State.dramWrite
  dsimp only
  split
  next e => exact (h.fillPast.dramFind.of_eq e).setBurst
  next e => exact (h.fillPast.dramFind.of_eq e).setBurst
  next e => exact (h.fillPast.dramFind.of_eq e).setBurst.recordError.crossInc.find

theorem Rewrites.noteBusy {r : Requester} {g n : Nat} (h : Rewrites s t) : Rewrites s (t.noteBusy r g n) := by
  unfold State.noteBusy
  refine .ite h ?_
  dsimp only
  split
  · exact (Rewrites.ite h.wrapAdd h.wrapAdd).updAsync
  · exact (Rewrites.ite h.wrapAdd h.wrapAdd).updAsync
  · exact .ite h.wrapAdd h.wrapAdd

theorem Rewrites.portAnswer {r : Requester} {write : Bool} {w : Nat} (h : Rewrites s t) :
    Rewrites s (t.portAnswer r write w).1 := by
  unfold State.portAnswer
  split
  · refine .iteFst ?_ h.keep.noteBusy
    split
    · exact h.keep.noteBusy
    · exact h
  · exact h

theorem Rewrites.withPorts {ps : List PortAnswer} (h : Rewrites s t) : Rewrites s (t.withPorts ps) := h.keep

theorem Rewrites.onPorts {ps : List PortAnswer} {α : Type} {f : State → State × α} (h : Rewrites s t)
    (hf : ∀ u, Rewrites s u → Rewrites s (f u).1) :
    Rewrites s (t.onPorts ps f).1 :=
  (hf _ h.withPorts).withPorts

theorem Rewrites.writeWord {r : Requester} {how : CodeWriter} {except : Option Nat} {a : Nat} {data : List Byte}
    (h : Rewrites s t) :
    Rewrites s (t.writeWord r how except a data) := by
  unfold State.writeWord
  dsimp only
  split
  · exact h.touch.dramWrite
  · exact .ite h.touch.portAnswer h.touch.portAnswer.sramWrite.doomGranule
  · exact h.touch
  · exact h.touch
  · exact h.touch
  · exact h.touch
  · exact h.touch
  · exact h.touch.sramWrite

theorem Rewrites.unspoil {a n : Nat} (h : Rewrites s t) : Rewrites s (t.unspoil a n) := h.keep

theorem Rewrites.undefine {rs : List (Nat × Nat)} (h : Rewrites s t) : Rewrites s (t.undefine rs) :=
  (h.foldl fun _ _ k => k.unspoil).keep

theorem Rewrites.spoil {r : Requester} {a n : Nat} (h : Rewrites s t) : Rewrites s (t.spoil r a n) := by
  unfold State.spoil
  split
  · exact h.unspoil
  · exact h.unspoil
  · exact h.unspoil.undefine

theorem Rewrites.writeMem {r : Requester} {how : CodeWriter} {except : Option Nat} {a : Nat} {data : List Byte}
    (h : Rewrites s t) :
    Rewrites s (t.writeMem r how except a data) :=
  (h.foldl fun _ _ k => k.writeWord).spoil

theorem Rewrites.writeW64 {r : Requester} {a : Nat} {v : W64} (h : Rewrites s t) : Rewrites s (t.writeW64 r a v) := h.writeMem

theorem Rewrites.sramRead {r : Requester} {w : Nat} (h : Rewrites s t) : Rewrites s (t.sramRead r w).1 := by
  unfold State.sramRead
  dsimp only
  split
  next e => exact h.sramFind.of_eq e
  next e => exact (h.sramFind.of_eq e).recordError.heartwoodMemFault.memFinding
  next e => exact (h.sramFind.of_eq e).recordError.tallyInc.setCode.heartwoodMemFault.memFinding

theorem Rewrites.dramRead {r : Requester} {a n w : Nat} (h : Rewrites s t) : Rewrites s (t.dramRead r a n w).1 := by
  unfold State.dramRead
  refine .iteFst h ?_
  dsimp only
  split
  next e => exact h.dramFind.of_eq e
  next e => exact .iteFst ((h.dramFind.of_eq e).recordError.find) (h.dramFind.of_eq e)
  next e => exact (h.dramFind.of_eq e).recordError.crossInc.setBurst.find

theorem Rewrites.readSeedbank {w : Nat} (h : Rewrites s t) : Rewrites s (t.readSeedbank w).1 := by
  unfold State.readSeedbank
  split
  · exact .iteFst h.freeBool h
  · exact h

theorem Rewrites.readStored {r : Requester} {a n w : Nat} (h : Rewrites s t) : Rewrites s (t.readStored r a n w).1 := by
  unfold State.readStored
  split
  · exact h.dramRead
  · exact h.readSeedbank
  · exact h
  · exact h
  · exact h
  · exact h
  · exact h.sramRead

theorem Rewrites.readWordOf {r : Requester} {a n w : Nat} (h : Rewrites s t) : Rewrites s (t.readWordOf r a n w).1 := by
  unfold State.readWordOf
  refine .iteFst h.touch.portAnswer.freeWord ?_
  dsimp only
  split
  · exact .iteFst h.touch.portAnswer.readStored.freeWord h.touch.portAnswer.readStored
  · exact h.touch.portAnswer.readStored

theorem Rewrites.readWord {r : Requester} {w : Nat} (h : Rewrites s t) : Rewrites s (t.readWord r w).1 := h.readWordOf

theorem Rewrites.gather {a n : Nat} {read : State → Nat → State × ReadAns} (h : Rewrites s t)
    (hf : ∀ u w, Rewrites s u → Rewrites s (read u w).1) :
    Rewrites s (t.gather a n read).1 := by
  have walk := fun w0 : Nat => h.foldlFst (p := (t, Except.ok [])) (l := List.range ((a + n - 1) / 8 - a / 8 + 1))
    (f := fun (acc : State × Except Nat (List Byte)) k =>
      match acc.2 with
      | .error e => (acc.1, .error e)
      | .ok bs =>
        match read acc.1 (w0 + 8 * k) with
        | (s, .ok v) => (s, .ok (bs ++ bytesLE 8 v.toNat))
        | (s, .err d) => (s, .error d)) fun q w k => by
    split
    · exact k
    · split
      next e => exact (hf _ _ k).of_eq e
      next e => exact (hf _ _ k).of_eq e
  unfold State.gather
  dsimp only
  split
  · exact walk _
  · exact walk _

theorem Rewrites.readMem {r : Requester} {a n : Nat} (h : Rewrites s t) : Rewrites s (t.readMem r a n).1 := by
  unfold State.readMem
  with_reducible exact h.gather (fun _ _ k => k.readWordOf)

theorem Rewrites.engineRead {r : Requester} {a n : Nat} (h : Rewrites s t) : Rewrites s (t.engineRead r a n).1 := by
  unfold State.engineRead
  split
  · exact h.recordRefusal
  · exact h.readMem

theorem Rewrites.bulkClear {base n : Nat} (h : Rewrites s t) : Rewrites s (t.bulkClear base n) := by
  unfold State.bulkClear
  exact .foldl ⟨.clear (fun _ _ _ => rfl) h.mem⟩ fun _ _ k => .ite k.setFlag k

theorem Rewrites.clearGrove {g : Nat} (h : Rewrites s t) : Rewrites s (t.clearGrove g) :=
  h.keep.bulkClear.foldl fun _ _ k => k.bulkClear.bulkClear

/-! ### The queue manager's engines -/

theorem Rewrites.qmError (h : Rewrites s t) : Rewrites s t.qmError := h.tallyInc

theorem Rewrites.qmRead {a : Nat} (h : Rewrites s t) : Rewrites s (t.qmRead a).1 := by
  unfold State.qmRead
  split
  · exact h.recordRefusal.qmError
  · split
    next e1 => exact (h.readWord.of_eq e1)
    next e1 => exact (h.readWord.of_eq e1).qmError

theorem Rewrites.qmWrite {a : Nat} {v : W64} (h : Rewrites s t) : Rewrites s (t.qmWrite a v).1 := by
  unfold State.qmWrite
  split
  · exact h.recordRefusal.qmError
  · dsimp only
    exact h.writeW64

theorem Rewrites.qmBadWord {a : Nat} (h : Rewrites s t) : Rewrites s (t.qmBadWord a) := h.recordError.qmError

theorem Rewrites.evict {q : Nat} (h : Rewrites s t) : Rewrites s (t.evict q) := by
  unfold State.evict
  refine .ite h ?_
  split
  · dsimp only
    split
    · exact h.recordRefusal.qmError.keep.keep
    · exact (h.foldl fun _ _ k => k.qmWrite).keep
  · exact h

theorem Rewrites.setDesc {q : Nat} {d : Desc} (h : Rewrites s t) : Rewrites s (t.setDesc q d) := h.keep.evict

theorem Rewrites.qmWords {n a : Nat} (h : Rewrites s t) : Rewrites s (t.qmWords n a).1 := by
  induction n generalizing t a with
  | zero => exact h.pair
  | succ n ih =>
    unfold State.qmWords
    split
    next e => exact (ih (h.qmRead.of_eq e)).pair
    next e => exact (h.qmRead.of_eq e).pair

theorem Rewrites.getDesc {q : Nat} (h : Rewrites s t) : Rewrites s (t.getDesc q).1 := by
  unfold State.getDesc
  split
  · exact h.setDesc
  · refine .iteFst h.keep.setDesc ?_
    dsimp only
    split
    · exact h.qmWords.setDesc
    · exact h.qmWords.setFlag.setDesc

theorem Rewrites.touchDesc {q : Nat} (h : Rewrites s t) : Rewrites s (t.touchDesc q) := h.getDesc
theorem Rewrites.updDesc {q : Nat} {f : Desc → Desc} (h : Rewrites s t) : Rewrites s (t.updDesc q f) := h.getDesc.setDesc
theorem Rewrites.breakQueue {q : Nat} (h : Rewrites s t) : Rewrites s (t.breakQueue q) := h.updDesc
theorem Rewrites.setPool {p : Nat} {x : Pool} (h : Rewrites s t) : Rewrites s (t.setPool p x) := h.keep

theorem Rewrites.poolTake {p : Nat} (h : Rewrites s t) : EverySome (fun x => Rewrites s x.1) (t.poolTake p) := by
  unfold State.poolTake
  dsimp only
  split
  · exact trivial
  · split
    · exact h.setPool
    · split
      · exact h.setPool
      · split
        · exact h.setPool
        · exact trivial

theorem Rewrites.poolFree {p a : Nat} (h : Rewrites s t) : Rewrites s (t.poolFree p a) := h.setPool.unspoil

theorem Rewrites.takeCell {q : Nat} (h : Rewrites s t) : EveryOk (fun x => Rewrites s x.1) (t.takeCell q) := by
  unfold State.takeCell
  dsimp only
  split
  · exact trivial
  · split
    next e => exact (h.getDesc.poolTake.of_eq e).updDesc.pair
    · exact trivial

theorem Rewrites.freeCells {q : Nat} {cells : List Nat} (h : Rewrites s t) : Rewrites s (t.freeCells q cells) :=
  .ite (h.foldl fun _ _ k => k.poolFree) ((h.foldl fun _ _ k => k.poolFree).updDesc)

theorem Rewrites.writePktWord {cells : List Nat} {n : Nat} {v : W64} (h : Rewrites s t) :
    Rewrites s (t.writePktWord cells n v) :=
  h.qmWrite

theorem Rewrites.writeLink {cell next : Nat} (h : Rewrites s t) : Rewrites s (t.writeLink cell next).1 := h.qmWrite

theorem Rewrites.cellFor {q : Nat} (h : Rewrites s t) : EveryOk (fun x => Rewrites s x.1) (t.cellFor q) := by
  unfold State.cellFor
  split
  · exact trivial
  · exact h.takeCell

theorem Rewrites.appendWord {q : Nat} {cells : List Nat} {n : Nat} {v : W64} (h : Rewrites s t) :
    Appended.Reached s (t.appendWord q cells n v) := by
  unfold State.appendWord
  split
  · exact h.writePktWord
  · split
    · exact trivial
    next e =>
      dsimp only
      split
      · split
        · exact (h.cellFor.of_eq e).writeLink.writeLink.writePktWord
        · exact (h.cellFor.of_eq e).writeLink.writeLink.breakQueue.freeCells
      · split
        · exact (h.cellFor.of_eq e).writeLink.pair.writePktWord
        · exact (h.cellFor.of_eq e).writeLink.pair.breakQueue.freeCells

theorem Rewrites.linkPacket {q : Nat} {cells : List Nat} {len : Nat} {aborted ingress : Bool} {src code : Nat}
    (h : Rewrites s t) :
    Rewrites s (t.linkPacket q cells len aborted ingress src code).1 :=
  .iteFst ((Rewrites.iteFst h.getDesc.qmWrite h.getDesc.qmWrite.writeLink).breakQueue.freeCells) ((Rewrites.iteFst
    h.getDesc.qmWrite h.getDesc.qmWrite.writeLink).setDesc.tallyInc)

theorem Rewrites.readLinkWord {q cell : Nat} {more : Bool} (h : Rewrites s t) : Rewrites s (t.readLinkWord q cell more).1 := by
  unfold State.readLinkWord
  split
  next e => exact .iteFst (h.qmRead.of_eq e) ((h.qmRead.of_eq e).qmBadWord)
  next e => exact h.qmRead.of_eq e

theorem Rewrites.walkChain {q n cell : Nat} (h : Rewrites s t) : Rewrites s (t.walkChain q n cell).1 := by
  induction n generalizing t cell with
  | zero => exact h.readLinkWord.pair
  | succ n ih =>
    unfold State.walkChain
    split
    next e => exact (ih (h.readLinkWord.of_eq e)).pair
    next e => exact (h.readLinkWord.of_eq e).pair

theorem Rewrites.readHead {q : Nat} (h : Rewrites s t) : Rewrites s (t.readHead q).1 := by
  unfold State.readHead
  dsimp only
  split
  next e =>
    refine .iteFst ?_ ((h.getDesc.qmRead.of_eq e).qmBadWord.breakQueue)
    split
    next e1 => exact ((h.getDesc.qmRead.of_eq e).walkChain.of_eq e1)
    next e1 => exact ((h.getDesc.qmRead.of_eq e).walkChain.of_eq e1).breakQueue
  next e => exact (h.getDesc.qmRead.of_eq e).breakQueue

theorem Rewrites.unlinkHead {q next : Nat} (h : Rewrites s t) : Rewrites s (t.unlinkHead q next) := h.updDesc

theorem Rewrites.openHead {q : Nat} (h : Rewrites s t) : Rewrites s (t.openHead q).1 := by
  unfold State.openHead
  split
  next e => exact (h.readHead.of_eq e).unlinkHead
  next e => exact h.readHead.of_eq e

theorem Rewrites.openReach {q : Nat} (h : Rewrites s t) : Rewrites s (t.openReach q).1 := by
  unfold State.openReach
  split
  next e => exact (h.readHead.of_eq e).unlinkHead
  next e => exact h.readHead.of_eq e

theorem Rewrites.pktWord {cells : List Nat} {n : Nat} (h : Rewrites s t) : Rewrites s (t.pktWord cells n).1 := by
  unfold State.pktWord
  dsimp only
  split
  next e => exact h.qmRead.of_eq e
  next e => exact h.qmRead.of_eq e

theorem Rewrites.flushQueue {q n : Nat} (h : Rewrites s t) : Rewrites s (t.flushQueue q n).1 := by
  induction n generalizing t with
  | zero => exact h.pair
  | succ n ih =>
    unfold State.flushQueue
    refine .iteFst h.pair ?_
    split
    next e => exact (ih (h.openHead.of_eq e).freeCells).pair
    next e => exact (h.openHead.of_eq e).pair

theorem Rewrites.flush {q : Nat} (h : Rewrites s t) : Rewrites s (t.flush q).1 := .iteFst h.getDesc h.getDesc.flushQueue

/-! ### What ends a Glade's run or turns it -/

theorem Rewrites.noteUndo {c : Nat} {e : StoreEntry} (h : Rewrites s t) : Rewrites s (t.noteUndo c e) := .ite h.updAsync h

theorem Rewrites.storeToMemory {c : Nat} {e : StoreEntry} (h : Rewrites s t) : Rewrites s (t.storeToMemory c e) :=
  h.noteUndo.writeMem

theorem Rewrites.syncCode {c : Nat} (h : Rewrites s t) : Rewrites s (t.syncCode c) := by
  unfold State.syncCode
  exact (h.updAsync.foldl fun _ _ k => k.storeToMemory).updGlade

theorem Rewrites.closeRead {i k : Nat} (h : Rewrites s t) : Rewrites s (t.closeRead i k) := by
  unfold State.closeRead
  split
  · exact h.freeCells.updGlade
  · exact h

theorem Rewrites.closeWrite {i k : Nat} (h : Rewrites s t) : Rewrites s (t.closeWrite i k) := by
  unfold State.closeWrite
  split
  · exact h.freeCells.updGlade
  · exact h

theorem Rewrites.discardBut {i : Nat} {keep : Nat → Bool} (h : Rewrites s t) : Rewrites s (t.discardBut i keep) := by
  unfold State.discardBut
  exact (h.foldl fun _ _ k => (Rewrites.ite k k.closeRead).closeWrite).updGlade

theorem Rewrites.discardOpen {i : Nat} (h : Rewrites s t) : Rewrites s (t.discardOpen i) := h.discardBut

theorem Rewrites.linkStub {i code : Nat} {w : WritePkt} (h : Rewrites s t) : Rewrites s (t.linkStub i code w) := by
  unfold State.linkStub
  refine .ite h.touchDesc ?_
  split
  · exact h.touchDesc.satAdd
  next e => exact (h.touchDesc.poolTake.of_eq e).updDesc.writeLink.writePktWord.linkPacket

theorem Rewrites.countAbort {g code : Nat} (h : Rewrites s t) : Rewrites s (t.countAbort g code) := h.satAdd

theorem Rewrites.freePackets {ws : List WritePkt} (h : Rewrites s t) : Rewrites s (t.freePackets ws) :=
  h.foldl fun _ _ k => k.freeCells

theorem Rewrites.closeTxn {i : Nat} (h : Rewrites s t) : Rewrites s (t.closeTxn i) := h.updGlade.setTxu.setTxn

theorem Rewrites.abortBare {i code : Nat} (h : Rewrites s t) : Rewrites s (t.abortBare i code) :=
  .ite h h.freePackets.closeTxn.countAbort

theorem Rewrites.abortTxn {i code : Nat} (h : Rewrites s t) : Rewrites s (t.abortTxn i code) :=
  h.abortBare.foldl fun _ _ k => k.linkStub

theorem Rewrites.updLate {c : Nat} {f : Glade → Glade} (h : Rewrites s t) : Rewrites s (t.updLate c f) := by
  unfold State.updLate
  dsimp only
  split
  · exact h.updAsync
  · exact h.keep

theorem Rewrites.retireTxu {i : Nat} {w : W64} (h : Rewrites s t) : Rewrites s (t.retireTxu i w) :=
  h.foldl fun _ _ k => k.updLate

theorem Rewrites.retireAbort {i code ticket : Nat} (h : Rewrites s t) : Rewrites s (t.retireAbort i code ticket) :=
  h.abortTxn.retireTxu

theorem Rewrites.interruptTxn {i : Nat} (h : Rewrites s t) : Rewrites s (t.interruptTxn i) := by
  unfold State.interruptTxn
  extract_lets u x v y
  have hu : Rewrites s u := by
    simp only [u]
    split
    · split
      · exact h
      · exact h.setTxn
      · exact h.abortTxn
    · exact h
  clear_value u
  exact .ite hu.setTxu.setTxu hu.setTxu

theorem Rewrites.haltOne {c : Nat} {dest : RunState} (h : Rewrites s t) : Rewrites s (t.haltOne c dest) :=
  (Rewrites.ite h.discardBut.interruptTxn h).keep

theorem Rewrites.halt {c : Nat} {dest : RunState} (h : Rewrites s t) : Rewrites s (t.halt c dest) := by
  unfold State.halt
  split
  · exact h.haltOne.haltOne
  · exact h.haltOne

theorem Rewrites.enter {c : Nat} {ecause eaddr : W64} {at_ : Nat} (h : Rewrites s t) :
    Rewrites s (t.enter c ecause eaddr at_) := by
  unfold State.enter
  exact h.syncCode.updGlade

theorem Rewrites.foldFor {c : Nat} {a b : W64} (h : Rewrites s t) : Rewrites s (t.foldFor c a b) := .ite h.updGlade h

theorem Rewrites.stopFor {c : Nat} {e : Cause} {pc : W64} (h : Rewrites s t) : Rewrites s (t.stopFor c e pc) :=
  .ite h.updGlade.halt.recordError.tallyInc.find h.updGlade.halt.recordError.find

theorem Rewrites.raise {c : Nat} {e : Cause} (h : Rewrites s t) : Rewrites s (t.raise c e) := .ite h.enter.foldFor h.stopFor
/-! ### Configuration space -/

theorem Rewrites.heldOrFree {w : Option (BitVec 32)} (h : Rewrites s t) : Rewrites s (t.heldOrFree w).1 := by
  unfold State.heldOrFree
  split
  · exact h
  · exact h.freeWord

theorem Rewrites.configRead {word : Nat → Option (BitVec 32)} {r n : Nat} (h : Rewrites s t) :
    Rewrites s (t.configRead word r n).1 := by
  unfold State.configRead
  exact .iteFst h.heldOrFree h.heldOrFree.heldOrFree

theorem Rewrites.bridgeRead {c o n : Nat} (h : Rewrites s t) : Rewrites s (t.bridgeRead c o n).1 := by
  have e : State.bridgeRead = State.bridgeRead := rfl
  conv at e => rhs; delta State.bridgeRead
  suffices ∀ x, t.bridgeRead c o n = x → Rewrites s x.1 from this _ rfl
  rw [e]
  beta_reduce
  generalize t.ownBridge c o = q
  rintro _ rfl
  cases q with
  | none => exact h.pair
  | some p => exact h.configRead.pair

theorem Rewrites.bridgeWrite {c o : Nat} {data : List Byte} (h : Rewrites s t) : Rewrites s (t.bridgeWrite c o data) := by
  have e : State.bridgeWrite = State.bridgeWrite := rfl
  conv at e => rhs; delta State.bridgeWrite
  rw [e]
  beta_reduce
  generalize t.ownBridge c o = q
  cases q with
  | none => exact h
  | some p => exact h.keep

theorem Rewrites.errorPort {c o : Nat} (h : Rewrites s t) : Rewrites s (t.errorPort c o).2 := by
  unfold State.errorPort
  split
  · exact h
  · exact .iteSnd h h.freeWord

theorem Rewrites.portError {c p : Nat} {aer : BitVec 32} (h : Rewrites s t) : Rewrites s (t.portError c p aer) := h.keep

theorem Rewrites.pcieError {c o : Nat} {aer : BitVec 32} (h : Rewrites s t) : Rewrites s (t.pcieError c o aer) :=
  h.errorPort.portError

theorem Rewrites.windowRead {c o n : Nat} {reply : PcieReply} (h : Rewrites s t) : Rewrites s (t.windowRead c o n reply).1 :=
  .iteFst h.bridgeRead (.iteFst h.keep (.iteFst h.keep h.keep.pcieError))

theorem Rewrites.postPcie {c o : Nat} {data : List Byte} (h : Rewrites s t) : Rewrites s (t.postPcie c o data) := by
  unfold State.postPcie
  extract_lets up ports r
  have hr : Rewrites s r.2 := by
    simp only [r]
    split
    · exact h
    · exact .iteSnd h (.iteSnd h h.freeBool)
  clear_value r
  exact .ite h.bridgeWrite (.ite hr.pcieError hr.keep)

/-! ### The LSU -/

theorem Rewrites.updTxn {c : Nat} {f : Txn → Txn} (h : Rewrites s t) : Rewrites s (t.updTxn c f) := by
  unfold State.updTxn
  dsimp only
  split
  · exact h.setTxn
  · exact h

theorem Rewrites.txnMemory {c w : Nat} (h : Rewrites s t) : Rewrites s (t.txnMemory c w).1 := by
  unfold State.txnMemory
  dsimp only
  split
  · split
    · exact h
    · exact h
    · exact h
    · exact h
  · exact h.readWord

theorem Rewrites.askLoad {c k : Nat} {l : LoadFlight} (h : Rewrites s t) : Rewrites s (t.askLoad c k l) :=
  .ite h h.keep.updAsync

theorem Rewrites.askPcie {c : Nat} (h : Rewrites s t) : Rewrites s (t.askPcie c) := by
  unfold State.askPcie
  refine h.foldl fun _ _ k => ?_
  split
  · split
    · exact k.askLoad
    · exact k
  · exact k

theorem Rewrites.txnLoadWord {c w : Nat} (h : Rewrites s t) : Rewrites s (t.txnLoadWord c w).1 := by
  unfold State.txnLoadWord
  dsimp only
  split
  · exact h.updTxn
  · exact h.updTxn.txnMemory

theorem Rewrites.loadMemory {c : Nat} {l : LoadFlight} {ps : List PortAnswer} (h : Rewrites s t) :
    Rewrites s (t.loadMemory c l ps).1 := by
  unfold State.loadMemory
  with_reducible exact h.onPorts (fun _ k => k.gather (fun _ _ m => .iteFst m.txnLoadWord m.readWordOf))

theorem Rewrites.answerWith {c : Nat} {l : LoadFlight} {v : W64} (h : Rewrites s t) : Rewrites s (t.answerWith c l v) :=
  h.updLate.keep

theorem Rewrites.backTo {c : Nat} {y : Glade} (h : Rewrites s t) : Rewrites s (t.backTo c y) := h.keep

theorem Rewrites.failLoad {c : Nat} {l : LoadFlight} {detail : Nat} (h : Rewrites s t) : Rewrites s (t.failLoad c l detail) :=
  .ite h.backTo.updGlade h.backTo.raise

/-! ### The QPU -/

theorem Rewrites.setRead {i k : Nat} {r : Option ReadPkt} (h : Rewrites s t) : Rewrites s (t.setRead i k r) := h.updAsync
theorem Rewrites.linkPut {i : Nat} {w : WritePkt} (h : Rewrites s t) : Rewrites s (t.linkPut i w).1 := by
  unfold State.linkPut
  refine .iteFst h.touchDesc.freeCells ?_
  split
  next e => exact (h.touchDesc.linkPacket.of_eq e)
  next e => exact (h.touchDesc.linkPacket.of_eq e)

theorem Rewrites.deliver {i k : Nat} {r : ReadPkt} {w : BufWord} {header : Option W64} (h : Rewrites s t) :
    Rewrites s (t.deliver i k r w header).1 := by
  unfold State.deliver
  dsimp only
  split
  · exact (Rewrites.ite h.freeCells h).setRead
  · exact (Rewrites.ite h.freeCells h).setRead
  · exact (Rewrites.ite h.freeCells h).setRead

theorem Rewrites.deq {i : Nat} {t' : W64} (h : Rewrites s t) : Rewrites s (t.deq i t').1 := by
  unfold State.deq
  dsimp only
  split
  · refine .iteFst h.setRead ?_
    split
    · exact h.freeCells.setRead
    · exact h.deliver
    · exact h
  · refine .iteFst h.getDesc ?_
    split
    next e1 => exact (h.openReach.of_eq e1)
    next e1 => exact (h.openReach.of_eq e1).pktWord.deliver

theorem Rewrites.skip {i : Nat} {t' : W64} (h : Rewrites s t) : Rewrites s (t.skip i t').1 := by
  unfold State.skip
  dsimp only
  split
  · exact .iteFst h h.freeCells.setRead
  · exact h

theorem Rewrites.qpuEffect {i : Nat} {x2 : PendKind} (h : Rewrites s t) : Rewrites s (t.qpuEffect i x2).1 := by
  unfold State.qpuEffect
  split
  · split
    next e => exact h.deq.of_eq e
    next e => exact h.deq.of_eq e
  · exact h.skip
  · exact h.getDesc
  · exact h.flush
  · exact h.linkPut
  · exact h.linkStub
  · exact h.freePackets
  · exact h.freePackets.countAbort
  · exact h.freePackets
  · exact h
  · exact h

theorem Rewrites.dropSnap {j : Nat} (h : Rewrites s t) : Rewrites s (t.dropSnap j) := by
  unfold State.dropSnap
  split
  · exact h
  · exact .ite h.keep h

theorem Rewrites.keepReads {i : Nat} (h : Rewrites s t) : Rewrites s (t.keepReads i) := by
  unfold State.keepReads
  split
  · exact h
  · exact h.keep

theorem Rewrites.endFinal {i : Nat} {d : QpuPend} (h : Rewrites s t) : Rewrites s (t.endFinal i d) := by
  unfold State.endFinal
  split
  · exact .ite h.closeRead h
  · exact h

theorem Rewrites.backedUp {j : Nat} (h : Rewrites s t) : Rewrites s (t.backedUp j) := by
  unfold State.backedUp
  split
  · exact h
  · exact .ite h h.keep

theorem Rewrites.failPend {j a b : Nat} (h : Rewrites s t) : Rewrites s (t.failPend j a b) := by
  unfold State.failPend
  split
  · exact h
  · extract_lets u
    have hu : Rewrites s u := by
      simp only [u]
      split
      · exact h.backTo
      · exact h.updAsync
    clear_value u
    exact .ite hu.backedUp.updGlade hu.raise

theorem Rewrites.dropKept {l seq : Nat} {all : Bool} (h : Rewrites s t) : Rewrites s (t.dropKept l seq all) := h.setTxu

theorem Rewrites.takeBack {l : Nat} {d : QpuPend} (h : Rewrites s t) : Rewrites s (t.takeBack l d) :=
  .ite h ((Rewrites.ite ((h.foldl fun _ _ k => k.freeCells).keep) ((h.foldl fun _ _ k =>
      k.freeCells).keep.setTxu)).setTxn.dropKept)

theorem Rewrites.pendStep {i : Nat} (h : Rewrites s t) : Rewrites s (t.pendStep i) := by
  unfold State.pendStep
  split
  · exact h
  · refine .ite h ?_
    dsimp only
    split
    next e1 =>
      exact .ite (((h.qpuEffect.of_eq e1).foldl fun _ _ k => k.dropSnap.updLate).keepReads.endFinal.dropKept)
          (((h.qpuEffect.of_eq e1).foldl fun _ _ k => k.dropSnap.updLate).keepReads.endFinal)
    next e1 =>
      exact .ite (((h.qpuEffect.of_eq e1).foldl fun _ _ k => k.dropSnap.updLate).keepReads.endFinal)
          ((h.qpuEffect.of_eq e1).takeBack.foldl fun _ _ k => k.failPend)

theorem Rewrites.pendSteps {i n : Nat} (h : Rewrites s t) : Rewrites s (t.pendSteps i n) := by
  induction n generalizing t with
  | zero => exact h
  | succ n ih => exact ih h.pendStep

/-! ### The commands of `QM_CMD` -/

theorem Rewrites.qmDone {v : W64} {code : Nat} (h : Rewrites s t) : Rewrites s (t.qmDone v code) := h.wr.wr
theorem Rewrites.fixGroup {g p : Nat} (h : Rewrites s t) : Rewrites s (t.fixGroup g p) := .ite h h.keep
theorem Rewrites.qmConfig {v : W64} (h : Rewrites s t) : Rewrites s (t.qmConfig v) := .ite h.qmDone h.fixGroup.updDesc.qmDone
theorem Rewrites.qmFlush {v : W64} (h : Rewrites s t) : Rewrites s (t.qmFlush v) := h.flush.qmDone

theorem Rewrites.reach {q n cell : Nat} (h : Rewrites s t) : Rewrites s (t.reach q n cell).1 := by
  induction n generalizing t cell with
  | zero => exact h.pair
  | succ n ih =>
    have read : Rewrites s (if t.retired cell then (t.recordRefusal .qm cell 6, ReadAns.err 6) else t.readWord .qm cell).1 :=
      .iteFst h.recordRefusal.pair h.readWord
    unfold State.reach
    refine .iteFst h.pair ?_
    split
    next e => exact (ih (read.of_eq e)).pair
    next e => exact (read.of_eq e).pair

theorem Rewrites.qmReset {v : W64} (h : Rewrites s t) : Rewrites s (t.qmReset v) :=
  .ite h.qmDone ((h.getDesc.reach.foldl fun _ _ k => k.poolFree).setPool.setDesc.qmDone)

theorem Rewrites.setPin {q : Nat} {b : Bool} (h : Rewrites s t) : Rewrites s (t.setPin q b) := h.keep.setFld.setFld
theorem Rewrites.qmPin {v : W64} (h : Rewrites s t) : Rewrites s (t.qmPin v) := .ite h.qmDone h.getDesc.setPin.qmDone
theorem Rewrites.qmUnpin {v : W64} (h : Rewrites s t) : Rewrites s (t.qmUnpin v) := h.setPin.qmDone

theorem Rewrites.qmReadDesc {v : W64} (h : Rewrites s t) : Rewrites s (t.qmReadDesc v) :=
  (h.getDesc.foldl fun _ _ k => k.wr).qmDone

theorem Rewrites.qmBadOp {v : W64} (h : Rewrites s t) : Rewrites s (t.qmBadOp v) := h.qmDone

theorem Rewrites.qmRun {v : W64} (h : Rewrites s t) : Rewrites s (t.qmRun v) := by
  unfold State.qmRun
  split
  · exact h.qmConfig
  · exact h.qmFlush
  · exact h.qmReset
  · exact h.qmPin
  · exact h.qmUnpin
  · exact h.qmReadDesc
  · exact h.qmBadOp

theorem Rewrites.qmCommand {v : W64} (h : Rewrites s t) : Rewrites s (t.qmCommand v) := .ite h.wr (.ite h.keep h.qmRun)

theorem Rewrites.pollQm (h : Rewrites s t) : Rewrites s t.pollQm := by
  unfold State.pollQm
  split
  · exact h
  · exact .ite h h.keep.qmRun.wr

theorem Rewrites.placePool {k : Nat} {same ok : Bool} {put : State → State} (h : Rewrites s t)
    (hp : ∀ u, Rewrites s u → Rewrites s (put u)) :
    Rewrites s (t.placePool k same ok put) := by
  have placed := (hp _ (h.setPool (p := k) (x := Pool.reset))).setPool (p := k) (x := Pool.reset)
  exact .ite h (.ite h.setFlag (.ite placed.setFld placed.wr))

theorem Rewrites.poolWrite {which : Nat} {v : W64} (h : Rewrites s t) : Rewrites s (t.poolWrite which v) := by
  unfold State.poolWrite
  with_reducible exact .ite (h.placePool (fun _ k => k.wr)) (.ite (h.placePool (fun _ k => k.wr)) (h.placePool (fun _
      k => k.wr)))

theorem Rewrites.noteEgress {q : Nat} (h : Rewrites s t) : Rewrites s (t.noteEgress q) := h.updDesc

theorem Rewrites.egqWrite {n : Nat} {v : W64} (h : Rewrites s t) : Rewrites s (t.egqWrite n v) :=
  .ite ((Rewrites.ite h.wr.noteEgress h.wr).noteEgress) (.ite h.wr.noteEgress h.wr)

end Sys2Proof.Machine
end

section
/-! SUPPORT. Memory is rewritten byte by byte: journals, the Seedbank and transactions. -/

namespace Sys2Proof.Machine

variable {s t : State}

/-! ### The journal writer's engine -/

theorem Rewrites.setJstate {j st err : Nat} (h : Rewrites s t) : Rewrites s (t.setJstate j st err) := h.setFld.setFld
theorem Rewrites.setJournal {j : Nat} {x : Journal} (h : Rewrites s t) : Rewrites s (t.setJournal j x) := h.keep

theorem Rewrites.updJournal {j : Nat} {f : Journal → Journal} (h : Rewrites s t) : Rewrites s (t.updJournal j f) :=
  h.setJournal

theorem Rewrites.nvmeWrites {rs : List (Nat × Nat)} (h : Rewrites s t) : Rewrites s (t.nvmeWrites rs) := .ite h h.undefine
theorem Rewrites.stageJw {n : Nat} (h : Rewrites s t) : Rewrites s (t.stageJw n).1 := (Rewrites.ite h h.undefine).keep
theorem Rewrites.issue {ctrl : Nat} {c : NvmeCmd} (h : Rewrites s t) : Rewrites s (t.issue ctrl c) := h.stageJw.keep

theorem Rewrites.sendIo {i : Nat} {c : NvmeIo} {nsid pos n : Nat} {prps : List Nat} (h : Rewrites s t) :
    Rewrites s (t.sendIo i c nsid pos n prps).1 :=
  (Rewrites.ite h.nvmeWrites.nvmeWrites h.nvmeWrites).keep

theorem Rewrites.sendAdmin {i : Nat} {c : NvmeAdmin} (h : Rewrites s t) : Rewrites s (t.sendAdmin i c) :=
  h.stageJw.nvmeWrites.keep

theorem Rewrites.sendAdmins {i : Nat} {cs : List NvmeAdmin} (h : Rewrites s t) : Rewrites s (t.sendAdmins i cs) :=
  h.foldl fun _ _ k => k.sendAdmin

theorem Rewrites.issueFlush {j : Nat} {c : JCfg} {cost : Nat} {p : Purpose} (h : Rewrites s t) :
    Rewrites s (t.issueFlush j c cost p) := by
  unfold State.issueFlush
  with_reducible exact h.issue.keep

theorem Rewrites.storeBytes {j : Nat} {c : JCfg} {pos : Nat} {data : List Byte} {fua : Bool} {p : Purpose}
    (h : Rewrites s t) :
    Rewrites s (t.storeBytes j c pos data fua p) := by
  unfold State.storeBytes
  refine .ite ?_ ((Rewrites.ite h.issueFlush h).issue.updJournal)
  dsimp only
  split
  · exact h.recordRefusal
  · exact h.writeMem

theorem Rewrites.layRecord {j : Nat} {c : JCfg} {ty src txn : Nat} {payload : List Byte} {fua : Bool} {p : Purpose}
    (h : Rewrites s t) :
    Rewrites s (t.layRecord j c ty src txn payload fua p).1 := by
  unfold State.layRecord
  dsimp only
  exact h.storeBytes.wr.updJournal

theorem Rewrites.closeSegment {j : Nat} {c : JCfg} {r : Nat} {fua : Bool} {p : Purpose} (h : Rewrites s t) :
    Rewrites s (t.closeSegment j c r fua p) :=
  .ite h h.layRecord.updJournal

theorem Rewrites.openSegment {j : Nat} {c : JCfg} (h : Rewrites s t) : Rewrites s (t.openSegment j c) :=
  h.setJournal.setFld.layRecord

theorem Rewrites.appendPlain {j : Nat} {c : JCfg} {ty src txn : Nat} {payload : List Byte} {fua : Bool} {p : Purpose}
    (h : Rewrites s t) :
    Rewrites s (t.appendPlain j c ty src txn payload fua p).1 :=
  .iteFst h.layRecord (.iteFst h.closeSegment.setJstate h.closeSegment.openSegment.layRecord)

theorem Rewrites.ringWord {w : Nat} (h : Rewrites s t) : Rewrites s (t.ringWord w).1 := by
  unfold State.ringWord
  split
  · exact h.recordRefusal.pair
  · split
    next e1 => exact (h.readWord.of_eq e1).pair
    next e1 => exact (h.readWord.of_eq e1).pair

theorem Rewrites.skipRecords {n a : Nat} (h : Rewrites s t) : Rewrites s (t.skipRecords n a).1 := by
  induction n generalizing t a with
  | zero => exact h.pair
  | succ n ih =>
    unfold State.skipRecords
    split
    next e => exact ih (h.ringWord.of_eq e)
    next e => exact (h.ringWord.of_eq e).pair

theorem Rewrites.freeRecord (h : Rewrites s t) : Rewrites s t.freeRecord.1 := h.freeWord.foldlFst fun _ _ k => k.freeWord

theorem Rewrites.walkStart {a first : Nat} (h : Rewrites s t) : Rewrites s (t.walkStart a first).1 := by
  unfold State.walkStart
  split
  · exact h
  · split
    next e1 => exact (h.ringWord.of_eq e1)
    next e1 => exact (h.ringWord.of_eq e1)

theorem Rewrites.ringWords {n a : Nat} (h : Rewrites s t) : Rewrites s (t.ringWords n a).1 := by
  induction n generalizing t a with
  | zero => exact h.pair
  | succ n ih =>
    unfold State.ringWords
    split
    next e => exact (h.ringWord.of_eq e).pair
    next e =>
      split
      next e1 => exact ((ih (h.ringWord.of_eq e)).of_eq e1).pair
      next e1 => exact ((ih (h.ringWord.of_eq e)).of_eq e1).pair

theorem Rewrites.ringRecord {j : Nat} {c : JCfg} {seq : Nat} (h : Rewrites s t) : Rewrites s (t.ringRecord j c seq).1 := by
  unfold State.ringRecord
  split
  · exact h
  · refine .iteFst h (.iteFst h.freeRecord ?_)
    split
    next e1 => exact (h.walkStart.of_eq e1)
    next e1 =>
      refine .iteFst ((h.walkStart.of_eq e1).freeRecord) ?_
      split
      next e2 => exact ((h.walkStart.of_eq e1).skipRecords.of_eq e2)
      next e2 =>
        split
        next e3 => exact (((h.walkStart.of_eq e1).skipRecords.of_eq e2).ringWord.of_eq e3)
        next e3 => exact (((h.walkStart.of_eq e1).skipRecords.of_eq e2).ringWord.of_eq e3).ringWords

theorem Rewrites.updCapture {j : Nat} {f : Capture → Capture} (h : Rewrites s t) : Rewrites s (t.updCapture j f) :=
  h.updJournal

theorem Rewrites.copyOne {j : Nat} {c : JCfg} (h : Rewrites s t) : Rewrites s (t.copyOne j c) := by
  unfold State.copyOne
  split
  · exact h
  · dsimp only
    split
    next e2 =>
      refine .ite ((h.ringRecord.of_eq e2).updCapture) ?_
      split
      next e3 => exact ((h.ringRecord.of_eq e2).appendPlain.of_eq e3).updCapture
      next e3 => exact ((h.ringRecord.of_eq e2).appendPlain.of_eq e3).updCapture
    next e1 _ => exact (h.ringRecord.of_eq e1).updCapture

theorem Rewrites.beforeOverwrite {j : Nat} {c : JCfg} (h : Rewrites s t) : Rewrites s (t.beforeOverwrite j c) := by
  unfold State.beforeOverwrite
  dsimp only
  split
  next k _ _ _ _ _ _ _ => exact .ite h ((h.foldlFst fun _ _ k => .iteFst k.freeBool.copyOne k.freeBool).updCapture)
  · exact h

theorem Rewrites.append {j : Nat} {c : JCfg} {ty src txn : Nat} {payload : List Byte} {fua : Bool} {p : Purpose}
    (h : Rewrites s t) :
    Rewrites s (t.append j c ty src txn payload fua p).1 :=
  (Rewrites.ite h.beforeOverwrite h).appendPlain

theorem Rewrites.synced {j q : Nat} (h : Rewrites s t) : Rewrites s (t.synced j q) := h.updJournal

theorem Rewrites.laySync {j : Nat} {c : JCfg} (h : Rewrites s t) : Rewrites s (t.laySync j c).1 := by
  unfold State.laySync
  split
  next e => exact .ite ((h.append.of_eq e).updJournal.synced) ((h.append.of_eq e).updJournal)
  next e => exact h.append.of_eq e

theorem Rewrites.writeSync {j : Nat} {c : JCfg} (h : Rewrites s t) : Rewrites s (t.writeSync j c).1 := by
  unfold State.writeSync
  split
  next e => exact .ite (h.laySync.of_eq e) ((h.laySync.of_eq e).issueFlush)
  next e => exact h.laySync.of_eq e

theorem Rewrites.writeVoids {j : Nat} {c : JCfg} (h : Rewrites s t) : Rewrites s (t.writeVoids j c) := by
  unfold State.writeVoids
  refine h.foldl fun _ _ k => ?_
  dsimp only
  split
  next e => exact (k.append.of_eq e).updJournal
  next e => exact (k.append.of_eq e)

theorem Rewrites.pollVoids {j : Nat} (h : Rewrites s t) : Rewrites s (t.pollVoids j) := by
  unfold State.pollVoids
  split
  · exact .ite h.writeVoids h
  · exact h

theorem Rewrites.voidTxn {g cnum : Nat} {js : List Nat} (h : Rewrites s t) : Rewrites s (t.voidTxn g cnum js) :=
  h.foldl fun _ _ k => k.updJournal.pollVoids

theorem Rewrites.stopJournal {j err : Nat} (h : Rewrites s t) : Rewrites s (t.stopJournal j err) := by
  unfold State.stopJournal
  dsimp only
  split
  · exact h.keep
  · exact h.keep.foldl fun _ _ k => k.updJournal

theorem Rewrites.driveLasting {i : Nat} (h : Rewrites s t) : Rewrites s (t.driveLasting i) := h.recordError.tallyInc
theorem Rewrites.driveFailed {i : Nat} (h : Rewrites s t) : Rewrites s (t.driveFailed i) := h.sendAdmins.satAdd.driveLasting
theorem Rewrites.driveTimeout {i : Nat} (h : Rewrites s t) : Rewrites s (t.driveTimeout i) := h.keep
theorem Rewrites.driveRetried {i : Nat} (h : Rewrites s t) : Rewrites s (t.driveRetried i) := h.satAdd.recordError

theorem Rewrites.ioRetry {i : Nat} {send : Nat → State → State} {r : IoRetry} (h : Rewrites s t)
    (hs : ∀ k u, Rewrites s u → Rewrites s (send k u)) :
    Rewrites s (t.ioRetry i send r) := by
  have sent : Rewrites s (if r.first ≠ .doNotRetry then send r.which (if r.first = .timeout then t.driveTimeout i else t)
      else if r.first = .timeout then t.driveTimeout i else t) :=
    .ite (hs _ _ (.ite h.driveTimeout h)) (.ite h.driveTimeout h)
  exact .ite (Rewrites.driveRetried (.ite sent.driveTimeout sent)) (Rewrites.driveFailed (.ite sent.driveTimeout sent))

theorem Rewrites.ioRetries {i : Nat} {send : Nat → State → State} {rs : List IoRetry} (h : Rewrites s t)
    (hs : ∀ k u, Rewrites s u → Rewrites s (send k u)) :
    Rewrites s (t.ioRetries i send rs) := by
  induction rs generalizing t with
  | nil => exact h
  | cons r rs ih => exact .ite (ih (h.ioRetry hs)) (h.ioRetry hs)

theorem Rewrites.journalError {j err : Nat} (h : Rewrites s t) : Rewrites s (t.journalError j err) := by
  unfold State.journalError
  dsimp only
  split
  · exact h.stopJournal
  · exact h.stopJournal.driveFailed

/-! ### The Seedbank -/

theorem Rewrites.addCost {n : Nat} (h : Rewrites s t) : Rewrites s (t.addCost n) := h.keep
theorem Rewrites.dropCost {n : Nat} (h : Rewrites s t) : Rewrites s (t.dropCost n) := h.keep

theorem Rewrites.resolveLogged {record : Nat} (h : Rewrites s t) : Rewrites s (t.resolveLogged record).1 := by
  unfold State.resolveLogged
  dsimp only
  split
  · exact .iteFst h.setFld h.setFld.recordError.keep
  · exact h.setFld.recordError
  · exact h.setFld

theorem Rewrites.startUpdate {record : Nat} {body : List Byte} {cmd : Bool} (h : Rewrites s t) :
    Rewrites s (t.startUpdate record body cmd) := by
  unfold State.startUpdate
  exact h.resolveLogged.keep

theorem Rewrites.startLookout {body : List Byte} (h : Rewrites s t) : Rewrites s (t.startLookout body) := h.keep

theorem Rewrites.pump (h : Rewrites s t) : Rewrites s t.pump := by
  unfold State.pump
  split
  · refine .ite h ?_
    dsimp only
    split
    · exact h.keep.startUpdate
    · exact h.keep
    · exact h.keep.startLookout
  · exact h

theorem Rewrites.queueJob {w : LineJob} (h : Rewrites s t) : Rewrites s (t.queueJob w) := h.keep

theorem Rewrites.updateRecord {record : Nat} {body : List Byte} (h : Rewrites s t) : Rewrites s (t.updateRecord record body) :=
  h.queueJob.pump

theorem Rewrites.writeLookout {body : List Byte} (h : Rewrites s t) : Rewrites s (t.writeLookout body) := h.queueJob.pump

theorem Rewrites.writeLastFault {source code grove addr info : Nat} (h : Rewrites s t) :
    Rewrites s (t.writeLastFault source code grove addr info) :=
  h.updateRecord

theorem Rewrites.resolveReported {record : Nat} (h : Rewrites s t) : Rewrites s (t.resolveReported record).1 := by
  unfold State.resolveReported
  dsimp only
  split
  · exact h.resolveLogged.writeLastFault
  · exact h.resolveLogged

/-! ### Recovery -/

theorem Rewrites.noteScan {j : Nat} {c : JCfg} (h : Rewrites s t) : Rewrites s (t.noteScan j c) := h.keep
theorem Rewrites.sendScan {c : JCfg} {p : Nat} (h : Rewrites s t) : Rewrites s (t.sendScan c p) := h.stageJw.sendIo.nvmeWrites

theorem Rewrites.sendOpen {c : JCfg} {readOk timely : List IoRetry} (h : Rewrites s t) :
    Rewrites s (t.sendOpen c readOk timely) := by
  unfold State.sendOpen
  with_reducible exact .ite (h.sendAdmins.ioRetries (fun _ _ k => k.sendAdmins)) (((h.sendAdmins.ioRetries (fun _ _ k
      => k.sendAdmins)).foldl fun _ _ k => k.sendScan).ioRetries (fun _ _ k => k.sendScan))

theorem Rewrites.enumerate {i : Nat} (h : Rewrites s t) : Rewrites s (t.enumerate i) := by
  unfold State.enumerate
  dsimp only
  split
  · exact h.setFlag.setFlag
  · exact (Rewrites.ite h.sendAdmins h).setFlag.setFlag.setFlag.setFld.setFld.setFld.setFld

theorem Rewrites.opened {j : Nat} {c : JCfg} (h : Rewrites s t) : Rewrites s (t.opened j c) := h.setJstate

theorem Rewrites.resume {j : Nat} {c : JCfg} {x : Scan} {drop : List (Nat × Nat)} (h : Rewrites s t) :
    Rewrites s (t.resume j c x drop) :=
  .ite ((Rewrites.ite h.setJournal.wr h.setJournal.wr.wr).setFld.openSegment) ((Rewrites.ite h.setJournal.wr
    h.setJournal.wr.wr).setFld)

theorem Rewrites.recoverJournal {j : Nat} {c : JCfg} (h : Rewrites s t) : Rewrites s (t.recoverJournal j c) :=
  .ite h.resume.opened ((Rewrites.ite h.resume.writeVoids.laySync h.resume.writeVoids).setJstate.issueFlush)

theorem Rewrites.pollRecovery (h : Rewrites s t) : Rewrites s t.pollRecovery := by
  unfold State.pollRecovery
  refine .ite h (h.keep.foldl fun _ _ k => ?_)
  split
  · exact k.recoverJournal
  · exact k

theorem Rewrites.finishRecovery (h : Rewrites s t) : Rewrites s t.finishRecovery := by
  unfold State.finishRecovery
  with_reducible exact .ite h ((h.resolveReported.resolveReported.foldl fun _ _ k => (k.foldl fun _ _ m =>
      m.setJstate).recordError).keep.wr.updateRecord)

/-! ### The transaction units -/

theorem Rewrites.placeRecord {i : Nat} {t' : Txn} {step2 : Bool} {p : Nat × Rec} (h : Rewrites s t) :
    Rewrites s (t.placeRecord i t' step2 p).1 := by
  unfold State.placeRecord
  dsimp only
  split
  · exact h
  · split
    next e1 =>
      split
      · exact (h.append.of_eq e1).updJournal.setTxn
      · dsimp only
        exact (h.append.of_eq e1).updJournal
    next e1 => exact (h.append.of_eq e1)

theorem Rewrites.placeRecords {i : Nat} {x : Txn} {step2 : Bool} {ps : List (Nat × Rec)} (h : Rewrites s t) :
    Rewrites s (t.placeRecords i x step2 ps).1 := by
  induction ps generalizing t with
  | nil => exact h.pair
  | cons p ps ih =>
    unfold State.placeRecords
    split
    next e => exact ih (h.placeRecord.of_eq e)
    next e => exact (h.placeRecord.of_eq e).pair

theorem Rewrites.failDurable {i code : Nat} (h : Rewrites s t) : Rewrites s (t.failDurable i code) := by
  unfold State.failDurable
  split
  · exact h
  · exact h.voidTxn.dropCost.retireAbort

theorem Rewrites.beginStep2 {i : Nat} (h : Rewrites s t) : Rewrites s (t.beginStep2 i) := by
  unfold State.beginStep2
  split
  · exact h
  · split
    · exact h.failDurable
    · exact .ite h.setTxn.placeRecords h.setTxn.placeRecords.failDurable

theorem Rewrites.advance {g : Nat} (h : Rewrites s t) : Rewrites s (t.advance g) := by
  unfold State.advance
  refine h.foldlFst fun _ _ k => ?_
  split
  · exact k
  · refine .iteFst k.beginStep2 (.iteFst k ?_)
    exact k

theorem Rewrites.settlePasses {g : Nat} (h : Rewrites s t) : Rewrites s (t.settlePasses g) :=
  h.foldl fun _ _ k => .ite k k.setTxu.retireTxu

/-! ### The commands and events of the journal writer -/

theorem Rewrites.jwStart {op j : Nat} {issued : Bool} (h : Rewrites s t) : Rewrites s (t.jwStart op j issued) := h.keep
theorem Rewrites.jwDone {code : Nat} (h : Rewrites s t) : Rewrites s (t.jwDone code) := h.keep
theorem Rewrites.jwAtOnce {op j code : Nat} (h : Rewrites s t) : Rewrites s (t.jwAtOnce op j code) := h.jwStart.jwDone

theorem Rewrites.jwIfIdle {op j : Nat} {f : State → State} (h : Rewrites s t) (hf : ∀ u, Rewrites s u → Rewrites s (f u)) :
    Rewrites s (t.jwIfIdle op j f) :=
  .ite h.fieldsWrite (hf _ h)

theorem Rewrites.openPersistent {op j : Nat} {c : JCfg} {readOk timely : List IoRetry} (h : Rewrites s t) :
    Rewrites s (t.openPersistent op j c readOk timely) :=
  .ite ((Rewrites.ite h.enumerate.sendOpen h.enumerate).setJstate.jwAtOnce) ((Rewrites.ite h.enumerate.sendOpen
    h.enumerate).noteScan.setJstate.jwAtOnce)

theorem Rewrites.jwOpen {j : Nat} {readOk timely : List IoRetry} (h : Rewrites s t) :
    Rewrites s (t.jwOpen j readOk timely) := by
  unfold State.jwOpen
  refine .ite h ?_
  split
  · exact h.jwAtOnce
  · exact .ite h.jwAtOnce (.ite h.unspoil.setJournal.wr.openSegment.setJstate.jwAtOnce h.openPersistent)

theorem Rewrites.jwReopen {j : Nat} {readOk timely : List IoRetry} (h : Rewrites s t) :
    Rewrites s (t.jwReopen j readOk timely) := by
  unfold State.jwReopen
  refine .ite h ?_
  split
  · exact h.jwAtOnce
  · exact .ite h.jwAtOnce (.ite h.unspoil.setJournal.wr.openSegment.setJstate.jwAtOnce (.ite h.keep h.openPersistent))

theorem Rewrites.jwSealWrite {j : Nat} {c : JCfg} (h : Rewrites s t) : Rewrites s (t.jwSealWrite j c) :=
  .ite h.writeSync.closeSegment.jwDone (.ite h.writeSync.closeSegment.jwDone h.writeSync.closeSegment.issueFlush.keep)

theorem Rewrites.jwSeal {j : Nat} (h : Rewrites s t) : Rewrites s (t.jwSeal j) := by
  unfold State.jwSeal
  refine .ite h ?_
  split
  · exact h.jwAtOnce
  · exact .ite h.jwAtOnce (.ite h.jwStart.jwSealWrite h.jwStart)

theorem Rewrites.jwFormat {j : Nat} (h : Rewrites s t) : Rewrites s (t.jwFormat j) := by
  unfold State.jwFormat
  refine .ite h ?_
  split
  · exact h.jwAtOnce
  · exact .ite h.jwAtOnce h.enumerate.jwStart.issue

theorem Rewrites.beginCapture {j : Nat} {k : Capture} (h : Rewrites s t) : Rewrites s (t.beginCapture j k) := by
  unfold State.beginCapture
  split
  · exact h
  · exact h.append.updJournal

theorem Rewrites.captureOrQueue {j : Nat} {k : Capture} (h : Rewrites s t) : Rewrites s (t.captureOrQueue j k) := by
  unfold State.captureOrQueue
  split
  · exact h.beginCapture
  · exact h.updJournal
  · exact h.updJournal

theorem Rewrites.jwPersist {j : Nat} (h : Rewrites s t) : Rewrites s (t.jwPersist j) := by
  unfold State.jwPersist
  refine .ite h ?_
  split
  · exact h.jwAtOnce
  · refine .ite h.jwAtOnce ?_
    split
    · exact h.jwAtOnce
    · exact h.captureOrQueue.jwAtOnce

theorem Rewrites.endCapture {j result cost : Nat} {p : Purpose} (h : Rewrites s t) :
    Rewrites s (t.endCapture j result cost p) := by
  unfold State.endCapture
  split
  · exact h
  · refine (?_ : Rewrites _ _).satAdd.updJournal.tallyInc
    split
    · exact h
    · exact .ite h h.append.issueFlush.addCost

theorem Rewrites.jrelWrite {j : Nat} {v : W64} (h : Rewrites s t) : Rewrites s (t.jrelWrite j v) := by
  unfold State.jrelWrite
  refine .ite h ?_
  dsimp only
  split
  · exact .ite h.wr.setJstate h.wr
  · exact h.wr

theorem Rewrites.pollSeal {i : Nat} (h : Rewrites s t) : Rewrites s (t.pollSeal i) := by
  unfold State.pollSeal
  split
  · exact h
  · refine .ite h ?_
    dsimp only
    split
    · exact h.updAsync
    · exact h.updAsync
    · refine .ite h ?_
      split
      next e3 => exact (h.writeSync.of_eq e3).updAsync
      next e3 => exact (h.writeSync.of_eq e3).updAsync

theorem Rewrites.writeSyncs {js : List (Nat × JCfg)} (h : Rewrites s t) : Rewrites s (t.writeSyncs js) := by
  unfold State.writeSyncs
  refine (h.foldl fun _ _ k => k.laySync).foldl fun _ _ k => ?_
  dsimp only
  split
  · refine (k.foldlFst fun _ _ k => ?_).issueFlush
    split
    next e2 => exact (k.laySync.of_eq e2)
    next e2 => exact (k.laySync.of_eq e2)
  · refine k.foldlFst fun _ _ k => ?_
    split
    next e => exact (k.laySync.of_eq e)
    next e => exact (k.laySync.of_eq e)

theorem Rewrites.pollJw (h : Rewrites s t) : Rewrites s t.pollJw := by
  unfold State.pollJw
  dsimp only
  split
  · split
    · exact .ite (((h.foldl fun _ _ k => k.pollVoids).writeSyncs.foldl fun _ _ k => k.pollSeal).jwDone) (.ite
        (((h.foldl fun _ _ k => k.pollVoids).writeSyncs.foldl fun _ _ k => k.pollSeal).jwSealWrite) ((h.foldl fun _ _
        k => k.pollVoids).writeSyncs.foldl fun _ _ k => k.pollSeal))
    · exact ((h.foldl fun _ _ k => k.pollVoids).writeSyncs.foldl fun _ _ k => k.pollSeal).jwDone
  · split
    · exact .ite ((h.foldl fun _ _ k => k.pollVoids).writeSyncs.foldl fun _ _ k => k.pollSeal) (((h.foldl fun _ _ k =>
        k.pollVoids).writeSyncs.foldl fun _ _ k => k.pollSeal).openPersistent)
    · exact ((h.foldl fun _ _ k => k.pollVoids).writeSyncs.foldl fun _ _ k => k.pollSeal).jwDone
  · exact (h.foldl fun _ _ k => k.pollVoids).writeSyncs.foldl fun _ _ k => k.pollSeal

theorem Rewrites.failPurpose {p : Purpose} (h : Rewrites s t) : Rewrites s (t.failPurpose p) := by
  unfold State.failPurpose
  split
  · exact .ite h.failDurable h
  · exact h.jwDone
  · exact h

theorem Rewrites.failJournal {j err : Nat} (h : Rewrites s t) : Rewrites s (t.failJournal j err) :=
  (h.foldl fun _ _ k => k.dropCost).journalError.foldl fun _ _ k => k.failPurpose

theorem Rewrites.admitRecords (h : Rewrites s t) : Rewrites s t.admitRecords :=
  .ite h (h.foldl fun _ _ k => (k.pair.foldlFst fun _ _ m => .iteFst m.pair m.addCost.pair).keep)

theorem Rewrites.sealSpace {js : List (Nat × JCfg)} (h : Rewrites s t) : Rewrites s (t.sealSpace js) := by
  unfold State.sealSpace
  dsimp only
  split
  · refine (h.foldlFst fun _ _ k => .iteFst ?_ k.closeSegment.setJstate.addCost).issueFlush
    exact k
  · refine h.foldlFst fun _ _ k => .iteFst ?_ k.closeSegment.setJstate.addCost
    exact k

theorem Rewrites.sendCmd {ctrl : Nat} {k : NvmeCmd} (h : Rewrites s t) : Rewrites s (t.sendCmd ctrl k).1 := .iteFst h h.sendIo

theorem Rewrites.sendQueue {ctrl : Nat} {q : List NvmeCmd} (h : Rewrites s t) : Rewrites s (t.sendQueue ctrl q) :=
  (h.pair.foldlFst fun _ _ k => k.sendCmd.pair).keep

theorem Rewrites.sendNvme (h : Rewrites s t) : Rewrites s t.sendNvme := h.foldl fun _ _ k => .ite k k.sendQueue

theorem Rewrites.sealItems (h : Rewrites s t) : Rewrites s t.sealItems :=
  .ite h (.ite h.admitRecords ((h.admitRecords.foldl fun _ _ k => .ite k.endCapture k).foldl fun _ _ k =>
      k.sealSpace))

/-! ### The care of the memories -/

theorem Rewrites.retireWrite {g n : Nat} {v : W64} (h : Rewrites s t) : Rewrites s (t.retireWrite g n v) := .ite h h.wr
theorem Rewrites.injectWrite {g : Nat} {v : W64} (h : Rewrites s t) : Rewrites s (t.injectWrite g v) := .ite h h.wr

theorem Rewrites.errRecordFree {r : RecSet} {n : Nat} (h : Rewrites s t) : Rewrites s (t.errRecordFree r n) :=
  h.setFlag.setFlag

/-! ### The TXU port -/

theorem Rewrites.receiveCommit {i : Nat} (h : Rewrites s t) : Rewrites s (t.receiveCommit i) := by
  unfold State.receiveCommit
  dsimp only
  split
  · exact .ite h.retireAbort (.ite h.setTxu h)
  · exact h

end Sys2Proof.Machine
end

section
/-! SUPPORT. Memory is rewritten byte by byte: reactions, time and power. -/

namespace Sys2Proof.Machine

variable {s t : State}

/-! ### Domains, fences, HOLDUP, SAFE and reactions -/

theorem Rewrites.killLoads {p : Nat → LoadFlight → Bool} {detail : Nat} (h : Rewrites s t) :
    Rewrites s (t.killLoads p detail) :=
  h.keep

theorem Rewrites.resetRegs {lo hi : Nat} (h : Rewrites s t) : Rewrites s (t.resetRegs lo hi) := h.keep

theorem Rewrites.clearIsland {i : Nat} (h : Rewrites s t) : Rewrites s (t.clearIsland i) :=
  .ite (h.foldl fun _ _ k => k.setFld.setFlag.resetRegs) (.ite h.resetRegs (.ite h.keep (.ite h.keep (.ite (h.foldl
    fun _ _ k => .ite k.resetRegs k) (.ite (h.foldl fun _ _ k => .ite k.resetRegs.wr k) (.ite h.keep (.ite h.keep
    (.ite h.keep (.ite h.resetRegs (.ite h.keep h))))))))))

theorem Rewrites.resetIsland {i : Nat} (h : Rewrites s t) : Rewrites s (t.resetIsland i) := .ite h h.keep.killLoads.clearIsland

theorem Rewrites.releaseIsland {i : Nat} (h : Rewrites s t) : Rewrites s (t.releaseIsland i) :=
  .ite h (.ite (.ite h.keep h.setFlag) ((Rewrites.ite h.keep h.setFlag).setFlag.wrapAdd))

theorem Rewrites.resetClockless (h : Rewrites s t) : Rewrites s t.resetClockless :=
  (h.keep.foldl fun _ _ k => k.loseEvents).foldl fun _ _ k => .ite k.setFlag k

theorem Rewrites.releaseClockless (h : Rewrites s t) : Rewrites s t.releaseClockless :=
  h.foldl fun _ _ k => .ite k.releaseIsland k

theorem Rewrites.laneLeaves {n dest : Nat} (h : Rewrites s t) : Rewrites s (t.laneLeaves n dest) :=
  .ite (.ite h.setFld.setFld.wrapAdd h.setFld.setFld.wrapAdd.crossInc) h.setFld.setFld

theorem Rewrites.setLink {l : Nat} {x : Link} (h : Rewrites s t) : Rewrites s (t.setLink l x) := h.keep
theorem Rewrites.updLink {l : Nat} {f : Link → Link} (h : Rewrites s t) : Rewrites s (t.updLink l f) := h.setLink
theorem Rewrites.countLinks (h : Rewrites s t) : Rewrites s t.countLinks := h.setFld
theorem Rewrites.freeFlits {l n : Nat} (h : Rewrites s t) : Rewrites s (t.freeFlits l n) := h.updLink
theorem Rewrites.abandonOut {k l : Nat} (h : Rewrites s t) : Rewrites s (t.abandonOut k l) := h.setLink.freeFlits

theorem Rewrites.giveUp {l : Nat} {c : RxPkt} (h : Rewrites s t) : Rewrites s (t.giveUp l c) := by
  unfold State.giveUp
  split
  · exact h.abandonOut
  · exact h.freeCells
  · exact h

theorem Rewrites.linkDown {l dest : Nat} (h : Rewrites s t) : Rewrites s (t.linkDown l dest) := by
  unfold State.linkDown
  extract_lets a x u v w y z rootlink p src rootlink' q rootlink''
  have hv : Rewrites s v := h.setFld.wrapAdd.satAdd
  clear_value v
  have hw : Rewrites s w := by
    simp only [w]
    split
    · exact .ite hv.giveUp hv
    · exact hv
  clear_value w
  have hy : Rewrites s y := by
    simp only [y]
    split
    · exact hw.freeFlits
    · exact hw
  clear_value y
  have hz : Rewrites s z := hy.setLink
  have hp : Rewrites s p := .keep hz
  clear_value p
  have hq : Rewrites s q := .ite (.keep hp.setFld.setFld) hp
  clear_value q
  exact .ite h.setFld (.crossInc (.countLinks (.keep hq)))

theorem Rewrites.linkFalls {l : Nat} (h : Rewrites s t) : Rewrites s (t.linkFalls l) :=
  .ite (h.foldl fun _ _ k => .ite k.laneLeaves k) ((h.foldl fun _ _ k => .ite k.laneLeaves k).linkDown.setFld)

theorem Rewrites.dropReads {c p : Nat} (h : Rewrites s t) : Rewrites s (t.dropReads c p) := by
  unfold State.dropReads
  refine h.foldl fun _ _ k => k.foldl fun _ _ m => ?_
  extract_lets r
  have hr : Rewrites s r.2 := by
    simp only [r]
    split
    · exact m
    · exact .iteSnd m.freeBool m
  clear_value r
  exact .ite (.ite hr.killLoads.portError hr) m

theorem Rewrites.resetEndpoint (h : Rewrites s t) : Rewrites s t.resetEndpoint := h.resetIsland.keep

theorem Rewrites.portDown {c p : Nat} (h : Rewrites s t) : Rewrites s (t.portDown c p) :=
  .ite h (.ite h.setFlag.setFld.setFld.wrapAdd.resetEndpoint h.setFlag.setFld.setFld.wrapAdd.dropReads)

theorem Rewrites.laneDown {n dest : Nat} (h : Rewrites s t) : Rewrites s (t.laneDown n dest) := by
  unfold State.laneDown
  extract_lets u v port
  have hv : Rewrites s v := by
    simp only [v]
    split
    · exact .ite (.ite h.laneLeaves.linkFalls h.laneLeaves) h.laneLeaves.linkDown
    · exact h.laneLeaves
  clear_value port v
  split
  · exact hv.portDown
  · exact hv

theorem Rewrites.entryDown {c : Nat} (h : Rewrites s t) : Rewrites s (t.entryDown c) :=
  (h.foldl fun _ _ k => .ite k.laneDown k).foldl fun _ _ k => k.portDown

theorem Rewrites.octetDown {o dest : Nat} (h : Rewrites s t) : Rewrites s (t.octetDown o dest) :=
  h.foldl fun _ _ k => k.laneDown

theorem Rewrites.islandLinks {i : Nat} (h : Rewrites s t) : Rewrites s (t.islandLinks i) :=
  .ite (h.foldl fun _ _ k => .ite k.laneDown k) (.ite h.entryDown (.ite (h.foldl fun _ _ k => .ite k.linkFalls k) h))

theorem Rewrites.followRail {r : Nat} (h : Rewrites s t) : Rewrites s (t.followRail r) := h.setFld
theorem Rewrites.followRails (h : Rewrites s t) : Rewrites s t.followRails := h.foldl fun _ _ k => k.followRail
theorem Rewrites.railStops {r : Nat} (h : Rewrites s t) : Rewrites s (t.railStops r) := .ite h.setFlag.setFld h

theorem Rewrites.domainEffect {d : Nat} {on : Bool} (h : Rewrites s t) : Rewrites s (t.domainEffect d on) :=
  .ite h.setFlag (.ite h.setFlag (.ite h.setFlag h))

theorem Rewrites.domainOff {d : Nat} (h : Rewrites s t) : Rewrites s (t.domainOff d) := by
  unfold State.domainOff
  extract_lets a power u v w x y
  have hu : Rewrites s u := .keep h.setDomState
  have hv : Rewrites s v := .ite hu.octetDown hu
  clear_value v
  have hw : Rewrites s w := hv.foldl fun _ _ k => (Rewrites.ite k.islandLinks k).resetIsland
  clear_value w
  have hx : Rewrites s x := by
    simp only [x]
    split
    · exact hw.railStops
    · exact hw
  clear_value x
  exact .ite h (Rewrites.ite hx.resetClockless hx).domainEffect

theorem Rewrites.allOffBut {keep : List Nat} (h : Rewrites s t) : Rewrites s (t.allOffBut keep) :=
  h.foldl fun _ _ k => .ite k k.domainOff

theorem Rewrites.noStopCause {c : Nat} (h : Rewrites s t) : Rewrites s (t.noStopCause c) := h.foldl fun _ _ k => k.updGlade

theorem Rewrites.haltGlade {c : Nat} {dest : RunState} (h : Rewrites s t) : Rewrites s (t.haltGlade c dest) :=
  .ite h (.ite h ((Rewrites.ite h h.noStopCause).halt))

theorem Rewrites.fenceGlade {c : Nat} (h : Rewrites s t) : Rewrites s (t.fenceGlade c) :=
  .ite h ((Rewrites.ite h h.noStopCause).halt)

theorem Rewrites.fenceGrove {g : Nat} (h : Rewrites s t) : Rewrites s (t.fenceGrove g) :=
  h.setFlag.foldl fun _ _ k => k.fenceGlade

theorem Rewrites.setMode {m : Nat} (h : Rewrites s t) : Rewrites s (t.setMode m) := h.keep.tallyInc
theorem Rewrites.dropQueued {r : Nat} (h : Rewrites s t) : Rewrites s (t.dropQueued r) := .ite h.keep h

theorem Rewrites.shutDown (h : Rewrites s t) : Rewrites s t.shutDown :=
  (h.foldl fun _ _ k => .ite k k.haltOne).haltOne.allOffBut.keep

theorem Rewrites.abandonRegrow (h : Rewrites s t) : Rewrites s t.abandonRegrow := by
  unfold State.abandonRegrow
  split
  · exact h
  · exact h.keep

theorem Rewrites.driveSafe (h : Rewrites s t) : Rewrites s t.driveSafe := h.keep
theorem Rewrites.writeSafeRecord (h : Rewrites s t) : Rewrites s t.writeSafeRecord := .ite h h.keep.updateRecord

theorem Rewrites.safeBody (h : Rewrites s t) : Rewrites s t.safeBody := by
  unfold State.safeBody
  with_reducible exact (h.abandonRegrow.driveSafe.dropQueued.setMode.setFld.foldl fun _ _ k => k.fenceGrove).keep

theorem Rewrites.enterSafe {source code grove addr info : Nat} (h : Rewrites s t) :
    Rewrites s (t.enterSafe source code grove addr info) :=
  .ite h (.ite (.ite h.keep.keep h.keep.safeBody) h.driveSafe)

theorem Rewrites.noteFault {f : Finding} {r : Nat} (h : Rewrites s t) : Rewrites s (t.noteFault f r) := h.setFlag.wr

theorem Rewrites.applyReaction {f : Finding} {r : Nat} (h : Rewrites s t) : Rewrites s (t.applyReaction f r) := by
  unfold State.applyReaction
  dsimp only
  split
  · refine .ite ((Rewrites.ite h ?_).haltGlade) (.ite h ?_)
    · split
      · exact h.enterSafe
      · exact h.fenceGrove
      · exact h.fenceGlade
      · exact h
    · split
      · exact h.enterSafe
      · exact h.fenceGrove
      · exact h.fenceGlade
      · exact h
  · refine .ite h ?_
    split
    · exact h.enterSafe
    · exact h.fenceGrove
    · exact h.fenceGlade
    · exact h

theorem Rewrites.heartwoodFault {f : Finding} (h : Rewrites s t) : Rewrites s (t.heartwoodFault f) :=
  .ite (.ite h.recordError h) ((Rewrites.ite ((Rewrites.ite h.noStopCause.haltOne h).recordError) (.ite h.recordError
    h)).noteFault.enterSafe)

theorem Rewrites.react (h : Rewrites s t) : Rewrites s t.react := by
  unfold State.react
  extract_lets fs u heartwood v glades w strongest
  clear_value heartwood
  have hv : Rewrites s v := by
    simp only [v]
    split
    · exact .heartwoodFault (.keep h)
    · exact .keep h
  have hw : Rewrites s w := hv.foldl fun _ _ k => by
    split
    · exact .ite k k.tallyInc
    · exact k
  clear_value w strongest
  refine .ite h ?_
  split
  · exact hw
  · exact (Rewrites.ite hw hw.noteFault).foldl fun _ _ k => .ite k.applyReaction k

theorem Rewrites.pollShutdown (h : Rewrites s t) : Rewrites s t.pollShutdown :=
  .ite h (.ite (.ite h.writeSafeRecord.shutDown h) (.ite (.ite (((((h.foldl fun _ _ k =>
      k.domainOff.domainOff).domainOff.domainOff.foldl fun _ _ k => .ite k k.domainOff).foldl fun _ _ k => .ite k
      k.laneDown).foldl fun _ _ k => .ite k.setDomState k).writeSafeRecord.keep) h) (.ite h.writeSafeRecord h)))

/-! ### The time base, timers and clock monitors -/

theorem Rewrites.timersPass {c c' : Nat} {once : Bool} (h : Rewrites s t) : Rewrites s (t.timersPass c c' once) :=
  h.foldl fun _ _ k => .ite k k.crossInc

theorem Rewrites.setCount {c : Nat} (h : Rewrites s t) : Rewrites s (t.setCount c) := h.keep
theorem Rewrites.timeStep {v : W64} (h : Rewrites s t) : Rewrites s (t.timeStep v) :=
  .ite h (.ite h.setCount.timersPass h.setCount)

/-! ### Wakes -/

theorem Rewrites.wakeDomain {d : Nat} (h : Rewrites s t) : Rewrites s (t.wakeDomain d) := .ite h h.keep

theorem Rewrites.startWake {cause target : Nat} (h : Rewrites s t) : Rewrites s (t.startWake cause target) :=
  h.keep.foldl fun _ _ k => .ite k.wakeDomain k

theorem Rewrites.wakeNow {cause target : Nat} (h : Rewrites s t) : Rewrites s (t.wakeNow cause target) :=
  .ite (.ite h.keep h) (.ite h.startWake h)

theorem Rewrites.emptyQueues {g : Nat} (h : Rewrites s t) : Rewrites s (t.emptyQueues g) := by
  unfold State.emptyQueues
  refine (h.foldl fun _ _ k => k.updDesc).keep.foldl fun _ _ k => ?_
  dsimp only
  split
  · exact .ite ((Rewrites.ite k k.updAsync).setTxn) (.ite k k.updAsync)
  · exact .ite k k.updAsync

theorem Rewrites.freshGlade {i : Nat} {run : RunState} (h : Rewrites s t) : Rewrites s (t.freshGlade i run) := h.keep
theorem Rewrites.freshTxu {g : Nat} (h : Rewrites s t) : Rewrites s (t.freshTxu g) := h.setTxu

theorem Rewrites.loseTxn {i : Nat} (h : Rewrites s t) : Rewrites s (t.loseTxn i) := by
  unfold State.loseTxn
  dsimp only
  split
  · exact .ite h.interruptTxn.abortTxn h.interruptTxn
  · exact h.interruptTxn

theorem Rewrites.loseGlades {g : Nat} {run : RunState} (h : Rewrites s t) : Rewrites s (t.loseGlades g run) :=
  (h.foldl fun _ _ k => k.discardOpen.loseTxn.freshGlade).freshTxu

theorem Rewrites.loseMemories {g : Nat} (h : Rewrites s t) : Rewrites s (t.loseMemories g) := h.clearGrove.emptyQueues
theorem Rewrites.loseHeartwood (h : Rewrites s t) : Rewrites s t.loseHeartwood := h.bulkClear.keep

theorem Rewrites.resetOctet {o : Nat} (h : Rewrites s t) : Rewrites s (t.resetOctet o) :=
  .ite ((h.foldl fun _ _ k => k.resetRegs.setFld).resetRegs.resetRegs) (h.foldl fun _ _ k => k.resetRegs.setFld)

theorem Rewrites.resetEngine {e : Nat} (h : Rewrites s t) : Rewrites s (t.resetEngine e) := .ite h.keep.keep h.keep
theorem Rewrites.resetGroveL {g : Nat} (h : Rewrites s t) : Rewrites s (t.resetGroveL g) := h.resetRegs
theorem Rewrites.resetGroveM {g : Nat} (h : Rewrites s t) : Rewrites s (t.resetGroveM g) := h.resetRegs.wr

theorem Rewrites.restart {d : Nat} (h : Rewrites s t) : Rewrites s (t.restart d) :=
  .ite h (.ite h.keep.loseHeartwood (.ite h.keep.resetGroveL.loseGlades (.ite h.keep.resetGroveM.loseMemories (.ite
    h.keep.clearIsland (.ite h.keep.resetOctet (.ite h.keep.clearIsland (.ite (h.keep.foldl fun _ _ k => .ite
    k.resetRegs.setFld k) (.ite h.keep.clearIsland (.ite h.keep.resetEngine (.ite h.keep.keep (.ite h.keep.clearIsland
    h.keep)))))))))))

/-! ### The Tally controller and the GPIO inputs -/

theorem Rewrites.tallySub {k n : Nat} (h : Rewrites s t) : Rewrites s (t.tallySub k n) := .ite h h.setFld
theorem Rewrites.tallyRaise {v : W64} (h : Rewrites s t) : Rewrites s (t.tallyRaise v) := .ite h.tallyInc h.setFlag

theorem Rewrites.routeWrite {k : Nat} {v : W64} (h : Rewrites s t) : Rewrites s (t.routeWrite k v) := by
  unfold State.routeWrite
  refine .ite h (.ite h.setFlag ?_)
  dsimp only
  split
  · exact .ite h.wr.fixGroup h.wr
  · exact h.wr

theorem Rewrites.setSamples {n pend active : Nat} (h : Rewrites s t) : Rewrites s (t.setSamples n pend active) := h.keep
theorem Rewrites.gpioStuck {n : Nat} (h : Rewrites s t) : Rewrites s (t.gpioStuck n) := .ite h h.keep.crossInc
theorem Rewrites.gpiWrite {n : Nat} {v : W64} (h : Rewrites s t) : Rewrites s (t.gpiWrite n v) := h.gpioStuck.setSamples.wr

/-! ### Power modes -/

theorem Rewrites.beginEntry {m : Nat} (h : Rewrites s t) : Rewrites s (t.beginEntry m) := .ite h.keep.setFlag h.keep

theorem Rewrites.takeUp {m : Nat} (h : Rewrites s t) : Rewrites s (t.takeUp m) :=
  .ite h.setFld (.ite h.setFld (.ite h.keep h.beginEntry))

theorem Rewrites.requestMode {m : Nat} (h : Rewrites s t) : Rewrites s (t.requestMode m) :=
  .ite ((Rewrites.ite h.setFld.setFlag.setFld h.setFld.setFlag).setFlag.setFld) ((Rewrites.ite h.keep
    h.setFld.setFlag).takeUp)

theorem Rewrites.policyOff {d : Nat} (h : Rewrites s t) : Rewrites s (t.policyOff d) := by
  unfold State.policyOff
  refine (?_ : Rewrites _ _).domainOff
  split
  · exact (Rewrites.ite h.fenceGrove h).keep
  · exact h.keep

theorem Rewrites.domainPolicy {lean : Bool} (h : Rewrites s t) : Rewrites s (t.domainPolicy lean) :=
  h.foldl fun _ _ k => .ite (.ite k.wakeDomain k) k.policyOff

theorem Rewrites.pollIdle (h : Rewrites s t) : Rewrites s t.pollIdle := .ite h.setMode.domainPolicy h

theorem Rewrites.islandUp {i : Nat} (h : Rewrites s t) : Rewrites s (t.islandUp i) := .ite h (.ite h.releaseIsland h.setFlag)
theorem Rewrites.octetUp {o : Nat} (h : Rewrites s t) : Rewrites s (t.octetUp o) := h.foldl fun _ _ k => .ite k.setFld.setFld k
theorem Rewrites.noteRetried {d : Nat} (h : Rewrites s t) : Rewrites s (t.noteRetried d) := .ite h h.recordError

theorem Rewrites.domainWoken {d : Nat} (h : Rewrites s t) : Rewrites s (t.domainWoken d) :=
  h.setDomState.wrapAdd.noteRetried.domainEffect

theorem Rewrites.octetReady {o : Nat} (h : Rewrites s t) : Rewrites s (t.octetReady o) :=
  .ite ((h.restart.foldl fun _ _ k => k.islandUp).octetUp) ((h.restart.foldl fun _ _ k =>
      k.islandUp).octetUp.domainWoken)

theorem Rewrites.domainReady {d : Nat} (h : Rewrites s t) : Rewrites s (t.domainReady d) := by
  unfold State.domainReady
  extract_lets u v w x
  have hu : Rewrites s u := h.restart.domainWoken
  clear_value u
  have hv : Rewrites s v := by
    simp only [v]
    split
    · exact (Rewrites.ite hu.setFlag hu.groveWakes).followRail
    · exact .ite hu.setFlag.followRail hu
  clear_value v
  have hw : Rewrites s w := hv.foldl fun _ _ k => k.islandUp
  clear_value w
  have hx : Rewrites s x := .ite hw.releaseClockless hw
  clear_value x
  exact .ite h (.ite (.ite h h.octetReady) (.ite (hx.foldl fun _ _ k => .ite k.setFld k) hx))

theorem Rewrites.samplerFailed {periods : Nat} (h : Rewrites s t) : Rewrites s (t.samplerFailed periods) :=
  .ite h h.writeLookout.wakeNow

theorem Rewrites.domainFailed {d periods : Nat} (h : Rewrites s t) : Rewrites s (t.domainFailed d periods) := by
  unfold State.domainFailed
  extract_lets g u info v w x y
  have k : Rewrites s y := h.domainOff.setFlag.recordError.tallyInc.writeLastFault.find
  clear_value y g
  split
  · exact k.fenceGrove.setFlag
  · exact .ite k.enterSafe (.ite (k.foldl fun _ _ k => .ite k k.setFld) (.ite (k.foldl fun _ _ k => .ite k.laneDown k)
      (.ite (k.foldl fun _ _ k => k.failJournal) (.ite k.samplerFailed k))))

theorem Rewrites.domWrite {d : Nat} {v : W64} (h : Rewrites s t) : Rewrites s (t.domWrite d v) :=
  .ite h.setFlag (.ite (.ite ((Rewrites.ite h.setFld.setFlag h.setFld).setFlag) (.ite h.setFld.setFlag h.setFld)) (.ite
    (.ite (.ite ((Rewrites.ite h.setFld.setFlag h.setFld).setFlag) (.ite h.setFld.setFlag h.setFld)) ((Rewrites.ite
    ((Rewrites.ite h.setFld.setFlag h.setFld).setFlag) (.ite h.setFld.setFlag h.setFld)).wakeDomain)) ((Rewrites.ite
    ((Rewrites.ite h.setFld.setFlag h.setFld).setFlag) (.ite h.setFld.setFlag h.setFld)).policyOff)))

theorem Rewrites.railWrite {r : Nat} {v : W64} (h : Rewrites s t) : Rewrites s (t.railWrite r v) :=
  .ite h.setFlag (.ite h.setFld h.setFld.followRail)

theorem Rewrites.leanWrite {v : W64} (h : Rewrites s t) : Rewrites s (t.leanWrite v) :=
  .ite h.setFlag (.ite h.setFld.setFld.followRails.domainPolicy h.setFld.setFld)

end Sys2Proof.Machine
end

section
/-! SUPPORT. Memory is rewritten byte by byte: lanes, ports and Rootlink. -/

namespace Sys2Proof.Machine

variable {s t : State}

/-! ### The low-speed ports and JTAG -/

theorem Rewrites.storeFlash {ws : List (Nat × Byte)} (h : Rewrites s t) : Rewrites s (t.storeFlash ws) := h.keep

theorem Rewrites.putData {base : Nat} {bs : List Byte} (h : Rewrites s t) : Rewrites s (t.putData base bs) :=
  h.foldl fun _ _ k => k.setFld

theorem Rewrites.xspiCmd {v : W64} {r : FlashReply} (h : Rewrites s t) : Rewrites s (t.xspiCmd v r) := by
  unfold State.xspiCmd
  with_reducible exact .ite h.setFld (.ite ((Rewrites.ite h.setFld.setFlag.keep.storeFlash
      h.setFld.setFlag.keep.storeFlash.putData).setFld) ((Rewrites.ite h.setFld.setFlag.keep.storeFlash
      h.setFld.setFlag.keep.storeFlash.putData).setFlag.keep))

theorem Rewrites.pollFlash (h : Rewrites s t) : Rewrites s t.pollFlash := .ite h.keep h
theorem Rewrites.i2cTransfer {v : W64} {result : Nat} {bytes : List Byte} (h : Rewrites s t) :
    Rewrites s (t.i2cTransfer v result bytes) :=
  .ite h.wr ((Rewrites.ite h.keep.putData h.keep).setFld)

theorem Rewrites.uartTx {b : Byte} (h : Rewrites s t) : Rewrites s (t.uartTx b) := .ite h.keep h

theorem Rewrites.uartRead (h : Rewrites s t) : Rewrites s t.uartRead := h.keep

theorem Rewrites.ssoWrite {who : Option Nat} {v : W64} (h : Rewrites s t) : Rewrites s (t.ssoWrite who v) := by
  unfold State.ssoWrite
  dsimp only
  split
  · exact h.setFld.setFld
  · exact h.foldl fun _ _ k => .ite k.setFlag k

/-! ### Ethernet -/

theorem Rewrites.writeWords {q n : Nat} {cells : List Nat} {ws : List W64} (h : Rewrites s t) :
    Written.Reached s (t.writeWords q cells n ws) := by
  induction ws generalizing t cells n with
  | nil => exact h
  | cons w ws ih =>
    unfold State.writeWords
    split
    next e => exact ih (h.appendWord.of_eq e)
    next => exact h.freeCells
    next e => exact h.appendWord.of_eq e

theorem Rewrites.qmDrop {k : Nat} (h : Rewrites s t) : Rewrites s (t.qmDrop k) := h.satAdd

theorem Rewrites.linkIngress {q src len : Nat} {cells : List Nat} (h : Rewrites s t) :
    Rewrites s (t.linkIngress q src len cells) := by
  unfold State.linkIngress
  refine .ite h.freeCells.qmDrop ?_
  split
  next e => exact h.linkPacket.of_eq e
  next e => exact (h.linkPacket.of_eq e).qmDrop

theorem Rewrites.enqueue {q src : Nat} {words : List W64} (h : Rewrites s t) : Rewrites s (t.enqueue q src words) := by
  unfold State.enqueue
  split
  next e => exact (h.writeWords.of_eq e).linkIngress
  next e => exact (h.writeWords.of_eq e).qmDrop
  next e => exact (h.writeWords.of_eq e).qmDrop

theorem Rewrites.classify {n part : Nat} {key : Option Nat} (h : Rewrites s t) : Rewrites s (t.classify n part key).1 := by
  unfold State.classify
  dsimp only
  split
  · exact h
  · exact h
  · exact .iteFst h (.iteFst h.getDesc h.getDesc)

theorem Rewrites.ingressRefused (h : Rewrites s t) : Rewrites s t.ingressRefused := by
  unfold State.ingressRefused
  exact h.freeWord.qmDrop.recordRefusal

theorem Rewrites.frameLink {l : Nat} {f : List Byte} {time q i : Nat} (h : Rewrites s t) :
    Rewrites s (t.frameLink l f time q i) :=
  h.enqueue

/-! ### Rootlink -/

theorem Rewrites.sendBlocks {l : Nat} {ws : List W64} (h : Rewrites s t) : Rewrites s (t.sendBlocks l ws) :=
  h.foldl fun _ _ k => k.keep

theorem Rewrites.placeFlit {l fseq : Nat} {f : OutFlit} (h : Rewrites s t) : Rewrites s (t.placeFlit l fseq f) :=
  h.keep.sendBlocks

theorem Rewrites.sendFlit {l fseq : Nat} {f : OutFlit} (h : Rewrites s t) : Rewrites s (t.sendFlit l fseq f) := by
  unfold State.sendFlit
  exact (Rewrites.ite h.placeFlit.updLink h).placeFlit.updLink

theorem Rewrites.pumpOne {l : Nat} (h : Rewrites s t) : EverySome (Rewrites s) (t.pumpOne l) := by
  unfold State.pumpOne
  dsimp only
  split
  · exact trivial
  · split
    · exact h.setLink.sendFlit
    next x _ _ _ _ =>
      split
      · split
        · refine .map (P := fun x => Rewrites s x) ?_ fun x k => ?_
          · exact h.setLink.sendFlit
          · exact k.freeFlits
        · exact h.setLink.sendFlit
      · exact trivial
    · exact trivial

theorem Rewrites.pumpLink {l : Nat} (h : Rewrites s t) : Rewrites s (t.pumpLink l) := by
  unfold State.pumpLink
  refine h.iter fun _ k => ?_
  split
  next e => exact (k.pumpOne.of_eq e)
  · exact k

theorem Rewrites.queueCtrl {l : Nat} {f : OutFlit} (h : Rewrites s t) : Rewrites s (t.queueCtrl l f) :=
  .ite h.updLink.pumpLink h

theorem Rewrites.sendTrain {l : Nat} {e : List Byte} (h : Rewrites s t) : Rewrites s (t.sendTrain l e) := by
  unfold State.sendTrain
  refine (?_ : Rewrites _ _).foldl fun _ _ k => k.keep
  split
  · exact h.freeWord
  · exact h.freeWord.freeWord

theorem Rewrites.sendTrains (h : Rewrites s t) : Rewrites s t.sendTrains := h.foldl fun _ _ k => .ite k.updLink.sendTrain k

theorem Rewrites.forwardFlit {k l : Nat} {f : RxFlit} (h : Rewrites s t) : Rewrites s (t.forwardFlit k l f) :=
  h.updLink.pumpLink

theorem Rewrites.dropPacket {l : Nat} (h : Rewrites s t) : Rewrites s (t.dropPacket l) := h.satAdd

theorem Rewrites.openIngress {l : Nat} {h' : W64} (h : Rewrites s t) : Rewrites s (t.openIngress l h').1 := by
  unfold State.openIngress
  dsimp only
  split
  next e => exact h.classify.of_eq e
  next e => exact h.classify.of_eq e
  next e => exact h.classify.of_eq e

theorem Rewrites.putIngress {l n : Nat} {ws : List W64} {d : RxDest} (h : Rewrites s t) :
    EverySome (fun x => Rewrites s x.1) (t.putIngress l n ws d) := by
  unfold State.putIngress
  split
  · dsimp only
    split
    · exact trivial
    · split
      next e => exact (h.writeWords.of_eq e).pair
      next e =>
        split
        · exact (h.writeWords.of_eq e).qmDrop.pair
        · exact trivial
      next e => exact (h.writeWords.of_eq e).qmDrop.pair
  · exact h.pair

theorem Rewrites.endIngress {l len : Nat} {d : RxDest} (h : Rewrites s t) : Rewrites s (t.endIngress l len d) := by
  unfold State.endIngress
  split
  · exact h.linkIngress
  · exact h.qmDrop
  · exact h.ingressRefused
  · exact h

theorem Rewrites.setCur {l : Nat} {c : Option RxPkt} (h : Rewrites s t) : Rewrites s (t.setCur l c) := h.updLink
theorem Rewrites.freeSlotOf {l : Nat} {f : RxFlit} (h : Rewrites s t) : Rewrites s (t.freeSlotOf l f) := .ite h.freeFlits h
theorem Rewrites.dropFlit {l : Nat} {f : RxFlit} (h : Rewrites s t) : Rewrites s (t.dropFlit l f) := h.setCur.freeSlotOf

theorem Rewrites.passFlit {l : Nat} {f : RxFlit} {c : RxPkt} (h : Rewrites s t) :
    EverySome (Rewrites s) (t.passFlit l f c) := by
  unfold State.passFlit
  dsimp only
  split
  · exact h.dropFlit
  · split
    · exact h.giveUp.dropPacket.dropFlit
    · split
      · exact trivial
      · exact h.putIngress.map fun _ k => .ite k.endIngress.setCur.freeSlotOf k.setCur.freeSlotOf
  · split
    · exact h.abandonOut.dropPacket.dropFlit
    · split
      · exact h.dropFlit
      · split
        · exact trivial
        · exact h.setCur.forwardFlit

theorem Rewrites.passAnew {l : Nat} {f : RxFlit} {c : RxPkt} (h : Rewrites s t) :
    EverySome (Rewrites s) (t.passAnew l f c) := by
  unfold State.passAnew
  split
  · exact h.dropPacket.dropFlit
  · exact h.passFlit

theorem Rewrites.cutShort {l : Nat} (h : Rewrites s t) : Rewrites s (t.cutShort l) := by
  unfold State.cutShort
  split
  · exact h
  · exact h.setCur
  · exact h.giveUp.dropPacket.setCur

theorem Rewrites.beginPacket {l : Nat} {f : RxFlit} (h : Rewrites s t) : Rewrites s (t.beginPacket l f) := by
  unfold State.beginPacket
  dsimp only
  split
  · exact .ite ((Rewrites.ite h.cutShort h).openIngress.setCur) (.ite h.cutShort h)
  · exact .ite h.cutShort h

theorem Rewrites.passOne {l : Nat} (h : Rewrites s t) : EverySome (Rewrites s) (t.passOne l) := by
  unfold State.passOne
  split
  · exact trivial
  next x _ _ _ =>
    refine .map (P := fun x => Rewrites s x) ?_ fun x k => ?_
    · split
      · exact h.passFlit
      · exact h.passAnew
    · exact k.updLink

theorem Rewrites.passNext {l : Nat} (h : Rewrites s t) : Rewrites s (t.passNext l) := by
  unfold State.passNext
  split
  · exact h
  · exact h.beginPacket.passOne.getD_of h.beginPacket

theorem Rewrites.passWaiting {l : Nat} (h : Rewrites s t) : Rewrites s (t.passWaiting l) := h.iter fun _ k => k.passNext

theorem Rewrites.mboxPop {v : W64} (h : Rewrites s t) : Rewrites s (t.mboxPop v) := .ite h.keep h

theorem Rewrites.setRoute {x l : Nat} (h : Rewrites s t) : Rewrites s (t.setRoute x l) := h.setFld.setFlag

theorem Rewrites.sendOffer (h : Rewrites s t) : Rewrites s t.sendOffer := by
  unfold State.sendOffer
  dsimp only
  split
  · exact .ite (.ite h.keep h) (.ite h h.keep.queueCtrl)
  · exact h

theorem Rewrites.startCut {id : Nat} {links : List Nat} (h : Rewrites s t) : Rewrites s (t.startCut id links) := h.keep

theorem Rewrites.pollBlaze (h : Rewrites s t) : Rewrites s t.pollBlaze := by
  unfold State.pollBlaze
  refine h.keep.foldl fun _ _ k => .ite k.setFld.setFld ?_
  split
  · exact k.queueCtrl
  · exact k

theorem Rewrites.updRun {id : Nat} {f : BlazeRun → BlazeRun} (h : Rewrites s t) : Rewrites s (t.updRun id f) := h.keep

theorem Rewrites.blazeFlit {l id : Nat} (h : Rewrites s t) : Rewrites s (t.blazeFlit l id) := by
  unfold State.blazeFlit
  refine .ite h.updRun ?_
  split
  · exact .ite h.keep (.ite h h.keep)
  · exact .ite h (.ite h.startCut h.setFlag)

theorem Rewrites.releaseRootlink (h : Rewrites s t) : Rewrites s t.releaseRootlink := by
  unfold State.releaseRootlink
  dsimp only
  split
  · refine (?_ : Rewrites _ _).foldl fun _ _ k => k.passWaiting.pumpLink
    split
    · with_reducible exact h
    · with_reducible exact h.keep.foldl fun _ _ k => k.frameLink
  · refine (?_ : Rewrites _ _).foldl fun _ _ k => k.blazeFlit
    split
    · with_reducible exact (h.foldl fun _ _ k => k.passWaiting.pumpLink).keep
    · with_reducible exact ((h.keep.foldl fun _ _ k => k.frameLink).foldl fun _ _ k => k.passWaiting.pumpLink).keep

theorem Rewrites.blazeTrigger (h : Rewrites s t) : Rewrites s t.blazeTrigger := .ite h.setFlag h

theorem Rewrites.blazeAsk (h : Rewrites s t) : Rewrites s t.blazeAsk := by
  unfold State.blazeAsk
  split
  · exact .ite h h.queueCtrl
  · exact h

theorem Rewrites.endCommand (h : Rewrites s t) : Rewrites s t.endCommand := by
  unfold State.endCommand
  split
  · exact h
  · exact .ite h.keep h

theorem Rewrites.rtlCmd {v : W64} {op : Nat} {k : State → State × Nat × Option Nat} (h : Rewrites s t)
    (hk : ∀ u, Rewrites s u → Rewrites s (k u).1) :
    Rewrites s (t.rtlCmd v op k) := by
  unfold State.rtlCmd
  refine .ite h.wr ?_
  dsimp only
  split
  · exact .ite (hk _ h.wr).setFld (.keep (hk _ h.wr).setFld.setFld)
  · exact (hk _ h.wr).setFld

theorem Rewrites.rtlSend {v : W64} {sub : Nat} {words : List W64} (h : Rewrites s t) :
    Rewrites s (t.rtlSend v sub words).1 := by
  unfold State.rtlSend
  refine .iteFst (.iteFst h.queueCtrl h) ?_
  split
  · exact h
  · exact h
  · exact .iteFst h.queueCtrl h

theorem Rewrites.rtlAssignCmd {v : W64} (h : Rewrites s t) : Rewrites s (t.rtlAssignCmd v) := by
  unfold State.rtlAssignCmd
  with_reducible exact h.rtlCmd (fun _ k => .iteFst k.pair (.iteFst k.pair (.iteFst k.pair (.iteFst k.pair
      k.setRoute.queueCtrl.pair))))

theorem Rewrites.blazeStartCmd {v : W64} (h : Rewrites s t) : Rewrites s (t.blazeStartCmd v) := by
  unfold State.blazeStartCmd
  with_reducible exact h.rtlCmd (fun _ k => .iteFst k.blazeTrigger.pair k.pair)

theorem Rewrites.blazeRequestCmd {v : W64} (h : Rewrites s t) : Rewrites s (t.blazeRequestCmd v) := by
  unfold State.blazeRequestCmd
  refine h.rtlCmd (fun _ k => .iteFst k.pair ?_)
  dsimp only
  split
  · with_reducible exact .iteFst ((Rewrites.ite k.keep k).blazeAsk.pair) ((Rewrites.ite k.keep k).pair)
  · with_reducible exact (Rewrites.ite k.keep k).pair

theorem Rewrites.bootImage {a n : Nat} (h : Rewrites s t) : Rewrites s (t.bootImage a n).1 := by
  unfold State.bootImage
  split
  · exact h.recordRefusal.pair
  · exact .iteFst h.pair h.readMem

theorem Rewrites.bootSendCmd {v : W64} (h : Rewrites s t) : Rewrites s (t.bootSendCmd v) := by
  unfold State.bootSendCmd
  refine h.rtlCmd (fun _ k => .iteFst k.pair (.iteFst k.pair (.iteFst k.pair ?_)))
  split
  next e => with_reducible exact (k.bootImage.of_eq e).pair
  next e => with_reducible exact (k.bootImage.of_eq e).updLink.pumpLink.pair

theorem Rewrites.bootEndCmd {v : W64} (h : Rewrites s t) : Rewrites s (t.bootEndCmd v) := by
  unfold State.bootEndCmd
  with_reducible exact h.rtlCmd (fun _ k => .iteFst k.queueCtrl.pair k.pair)

theorem Rewrites.negSetCmd {v : W64} (h : Rewrites s t) : Rewrites s (t.negSetCmd v) := by
  unfold State.negSetCmd
  with_reducible exact h.rtlCmd (fun _ k => .iteFst k.pair k.rtlSend)

theorem Rewrites.msgCmd {v : W64} (h : Rewrites s t) : Rewrites s (t.msgCmd v) := by
  unfold State.msgCmd
  with_reducible exact h.rtlCmd (fun _ k => k.rtlSend)

theorem Rewrites.rtlBadOp {v : W64} (h : Rewrites s t) : Rewrites s (t.rtlBadOp v) := by
  unfold State.rtlBadOp
  with_reducible exact .ite h (h.rtlCmd (fun _ k => k.pair))

end Sys2Proof.Machine
end

section
/-! SUPPORT. Memory is rewritten byte by byte: boot and the control registers. -/

namespace Sys2Proof.Machine

variable {s t : State}

/-! ### Starting, stopping and viewing Glades -/

theorem Rewrites.pairBegins {i : Nat} (h : Rewrites s t) : Rewrites s (t.pairBegins i) := by
  unfold State.pairBegins
  split
  · exact h.keep
  · exact h

theorem Rewrites.gctlStop {i : Nat} (h : Rewrites s t) : Rewrites s (t.gctlStop i) :=
  .ite h.setFlag h.setFlag.haltGlade.recordError.tallyInc.find

theorem Rewrites.gctlStart {i : Nat} (h : Rewrites s t) : Rewrites s (t.gctlStart i) :=
  .ite h ((h.setFlag.foldl fun _ _ k => k.updGlade).pairBegins)

theorem Rewrites.viewWrite {i r : Nat} {v : W64} (h : Rewrites s t) : Rewrites s (t.viewWrite i r v) := .ite h.updGlade h

theorem Rewrites.faultAck {v : W64} (h : Rewrites s t) : Rewrites s (t.faultAck v) := .ite h.setFlag h
theorem Rewrites.safCtl {v : W64} (h : Rewrites s t) : Rewrites s (t.safCtl v) := .ite h.codesWrite.enterSafe h.codesWrite

/-! ### The ROM sequence, keys, REGROW and resets -/

theorem Rewrites.noteFail {code grove : Nat} (h : Rewrites s t) : Rewrites s (t.noteFail code grove) := h.setFld.setFld

theorem Rewrites.bootFail {code grove : Nat} (h : Rewrites s t) : Rewrites s (t.bootFail code grove) :=
  h.noteFail.writeLastFault

theorem Rewrites.setStage {n : Nat} (h : Rewrites s t) : Rewrites s (t.setStage n) := h.setFld

theorem Rewrites.bootWake {d : Nat} (h : Rewrites s t) : Rewrites s (t.bootWake d) := .ite h h.setDomState.domainReady

theorem Rewrites.noteMapError {e : MapError} (h : Rewrites s t) : Rewrites s (t.noteMapError e) := h.wr
theorem Rewrites.mapFails {e : MapError} (h : Rewrites s t) : Rewrites s (t.mapFails e) := h.noteMapError.setFld

theorem Rewrites.stagedMap {r : Requester} {off n : Nat} (h : Rewrites s t) : Rewrites s (t.stagedMap r off n).1 := by
  unfold State.stagedMap
  refine h.foldlFst fun _ _ k => ?_
  dsimp only
  split
  · exact k
  · refine .iteFst ?_ ?_
    · exact k
    · split
      next e1 => exact (k.engineRead.of_eq e1)
      next e1 => exact (k.engineRead.of_eq e1)

theorem Rewrites.stagedFw {r : Requester} {off n : Nat} (h : Rewrites s t) : Rewrites s (t.stagedFw r off n).1 :=
  .iteFst h h.engineRead

theorem Rewrites.clearStaging (h : Rewrites s t) : Rewrites s t.clearStaging := h.foldl fun _ _ k => k.bulkClear

theorem Rewrites.applyTally (h : Rewrites s t) : Rewrites s t.applyTally := by
  unfold State.applyTally
  refine h.foldl fun _ _ k => .ite k ?_
  dsimp only
  split
  · exact .ite k.wr.fixGroup k.wr
  · exact k.wr

theorem Rewrites.applyDomains {fails : GroveFails} (h : Rewrites s t) : Rewrites s (t.applyDomains fails) :=
  h.foldl fun _ _ k => .ite k.setFld.domainOff (.ite k.setFld (.ite k.setFld.domainFailed (.ite k.setFld.domainFailed
    k.setFld.bootWake)))

theorem Rewrites.applyMap {ss : List MapSection} {fails : GroveFails} (h : Rewrites s t) : Rewrites s (t.applyMap ss fails) :=
  ((((h.keep.foldl fun _ _ k => k.wr).foldl fun _ _ k => k.setFld).applyDomains.foldl fun _ _ k => .ite (k.foldl fun _
      _ m => m.bulkClear.bulkClear) k.clearGrove).foldl fun _ _ k => k.wr.freshTxu).applyTally.foldl fun _ _ k =>
      k.setFld

theorem Rewrites.lockNeg {party : Nat} (h : Rewrites s t) : Rewrites s (t.lockNeg party) :=
  .ite h ((h.setFld.setFlag.foldl fun _ _ k => .ite k (.ite (.ite k.octetUp k) k.wakeDomain)).finishRecovery)

theorem Rewrites.acceptAll (h : Rewrites s t) : Rewrites s t.acceptAll := h.wr.wr.lockNeg

theorem Rewrites.negLockWrite {byHost : Bool} (h : Rewrites s t) : Rewrites s (t.negLockWrite byHost) :=
  .ite h (.ite h.lockNeg (.ite h.lockNeg h))

theorem Rewrites.negAccept {n : Nat} {v : W64} (h : Rewrites s t) : Rewrites s (t.negAccept n v) := .ite h h.wr

theorem Rewrites.enterRun {entry : Nat} (h : Rewrites s t) : Rewrites s (t.enterRun entry) := by
  unfold State.enterRun
  exact .ite (((Rewrites.ite h.clearStaging.keep.portDown
      h.clearStaging.keep).setFlag.setMode.followRails.setStage.setGlade.foldl fun _ _ k => .ite k.wakeDomain
      k).wr.acceptAll) (((Rewrites.ite h.clearStaging.keep.portDown
      h.clearStaging.keep).setFlag.setMode.followRails.setStage.setGlade.foldl fun _ _ k => .ite k.wakeDomain k).wr)

theorem Rewrites.copyFw {fw : List Byte} (h : Rewrites s t) : Rewrites s (t.copyFw fw) := h.writeMem

theorem Rewrites.applyImages {fw img : List Byte} {ss : List MapSection} {source : Nat} {fails : GroveFails}
    (h : Rewrites s t) :
    Rewrites s (t.applyImages fw img ss source fails) := by
  unfold State.applyImages
  exact (Rewrites.ite (.ite ((h.setStage.setFld.applyMap.foldl fun _ _ k => k.wr).wr.wr.setFld)
      ((h.setStage.setFld.applyMap.foldl fun _ _ k => k.wr).wr.wr)) ((Rewrites.ite ((h.setStage.setFld.applyMap.foldl fun
      _ _ k => k.wr).wr.wr.setFld) ((h.setStage.setFld.applyMap.foldl fun _ _ k => k.wr).wr.wr)).setFlag)).enterRun

theorem Rewrites.countAttempt (h : Rewrites s t) : Rewrites s t.countAttempt := h.satAdd

theorem Rewrites.judgeStaged {fwLen mapLen : Nat} (h : Rewrites s t) :
    EveryCase (Rewrites s) (fun x => Rewrites s x.1) (t.judgeStaged fwLen mapLen) := by
  unfold State.judgeStaged
  dsimp only
  have fw := h.countAttempt.setStage (n := 4) |>.setFld (a := Reg.SM_STATUS) (hi := 2) (lo := 0) (v := 1)
    |>.stagedFw (r := .heartwood) (off := 0) (n := min fwLen 245760)
  split
  next e => exact (fw.of_eq e).setFld.bootFail
  next e =>
    split
    · exact (fw.of_eq e).setFld.bootFail
    · split
      next e1 => exact ((fw.of_eq e).stagedMap.of_eq e1).mapFails.bootFail
      next e1 =>
        split
        · exact ((fw.of_eq e).stagedMap.of_eq e1).mapFails.bootFail
        · exact (fw.of_eq e).stagedMap.of_eq e1

theorem Rewrites.checkStaged {fwLen mapLen source : Nat} {fails : GroveFails} (h : Rewrites s t) :
    EveryCase (Rewrites s) (Rewrites s) (t.checkStaged fwLen mapLen source fails) := by
  unfold State.checkStaged
  split
  next e => exact h.judgeStaged.of_eq e
  next e => exact (h.judgeStaged.of_eq e).copyFw.applyImages

theorem Rewrites.pushGo {v : W64} {fails : GroveFails} (h : Rewrites s t) : Rewrites s (t.pushGo v fails) := by
  unfold State.pushGo
  refine .ite h (.ite h.setFld.setFld ?_)
  split
  next e => exact h.setFld.setFld.checkStaged.of_eq e
  next e => exact Rewrites.setStage (.clearStaging (h.setFld.setFld.checkStaged.of_eq e))

theorem Rewrites.keyprogWord {n w : Nat} (h : Rewrites s t) : Rewrites s (t.keyprogWord n w) := .ite h h.keep
theorem Rewrites.keyprogRevoke {n : Nat} (h : Rewrites s t) : Rewrites s (t.keyprogRevoke n) := .ite h h.keep

theorem Rewrites.endRegrow {st : Nat} (h : Rewrites s t) : Rewrites s (t.endRegrow st) := by
  unfold State.endRegrow
  dsimp only
  split
  · exact h.setFld.setFlag.setFlag
  · exact h.keep

theorem Rewrites.regrowTaken {g off : Nat} (h : Rewrites s t) : Rewrites s (t.regrowTaken g off) :=
  h.setFld.setFld.setFlag.wr.setFlag

theorem Rewrites.fragment {g off : Nat} (h : Rewrites s t) : Rewrites s (t.fragment g off).1 := by
  unfold State.fragment
  refine .iteFst h ?_
  split
  next e => exact h.readMem.of_eq e
  next e =>
    dsimp only
    split
    next e1 => exact ((h.readMem.of_eq e).readMem.of_eq e1)
    next e1 => exact ((h.readMem.of_eq e).readMem.of_eq e1)

theorem Rewrites.regrowStart {g off : Nat} (h : Rewrites s t) : Rewrites s (t.regrowStart g off) := by
  unfold State.regrowStart
  refine .ite h.fieldsWrite ?_
  split
  next e1 => exact (h.regrowTaken.fragment.of_eq e1).noteMapError.setFld.setFld.endRegrow
  next e => exact (h.regrowTaken.fragment.of_eq e).setFld.setMode.keep

theorem Rewrites.sbUpdate {record : Nat} {v : W64} (h : Rewrites s t) : Rewrites s (t.sbUpdate record v) := by
  unfold State.sbUpdate
  refine .ite h.fieldsWrite (.ite h.setFld.setFld.setFld ?_)
  split
  next e => exact (h.setFld.setFld.engineRead.of_eq e).setFld
  next e => exact .ite ((h.setFld.setFld.engineRead.of_eq e).setFld) ((h.setFld.setFld.engineRead.of_eq
      e).keep.queueJob.pump)

/-! ### The control registers -/

theorem Rewrites.pinLevels {a : Nat} {v : W64} (h : Rewrites s t) : Rewrites s (t.pinLevels a v).1 :=
  .iteFst h.freeWord (.iteFst h.freeWord h)

theorem Rewrites.regRead {r : Requester} {a : Nat} (h : Rewrites s t) : Rewrites s (t.regRead r a).1 := by
  unfold State.regRead
  dsimp only
  split
  · exact h.touch
  · exact .iteFst h.touch.pinLevels.uartRead (.iteFst h.touch.pinLevels h.touch.pinLevels.wr)

theorem Rewrites.jwCommand {v : W64} {rep : BoardReply} (h : Rewrites s t) : Rewrites s (t.jwCommand v rep) := by
  unfold State.jwCommand
  refine .ite h.codesWrite (h.jwIfIdle (fun _ k => ?_))
  split
  · with_reducible exact k.jwOpen
  · with_reducible exact k.jwSeal
  · with_reducible exact k.jwFormat
  · with_reducible exact k.jwPersist
  · with_reducible exact k.jwReopen
  · with_reducible exact k.jwAtOnce

theorem Rewrites.rtlCommand {v : W64} (h : Rewrites s t) : Rewrites s (t.rtlCommand v) := by
  unfold State.rtlCommand
  refine .ite h.codesWrite ?_
  split
  · exact h.rtlAssignCmd
  · exact h.blazeStartCmd
  · exact h.blazeRequestCmd
  · exact h.bootSendCmd
  · exact h.bootEndCmd
  · exact h.negSetCmd
  · exact h.msgCmd
  · exact h.rtlBadOp

theorem Rewrites.gctlWrite {i : Nat} {v : W64} (h : Rewrites s t) : Rewrites s (t.gctlWrite i v) :=
  .ite ((Rewrites.ite h.fieldsWrite.gctlStop h.fieldsWrite).gctlStart) (.ite h.fieldsWrite.gctlStop h.fieldsWrite)

theorem Rewrites.keyprogWrite {r : Requester} {v : W64} (h : Rewrites s t) : Rewrites s (t.keyprogWrite r v) :=
  .ite h (.ite h.keyprogRevoke h.keyprogWord)

theorem Rewrites.sbCommand {v : W64} (h : Rewrites s t) : Rewrites s (t.sbCommand v) := .ite h.sbUpdate h.codesWrite
theorem Rewrites.eqWrite {a : Nat} {v : W64} (h : Rewrites s t) : Rewrites s (t.eqWrite a v) := .ite h h.codesWrite

theorem Rewrites.infoWrite {r : RecSet} {n : Nat} {v : W64} (h : Rewrites s t) : Rewrites s (t.infoWrite r n v) :=
  .ite h.errRecordFree h

theorem Rewrites.regWrite {r : Requester} {a : Nat} {v : W64} {rep : BoardReply} (h : Rewrites s t) :
    Rewrites s (t.regWrite r a v rep) := by
  unfold State.regWrite
  extract_lets u g o
  have k : Rewrites s u := h.touch
  clear_value u
  refine .ite (.ite k.infoWrite (.ite k.injectWrite (.ite k.retireWrite k.codesWrite))) (.ite k.pushGo (.ite k.sbCommand
    (.ite (.ite k.negLockWrite k) (.ite k.negAccept (.ite k.negAccept (.ite k.keyprogWrite (.ite k.wr
    (.ite (.ite k.regrowStart k.codesWrite) (.ite k.faultAck (.ite k.safCtl (.ite (.ite k.qmCommand k.codesWrite)
    (.ite k.jwCommand (.ite k.tallyRaise (.ite k.timeStep (.ite k.ssoWrite (.ite k.xspiCmd (.ite k.i2cTransfer
    (.ite k.uartTx (.ite (.ite k.requestMode k.codesWrite) (.ite k.leanWrite (.ite k.rtlCommand (.ite k.mboxPop
    (.ite (.ite k k.wr) ?_)))))))))))))))))))))))
  generalize Reg.DDR_CH_CFG 0 = lo
  refine EverySome.getD_of (EverySome.findSome ?_) k.codesWrite
  simp only [List.forall_mem_cons, List.not_mem_nil, false_implies, implies_true, and_true]
  refine ⟨.bind_of fun n => ?_, .map_of fun _ => k.infoWrite, .map_of fun _ => k.gctlWrite, .map_of fun _ => k.viewWrite,
    .map_of fun _ => k.poolWrite, .map_of fun _ => k.poolWrite, .map_of fun _ => k.poolWrite,
    .map_of fun _ => k.egqWrite, .map_of fun _ => k.jrelWrite, .map_of fun _ => k.tallySub,
    .map_of fun _ => k.routeWrite, .map_of fun _ => k.gpiWrite, .map_of fun _ => k.domWrite,
    .map_of fun _ => k.railWrite, .map_of fun _ => k.eqWrite⟩
  split
  · exact k.infoWrite
  · trivial

theorem Rewrites.devRead {r : Requester} {a n : Nat} {rep : BoardReply} (h : Rewrites s t) :
    Rewrites s (t.devRead r a n rep).1 := by
  unfold State.devRead
  split
  · exact h.regRead
  · exact h
  · exact h.windowRead
  · exact h.readMem

theorem Rewrites.devWrite {r : Requester} {a : Nat} {data : List Byte} {rep : BoardReply} (h : Rewrites s t) :
    Rewrites s (t.devWrite r a data rep) := by
  unfold State.devWrite
  split
  · exact h.regWrite
  · exact h.postPcie
  · exact h.writeMem

theorem Rewrites.svcAnswer {status : Nat} {v : W64} (h : Rewrites s t) : Rewrites s (t.svcAnswer status v) := h.keep

theorem Rewrites.svcMake {op a : Nat} {v : W64} {rep : BoardReply} (h : Rewrites s t) : Rewrites s (t.svcMake op a v rep) := by
  unfold State.svcMake
  split
  · exact h.recordRefusal.svcAnswer
  · refine .ite h.keep (.ite h.devWrite.svcAnswer ?_)
    split
    next e1 => exact (h.devRead.of_eq e1).svcAnswer
    next e1 => exact (h.devRead.of_eq e1).svcAnswer

theorem Rewrites.pollSvc (h : Rewrites s t) : Rewrites s t.pollSvc := by
  unfold State.pollSvc
  split
  · exact h
  · exact .ite h.keep (.ite h h.keep.svcMake)

end Sys2Proof.Machine
end

section
/-! SUPPORT. Memory is rewritten byte by byte: loads, stores and block reads. -/

namespace Sys2Proof.Machine

variable {s t : State}

/-! ### Loads, stores and block reads after their bundle -/

theorem Rewrites.setPair {l : Nat} {p : Pair} (h : Rewrites s t) : Rewrites s (t.setPair l p) := h.keep
theorem Rewrites.feed {c : Nat} {f : Fed} (h : Rewrites s t) : Rewrites s (t.feed c f) := .ite h.setPair h

theorem Rewrites.takeFeed {c : Nat} {p : Nat × Fed → Bool} (h : Rewrites s t) :
    EverySome (fun x => Rewrites s x.1) (t.takeFeed c p) := by
  unfold State.takeFeed
  dsimp only
  split
  · exact h.setPair
  · exact trivial

theorem Rewrites.loadTarget {c : Nat} {l : LoadFlight} {ps : List PortAnswer} (h : Rewrites s t) :
    EverySome (fun x => Rewrites s x.1) (t.loadTarget c l ps) := by
  unfold State.loadTarget
  split
  · exact trivial
  · exact h
  · split
    · exact trivial
    · split
      · exact h.regRead
      · exact h
      · dsimp only
        split
        · exact h.bridgeRead
        · exact trivial
      · exact h.loadMemory

theorem Rewrites.loadDone {c : Nat} {l : LoadFlight} {r : Except Nat (List Byte)} (h : Rewrites s t) :
    Rewrites s (t.loadDone c l r) := by
  unfold State.loadDone
  dsimp only
  split
  · exact .ite h.answerWith h.answerWith.feed.foldFor
  · exact .ite h.failLoad h.failLoad.setPair.feed

theorem Rewrites.loadAnswer {c : Nat} {ps : List PortAnswer} (h : Rewrites s t) : Rewrites s (t.loadAnswer c ps) := by
  unfold State.loadAnswer
  split
  · exact h
  · refine .ite ?_ (.ite h ?_)
    · split
      next e1 => exact (h.takeFeed.of_eq e1).answerWith.foldFor
      next e1 => exact (h.takeFeed.of_eq e1).failLoad
      · exact h
    · split
      · exact (Rewrites.ite h.recordRefusal h).loadDone
      · split
        next e2 => exact (h.loadTarget.of_eq e2).loadDone
        · exact h

theorem Rewrites.endDead {c : Nat} (h : Rewrites s t) : Rewrites s (t.endDead c) := by
  unfold State.endDead
  refine .ite ?_ h
  split
  · exact .ite h.loadAnswer h
  · exact h

end Sys2Proof.Machine
end

section
/-! SUPPORT. Memory is rewritten byte by byte: what follows of itself. -/

namespace Sys2Proof.Machine

variable {s t : State}

/-! ### What follows of itself -/

theorem Rewrites.pollGlades (h : Rewrites s t) : Rewrites s t.pollGlades :=
  h.foldl fun _ _ k => k.pendSteps.endDead.askPcie.receiveCommit

theorem Rewrites.pollPasses (h : Rewrites s t) : Rewrites s t.pollPasses := h.foldl fun _ _ k => k.settlePasses
theorem Rewrites.pollCommits (h : Rewrites s t) : Rewrites s t.pollCommits := h.foldl fun _ _ k => .ite k k.advance

theorem Rewrites.settled (h : Rewrites s t) : Rewrites s t.settled :=
  have h := h.pollGlades.pollQm.pollRecovery.pollJw.pollCommits.pollPasses.finishRecovery.react.sealItems
  have h := h.releaseRootlink.pollBlaze.pollShutdown.pump.react.pollIdle.sendNvme.pollFlash.pollSvc
  h.sendOffer.sendTrains.endCommand

end Sys2Proof.Machine
end


section
/-! PROOF. The staging of images (R86): a write to the staging memory of a Grove that is off stores nothing. -/

namespace Sys2Proof.Machine

/-- The ROM waits for a push (STAGE 0x3, R86), the endpoint's link is up and BAR0 enabled, and Grove 0's memory is off, as
after reset. The memory lists the value 0 at the first staging byte: every state that settles to what lists it there holds
0 there. -/
def stagingOff : State := { (State.reset.setFld Reg.HW_BOOT 7 4 3).setFlag (Reg.LANE_PCIE_STAT 2 0) 0 true with
  msix := { Msix.reset with command := 2 }
  mem := [(groveMemBase 0, 0#8)] }

/-- The word that the host writes. -/
def stagedWord : List Byte := [1#8, 0#8, 0#8, 0#8, 0#8, 0#8, 0#8, 0#8]

theorem stagingOff_waits : stagingOff.stage = 3 := by decide +kernel

theorem stagingOff_link : stagingOff.flag (Reg.LANE_PCIE_STAT 2 0) 0 = true := by decide +kernel

theorem stagingOff_inject : ∀ g, g < 16 → stagingOff.flag (Reg.GRV_INJECT g) 63 = false := by decide +kernel

/-- The write is refused, and the byte is listed as before. -/
theorem stagingOff_listed : (groveMemBase 0, 0#8) ∈ (stagingOff.bar0Write 0 stagedWord).settled.mem := by decide +kernel

theorem stagingOff_byte : (stagingOff.bar0Write 0 stagedWord).settled.byteAt (groveMemBase 0) = 0#8 := by decide +kernel

/-- Refutes O36, in its clause that an aligned word written to BAR0 lies in the staging memory of its Grove: the statement
has no premise that this memory answers an access, and where its domain is off the write is refused and stores nothing. -/
theorem not_bootSteps : ¬ Obligations.BootSteps := by
  unfold Obligations.BootSteps
  rintro ⟨-, waits⟩
  obtain ⟨bar0, -⟩ := waits stagingOff stagingOff_waits
  obtain ⟨-, write⟩ := bar0 0#25 stagedWord stagingOff_link
  obtain ⟨lies, -⟩ := write rfl rfl rfl stagingOff_inject rfl
  obtain ⟨u, hexec, hbytes⟩ := lies (by decide)
  have hsettled : (stagingOff.bar0Write 0 stagedWord).settled = u.settled := Host.Outcome.next.inj hexec
  have hkept : u.byteAt (groveMemBase 0) = u.settled.byteAt (groveMemBase 0) :=
    (Rewrites.refl u).settled.byteAt (hsettled ▸ stagingOff_listed)
  rw [← hsettled, stagingOff_byte, hbytes] at hkept
  exact absurd hkept (by decide)

end Sys2Proof.Machine
end


section
/-! SUPPORT. What the wake of a domain leaves as it is (R399): the registers that show how the boot, the mode and the
negotiation stand, the board, the waiting commands, and which domains have lost their contents. -/

namespace Sys2Proof.Machine

/-! ### The registers -/

/-- The registers that show how the boot (R88), the power mode (R393), the endpoint's link (R443) and the negotiation
(R90) stand, and that of domain `d`. -/
def bootReg (d a : Nat) : Prop :=
  a = Reg.HW_BOOT ∨ a = Reg.PWR_MODE ∨ a = Reg.PWR_STATUS ∨ a = Reg.LANE_PCIE_STAT 2 0 ∨ a = Reg.NEG_LOCK
    ∨ a = Reg.PWR_DOM d

/-- A register that is none of them, whatever the domain. -/
abbrev besideBoot (a : Nat) : Prop :=
  a ≠ Reg.HW_BOOT ∧ (a < Reg.PWR_MODE ∨ Reg.PWR_DOM 64 ≤ a) ∧ a ≠ Reg.LANE_PCIE_STAT 2 0 ∧ a ≠ Reg.NEG_LOCK

theorem not_bootReg {d a : Nat} (hd : d < 64) (ha : besideBoot a) : ¬ bootReg d a := by
  simp only [besideBoot, bootReg, Reg.HW_BOOT, Reg.PWR_MODE, Reg.PWR_STATUS, Reg.LANE_PCIE_STAT, Reg.NEG_LOCK,
    Reg.PWR_DOM] at *
  omega

theorem PWR_DOM_not_bootReg {d e : Nat} (he : e < 64) (hne : e ≠ d) : ¬ bootReg d (Reg.PWR_DOM e) := by
  simp only [bootReg, Reg.HW_BOOT, Reg.PWR_MODE, Reg.PWR_STATUS, Reg.LANE_PCIE_STAT, Reg.NEG_LOCK, Reg.PWR_DOM]
  omega

/-- A register of a block that holds none of them. -/
theorem besideBoot_of_block {a : Nat} (h : (0x401000018 < a ∧ a < 0x405000000) ∨ (0x405000300 ≤ a ∧ a < 0x407080000)
    ∨ (0x407083000 ≤ a ∧ a < 0x40C000000)) : besideBoot a := by
  simp only [besideBoot, Reg.HW_BOOT, Reg.PWR_MODE, Reg.LANE_PCIE_STAT, Reg.NEG_LOCK, Reg.PWR_DOM]
  omega

theorem TLY_CNT_besideBoot {k : Nat} (h : k < 4352) : besideBoot (Reg.TLY_CNT k) :=
  besideBoot_of_block (by simp only [Reg.TLY_CNT]; omega)

theorem UST_ISL_besideBoot {i : Nat} (h : i < 64) : besideBoot (Reg.UST_ISL i) :=
  besideBoot_of_block (by simp only [Reg.UST_ISL]; omega)

theorem LANE_STATE_besideBoot {n : Nat} (h : n < 96) : besideBoot (Reg.LANE_STATE n) :=
  besideBoot_of_block (by simp only [Reg.LANE_STATE]; omega)

theorem PWR_RAIL_besideBoot {r : Nat} (h : r < 64) : besideBoot (Reg.PWR_RAIL r) :=
  besideBoot_of_block (by simp only [Reg.PWR_RAIL]; omega)

theorem heartwoodRecord_besideBoot {n : Nat} (h : n < 8) : besideBoot RecSet.heartwood.status
    ∧ besideBoot (RecSet.heartwood.info n) ∧ besideBoot (RecSet.heartwood.addr n) := by
  refine ⟨?_, ?_, ?_⟩ <;> refine besideBoot_of_block ?_ <;>
    simp only [RecSet.status, RecSet.info, RecSet.addr, Reg.SAF_ERR_STATUS, Reg.SAF_ERR_INFO, Reg.SAF_ERR_ADDR] <;>
      omega

/-! ### What is kept -/

/-- From `s` to `t` those registers are kept, and so are the board, the waiting commands, the domains whose contents are
lost (R399) and a SAFE that is due (R396). -/
structure BootKept (d : Nat) (s t : State) : Prop where
  domain : d < 64
  rd : ∀ a, bootReg d a → t.rd a = s.rd a
  board : t.board = s.board
  pending : t.pending = s.pending
  lost : t.power.lost = s.power.lost
  safeDue : t.power.safeDue = s.power.safeDue

namespace BootKept

variable {d : Nat} {s t u : State}

theorem refl (hd : d < 64) (s : State) : BootKept d s s := ⟨hd, fun _ _ => rfl, rfl, rfl, rfl, rfl⟩

theorem trans (h : BootKept d s t) (k : BootKept d t u) : BootKept d s u :=
  ⟨h.domain, fun a ha => (k.rd a ha).trans (h.rd a ha), k.board.trans h.board, k.pending.trans h.pending,
    k.lost.trans h.lost, k.safeDue.trans h.safeDue⟩

theorem mode (h : BootKept d s t) : t.mode = s.mode := State.fld_of_rd (h.rd Reg.PWR_MODE (.inr (.inl rfl))) 3 0

theorem domState (h : BootKept d s t) : t.domState d = s.domState d :=
  State.fld_of_rd (h.rd (Reg.PWR_DOM d) (.inr (.inr (.inr (.inr (.inr rfl)))))) 5 4

/-- A change of other parts of the state. -/
theorem keep (h : BootKept d s t) (hc : u.ctl = t.ctl := by rfl) (hb : u.board = t.board := by rfl)
    (hp : u.pending = t.pending := by rfl) (hl : u.power.lost = t.power.lost := by rfl)
    (hs : u.power.safeDue = t.power.safeDue := by rfl) : BootKept d s u :=
  h.trans ⟨h.domain, fun a _ => congrArg (smGet (regReset a) · a) hc, hb, hp, hl, hs⟩

theorem ite {p : Prop} {_ : Decidable p} (ht : BootKept d s t) (hu : BootKept d s u) :
    BootKept d s (if p then t else u) := by
  split
  · exact ht
  · exact hu

theorem foldl {α : Type} {f : State → α → State} {l : List α} (h : BootKept d s t)
    (hf : ∀ u, ∀ x ∈ l, BootKept d s u → BootKept d s (f u x)) : BootKept d s (l.foldl f t) := by
  induction l generalizing t with
  | nil => exact h
  | cons x l ih =>
    exact ih (hf t x List.mem_cons_self h) fun u y hy => hf u y (List.mem_cons_of_mem x hy)

/-! ### Registers -/

theorem wrOther {a : Nat} {v : W64} (h : BootKept d s t) (ha : ¬ bootReg d a) : BootKept d s (t.wr a v) :=
  h.trans ⟨h.domain, fun b hb => (State.rd_wr ..).trans (if_neg fun e : b = a => ha (e ▸ hb)), rfl, rfl, rfl, rfl⟩

theorem wr {a : Nat} {v : W64} (h : BootKept d s t) (ha : besideBoot a) : BootKept d s (t.wr a v) :=
  h.wrOther (not_bootReg h.domain ha)

theorem setFld {a hi lo v : Nat} (h : BootKept d s t) (ha : besideBoot a) : BootKept d s (t.setFld a hi lo v) := h.wr ha

theorem setFlag {a i : Nat} {b : Bool} (h : BootKept d s t) (ha : besideBoot a) : BootKept d s (t.setFlag a i b) :=
  h.wr ha

theorem satAdd {a hi lo n : Nat} (h : BootKept d s t) (ha : besideBoot a) : BootKept d s (t.satAdd a hi lo n) := h.wr ha

theorem wrapAdd {a hi lo n : Nat} (h : BootKept d s t) (ha : besideBoot a) : BootKept d s (t.wrapAdd a hi lo n) :=
  h.wr ha

/-! ### Counters, findings and records -/

theorem noteMsix {k : Nat} (h : BootKept d s t) : BootKept d s (t.noteMsix k) := h.keep

theorem noteTriggers {k : Nat} (h : BootKept d s t) : BootKept d s (t.noteTriggers k) := .ite h h.keep

theorem tallyInc {k n : Nat} (h : BootKept d s t) : BootKept d s (t.tallyInc k n) := by
  unfold State.tallyInc
  split
  · exact h
  next hk =>
    have ha : besideBoot (Reg.TLY_CNT k) := TLY_CNT_besideBoot (by omega)
    exact (((h.setFlag ha).ite h).setFld ha).noteMsix.noteTriggers

theorem find {f : Finding} (h : BootKept d s t) : BootKept d s (t.find f) := h.keep

theorem recordError {e : ErrInfo} (h : BootKept d s t) : BootKept d s (t.recordError .heartwood e) := by
  unfold State.recordError
  dsimp only
  split
  next n hn =>
    obtain ⟨-, hi, -⟩ := heartwoodRecord_besideBoot (List.mem_range.1 (List.mem_of_find?_eq_some hn))
    exact .ite ((h.satAdd hi).setFlag hi) (h.satAdd hi)
  next =>
    split
    next n hn =>
      obtain ⟨hs, hi, ha⟩ := heartwoodRecord_besideBoot (List.mem_range.1 (List.mem_of_find?_eq_some hn))
      exact (((h.wr hi).wr ha).setFlag hs).wrapAdd hs
    next => exact h.satAdd (heartwoodRecord_besideBoot (n := 0) (by decide)).1

/-! ### Lines of the Seedbank -/

theorem keeper {k : Keeper} (h : BootKept d s t) : BootKept d s { t with keeper := k } := h.keep

theorem resolveLogged {record : Nat} (h : BootKept d s t) : BootKept d s (t.resolveLogged record).1 := by
  have hs := h.setFld (a := Reg.HW_SB_STATUS) (hi := 17 + 2 * record) (lo := 16 + 2 * record)
    (v := (t.resolve record).code) (besideBoot_of_block (by decide))
  unfold State.resolveLogged
  dsimp only
  split
  · split
    · exact hs
    · exact hs.recordError.keeper
  · exact hs.recordError
  · exact hs

theorem startUpdate {record : Nat} {body : List Byte} {cmd : Bool} (h : BootKept d s t) :
    BootKept d s (t.startUpdate record body cmd) := by
  unfold State.startUpdate
  exact h.resolveLogged.keeper

theorem pump (h : BootKept d s t) : BootKept d s t.pump := by
  unfold State.pump
  split
  next w ws _ _ =>
    have hq : BootKept d s { t with keeper := { t.keeper with queue := ws } } := h.keeper
    refine .ite h ?_
    cases w with
    | update r body cmd => exact hq.startUpdate
    | second w => exact hq.keeper
    | lookout body => exact hq.keeper
  next => exact h

theorem updateRecord {record : Nat} {body : List Byte} (h : BootKept d s t) :
    BootKept d s (t.updateRecord record body) :=
  pump (t := t.queueJob (.update record body false)) h.keeper

theorem resolveReported {record : Nat} (h : BootKept d s t) : BootKept d s (t.resolveReported record).1 := by
  unfold State.resolveReported
  dsimp only
  split
  · exact h.resolveLogged.updateRecord
  · exact h.resolveLogged

/-! ### Memories -/

theorem bulkClear {base n : Nat} (h : BootKept d s t) : BootKept d s (t.bulkClear base n) :=
  foldl (t := { t.unspoil base n with
      mem := t.mem.filter (fun p => !(decide (base ≤ p.1 ∧ p.1 < base + n)))
      ecc := t.ecc.filter (fun p => !(decide (base ≤ 8 * p.1 ∧ 8 * p.1 < base + n))) }) h.keep fun u g hg hu =>
    .ite (hu.setFlag (by
      have := List.mem_range.1 hg
      simp only [besideBoot, Reg.GRV_INJECT, Reg.HW_BOOT, Reg.PWR_MODE, Reg.LANE_PCIE_STAT, Reg.NEG_LOCK]
      omega)) hu

theorem clearStaging (h : BootKept d s t) : BootKept d s t.clearStaging := h.foldl fun _ _ _ hu => hu.bulkClear

/-! ### Islands and lanes -/

theorem time {x : TimeBase} (h : BootKept d s t) : BootKept d s { t with time := x } := h.keep

theorem releaseIsland {i : Nat} (h : BootKept d s t) (hi : i < 64) : BootKept d s (t.releaseIsland i) := by
  have ha := UST_ISL_besideBoot hi
  have ht : besideBoot Reg.UST_TIME_CTL := besideBoot_of_block (by decide)
  unfold State.releaseIsland
  extract_lets anew u _ _ v
  have hu : BootKept d s u := h.setFlag ha
  have hv : BootKept d s v := .ite (.time ((hu.setFlag ht).setFlag ht)) hu
  exact .ite h (.ite hv ((hv.setFlag ha).wrapAdd ha))

theorem releaseClockless (h : BootKept d s t) : BootKept d s t.releaseClockless :=
  h.foldl fun _ _ hi hu => .ite (hu.releaseIsland ((List.mem_range.1 hi).trans (by decide))) hu

theorem islandUp {i : Nat} (h : BootKept d s t) (hi : i < 64) : BootKept d s (t.islandUp i) :=
  .ite h (.ite (h.releaseIsland hi) (h.setFlag (UST_ISL_besideBoot hi)))

theorem islandsUp {e : Nat} (h : BootKept d s t) :
    BootKept d s ((domainIslands e).foldl (fun s i => s.islandUp i) t) :=
  h.foldl fun _ _ hi hu => hu.islandUp ((mem_domainIslands_lt hi).trans (by decide))

theorem octetUp {o : Nat} (h : BootKept d s t) (ho : o < 12) : BootKept d s (t.octetUp o) := by
  refine h.foldl fun u k hk hu => ?_
  have ha : besideBoot (Reg.LANE_STATE (8 * o + k)) := LANE_STATE_besideBoot (by have := List.mem_range.1 hk; omega)
  exact .ite ((hu.setFld ha).setFld ha) hu

/-! ### Domains -/

theorem setDom {e hi lo v : Nat} (h : BootKept d s t) (he : e < 64) (hne : e ≠ d) :
    BootKept d s (t.setFld (Reg.PWR_DOM e) hi lo v) := h.wrOther (PWR_DOM_not_bootReg he hne)

theorem countWake {e : Nat} (h : BootKept d s t) (he : e < 64) (hne : e ≠ d) :
    BootKept d s (t.wrapAdd (Reg.PWR_DOM e) 31 16 1) := h.setDom he hne

theorem setDomState {e st : Nat} (h : BootKept d s t) (he : e < 64) (hne : e ≠ d) : BootKept d s (t.setDomState e st) :=
  h.setDom he hne

theorem wakeDomain {e : Nat} (h : BootKept d s t) (he : e < 64) (hne : e ≠ d) : BootKept d s (t.wakeDomain e) :=
  .ite h ((h.setDom he hne).setDomState he hne).keep

theorem followRail {r : Nat} (h : BootKept d s t) (hr : r < 64) : BootKept d s (t.followRail r) :=
  h.setFld (PWR_RAIL_besideBoot hr)

theorem groveWakes {g : Nat} (h : BootKept d s t) (hg : g < 16) (hne : 4 + g ≠ d) : BootKept d s (t.groveWakes g) :=
  .ite ((h.setFlag (PWR_RAIL_besideBoot (by omega))).setDomState (by omega) hne) h

theorem domainEffect {e : Nat} {on : Bool} (h : BootKept d s t) : BootKept d s (t.domainEffect e on) :=
  .ite (h.setFlag (besideBoot_of_block (by decide))) (.ite (h.setFlag (besideBoot_of_block (by decide)))
    (.ite (h.setFlag (besideBoot_of_block (by decide))) h))

theorem noteRetried {e : Nat} (h : BootKept d s t) : BootKept d s (t.noteRetried e) := .ite h h.recordError

theorem domainWoken {e : Nat} (h : BootKept d s t) (he : e < 64) (hne : e ≠ d) : BootKept d s (t.domainWoken e) :=
  ((h.setDomState he hne).countWake he hne).noteRetried.domainEffect

end BootKept

end Sys2Proof.Machine
end


section
/-! SUPPORT. The ROM wakes a domain (R77, R399) where none has lost its contents. -/

namespace Sys2Proof.Machine

theorem lt_of_groveOfDomain {e g : Nat} (h : groveOfDomain e = some g) : g < 16 := by
  unfold groveOfDomain at h
  split_ifs at h <;> cases h <;> omega

/-- A domain whose contents are there has nothing to be made anew. -/
theorem State.restart_of_kept {s : State} (hl : s.power.lost = 0#64) (e : Nat) : s.restart e = s := by
  unfold State.restart
  rw [hl, BitVec.getLsbD_zero]
  rfl

namespace BootKept

variable {d : Nat} {s t : State}

theorem octetReady {o : Nat} (h : BootKept d s t) (ho : o < 12) (hne : 40 + o ≠ d) (hl : t.power.lost = 0#64) :
    BootKept d s (t.octetReady o) := by
  unfold State.octetReady
  rw [State.restart_of_kept hl]
  have hu := h.islandsUp (e := 40 + o) |>.octetUp ho
  exact .ite hu (hu.domainWoken (by omega) hne)

section
variable {e : Nat} (he : e < 64) (hne : e ≠ d) (hd : d < 4 ∨ 36 ≤ d) (hl : s.power.lost = 0#64)
include he hne hd hl

theorem domainReady (h : BootKept d s t) : BootKept d s (t.domainReady e) := by
  have hl := h.lost.trans hl
  unfold State.domainReady
  refine .ite h (if ho : 40 ≤ e ∧ e < 52 then ?_ else ?_)
  · rw [if_pos ho]
    exact .ite h (h.octetReady (by omega) (by omega) hl)
  · rw [if_neg ho, State.restart_of_kept hl]
    extract_lets s₁ s₂ s₃ s₄
    have h₁ : BootKept d s s₁ := h.domainWoken he hne
    have h₂ : BootKept d s s₂ := by
      unfold s₂
      split
      next g hg =>
        have hg := lt_of_groveOfDomain hg
        exact followRail (.ite (h₁.setFlag (PWR_RAIL_besideBoot (by omega))) (h₁.groveWakes hg (by omega))) (by omega)
      next => exact .ite ((h₁.setFlag (PWR_RAIL_besideBoot (by decide))).followRail (by decide)) h₁
    have h₃ : BootKept d s s₃ := h₂.islandsUp
    have h₄ : BootKept d s s₄ := .ite h₃.releaseClockless h₃
    exact .ite (h₄.foldl fun u n hn hu => .ite (hu.setFld (LANE_STATE_besideBoot (List.mem_range.1 hn))) hu) h₄

theorem bootWake (h : BootKept d s t) : BootKept d s (t.bootWake e) :=
  .ite h ((h.setDomState he hne).domainReady he hne hd hl)

end

end BootKept

end Sys2Proof.Machine
end


section
/-! SUPPORT. The ROM's sequence (R77) from a latched state, where its boot is by a push (R86): it ends waiting for the
endpoint's link, or in SAFE when a domain of its own does not wake (R88). -/

namespace Sys2Proof.Machine

/-! ### The sequence in its parts -/

/-- What step 2 of R77 brings up: AON, SEEDBANK and SAMPLER, the islands of the Understory and the rails. -/
def State.romWoken (s : State) : State :=
  let s := [0, 1, 63].foldl (fun s d => s.bootWake d) s
  let s := (List.range 6).foldl (fun s k => s.islandUp (25 + k)) s
  let s := s.setFlag Reg.UST_TIME_CTL 1 true
  (List.range 17).foldl (fun s r => s.setFld (Reg.PWR_RAIL r) 9 0 750) s

/-- The Heartwood, the Canopy, the staging area and DRAM brought up (R77, R78, R257). -/
def State.romMemories (s : State) (dram : List DramFound) : State :=
  let s := ((s.bootWake 2).bootWake 3).bulkClear hwMemBase 0x40000
  ((List.range 9).foldl (fun s g => s.bootWake (20 + g)) s.clearStaging).trainDram dram

/-- Step 2 of R77, from a latched state: FAULT_N, the mechanisms of R76 and the level of HOLDUP_N come first. -/
def State.romBegun (s : State) : State :=
  ((s.setFlag Reg.SAF_STATUS 2 true).armBoot.setFlag Reg.PWR_STATUS 0 true).romWoken

theorem State.rom_of_push (s : State) {w : BootWorld} (hw : w.hwFails = none) (hs : w.stagingFail = none)
    (hb : w.bootSrc.val = 1) : s.rom w = ((s.romBegun.romMemories w.dram).setFld Reg.HW_BOOT 39 26
      (min (w.flash.getD 0) (2 ^ 29) / 65536)).awaitPush := by
  unfold State.rom
  simp only [hw, hs, hb]
  rfl

theorem State.rom_of_fail (s : State) {w : BootWorld} {canopy : Bool} (hw : w.hwFails = some canopy) :
    s.rom w = ((s.romBegun.bootWake (if canopy then 2 else 3)).bootDomainFails (if canopy then 3 else 2) 0xFF).setStage
      0xF := by
  unfold State.rom
  rw [hw]
  rfl

/-! ### What the parts leave -/

namespace BootKept

variable {d : Nat} {s t : State}

theorem armBoot (h : BootKept d s t) : BootKept d s t.armBoot :=
  h.foldl fun _ m hm hu => hu.wr (besideBoot_of_block (by
    simp only [List.mem_cons, List.not_mem_nil, or_false] at hm
    simp only [Reg.SAF_MECH]
    omega))

section
variable (hl : s.power.lost = 0#64)
include hl

theorem romWoken (hd : d = 2 ∨ d = 3 ∨ d = 62) (h : BootKept d s t) : BootKept d s t.romWoken := by
  have hw := h.foldl (f := fun s e => s.bootWake e) (l := [0, 1, 63]) fun u e he hu => by
    simp only [List.mem_cons, List.not_mem_nil, or_false] at he
    exact hu.bootWake (by omega) (by omega) (by omega) hl
  have hi := hw.foldl (f := fun s k => s.islandUp (25 + k)) (l := List.range 6) fun u k hk hu =>
    hu.islandUp (by have := List.mem_range.1 hk; omega)
  exact (hi.setFlag (besideBoot_of_block (by decide))).foldl fun u r hr hu =>
    hu.setFld (PWR_RAIL_besideBoot (by have := List.mem_range.1 hr; omega))

theorem trainDram {dram : List DramFound} (h : BootKept 62 s t) : BootKept 62 s (t.trainDram dram) :=
  h.foldl fun u n hn hu => by
    have hn := List.mem_range.1 hn
    refine .ite hu (bootWake (by omega) (by omega) (.inr (by decide)) hl ((hu.wr ?_).wr ?_)) <;>
      refine besideBoot_of_block ?_ <;> simp only [Reg.DDR_CH_CFG, Reg.DDR_CH_WMARK] <;> omega

theorem romMemories {dram : List DramFound} (h : BootKept 62 s t) : BootKept 62 s (t.romMemories dram) := by
  have hw : ∀ {u : State} {e : Nat}, e < 62 → BootKept 62 s u → BootKept 62 s (u.bootWake e) := fun he hu =>
    hu.bootWake (by omega) (by omega) (.inr (by decide)) hl
  exact trainDram hl (foldl (hw (by decide) (hw (by decide) h)).bulkClear.clearStaging fun _ _ hg hu =>
    hw (by have := List.mem_range.1 hg; omega) hu)

end

end BootKept

/-- Of the registers that the boot keeps, step 2 writes `PWR_STATUS` alone. -/
theorem State.romBegun_kept {s : State} {d : Nat} (hd : d = 2 ∨ d = 3 ∨ d = 62) (hl : s.power.lost = 0#64) :
    ∃ t, BootKept d s t ∧ BootKept d (t.setFlag Reg.PWR_STATUS 0 true) s.romBegun := by
  have h : BootKept d s (s.setFlag Reg.SAF_STATUS 2 true).armBoot :=
    ((BootKept.refl (by omega) s).setFlag (besideBoot_of_block (by decide))).armBoot
  exact ⟨_, h, .romWoken (h.lost.trans hl) hd (.refl (by omega) _)⟩

/-! ### The wait for the endpoint's link -/

/-- A state in which the ROM begins, PORST_N high and its straps latched for a push, with `cause` in RESET_CAUSE. -/
structure State.Latched (cause : Nat) (queue : List Instr) (s : State) : Prop where
  stage : s.stage = 0
  source : s.fld Reg.HW_BOOT 1 0 = 1
  cause : s.fld Reg.PWR_STATUS 9 8 = cause
  linkDown : s.flag (Reg.LANE_PCIE_STAT 2 0) 0 = false
  porst : s.board.porst = true
  lost : s.power.lost = 0#64
  queue : s.pending = queue

theorem State.Latched.kept {cause d : Nat} {queue : List Instr} {s t : State} (h : s.Latched cause queue)
    (k : BootKept d s t) : t.Latched cause queue where
  stage := (State.fld_of_rd (k.rd Reg.HW_BOOT (.inl rfl)) 7 4).trans h.stage
  source := (State.fld_of_rd (k.rd Reg.HW_BOOT (.inl rfl)) 1 0).trans h.source
  cause := (State.fld_of_rd (k.rd Reg.PWR_STATUS (.inr (.inr (.inl rfl)))) 9 8).trans h.cause
  linkDown := (State.flag_of_rd (k.rd (Reg.LANE_PCIE_STAT 2 0) (.inr (.inr (.inr (.inl rfl))))) 0).trans h.linkDown
  porst := k.board ▸ h.porst
  lost := k.lost.trans h.lost
  queue := k.pending.trans h.queue

/-- The level of HOLDUP_N noted in `PWR_STATUS`. -/
theorem State.Latched.holdupLevel {cause : Nat} {queue : List Instr} {s : State} (h : s.Latched cause queue) :
    (s.setFlag Reg.PWR_STATUS 0 true).Latched cause queue := { h with
  stage := (State.fld_of_rd (State.rd_setFld_ne s (by decide) ..) 7 4).trans h.stage
  source := (State.fld_of_rd (State.rd_setFld_ne s (by decide) ..) 1 0).trans h.source
  cause := (State.fld_setFld_ne s _ _ (by decide) (by decide) (by decide)).trans h.cause
  linkDown := (State.flag_of_rd (State.rd_setFld_ne s (by decide) ..) 0).trans h.linkDown }

/-- The size of the flash noted in `HW_BOOT`. -/
theorem State.Latched.flashSize {cause : Nat} {queue : List Instr} {s : State} (h : s.Latched cause queue) (n : Nat) :
    (s.setFld Reg.HW_BOOT 39 26 n).Latched cause queue := { h with
  stage := (State.fld_setFld_ne s _ _ (by decide) (by decide) (by decide)).trans h.stage
  source := (State.fld_setFld_ne s _ _ (by decide) (by decide) (by decide)).trans h.source
  cause := (State.fld_of_rd (State.rd_setFld_ne s (by decide) ..) 9 8).trans h.cause
  linkDown := (State.flag_of_rd (State.rd_setFld_ne s (by decide) ..) 0).trans h.linkDown }

/-- The wait for a push leaves STAGE until the endpoint's link is up, which the wake of its octet does not bring. -/
theorem State.Latched.awaitPush {cause : Nat} {queue : List Instr} {s : State} (h : s.Latched cause queue) :
    s.awaitPush.Latched cause queue ∧ s.awaitPush.board.pushing = true := by
  have hp : State.Latched cause queue { s with board := { s.board with pushing := true } } := { h with }
  have k : BootKept 62 _ (({ s with board := { s.board with pushing := true } } : State).bootWake 42) :=
    (BootKept.refl (by decide) _).bootWake (by decide) (by decide) (.inr (by decide)) hp.lost
  have hw := hp.kept k
  have e : s.awaitPush = ({ s with board := { s.board with pushing := true } } : State).bootWake 42 :=
    if_neg (Bool.eq_false_iff.1 hw.linkDown)
  rw [e]
  exact ⟨hw, congrArg Board.pushing k.board⟩

/-- From a latched state the ROM comes to wait for the link. -/
theorem State.Latched.rom {cause : Nat} {queue : List Instr} {s : State} (h : s.Latched cause queue) {w : BootWorld}
    (hw : w.hwFails = none) (hs : w.stagingFail = none) (hb : w.bootSrc.val = 1) :
    (s.rom w).Latched cause queue ∧ (s.rom w).board.pushing = true := by
  obtain ⟨t, ht, hu⟩ := s.romBegun_kept (.inr (.inr rfl)) h.lost
  have hbegun := (h.kept ht).holdupLevel.kept hu
  rw [State.rom_of_push s hw hs hb]
  exact ((hbegun.kept (.romMemories hbegun.lost (.refl (by decide) _))).flashSize _).awaitPush

end Sys2Proof.Machine
end


section
/-! PROOF. Resets and the start of the ROM (R76, R77, R88, R393, R520). -/

namespace Sys2Proof.Machine

/-! ### A domain of the ROM's own that does not wake (R88) -/

theorem State.mode_safeBody (s : State) : s.safeBody.mode = 10 := by
  unfold State.safeBody
  extract_lets s₁ s₂ s₃
  have h₂ : RegrowStep 0 (fun _ => 0) ((s₁.dropQueued 4).setMode 10) s₂ :=
    (RegrowStep.refl ..).through fun k => k.setFld (not_regrowReg_of_block (by decide))
  have h₃ : RegrowStep 0 (fun _ => 0) ((s₁.dropQueued 4).setMode 10) s₃ := h₂.foldl fun _ _ _ hu => hu.fenceGrove
  exact (h₃.through fun k => k.keep).kept.mode.trans (State.mode_setMode _ (by decide))

/-- SAFE is entered from STRUCTURE at once, where no transition is in progress and none is due. -/
theorem State.mode_enterSafe {s : State} (hm : s.mode = 2) (hbusy : s.flag Reg.PWR_MODE 8 = false)
    (hdue : s.power.safeDue = 0) (source code grove addr info : Nat) :
    (s.enterSafe source code grove addr info).mode = 10 := by
  have ho : s.safeOpen = true := by simp [State.safeOpen, hm, hdue]
  unfold State.enterSafe
  simp only [hm, ho, hbusy]
  exact State.mode_safeBody _

/-- The failure of the Heartwood's or of the Canopy's domain, off as it is, ends in the entry of SAFE. -/
theorem State.domainFailed_of_rom {s : State} {d : Nat} (hd : d = 2 ∨ d = 3) (h0 : s.domState d = 0) (periods : Nat) :
    ∃ t, BootKept 62 s t ∧ s.domainFailed d periods = t.enterSafe 2 0x19 0xFF d 0 := by
  have hoff : s.domainOff d = s := if_pos h0
  have hf := (BootKept.refl (d := 62) (by decide) s).setDom (e := d) (hi := 8) (lo := 8) (v := b2n true)
    (by omega) (by omega)
  unfold State.domainFailed
  rw [hoff]
  rcases hd with rfl | rfl
  · exact ⟨_, hf.recordError.tallyInc.updateRecord.find, rfl⟩
  · exact ⟨_, hf.recordError.tallyInc.updateRecord.find, rfl⟩

/-- FAIL and the mode after it. -/
theorem State.bootDomainFails_shows {s : State} {d : Nat} (hd : d = 2 ∨ d = 3) (h0 : s.domState d = 0) (hm : s.mode = 2)
    (hbusy : s.flag Reg.PWR_MODE 8 = false) (hdue : s.power.safeDue = 0) (grove : Nat) :
    (s.bootDomainFails d grove).fld Reg.HW_BOOT 15 8 = 8 ∧ (s.bootDomainFails d grove).mode = 10 := by
  have hk := (BootKept.refl (d := 62) (by decide) s).setDom (e := d) (hi := 10) (lo := 9) (v := 3) (by omega) (by omega)
  have h0 : (s.setFld (Reg.PWR_DOM d) 10 9 3).domState d = 0 :=
    (State.fld_setFld_ne s _ _ (by decide) (by decide) (by decide)).trans h0
  obtain ⟨t, ht, e⟩ := State.domainFailed_of_rom hd h0 0
  have ht := hk.trans ht
  have hs := State.mode_enterSafe (ht.mode.trans hm)
    ((State.flag_of_rd (ht.rd Reg.PWR_MODE (.inr (.inl rfl))) 8).trans hbusy) (ht.safeDue.trans hdue) 2 0x19 0xFF d 0
  unfold State.bootDomainFails State.noteFail
  rw [e]
  refine ⟨?_, ?_⟩
  · rw [State.fld_setFld_ne _ _ _ (by decide) (by decide) (by decide)]
    exact State.fld_setFld _ _ _ (by decide) (by decide)
  · refine (State.fld_of_rd ?_ 3 0).trans hs
    rw [State.rd_setFld_ne _ (by decide), State.rd_setFld_ne _ (by decide)]

/-- The ROM stops in SAFE with FAIL 8 when the Heartwood or the Canopy does not wake (R88). -/
theorem State.rom_fails {s : State} {w : BootWorld} {canopy : Bool} (hw : w.hwFails = some canopy) (hm : s.mode = 2)
    (hbusy : s.flag Reg.PWR_MODE 8 = false) (hdue : s.power.safeDue = 0) (hl : s.power.lost = 0#64)
    (h0 : ∀ d, d = 2 ∨ d = 3 → s.domState d = 0) :
    (s.rom w).stage = 15 ∧ (s.rom w).fld Reg.HW_BOOT 15 8 = 8 ∧ (s.rom w).mode = 10 := by
  obtain ⟨d, e, hde, hd, he, hd2⟩ : ∃ d e, s.rom w = ((s.romBegun.bootWake e).bootDomainFails d 0xFF).setStage 0xF
      ∧ (d = 2 ∨ d = 3) ∧ e < 64 ∧ e ≠ d := by
    rw [State.rom_of_fail s hw]
    cases canopy
    · exact ⟨2, 3, rfl, by decide⟩
    · exact ⟨3, 2, rfl, by decide⟩
  obtain ⟨t, ht, hu⟩ := s.romBegun_kept (d := d) (by omega) hl
  have hb := hu.bootWake (s := t.setFlag Reg.PWR_STATUS 0 true) he hd2 (by omega) (ht.lost.trans hl)
  have hset : (t.setFlag Reg.PWR_STATUS 0 true).rd Reg.PWR_MODE = t.rd Reg.PWR_MODE :=
    State.rd_setFld_ne t (by decide) ..
  have hmode : (s.romBegun.bootWake e).rd Reg.PWR_MODE = s.rd Reg.PWR_MODE :=
    ((hb.rd _ (.inr (.inl rfl))).trans hset).trans (ht.rd _ (.inr (.inl rfl)))
  have hdom : (s.romBegun.bootWake e).domState d = 0 := by
    refine hb.domState.trans (Eq.trans ?_ (ht.domState.trans (h0 d hd)))
    exact State.fld_of_rd (State.rd_setFld_ne t (by rcases hd with rfl | rfl <;> decide) ..) 5 4
  obtain ⟨hfail, hsafe⟩ := State.bootDomainFails_shows hd hdom ((State.fld_of_rd hmode 3 0).trans hm)
    ((State.flag_of_rd hmode 8).trans hbusy) (hb.safeDue.trans (ht.safeDue.trans hdue)) 0xFF
  rw [hde]
  refine ⟨State.fld_setFld _ _ _ (by decide) (by decide), ?_, ?_⟩
  · exact (State.fld_setFld_ne _ _ _ (by decide) (by decide) (by decide)).trans hfail
  · exact (State.fld_of_rd (State.rd_setFld_ne _ (by decide) ..) 3 0).trans hsafe

/-! ### Resets (R76, R520) -/

/-- Of memory a reset leaves the Seedbank's lines alone. -/
theorem State.byteAt_afterReset (s : State) (a : Nat) : s.afterReset.byteAt a =
    if seedbankBase ≤ a ∧ a < seedbankBase + 4096 then s.byteAt a else 0#8 := by
  refine (smGet_filter (fun k => decide (seedbankBase ≤ k ∧ k < seedbankBase + 4096)) s.mem a).trans ?_
  simp only [decide_eq_true_eq]
  rfl

/-- A line write that is finished changes memory alone. -/
theorem State.finishLine_eq (s : State) : s.finishLine = { s with mem := s.finishLine.mem } := by
  unfold State.finishLine
  split
  · rfl
  · exact s.setBytes_eq _ _

/-! ### The state that the ROM begins from -/

/-- An internal restart gives every register that not only PORST_N resets its reset value, but for three. -/
theorem State.rd_afterRestart (s : State) {a : Nat} (hk : keptTillPorst a = false) (hs : a ≠ Reg.UST_SVC)
    (hr : a ≠ Reg.RTL_STATUS) (hh : a ≠ Reg.HW_ROLE) : s.afterRestart.rd a = regReset a := by
  unfold State.afterRestart
  extract_lets _ t u
  have ht : t.rd a = regReset a :=
    (smGet_filter keptTillPorst s.ctl a).trans (if_neg (Bool.eq_false_iff.1 hk))
  have hu : u.rd a = regReset a :=
    (State.rd_setFld_ne _ hr ..).trans ((State.rd_setFld_ne t hs ..).trans ht)
  split
  · exact (State.rd_setFld_ne _ hh ..).trans ((State.rd_setFld_ne u hh ..).trans hu)
  · exact hu

/-- Beside the registers it is a reset. -/
theorem State.afterRestart_eq (s : State) :
    s.afterRestart = { s.finishLine.afterReset with ctl := s.afterRestart.ctl } := by
  unfold State.afterRestart
  dsimp only
  split <;> rfl

theorem State.pending_finishLine (s : State) : s.finishLine.pending = s.pending := by rw [s.finishLine_eq]

theorem State.endPinTest_eq (s : State) : s.endPinTest = { s with jtag := s.endPinTest.jtag } := by
  unfold State.endPinTest
  split <;> rfl

/-- What the release of PORST_N finds: the pin is high, the drives stand at their ports, and a pin test of JTAG ends. -/
def State.boardFound (s : State) (w : BootWorld) : State :=
  { s.endPinTest with
    board := { s.board with porst := true }
    drives := w.drives.foldl (fun (m : SMap (Option Controller)) (p : Fin 16 × Controller) =>
      smSet none m p.1.val (some p.2)) [] }

theorem State.latch_eq (s : State) (w : BootWorld) (cause : Nat) : s.latch w cause =
    (((s.boardFound w).setFld Reg.HW_BOOT 1 0 w.bootSrc.val).setFld Reg.HW_ROLE 2 0
      (if w.role.val = 3 then 5 else w.role.val)).setFld Reg.PWR_STATUS 9 8 cause := by
  unfold State.latch State.boardFound
  rw [s.endPinTest_eq]
  dsimp only
  split <;> rfl

/-- It leaves the registers. -/
theorem State.rd_boardFound (s : State) (w : BootWorld) (a : Nat) : (s.boardFound w).rd a = s.rd a := by
  unfold State.boardFound
  rw [s.endPinTest_eq]
  rfl

theorem State.boardFound_leaves (s : State) (w : BootWorld) :
    (s.boardFound w).power = s.power ∧ (s.boardFound w).pending = s.pending := by
  unfold State.boardFound
  rw [s.endPinTest_eq]
  exact ⟨rfl, rfl⟩

/-- The latch writes three registers. -/
theorem State.rd_latch (s : State) (w : BootWorld) (cause : Nat) {a : Nat} (hb : a ≠ Reg.HW_BOOT) (hr : a ≠ Reg.HW_ROLE)
    (hp : a ≠ Reg.PWR_STATUS) : (s.latch w cause).rd a = s.rd a := by
  rw [State.latch_eq, State.rd_setFld_ne _ hp, State.rd_setFld_ne _ hr, State.rd_setFld_ne _ hb, State.rd_boardFound]

/-- The straps latched for a push, over a state whose boot registers are at reset. -/
theorem State.latch_latched {s : State} {w : BootWorld} {cause : Nat} (hw : w.bootSrc.val = 1) (hc : cause < 4)
    (hboot : s.rd Reg.HW_BOOT = regReset Reg.HW_BOOT)
    (hlink : s.rd (Reg.LANE_PCIE_STAT 2 0) = regReset (Reg.LANE_PCIE_STAT 2 0)) (hl : s.power.lost = 0#64) :
    (s.latch w cause).Latched cause s.pending := by
  obtain ⟨hpower, hpending⟩ := s.boardFound_leaves w
  have hsrc : (s.latch w cause).rd Reg.HW_BOOT = setField (regReset Reg.HW_BOOT) 1 0 1 := by
    rw [State.latch_eq, State.rd_setFld_ne _ (by decide), State.rd_setFld_ne _ (by decide), State.rd_setFld, if_pos rfl,
      State.rd_boardFound, hboot, hw]
  exact {
    stage := (congrArg (field · 7 4) hsrc).trans (by decide +kernel)
    source := (congrArg (field · 1 0) hsrc).trans (by decide +kernel)
    cause := by
      rw [State.latch_eq]
      exact (State.fld_setFld _ _ _ (by decide) (by decide)).trans (Nat.mod_eq_of_lt hc)
    linkDown := (State.flag_of_rd (s.rd_latch w cause (by decide) (by decide) (by decide)) 0).trans
      ((congrArg (bit · 0) hlink).trans (by decide +kernel))
    porst := by rw [State.latch_eq]; rfl
    lost := by rw [State.latch_eq]; exact (congrArg Power.lost hpower).trans hl
    queue := by rw [State.latch_eq]; exact hpending }

/-- PORST_N released, its straps latched. -/
theorem State.latched_of_release (s : State) {w : BootWorld} (hw : w.bootSrc.val = 1) :
    (s.finishLine.afterReset.latch w 0).Latched 0 s.pending :=
  s.pending_finishLine ▸ State.latch_latched (s := s.finishLine.afterReset) hw (by decide) rfl rfl rfl

/-- An internal restart leaves no boot begun, and the endpoint's link down. -/
theorem State.rd_boot_afterRestart (s : State) :
    s.afterRestart.rd Reg.HW_BOOT = regReset Reg.HW_BOOT
      ∧ s.afterRestart.rd (Reg.LANE_PCIE_STAT 2 0) = regReset (Reg.LANE_PCIE_STAT 2 0) :=
  ⟨s.rd_afterRestart (by decide) (by decide) (by decide) (by decide),
    s.rd_afterRestart (by decide) (by decide) (by decide) (by decide)⟩

theorem State.afterRestart_leaves (s : State) :
    s.afterRestart.power = Power.reset ∧ s.afterRestart.pending = s.pending := by
  rw [s.afterRestart_eq]
  exact ⟨rfl, s.pending_finishLine⟩

theorem State.latched_of_restart (s : State) {w : BootWorld} (hw : w.bootSrc.val = 1) {cause : Nat} (hc : cause < 4) :
    (s.afterRestart.latch w cause).Latched cause s.pending := by
  obtain ⟨hboot, hlink⟩ := s.rd_boot_afterRestart
  obtain ⟨hpower, hpending⟩ := s.afterRestart_leaves
  exact hpending ▸ State.latch_latched hw hc hboot hlink (congrArg Power.lost hpower)

/-! ### Its starts (R77, R89, R401, R415) -/

/-- What the statement says of a ROM that waits for the endpoint's link. -/
def State.AwaitsLink (cause : Nat) (queue : List Instr) (u : State) : Prop :=
  u.stage = 0 ∧ u.board.pushing = true ∧ u.fld Reg.PWR_STATUS 9 8 = cause ∧ u.board.porst = true
    ∧ u.fld Reg.HW_BOOT 1 0 = 1 ∧ u.pending = queue

section
variable {w : BootWorld} (hs : w.stagingFail = none) (hb : w.bootSrc.val = 1) (hw : w.hwFails = none)
include hs hb hw

theorem State.Latched.awaitsLink {cause : Nat} {queue : List Instr} {s : State} (h : s.Latched cause queue) :
    (s.rom w).AwaitsLink cause queue := by
  obtain ⟨k, hpush⟩ := h.rom hw hs hb
  exact ⟨k.stage, hpush, k.cause, k.porst, k.source, k.queue⟩

theorem State.porstRelease_awaits {s : State} (hp : s.board.porst = false) :
    (s.porstRelease w).AwaitsLink 0 s.pending := by
  unfold State.porstRelease
  rw [hp]
  exact (s.latched_of_release hb).awaitsLink hs hb hw

theorem State.restartDevice_awaits (s : State) {cause : Nat} (hc : cause < 4) (fault : Option (List Byte)) :
    (s.restartDevice w cause fault).AwaitsLink cause s.pending := by
  have h := s.latched_of_restart hb hc
  cases fault with
  | none => exact h.awaitsLink hs hb hw
  | some body => exact (h.kept (BootKept.refl (d := 62) (by decide) _).updateRecord).awaitsLink hs hb hw

theorem State.holdupReturn_awaits {s : State} (hm : s.mode = 9) (hdown : s.power.down = true)
    (hb8 : s.flag Reg.RTL_BOARD 8 = false) : (s.holdupReturn w).AwaitsLink 3 s.pending := by
  unfold State.holdupReturn
  rw [if_pos ⟨hm, hdown, .inl hb8⟩]
  exact s.restartDevice_awaits hs hb hw (by decide) none

theorem State.brownout_awaits {s : State} (hlow : s.flag (Reg.PWR_RAIL 16) 28 = true) :
    (s.brownout 16 w).AwaitsLink 2 s.pending := by
  have k : BootKept 62 s (s.recordError .heartwood (ErrInfo.of 0x1E 2)) := (BootKept.refl (by decide) s).recordError
  have e : s.brownout 16 w = (s.recordError .heartwood (ErrInfo.of 0x1E 2)).restartDevice w 2
      (some ((s.recordError .heartwood (ErrInfo.of 0x1E 2)).faultBody 1 0x1E 0xFF 2 0)) := by
    simp [State.brownout, hlow]
  rw [e, ← k.pending]
  exact State.restartDevice_awaits hs hb hw _ (by decide) _

end

/-- The state of a restart during STRUCTURE, which keeps the straps that were latched and RESET_CAUSE (R89). -/
def State.relatched (s : State) : State :=
  let t := ((s.afterRestart.wr Reg.HW_BOOT (s.rd Reg.HW_BOOT)).setStage 0).setFld Reg.PWR_STATUS 9 8
    (s.fld Reg.PWR_STATUS 9 8)
  { t with board := { t.board with porst := true } }.setFld Reg.HW_ROLE 2 0 (s.fld Reg.HW_ROLE 2 0)

theorem State.latched_of_relatched {s : State} (hsrc : s.fld Reg.HW_BOOT 1 0 = 1) :
    s.relatched.Latched (s.fld Reg.PWR_STATUS 9 8) s.pending := by
  obtain ⟨-, hlink⟩ := s.rd_boot_afterRestart
  obtain ⟨hpower, hpending⟩ := s.afterRestart_leaves
  have hrd : ∀ a, a ≠ Reg.HW_ROLE → s.relatched.rd a = (((s.afterRestart.wr Reg.HW_BOOT (s.rd Reg.HW_BOOT)).setStage
      0).setFld Reg.PWR_STATUS 9 8 (s.fld Reg.PWR_STATUS 9 8)).rd a := fun a ha => State.rd_setFld_ne _ ha ..
  have hboot : s.relatched.rd Reg.HW_BOOT = setField (s.rd Reg.HW_BOOT) 7 4 0 := by
    rw [hrd _ (by decide), State.rd_setFld_ne _ (by decide), State.setStage, State.rd_setFld, if_pos rfl, State.rd_wr,
      if_pos rfl]
  exact {
    stage := (congrArg (field · 7 4) hboot).trans (field_setField _ _ (by decide) (by decide))
    source := (congrArg (field · 1 0) hboot).trans
      ((field_setField_ne _ _ (by decide) (by decide) (by decide)).trans hsrc)
    cause := (State.fld_of_rd (hrd _ (by decide)) 9 8).trans
      ((State.fld_setFld _ _ _ (by decide) (by decide)).trans (Nat.mod_eq_of_lt (field_lt ..)))
    linkDown := by
      refine (congrArg (bit · 0) ((hrd _ (by decide)).trans ?_)).trans
        (show bit (regReset (Reg.LANE_PCIE_STAT 2 0)) 0 = false by decide +kernel)
      rw [State.rd_setFld_ne _ (by decide), State.setStage, State.rd_setFld_ne _ (by decide), State.rd_wr,
        if_neg (by decide), hlink]
    porst := rfl
    lost := congrArg Power.lost hpower
    queue := hpending }

theorem State.holdupRise_awaits {s : State} {w : BootWorld} (hs : w.stagingFail = none) (hw : w.hwFails = none)
    (hm : s.mode = 2) (hdown : s.power.down = true) (hp : s.board.porst = true) (hsrc : s.fld Reg.HW_BOOT 1 0 = 1) :
    (s.holdupRise w).AwaitsLink (s.fld Reg.PWR_STATUS 9 8) s.pending := by
  unfold State.holdupRise
  rw [if_pos ⟨hm, hdown, hp⟩]
  exact (State.latched_of_relatched hsrc).awaitsLink (w := { w with bootSrc := Fin.ofNat 4 (s.fld Reg.HW_BOOT 1 0) })
    hs (by rw [hsrc]; rfl) hw

/-- PORST_N released where the Heartwood or the Canopy does not wake (R88). -/
theorem State.porstRelease_fails {s : State} {w : BootWorld} {canopy : Bool} (hw : w.hwFails = some canopy)
    (hp : s.board.porst = false) :
    (s.porstRelease w).stage = 15 ∧ (s.porstRelease w).fld Reg.HW_BOOT 15 8 = 8 ∧ (s.porstRelease w).mode = 10 := by
  have hpower : (s.finishLine.afterReset.latch w 0).power = Power.reset := by
    rw [State.latch_eq]; exact (State.boardFound_leaves _ w).1
  have hrd : ∀ {a}, a ≠ Reg.HW_BOOT → a ≠ Reg.HW_ROLE → a ≠ Reg.PWR_STATUS →
      (s.finishLine.afterReset.latch w 0).rd a = regReset a := fun hb hr hs => State.rd_latch _ w 0 hb hr hs
  have hmode := hrd (a := Reg.PWR_MODE) (by decide) (by decide) (by decide)
  unfold State.porstRelease
  rw [hp]
  refine State.rom_fails hw ((congrArg (field · 3 0) hmode).trans (by decide +kernel))
    ((congrArg (bit · 8) hmode).trans (by decide +kernel)) (congrArg Power.safeDue hpower)
    (congrArg Power.lost hpower) fun d hd => ?_
  rcases hd with rfl | rfl
  · exact (congrArg (field · 5 4) (hrd (by decide) (by decide) (by decide))).trans (by decide +kernel)
  · exact (congrArg (field · 5 4) (hrd (by decide) (by decide) (by decide))).trans (by decide +kernel)

/-! ### PORST_N low and the loss of supply (R76, R393, R520) -/

/-- From `s` to `t` the drives, the board, the Seedbank's keeper and the waiting commands are kept. -/
structure StoresOnly (s t : State) : Prop where
  drives : t.drives = s.drives
  board : t.board = s.board
  keeper : t.keeper = s.keeper
  pending : t.pending = s.pending

namespace StoresOnly

variable {s t u : State}

theorem refl (s : State) : StoresOnly s s := ⟨rfl, rfl, rfl, rfl⟩

theorem trans (h : StoresOnly s t) (k : StoresOnly t u) : StoresOnly s u :=
  ⟨k.drives.trans h.drives, k.board.trans h.board, k.keeper.trans h.keeper, k.pending.trans h.pending⟩

theorem foldl {α : Type} {f : State → α → State} {l : List α} (h : StoresOnly s t)
    (hf : ∀ u x, StoresOnly s u → StoresOnly s (f u x)) : StoresOnly s (l.foldl f t) := by
  induction l generalizing t with
  | nil => exact h
  | cons x l ih => exact ih (hf t x h)

theorem foldlFst {α β : Type} {f : State × β → α → State × β} {l : List α} {p : State × β} (h : StoresOnly s p.1)
    (hf : ∀ q x, StoresOnly s q.1 → StoresOnly s (f q x).1) : StoresOnly s (l.foldl f p).1 := by
  induction l generalizing p with
  | nil => exact h
  | cons x l ih => exact ih (hf p x h)

/-- The same of a fold that is named, so that no fold is computed where its steps compare large numbers. -/
theorem foldlEq {α β : Type} {f : State × β → α → State × β} {l : List α} {p q : State × β} (e : l.foldl f p = q)
    (h : StoresOnly s p.1) (hf : ∀ q x r, f q x = r → StoresOnly s q.1 → StoresOnly s r.1) : StoresOnly s q.1 :=
  e ▸ h.foldlFst fun q x k => hf q x _ rfl k

theorem ite {p : Prop} {_ : Decidable p} (ht : StoresOnly s t) (hu : StoresOnly s u) :
    StoresOnly s (if p then t else u) := by
  split
  · exact ht
  · exact hu

theorem setBytes {a : Nat} {bs : List Byte} (h : StoresOnly s t) : StoresOnly s (t.setBytes a bs) := by
  rw [t.setBytes_eq]
  exact h.trans ⟨rfl, rfl, rfl, rfl⟩

theorem freeBool (h : StoresOnly s t) : StoresOnly s t.freeBool.2 := h.trans ⟨rfl, rfl, rfl, rfl⟩

theorem putMedia {k : Nat} {bs : List Byte} (h : StoresOnly s t) : StoresOnly s (t.putMedia k bs) :=
  h.trans ⟨rfl, rfl, rfl, rfl⟩

theorem finishLine (h : StoresOnly s t) : StoresOnly s t.finishLine := by
  unfold State.finishLine
  split
  · exact h
  · exact h.setBytes

theorem tornWords {n : Nat} {old new : List Byte} (h : StoresOnly s t) :
    StoresOnly s (Machine.tornWords n t old new).1 := by
  induction n generalizing t old new with
  | zero => exact h
  | succ n ih => exact ih h.freeBool

theorem mediaWrite {c : JCfg} {pos : Nat} {fua : Bool} {data : List Byte} (h : StoresOnly s t) :
    StoresOnly s (t.mediaWrite c pos fua data) :=
  h.foldl fun _ _ hu => hu.trans ⟨rfl, rfl, rfl, rfl⟩

theorem landZeroes {c : JCfg} (h : StoresOnly s t) : StoresOnly s (t.landZeroes c) := by
  unfold State.landZeroes
  extract_lets lo b r
  generalize hr : r = q
  refine StoresOnly.foldlEq hr h fun q x r e hq => ?_
  split at e
  · exact e ▸ hq
  · extract_lets f at e
    have hf : StoresOnly s f.2 := by
      simp only [f]
      split
      · split
        · exact hq
        · exact hq.freeBool
      · exact hq.freeBool
    subst e
    exact .ite hf.putMedia hf

theorem landQueued (h : StoresOnly s t) : StoresOnly s t.landQueued :=
  h.foldl fun _ _ hu => hu.foldl fun v k hv => by
    split
    · exact hv.mediaWrite
    · exact hv.landZeroes
    · exact hv

theorem dropUnflushed (h : StoresOnly s t) : StoresOnly s t.dropUnflushed := by
  have hr := foldlFst (f := fun (acc : State × List Nat) (u : OldBlock) =>
    if acc.2.contains u.block then acc
    else
      let f := acc.1.freeBool
      if f.1 then (f.2, u.block :: acc.2) else (f.2.putMedia u.first u.bytes, acc.2)) (l := t.landQueued.unflushed)
    (p := (t.landQueued, [])) h.landQueued fun q x hq => by
      split
      · exact hq
      · dsimp only
        split
        · exact hq.freeBool
        · exact hq.freeBool.putMedia
  exact hr.trans ⟨rfl, rfl, rfl, rfl⟩

end StoresOnly

/-- What the statement says of `t` after a reset of `s`. -/
def State.ClearedOf (s t : State) : Prop :=
  (∀ c, t.glade c = Glade.reset) ∧ (∀ a, a < seedbankBase ∨ seedbankBase + 4096 ≤ a → t.byteAt a = 0#8)
    ∧ t.drives = s.drives ∧ t.board.flash = s.board.flash ∧ t.board.keyWords = s.board.keyWords
    ∧ t.board.keyRevoked = s.board.keyRevoked ∧ t.pending = s.pending ∧ t.sections = []
    ∧ t.keeper = { Keeper.reset with splits := s.keeper.splits }

theorem State.afterReset_cleared {s t : State} (h : StoresOnly s t) : s.ClearedOf t.afterReset :=
  ⟨fun _ => rfl, fun a ha => (t.byteAt_afterReset a).trans (if_neg (by omega)), h.drives,
    congrArg (·.flash) h.board, congrArg (·.keyWords) h.board, congrArg (·.keyRevoked) h.board, h.pending, rfl,
    congrArg (fun k : Keeper => { Keeper.reset with splits := k.splits }) h.keeper⟩

theorem State.porstAssert_shows (s : State) : s.ClearedOf s.porstAssert ∧ (∀ a, s.porstAssert.rd a = regReset a)
    ∧ s.porstAssert.media = s.media ∧ (s.keeper.port = none →
      ∀ a, seedbankBase ≤ a → a < seedbankBase + 4096 → s.porstAssert.byteAt a = s.byteAt a) := by
  refine ⟨State.afterReset_cleared (StoresOnly.refl s).finishLine, fun _ => rfl, ?_, fun hport a hlo hhi => ?_⟩
  · unfold State.porstAssert
    rw [s.finishLine_eq]
    rfl
  · have hline : s.finishLine = s := by unfold State.finishLine; rw [hport]
    exact (s.finishLine.byteAt_afterReset a).trans ((if_pos ⟨hlo, hhi⟩).trans (by rw [hline]))

theorem State.lossOfSupply_shows (s : State) : s.ClearedOf s.lossOfSupply ∧ s.lossOfSupply.mode = 1
    ∧ (∀ a, a ≠ Reg.PWR_MODE → s.lossOfSupply.rd a = regReset a) ∧ s.lossOfSupply.unflushed = [] := by
  unfold State.lossOfSupply
  extract_lets u r v
  have hu : StoresOnly s u := by
    unfold u
    split
    · exact .refl s
    · exact (StoresOnly.refl s).tornWords.setBytes
  exact ⟨State.afterReset_cleared hu.dropUnflushed, State.fld_setFld _ _ _ (by decide) (by decide),
    fun a ha => State.rd_setFld_ne _ ha .., rfl⟩

/-- Settles O35: a reset by what `State.afterReset` keeps; each start of the ROM by `State.Latched`, which holds where
the ROM begins and is kept by every domain that it wakes. -/
theorem resetsAndRom : Obligations.ResetsAndRom := by
  refine ⟨fun s => ⟨⟨_, rfl, s.porstAssert_shows⟩, ⟨_, rfl, s.lossOfSupply_shows⟩⟩, fun s w hs hb =>
    ⟨fun hw => ⟨fun hp => ⟨_, rfl, State.porstRelease_awaits hs hb hw hp⟩,
      fun hm hd hr => ⟨_, rfl, State.holdupReturn_awaits hs hb hw hm hd hr⟩,
      fun hlow => ⟨_, rfl, State.brownout_awaits hs hb hw hlow⟩,
      fun hm hd hp hsrc => ⟨_, rfl, State.holdupRise_awaits hs hw hm hd hp hsrc⟩⟩,
      fun canopy hw hp => ⟨_, rfl, State.porstRelease_fails hw hp⟩⟩⟩

end Sys2Proof.Machine
end


section
/-! SUPPORT. The lock of the negotiation (R90, R91) and what begins at it: the lanes and ports that may train, and the
end of recovery (R373). -/

namespace Sys2Proof.Machine

/-! ### Journals -/

theorem ofBytesLE_lt (bs : List Byte) : ofBytesLE bs < 256 ^ bs.length := by
  induction bs with
  | nil => exact Nat.one_pos
  | cons b bs ih =>
    have hb : b.toNat < 256 := b.isLt
    rw [ofBytesLE, List.length_cons, Nat.pow_succ]
    omega

theorem State.secLE_lt (s : State) (ty off n : Nat) : s.secLE ty off n < 256 ^ n :=
  (ofBytesLE_lt _).trans_le (Nat.pow_le_pow_right (by decide) (List.length_take_le _ _))

/-- A journal's number has 16 bits (R328). -/
theorem State.lt_of_mem_persistentJournals {s : State} {p : Nat × JCfg} (h : p ∈ s.persistentJournals) :
    p.1 < 65536 := by
  obtain ⟨i, -, hi⟩ := List.mem_filterMap.1 h
  dsimp only at hi
  split at hi
  · split_ifs at hi
    cases hi
    exact s.secLE_lt 0x31 (8 + 32 * i) 2
  · cases hi

/-- The journals that hold a commit of which some record is missing are persistent ones. -/
theorem State.lt_of_mem_missing {s : State} {m : Nat × Nat × List Nat} (h : m ∈ s.missing) {j : Nat} (hj : j ∈ m.2.2) :
    j < 65536 := by
  obtain ⟨k, -, hk⟩ := List.mem_filterMap.1 h
  dsimp only at hk
  split_ifs at hk
  cases hk
  obtain ⟨r, hr, rfl⟩ := List.mem_map.1 (List.mem_eraseDups.1 hj)
  obtain ⟨p, hp, hpr⟩ := List.mem_flatMap.1 (List.mem_filter.1 hr).1
  obtain ⟨x, -, rfl⟩ := List.mem_map.1 hpr
  exact State.lt_of_mem_persistentJournals (List.mem_filter.1 hp).1

namespace BootKept

variable {d : Nat} {s t : State}

theorem setJstate {j st err : Nat} (h : BootKept d s t) (hj : j < 65536) : BootKept d s (t.setJstate j st err) := by
  have ha : besideBoot (Reg.JW_JSTATE j) := besideBoot_of_block (by simp only [Reg.JW_JSTATE]; omega)
  exact (h.setFld ha).setFld ha

theorem finishRecovery (h : BootKept d s t) : BootKept d s t.finishRecovery := by
  unfold State.finishRecovery
  extract_lets s₁ s₂ _ _ _ _ s₃ _ _ _ _ _ s₄ s₅
  have h₂ : BootKept d s s₂ := h.resolveReported.resolveReported
  have h₃ : BootKept d s s₃ := h₂.foldl fun u m hm hu =>
    (hu.foldl fun v j hj hv => hv.setJstate (State.lt_of_mem_missing hm hj)).recordError
  have h₄ : BootKept d s s₄ := h₃.keeper
  have h₅ : BootKept d s s₅ := h₄.wr (besideBoot_of_block (by decide))
  exact .ite h h₅.updateRecord

end BootKept

/-! ### The lock -/

/-- What begins at the lock leaves the boot's registers. -/
theorem BootKept.afterLock {s t : State} (h : BootKept 62 s t) :
    BootKept 62 s ((List.range 20).foldl (fun s k =>
      let d := 40 + k
      if !s.wantOn d (s.mode == 4) then s
      else if s.domState d = 1 then (if d < 52 then s.octetUp k else s)
      else s.wakeDomain d) t).finishRecovery := by
  refine finishRecovery (h.foldl fun u k hk hu => ?_)
  have hk := List.mem_range.1 hk
  dsimp only
  refine .ite hu (.ite ?_ (hu.wakeDomain (by omega) (by omega)))
  split
  · exact hu.octetUp (by omega)
  · exact hu

/-- The lock sets LOCK and BY where LOCK was clear; the first of two locks holds (R90, log 116). -/
theorem State.lockNeg_shows (s : State) {party : Nat} (hp : party < 4) : (s.lockNeg party).flag Reg.NEG_LOCK 0 = true
    ∧ (s.lockNeg party).fld Reg.NEG_LOCK 2 1 = if s.flag Reg.NEG_LOCK 0 then s.fld Reg.NEG_LOCK 2 1 else party := by
  unfold State.lockNeg
  by_cases hlock : s.flag Reg.NEG_LOCK 0 = true
  · rw [if_pos hlock, if_pos hlock]
    exact ⟨hlock, rfl⟩
  · rw [if_neg hlock, if_neg hlock]
    have hk := (BootKept.refl (by decide) ((s.setFld Reg.NEG_LOCK 2 1 party).setFlag Reg.NEG_LOCK 0 true)).afterLock
    have hrd := hk.rd Reg.NEG_LOCK (.inr (.inr (.inr (.inr (.inl rfl)))))
    refine ⟨(State.flag_of_rd hrd 0).trans (State.flag_setFlag _ _ _ (by decide)), (State.fld_of_rd hrd 2 1).trans ?_⟩
    exact (State.fld_setFld_ne _ _ _ (by decide) (by decide) (by decide)).trans
      ((State.fld_setFld _ _ _ (by decide) (by decide)).trans (Nat.mod_eq_of_lt hp))

/-- The host locks through an enabled endpoint whose link is up (R91). -/
theorem State.negLockWrite_host {s : State} (hs : s.stage = 6) (he : s.pcieByte 2 0 = 1)
    (hl : s.flag (Reg.LANE_PCIE_STAT 2 0) 0 = true) : s.negLockWrite true = s.lockNeg 0 := by
  unfold State.negLockWrite
  rw [if_neg (not_not.2 hs), if_neg (by decide), if_pos ⟨he, hl⟩]

/-- The firmware locks in RUN (R91). -/
theorem State.negLockWrite_firmware {s : State} (hs : s.stage = 6) : s.negLockWrite false = s.lockNeg 2 := by
  unfold State.negLockWrite
  rw [if_neg (not_not.2 hs), if_pos (by decide)]

/-- The firmware locks after 10 s where the endpoint is enabled (R91). -/
theorem State.negTimeout_run {s : State} (hs : s.stage = 6) (he : s.pcieByte 2 0 = 1) : s.negTimeout = s.lockNeg 3 :=
  if_pos ⟨hs, he⟩

/-! ### The start of a Glade (R95) -/

/-- A Glade as it starts at time `now`: at IMEM 0 in the thread bank. -/
def Glade.start (x : Glade) (now : Nat) : Glade := { x with
  run := .running
  pc := 0#64
  inHandler := false
  masked := false
  evec := 0#64
  score := 0#64
  started := true
  cntIssued := 0#64
  cntFetched := 0#64
  cntWaited := 0#64
  cntMispredict := 0#64
  cntBusy := 0#64
  wdogSince := now
  wdogFirst := false
  signature := freshSignature }

theorem State.pairBegins_of_single {s : State} {i : Nat} (h : s.pairOf i = none) : s.pairBegins i = s := by
  rw [State.pairBegins, h]

/-- A Glade without a partner starts alone. -/
theorem State.gladeStart_of_single {s : State} {i : Nat} (hmay : (s.receivers i).all s.mayStart = true)
    (hpair : s.pairOf i = none) : s.gladeStart i = s.updGlade i (fun x => x.start s.now) := by
  have hr : s.receivers i = [i] := by rw [State.receivers, hpair]
  unfold State.gladeStart
  rw [hmay, hr]
  exact State.pairBegins_of_single (s := s.updGlade i (fun x => x.start s.now)) hpair

theorem State.gladeStart_shows {s : State} {i : Nat} (hmay : (s.receivers i).all s.mayStart = true)
    (hpair : s.pairOf i = none) : (s.gladeStart i).glade i = (s.glade i).start s.now
      ∧ ∀ d, d ≠ i → (s.gladeStart i).glade d = s.glade d := by
  rw [State.gladeStart_of_single hmay hpair]
  exact ⟨(s.glade_updGlade i i _).trans (if_pos rfl), fun d hd => (s.glade_updGlade i d _).trans (if_neg hd)⟩

/-- Settles O37: every lock is `State.lockNeg`, and a start of a Glade without a partner changes it alone. -/
theorem lockAndStart : Obligations.LockAndStart := by
  refine ⟨fun s hs => ⟨fun he hl => ⟨_, rfl, ?_⟩, ⟨_, rfl, ?_⟩, fun he => ⟨_, rfl, ?_⟩⟩,
    fun s c hmay hpair => ⟨_, rfl, ?_⟩⟩
  · rw [State.negLockWrite_host hs he hl]
    exact s.lockNeg_shows (by decide)
  · rw [State.negLockWrite_firmware hs]
    exact s.lockNeg_shows (by decide)
  · rw [State.negTimeout_run hs he]
    exact s.lockNeg_shows (by decide)
  · obtain ⟨hstart, hothers⟩ := State.gladeStart_shows hmay hpair
    dsimp only
    rw [hstart]
    exact ⟨rfl, rfl, rfl, rfl, rfl, rfl, rfl, rfl, rfl, rfl, hothers⟩

end Sys2Proof.Machine
end
